-- ==== Sys2Proof/Word.lean ====
section
/-!
DEFINITION. The plainest types of the model: bytes, the unit of time, and the units of level.
-/

namespace Sys2Proof

/-- A byte of a command packet, a host buffer or a store record (R530: multi-byte fields are little-endian). -/
abbrev Byte := BitVec 8

/-- Time and time differences, in periods of the window clock of R55 (1,966.08 MHz).
One sample tick of R12 is 16 of them, one control tick of R13 is 2,048, and one unit of 1/65,536 s of R600 is 30,000. -/
abbrev Time := Nat

/-- A level or gain in 0.01 dB (R10, R344). -/
abbrev CentiDb := Int

/-- A dB word of R306: 32-bit two's complement with 24 fraction bits, held as the integer code. -/
abbrev DbWord := Int

/-- Periods of the window clock in one sample tick (R55). -/
def perTick : Nat := 16
/-- Periods of the window clock in one control tick (R13, R56: 128 sample ticks). -/
def perControl : Nat := 2048
/-- Periods of the window clock in one second (R55). -/
def perSecond : Nat := 1966080000
/-- Periods of the window clock in one millisecond. -/
def perMs : Nat := 1966080
/-- Periods of the window clock in 1/65,536 s (R600). -/
def perSubsec : Nat := 30000

end Sys2Proof
end

