-- ==== Sys2Proof/Config.lean ====
section
/-!
DEFINITION. What the spec leaves to an implementation or leaves unstated: opaque constants, no value of which
can be evaluated or proved. A value drawn afresh is `Config.free` applied to the state's plain counter of draws.
-/

namespace Sys2Proof

/-- FREE VALUE. A fresh value the spec leaves open, applied to the counter of draws that State holds (log entry 4). -/
opaque Config.free : Nat → Nat

/-- FREE VALUE. The number that an implementation holds for a real number of the spec, of which only bounds are known
(log entry 96). -/
opaque Config.within : Rat → Rat → Rat
/-- FREE VALUE. 10 × log10 of a ratio as a dB word: R302 gives ±0.01 dB and no rounding (log entry 5). -/
opaque Config.dbWord : Rat → DbWord
/-- FREE VALUE. Which stage of the register of R338 is its output, and whether a 1 there is +AMP: the spec names the
polynomials and neither of these (log entry 22). Argument: ORDER. -/
opaque Config.chipStage : Nat → Nat
opaque Config.chipUp : Nat → Bool

/-- FREE VALUE. Whether a quantity whose rounding is unstated goes up (log entry 7). -/
opaque Config.roundsUp : Int → Nat → Bool

/-- IMPLEMENTATION. The voltage, in nV, that the housekeeping DAC gives for a code (R444), within what the code leaves open. -/
opaque Config.loopVoltage : Nat → Nat

/-- IMPLEMENTATION. The die identifier of R561. -/
opaque Config.dieId : BitVec 64
/-- IMPLEMENTATION. The firmware version that an image's contents carry (R561, R677), as four bytes with the major first. -/
opaque Config.imageVersion : List (BitVec 8) → BitVec 32
/-- IMPLEMENTATION. Whether a firmware buffer passes its SHA-384 digest (R677). -/
opaque Config.digestOk : List Byte → Bool
/-- IMPLEMENTATION. Whether a firmware buffer carries a valid Corzal signature (R677, R678). -/
opaque Config.signatureOk : List Byte → Bool

/-! The sample path: what the rules give only to an accuracy (log entry 88). -/

/-- INPUT. The code of the RF-ADC of an RX chain at a converter sample, counted from the divider start: the signal at the
ball. -/
opaque Config.ball : Nat → Nat → Int
/-- IMPLEMENTATION. The response of the front decimator, of which R130 gives the ripple and the suppression of images, of
the interpolation by 12, and of the sinc compensation, of which R135 gives the shape: taps and how many samples they see. -/
opaque Config.frontTaps : Nat
opaque Config.frontTap : Nat → Rat
opaque Config.upWords : Nat
opaque Config.upTap : Nat → Rat
opaque Config.sincTaps : Nat
opaque Config.sincTap : Nat → Rat
/-- IMPLEMENTATION. The delay, in window samples, of the converter and the front decimator, a part of t_fix (R174, R371; log
entry 97). -/
opaque Config.frontDelay : Nat
/-- IMPLEMENTATION. The shifts after the TX FIR and the TX CIC, which the device sets (R168). Arguments: Dc and Df. -/
opaque Config.txShift : Nat → Nat → Nat × Nat
/-- IMPLEMENTATION. The seeds of the two probe registers of a sub-band (R275). -/
opaque Config.probeSeed : Nat → Nat × Nat
/-- IMPLEMENTATION. The probe sequence after the filter to the TX passband (R275), at unit power. Arguments: BW, D, and the
two registers. -/
opaque Config.probeShape : Nat → Nat → Nat → Nat → Rat × Rat
/-- IMPLEMENTATION. Whether a lost canceller lane carries a tap of the head (R241). Arguments: lane and tap. -/
opaque Config.laneCarries : Nat → Nat → Bool
/-- IMPLEMENTATION. The constant delta of R242. -/
opaque Config.delta : Nat → Rat

/-- IMPLEMENTATION. The estimate of the power of a signal's component that is correlated with the references, from the
transforms of its blocks and of theirs, and the 95 % confidence floor of that estimate (R254, R263, R266): the rules name
the cross-spectra and no estimator. Arguments: per block, the sources' transforms and the signal's. -/
opaque Config.correlatedPower : List (List (List (Rat × Rat)) × List (Rat × Rat)) → Rat
opaque Config.confidenceFloor : List (List (List (Rat × Rat)) × List (Rat × Rat)) → Rat

end Sys2Proof
end

