-- ==== Sys2Proof/Machine/Bits.lean ====
section
/-!
DEFINITION. Rounding, saturation, bit fields and byte order, as the rules of the spec use them.
-/

namespace Sys2Proof

/-- A whole number of microseconds, rounded up (R702: a reported time is never shorter than the time it stands for). -/
def microsUp (t : Time) : Nat := (t * 100 + 196607) / 196608

/-- A number of microseconds as a number of window-clock periods, rounded up. -/
def ofMicros (us : Nat) : Time := (us * 196608 + 99) / 100

/-- A saturating count (for example R140: saturating at 0xFFFF). -/
def satUp (limit n : Nat) : Nat := if n < limit then n + 1 else limit

/-- The quotient rounded up. -/
def ceilDiv (a b : Nat) : Nat := if b = 0 then 0 else (a + (b - 1)) / b

/-- The low `n` bits of an integer, as two's complement (fields of an object, R16). -/
def bitsOf (n : Nat) (v : Int) : Nat := (v % (2 ^ n : Nat)).toNat

/-- A field of `n` bits read as two's complement. -/
def signedOf (n : Nat) (v : Nat) : Int := if v < 2 ^ (n - 1) then (v : Int) else (v : Int) - (2 ^ n : Nat)

/-- An arithmetic right shift rounded to nearest with ties away from zero (R156, R307). -/
def roundShift (v : Int) (sh : Nat) : Int :=
  if sh = 0 then v
  else if 0 ≤ v then (v + (2 ^ (sh - 1) : Nat)) / (2 ^ sh : Nat)
  else -((-v + (2 ^ (sh - 1) : Nat)) / (2 ^ sh : Nat))

/-- A quotient rounded to nearest; a tie, which the rules leave open, goes as the free choice `up` says [7]. -/
def roundQ (num den : Int) (up : Bool) : Int :=
  let q := num / den
  let r := num % den
  if 2 * r < den then q else if den < 2 * r then q + 1 else if up then q + 1 else q

/-- The value limited to a range. -/
def clampInt (lo hi v : Int) : Int := max lo (min v hi)

/-- Saturation to ±(2^23 − 1), symmetrically (R156). -/
def sat24 (v : Int) : Int := clampInt (-8388607) 8388607 v

/-- Saturation to the dB-word range, −2^31 to 2^31 − 1 (R307). -/
def satDb (v : Int) : DbWord := clampInt (-2147483648) 2147483647 v

/-- Bit `k` of a number. -/
def bit (v k : Nat) : Bool := v / 2 ^ k % 2 == 1

/-- A Boolean as a bit of an object's value. -/
def ofBool (b : Bool) : Nat := if b then 1 else 0

/-- Byte `k` of a list of bytes; a byte beyond its end reads 0. -/
def byteAt (bs : List Byte) (k : Nat) : Nat := (bs.getD k 0).toNat

/-- The little-endian number in `n` bytes from offset `off` (R530). -/
def leAt (bs : List Byte) (off : Nat) : Nat → Nat
  | 0 => 0
  | n + 1 => byteAt bs off + 256 * leAt bs (off + 1) n

/-- The same field read as two's complement. -/
def leSigned (bs : List Byte) (off n : Nat) : Int := signedOf (8 * n) (leAt bs off n)

/-- A number as `n` little-endian bytes. -/
def leBytes : Nat → Nat → List Byte
  | 0, _ => []
  | n + 1, v => BitVec.ofNat 8 v :: leBytes n (v / 256)

/-- Fields packed from the most significant down, as the tables of R16 list them: (width, value) pairs. -/
def packFields : List (Nat × Nat) → Nat
  | [] => 0
  | (w, v) :: rest => (v % 2 ^ w) * 2 ^ (rest.map Prod.fst).sum + packFields rest

/-- One bit of the CRC-32C register (reflected polynomial 0x82F63B78). -/
def crcBit (c : Nat) : Nat := if c % 2 = 1 then Nat.xor (c / 2) 0x82F63B78 else c / 2

/-- One byte of the CRC-32C. -/
def crcByte (c : Nat) (b : Byte) : Nat :=
  crcBit (crcBit (crcBit (crcBit (crcBit (crcBit (crcBit (crcBit (Nat.xor c b.toNat))))))))

/-- CRC-32C of a list of bytes: initial value and final inversion all ones (the CRC the spec names in its scope). -/
def crc32c (bs : List Byte) : Nat := Nat.xor (bs.foldl crcByte 0xFFFFFFFF) 0xFFFFFFFF

/-- The largest divisor of `d` that does not exceed `m`. -/
def largestDivisor (d : Nat) : Nat → Nat
  | 0 => 1
  | m + 1 => if d % (m + 1) = 0 then m + 1 else largestDivisor d m

/-- The smallest `n` with 2^n ≥ v, found within `fuel`. -/
def log2Up (v : Nat) : Nat → Nat → Nat
  | 0, n => n
  | fuel + 1, n => if v ≤ 2 ^ n then n else log2Up v fuel (n + 1)

end Sys2Proof
end

