-- ==== Sys2Proof/Machine/Exact.lean ====
section
/-!
DEFINITION. The real numbers of the rules (sines, powers of ten, logarithms, square roots) as rational numbers. Each is a
free value of `Config.within` inside an interval that holds the number, no wider than its bound says [96].
-/

namespace Sys2Proof.Machine

/-- A number that an implementation holds for one of the spec, anywhere between two bounds. -/
def between (lo hi : Rat) : Rat := max lo (min hi (Config.within lo hi))
/-- A number within a distance of a rational one. -/
def near (v err : Rat) : Rat := between (v - err) (v + err)
/-- The whole number below or above a number, which way the rules leave open; a whole number is itself. -/
def eitherWay (v : Rat) : Int := v.floor + (if v = v.floor ∨ Config.roundsUp v.num v.den = false then 0 else 1)

/-- The largest number with `bits` more bits for which a property holds that ends to hold from some number on. -/
def largest (p : Nat → Bool) : Nat → Nat → Nat
  | 0, acc => acc
  | b + 1, acc => largest p b (if p (acc + 2 ^ b) then acc + 2 ^ b else acc)

/-! Sines and cosines. -/

/-- π to 40 decimal places. -/
def pi40 : Rat := 31415926535897932384626433832795028841972 / 10000000000000000000000000000000000000000
/-- x − x³/3! + x⁵/5! − … by Horner's rule, from term `k` down: for 0 ≤ x ≤ π/2 thirty terms leave less than 2^-100. -/
def sineTerms (x : Rat) : Nat → Rat → Rat
  | 0, acc => x * acc
  | k + 1, acc => sineTerms x k (1 - x * x / (((2 * k + 2) * (2 * k + 3) : Nat) : Rat) * acc)
/-- sin(2πq) for a number of turns from 0 to 1/4, to within 2^-100. -/
def sineQuarter (q : Rat) : Rat := sineTerms (2 * pi40 * q) 30 1
/-- sin(2πq) for any number of turns, to within 2^-100. -/
def sineOf (q : Rat) : Rat :=
  let f := q - q.floor
  if f ≤ 1 / 4 then sineQuarter f
  else if f ≤ 1 / 2 then sineQuarter (1 / 2 - f)
  else if f ≤ 3 / 4 then -sineQuarter (f - 1 / 2)
  else -sineQuarter (1 - f)
/-- cos(2πq) for any number of turns, to within 2^-100. -/
def cosineOf (q : Rat) : Rat := sineOf (q + 1 / 4)
/-- The whole number nearest to a number; a tie is a free choice [7]. -/
def nearest (q : Rat) : Int := roundQ q.num q.den (Config.roundsUp q.num q.den)
/-- The 18-bit sine code of a 20-bit phase, in units of 2^-17. R148 gives no rounding, but 108 dB of suppression: the
nearest word keeps it, where a word always below the sine would not [88]. -/
def sineCode (phase : Nat) : Int := clampInt (-131072) 131071 (nearest (131072 * sineOf ((phase : Rat) / 1048576)))
/-- The 18-bit cosine code of a 20-bit phase (R148). -/
def cosineCode (phase : Nat) : Int := clampInt (-131072) 131071 (nearest (131072 * cosineOf ((phase : Rat) / 1048576)))
/-- exp(2πi k/n), each part to within 2^-80 (R228, R242). -/
def unitRoot (n : Nat) (k : Int) : Rat × Rat :=
  let q : Rat := (k : Rat) / (n : Rat)
  (near (cosineOf q) (1 / 2 ^ 80), near (sineOf q) (1 / 2 ^ 80))
/-- (1 − cos(π(i + 1)/n))/2 of R219, to within 2^-80; 1 at the last output. -/
def raised (i n : Nat) : Rat :=
  if n ≤ i + 1 then 1 else near ((1 - cosineOf (((i + 1 : Nat) : Rat) / ((2 * n : Nat) : Rat))) / 2) (1 / 2 ^ 80)

/-! The responses of R130, R131 and R135. An implementation's taps count where they meet the rule at every whole MHz of its
range; where they do not, a filter that does meet it stands in for them [88]. -/

/-- |H|² of taps at a frequency in MHz, for the converter rate of R98. -/
def powerAt (h : List Rat) (mhz : Nat) : Rat :=
  let z := (h.zipIdx.map (fun e =>
    let q : Rat := ((mhz * e.2 * 100 : Nat) : Rat) / 2359296
    ((e.1 * cosineOf q, e.1 * sineOf q) : Rat × Rat))).sum
  z.1 * z.1 + z.2 * z.2
/-- A power ratio lies within a number of hundredths of a dB of 1. -/
def withinCenti (p : Rat) (k : Nat) : Bool := decide (1 ≤ p ^ 1000 * 10 ^ k) && decide (p ^ 1000 ≤ 10 ^ k)
/-- The taps keep the usable band within ±0.05 dB of the gain of R131, and what aliases into it from each image of the
window rate 85 dB below (R130). Images lie at whole multiples of 1,966.08 MHz, and each usable band about one reaches 800 MHz to
either side: whole MHz from the one below to the one above cover it. -/
def frontMeets (h : List Rat) : Bool :=
  (List.range 801).all (fun f => withinCenti (powerAt h f) 5) &&
    (List.range 6).all (fun k => (List.range 1602).all (fun (i : Nat) => decide (powerAt h ((k + 1) * 196608 / 100 + i - 800) ^ 2 * 10 ^ 17 ≤ 1)))
/-- A windowed sinc at 1/24 of the converter rate, of 640 taps, which meets them. -/
def frontExample : List Rat :=
  (List.range 640).map (fun (i : Nat) =>
    let t : Rat := (i : Rat) - 639 / 2
    let odd : Nat := 2 * i + 1
    let q : Rat := (odd : Rat) / 1280
    (35875 - 48829 * cosineOf q + 14128 * cosineOf (2 * q) - 1168 * cosineOf (3 * q)) / 100000 * sineOf (t / 24) / (pi40 * t))
/-- The front decimator's taps. -/
def frontFilter : List Rat :=
  let h := (List.range Config.frontTaps).map Config.frontTap
  if frontMeets h then h else frontExample
/-- The zero-order hold's power at a frequency in MHz. -/
def holdPower (mhz : Nat) : Rat :=
  let x : Rat := ((mhz * 100 : Nat) : Rat) / 2359296
  let v := sineOf (x / 2) / (pi40 * x)
  v * v
/-- The taps have 0 dB at 0 Hz and +1.34 dB at 7,125 MHz, and cancel the zero-order hold to within ±0.1 dB from 380 MHz to
7,125 MHz (R135). -/
def sincMeets (h : List Rat) : Bool :=
  decide (h.sum = 1) && decide (10 ^ 267 ≤ powerAt h 7125 ^ 2000) && decide (powerAt h 7125 ^ 2000 ≤ 10 ^ 269) &&
    (List.range 6746).all (fun i => withinCenti (powerAt h (380 + i) * holdPower (380 + i)) 10)
/-- Five taps that meet it. -/
def sincExample : List Rat := [13 / 1250, -193 / 2500, 2836 / 2500 - 13 / 625 + 50 / 2500, -193 / 2500, 13 / 1250]
/-- The sinc compensation's taps. -/
def sincFilter : List Rat :=
  let h := (List.range Config.sincTaps).map Config.sincTap
  if sincMeets h then h else sincExample

/-! Magnitudes, powers of ten and logarithms. -/

/-- The magnitude of a complex number of whole parts, from its square root to 2^-32 (R159, R282). -/
def magnitude (re im : Int) : Rat :=
  let n := (re * re + im * im).toNat
  let k := largest (fun k => decide (k * k ≤ n * 2 ^ 64)) 96 0
  if k * k = n * 2 ^ 64 then (k : Rat) / 2 ^ 32 else between ((k : Rat) / 2 ^ 32) (((k + 1 : Nat) : Rat) / 2 ^ 32)

/-- The natural logarithm of 10, and e, to 40 decimal places. -/
def ln10 : Rat := 23025850929940456840179914546843642076011 / 10000000000000000000000000000000000000000
def euler : Rat := 27182818284590452353602874713526624977572 / 10000000000000000000000000000000000000000
/-- 1 + x + x²/2! + … by Horner's rule: for 0 ≤ x < 1 forty terms leave less than 2^-100. -/
def expTerms (x : Rat) : Nat → Rat → Rat
  | 0, acc => acc
  | k + 1, acc => expTerms x k (1 + x / ((k + 1 : Nat) : Rat) * acc)
/-- 10^x, to within 2^-80 of itself. -/
def pow10 (x : Rat) : Rat :=
  if x = 0 then 1
  else
    let t := x * ln10
    let v := euler ^ t.floor * expTerms (t - t.floor) 40 1
    near v (v / 2 ^ 80)
/-- The amplitude of a level in 0.01 dB: 10^(x/2000). -/
def amplitude (x : Rat) : Rat := pow10 (x / 2000)
/-- The power ratio of a level in 0.01 dB: 10^(x/1000). -/
def linear (x : Rat) : Rat := pow10 (x / 1000)

/-- A ratio of powers is at least a number of dB, exactly. -/
def atLeastDb (num den : Rat) (db : Nat) : Bool := decide (den ^ 10 * 10 ^ db ≤ num ^ 10)
/-- A ratio of powers is more than a number of dB, exactly. -/
def moreThanDb (num den : Rat) (db : Nat) : Bool := decide (den ^ 10 * 10 ^ db < num ^ 10)
/-- A ratio of powers is at least a negative number of dB, exactly. -/
def atLeastMinusDb (num den : Rat) (db : Nat) : Bool := decide (den ^ 10 ≤ num ^ 10 * 10 ^ db)
/-- The whole part of 10 × log10 of a positive ratio in 0.001 dB, exactly; levels beyond ±131 dB read as those. -/
def milliDb (q : Rat) : Int :=
  ((largest (fun k => decide ((10 : Rat) ^ k ≤ q ^ 10000 * 10 ^ 131072)) 18 0 : Nat) : Int) - 131072
/-- 10 × log10 of a ratio as a dB word, within ±0.01 dB (R302). -/
def dbOf (q : Rat) : DbWord :=
  let m := milliDb q
  clampInt ((m - 10) * 16777216 / 1000) ((m + 11) * 16777216 / 1000) (Config.dbWord q)
/-- 100 × 10 × log10 of a ratio, the whole number below or above: its rounding is unstated [5]. -/
def centiDbOf (q : Rat) : CentiDb :=
  let m := milliDb q
  let whole := m % 10 = 0 ∧ (10 : Rat) ^ (m + 131072).toNat = q ^ 10000 * 10 ^ 131072
  m / 10 + (if whole ∨ Config.roundsUp q.num q.den = false then 0 else 1)

end Sys2Proof.Machine
end

