-- ==== Sys2Proof/Machine/Table.lean ====
section
/-!
DEFINITION. A table of like things by index, and the contents of an addressed memory: a list of index and value
pairs with strictly rising indices, in which no entry equals what an unlisted index reads as.
-/

namespace Sys2Proof

/-- A sparse table: only the entries that differ from the default are listed, in rising order of index. -/
abbrev Table (α : Type) := List (Nat × α)

/-- The entry at an index; an unlisted index reads as the default `d`. -/
def Table.get {α : Type} (d : α) : Table α → Nat → α
  | [], _ => d
  | (j, v) :: rest, i => if j = i then v else Table.get d rest i

/-- The table without the entries of an index. -/
def Table.erase {α : Type} : Table α → Nat → Table α
  | [], _ => []
  | (j, v) :: rest, i => if j = i then Table.erase rest i else (j, v) :: Table.erase rest i

/-- Insertion before the first larger index. -/
def Table.insert {α : Type} : Table α → Nat → α → Table α
  | [], i, v => [(i, v)]
  | (j, w) :: rest, i, v => if i < j then (i, v) :: (j, w) :: rest else (j, w) :: Table.insert rest i v

/-- The table with a new value at an index: writing the default removes the entry. -/
def Table.set {α : Type} [DecidableEq α] (d : α) (t : Table α) (i : Nat) (v : α) : Table α :=
  if v = d then Table.erase t i else Table.insert (Table.erase t i) i v

/-- The table with an entry changed by a function. -/
def Table.modify {α : Type} [DecidableEq α] (d : α) (t : Table α) (i : Nat) (f : α → α) : Table α :=
  Table.set d t i (f (Table.get d t i))

/-- The canonical form: strictly rising indices, and no entry equal to the default. -/
def Table.wf {α : Type} [DecidableEq α] (d : α) (t : Table α) : Bool :=
  decide (t.Pairwise (fun a b => a.1 < b.1)) && t.all (fun e => decide (e.2 ≠ d))

/-- Every index of a list changed by one function. -/
def Table.modifyAll {α : Type} [DecidableEq α] (d : α) (t : Table α) (is : List Nat) (f : Nat → α → α) : Table α :=
  is.foldl (fun t i => Table.modify d t i (f i)) t

/-- Consecutive entries written from an index on. -/
def Table.setRange {α : Type} [DecidableEq α] (d : α) (t : Table α) (i : Nat) : List α → Table α
  | [] => t
  | v :: vs => Table.setRange d (Table.set d t i v) (i + 1) vs

/-- `n` consecutive entries from an index on. -/
def Table.range {α : Type} (d : α) (t : Table α) (i : Nat) : Nat → List α
  | 0 => []
  | n + 1 => Table.get d t i :: Table.range d t (i + 1) n

/-- The table without the entries of a range of indices, which then read as the default. -/
def Table.clear {α : Type} (t : Table α) (lo n : Nat) : Table α :=
  t.filter (fun e => decide (e.1 < lo) || decide (lo + n ≤ e.1))

/-- The listed entries of a range of indices changed by a function of index and value; those that become the default
are no longer listed. -/
def Table.mapRange {α : Type} [DecidableEq α] (d : α) (t : Table α) (lo n : Nat) (f : Nat → α → α) : Table α :=
  (t.map (fun e => if lo ≤ e.1 ∧ e.1 < lo + n then (e.1, f e.1 e.2) else e)).filter (fun e => decide (e.2 ≠ d))

end Sys2Proof
end

