-- ==== Sys2Proof/Syntax.lean ====
section
/-!
DEFINITION. The commands and events the block takes: one constructor per row of spec/opcode_table.json, each with
the row's operands and, first, the time that has passed since the step before.
-/

namespace Sys2Proof

/-- Where a command packet comes from (R490): a submission ring of the PCIe tunnel, a USB3 queue pair, or the
USB 2.0 queue pair. -/
inductive Src where
  | ring (n : Nat)
  | usb3 (q : Nat)
  | usb2
  deriving DecidableEq, Repr

/-- A command packet (R530) with the data its host buffer reads as (R532; none where the buffer cannot be read).
The 48 parameter bytes are a list; a byte beyond its end reads 0. -/
structure Request where
  src : Src
  flags : BitVec 16
  tag : BitVec 32
  object : BitVec 16
  inst : BitVec 16
  plen : BitVec 8
  rsvd : BitVec 24
  params : List Byte
  buf : Option (List Byte)
  deriving DecidableEq, Repr

/-- The three host link resets of R95 and R550. -/
inductive LinkReset where
  | usb4
  | pcieHot
  | functionLevel
  deriving DecidableEq, Repr

/-- What the loopback observer measures of a sub-band (R387), in 0.01 dBFS: the power over BW, and the powers in the two
channels of width BW below and above. -/
structure AclrMeas where
  g : Nat
  inBand : CentiDb
  lower : CentiDb
  upper : CentiDb
  deriving DecidableEq, Repr

/-- How long all rails have been good since the last of them became so, and the level of CLKSEL (R66). -/
structure RailsUp where
  since : Nat
  clksel : Bool
  deriving DecidableEq, Repr

/-- A TAP instruction and the cells shifted and updated under the one before it (R698, R699). -/
structure TapLoad where
  code : BitVec 8
  cells : BitVec 257
  deriving DecidableEq, Repr

/-- What a shadow verification compares (R103): the sum of the squared differences of the two slices' codes, and how many
samples it counts. -/
structure Shadow where
  sum : Nat
  samples : Nat
  deriving DecidableEq, Repr

/-- What firmware reads in a thermal slow round beside the codes it converts (R461): the on-die sensors in 0.1 °C, the sensors
that fail the check of R462, the monitors that fail R423, and the on-die sensors whose comparators read 130 °C or more
(R471). -/
structure RoundMeas where
  onDie : List Int
  failed : List Nat
  monitorsFailed : List Nat
  warm : List Nat
  deriving DecidableEq, Repr

/-- What a row's measurement is and the model computes from its own state, where its samples are: the operand carries nothing. -/
structure Measured where
  deriving DecidableEq, Repr

/-- A faulty lane, found by its rate of errored symbols or by two failed retrainings (R482, R573). -/
structure LaneFailure where
  lane : Nat
  errors : Bool
  deriving DecidableEq, Repr

/-- A symbol's class in a learned pattern (R363). -/
inductive SymbolClass where
  | downlink
  | quiet
  | mixed
  deriving DecidableEq, Repr

/-- How an attempt of a two-wire transfer ends (R633, R634, R641). -/
inductive BusResult where
  | ok (read : List Byte)
  | addressNack
  | dataNack (n : Nat)
  | pecMismatch
  deriving DecidableEq, Repr

/-- How the methods of a boot step end (R654). -/
inductive StepResult where
  | primary
  | alternate
  | failed (detail : Nat)
  deriving DecidableEq, Repr

/-- An IN endpoint the host reads: the endpoint of a USB3 queue pair, the USB 2.0 one, or a capture stream
endpoint 9 to 12 (R488, R506). -/
inductive InEndpoint where
  | usb3 (q : Nat)
  | usb2
  | stream (ep : Nat)
  deriving DecidableEq, Repr

/-- A write of the host to the MSI-X structures (R486): an entry of the table in BAR4 with its mask, or MSI-X enable and the
function's mask. -/
inductive MsixWrite where
  | entry (vector : Nat) (addr : BitVec 64) (data : BitVec 32) (masked : Bool)
  | control (on masked : Bool)
  deriving DecidableEq, Repr

/-- The USB function that the host configures (R553): USB3, or USB 2.0 at High-Speed or Full-Speed (R489). -/
inductive UsbConfigured where
  | usb3
  | usb2 (fullSpeed : Bool)
  deriving DecidableEq, Repr

/-- A command or event of the block: one constructor per row of the opcode table. `dt` is the time since the step
before, in window-clock periods of R55. -/
inductive Instr where
  /-- R558: Command that does nothing and completes OK with result 0. -/
  | nop (dt : Nat) (r : Request)
  /-- R561: Command that writes the 256-byte identification block to a host buffer. -/
  | identify (dt : Nat) (r : Request)
  /-- R559: Command that reads instances of a parameter object atomically and clears their RC fields. -/
  | objRead (dt : Nat) (r : Request)
  /-- R560: Object-write command; the general row for masked writes to objects that have no row of their own. -/
  | objWrite (dt : Nat) (r : Request)
  /-- R93: Write of RADIO_CONFIG that sets auto-relock, wake sources and the hold limit, and claims a wake GPIO. -/
  | radioConfigWrite (dt : Nat) (r : Request)
  /-- R133: Write of a chain's coarse window words, refused while a changed window has an enabled sub-band. -/
  | winConfigWrite (dt : Nat) (r : Request)
  /-- R141: Write of the fast attenuator step settings, applied to future steps under R706. -/
  | cnvAttConfigWrite (dt : Nat) (r : Request)
  /-- R351: Write of a chain's plausibility supervisor settings. -/
  | ctlPlausConfigWrite (dt : Nat) (r : Request)
  /-- R352: Write of a chain's lineup and detector law, stored in the calibration partition. -/
  | ctlLineupWrite (dt : Nat) (r : Request)
  /-- R400: Write that enables or configures the BEAM and FSYNC_OUT outputs. -/
  | tddOutConfigWrite (dt : Nat) (r : Request)
  /-- R563: Write of the ring context keep time after link loss. -/
  | jcpConfigWrite (dt : Nat) (r : Request)
  /-- R592: Write that clears FLT_STATUS bits and acts as FLT_ACK without re-arming FLT_FIRST. -/
  | fltStatusWrite (dt : Nat) (r : Request)
  /-- R623: Write that enables a snapshot trigger or sets its object set and coalescing time. -/
  | recTrigConfigWrite (dt : Nat) (r : Request)
  /-- R624: Write of one entry of a snapshot object set. -/
  | recSnapListWrite (dt : Nat) (r : Request)
  /-- R625: Write that selects which opcodes give HOST_COMMAND snapshots. -/
  | recCmdSelWrite (dt : Nat) (r : Request)
  /-- R626: Write of a sub-band's statistics slot and histogram low bounds. -/
  | recStatsConfigWrite (dt : Nat) (r : Request)
  /-- R675: Write of the boot configuration, stored in the profiles partition. -/
  | bootConfigWrite (dt : Nat) (r : Request)
  /-- R675: Writing SAVE = 1 stores every resume-image setting as the stored profile. -/
  | bootConfigSave (dt : Nat) (r : Request)
  /-- R519: Host write to a ring doorbell in BAR0 that sets a ring's new TAIL or HEAD. -/
  | doorbellWrite (dt : Nat) (off size : Nat) (value : BitVec 32)
  /-- R526: Setup word on doorbell 0 that gives bits 37:12 of an admin ring base. -/
  | setupBaseLo (dt : Nat) (sel : BitVec 2) (value : BitVec 26)
  /-- R526: Setup word on doorbell 0 that gives bits 63:38 of an admin ring base. -/
  | setupBaseHi (dt : Nat) (sel : BitVec 2) (value : BitVec 26)
  /-- R526: Setup word on doorbell 0 that gives an admin ring's size, vector and interrupt enable. -/
  | setupShape (dt : Nat) (sel : BitVec 2) (value : BitVec 26)
  /-- R527: Setup word that checks the admin ring setup and creates rings 0-2. -/
  | setupGo (dt : Nat) (sel : BitVec 2) (value : BitVec 26)
  /-- R548: Setup word that restores suspended rings after a link loss when SESSION matches. -/
  | setupResume (dt : Nat) (sel : BitVec 2) (value : BitVec 26)
  /-- R533: A command packet received on a USB queue pair OUT endpoint, with any data phase. -/
  | usbCommandPacket (dt : Nat) (op : BitVec 16) (r : Request)
  /-- R521: Device fetches a command from a submission ring once its completion ring has room. -/
  | commandFetch (dt : Nat) (op : BitVec 16) (r : Request)
  /-- R539: A fetched command passes its checks and starts in ring order. -/
  | commandStart (dt : Nat) (src : Src)
  /-- R88: A held command is released within 1 us of its condition becoming true and completes with DEFERRED. -/
  | heldCommandRelease (dt : Nat) (src : Src)
  /-- R89: A held command reaches DEFER_LIMIT_US and completes TIMEOUT. -/
  | deferLimitExpiry (dt : Nat) (src : Src)
  /-- R540: A completion is written once every earlier completion it is ordered behind has been posted. -/
  | completionPost (dt : Nat) (src : Src)
  /-- R541: A FENCE command starts once every earlier command on its ring has completed. -/
  | fenceCommandStart (dt : Nat) (src : Src)
  /-- R522: MOD_US passes after the first unsignalled entry and the ring sends its MSI-X vector. -/
  | msixModerationExpiry (dt : Nat) (ring : Nat)
  /-- R528: Administrative command that creates a ring of rings 3-16,383. -/
  | ringCreate (dt : Nat) (r : Request)
  /-- R529: Administrative command that drains a ring and makes it unused. -/
  | ringDelete (dt : Nat) (r : Request)
  /-- R529: A draining ring has completed its commands and becomes UNUSED, completing RING_DELETE. -/
  | ringDrained (dt : Nat) (ring : Nat)
  /-- R524: A ring stops on an out-of-range index or a host memory error and posts RING_ERROR. -/
  | ringError (dt : Nat) (ring err : Nat)
  /-- R555: Administrative command that sets a telemetry ring's period and items. -/
  | tlmConfigure (dt : Nat) (r : Request)
  /-- R556: At each telemetry period tick the device reads the items and writes one telemetry entry. -/
  | telemetryEntry (dt : Nat) (ring : Nat)
  /-- R544: Command that ends the first unstarted command with a given tag on a ring. -/
  | abort (dt : Nat) (r : Request)
  /-- R562: Administrative command that resets the whole device except the always-on domain. -/
  | deviceReset (dt : Nat) (r : Request)
  /-- R562: Administrative command that resets both management pairs and the host rings while RF continues. -/
  | mgmtReset (dt : Nat) (r : Request)
  /-- R564: Test command that copies a host buffer to another host buffer. -/
  | testEcho (dt : Nat) (r : Request)
  /-- R565: Test command that plants a single- or double-bit error in an on-chip memory word. -/
  | testEccInject (dt : Nat) (r : Request)
  /-- R74: Command that sets the target radio state, direction enables and TX chain enables atomically. -/
  | radioSetState (dt : Nat) (r : Request)
  /-- R80: One timed transition of a walk ends and the next step of the walk begins. -/
  | walkStepEnd (dt : Nat) (ok : Bool)
  /-- R106: The 800 us quick calibration of all chains ends on entry to SYNTH. -/
  | quickCalibrationEnd (dt : Nat) (failed : BitVec 8)
  /-- R81: The resume image has been written and the device enters the power-gated SLEEP state. -/
  | sleepEntered (dt : Nat)
  /-- R82: The host paths are gated 1 ms after the SLEEP completion is posted. -/
  | hostPathGating (dt : Nat)
  /-- R73: USB 2.0 resume signalling ends SLEEP when WAKE_USB is 1. -/
  | wakeUsbResume (dt : Nat)
  /-- R73: A rising edge on the wake GPIO ends SLEEP. -/
  | wakeGpioEdge (dt : Nat) (gpio : Nat)
  /-- R95: RESET_N low for at least 1 us resets the whole device except the always-on domain. -/
  | resetNAssert (dt : Nat)
  /-- R67: A rail stops being good and causes a power-on reset of the whole device. -/
  | railFail (dt : Nat) (rail : Nat)
  /-- R66: Internal reset is released 2 ms after the last rail becomes good and the boot begins. -/
  | railsGood (dt : Nat) (m : RailsUp)
  /-- R95: A USB4 link reset, PCIe hot or function-level reset, or USB bus reset resets ring delivery only. -/
  | hostLinkReset (dt : Nat) (kind : LinkReset)
  /-- R95: TRST_N low resets the boundary-scan TAP only. -/
  | trstNReset (dt : Nat)
  /-- R701: A TAP instruction takes or returns the balls to boundary-scan control. -/
  | tapInstruction (dt : Nat) (m : TapLoad)
  /-- R54: The root PLL lock detector declares lock and the derived clock dividers start together. -/
  | rootPllLock (dt : Nat)
  /-- R60: The root PLL is not locked within 2 ms of being enabled. -/
  | clkLockfail (dt : Nat)
  /-- R61: The root PLL loses lock; TX is muted, PAEN disabled and the radio falls to STANDBY. -/
  | clkUnlock (dt : Nat)
  /-- R63: No REFCLK edge for 1 us; the fallback oscillator takes over and the host paths drop. -/
  | clkRefloss (dt : Nat)
  /-- R60: Crystal oscillation is not detected at enabling or disappears while running. -/
  | clkXtal (dt : Nat) (running : Bool)
  /-- R63: The crystal oscillator is restarted every 100 ms while it is absent. -/
  | crystalRestart (dt : Nat)
  /-- R63: REFCLK edges return or the crystal is back; the device switches back and applies the relock. -/
  | rootSourceReturn (dt : Nat)
  /-- R100: Every 77 ms the calibrated spare takes the next slice position at a frame boundary. -/
  | sliceSwap (dt : Nat) (c : Nat) (shadow : Shadow)
  /-- R112: A slice is found faulty and the spare takes its position within 100 ns. -/
  | sliceFault (dt : Nat) (c slice kind : Nat)
  /-- R115: The first code at plus or minus 2047 begins an overrange episode and tagging. -/
  | overrangeStart (dt : Nat) (c : Nat) (slices : BitVec 33)
  /-- R115: 1,024 clean converter samples end an overrange episode. -/
  | overrangeEnd (dt : Nat) (c : Nat) (slices : BitVec 33)
  /-- R120: A sample at FAST_THR inserts 6 dB of attenuation and compensating digital gain. -/
  | fastStepTake (dt : Nat) (c magnitude : Nat)
  /-- R125: One fast step is released after HOLD_MS below the release threshold. -/
  | fastStepRelease (dt : Nat) (c peak : Nat)
  /-- R126: The 10 us peak measurement after entry to LISTEN ends and may take one step. -/
  | fastStepStartTest (dt : Nat) (c peak : Nat)
  /-- R136: A composite TX sample beyond full scale begins a clip episode. -/
  | dacClipEpisode (dt : Nat) (c : Nat)
  /-- R137: TX traffic below -40 dBFS for more than 10 s holds the loopback trims. -/
  | dacCalHold (dt : Nat) (c : Nat)
  /-- R176: Command that configures, enables or disables a sub-band. -/
  | sbConfigure (dt : Nat) (r : Request)
  /-- R184: Command that changes a sub-band's fine NCO words. -/
  | sbRetune (dt : Nat) (r : Request)
  /-- R184: The retune takes effect on the first window sample at least 1 us after execution. -/
  | retuneApply (dt : Nat) (g : Nat)
  /-- R189: Command that loads a coefficient bank from a host buffer. -/
  | sbLoadCoef (dt : Nat) (r : Request)
  /-- R197: Command that cross-fades or hard-switches a sub-band to its other bank. -/
  | sbSwitchBank (dt : Nat) (r : Request)
  /-- R194: The last faded output is reached, the new bank becomes active and the switch completes. -/
  | crossFadeEnd (dt : Nat) (g : Nat)
  /-- R196: The output of a hard switch is reached and the new bank applies from it. -/
  | hardSwitchOutput (dt : Nat) (g : Nat)
  /-- R217: Command that restarts a sub-band's filters from empty history at a known sample. -/
  | sbSyncReset (dt : Nat) (r : Request)
  /-- R214: The reset sample is reached and the sub-band's histories restart from zero. -/
  | syncResetSample (dt : Nat) (g : Nat)
  /-- R206: Command that enables, disables, freezes or retunes the DC blocker. -/
  | sbDcb (dt : Nat) (r : Request)
  /-- R180: A disabled sub-band's gain ramp to zero ends, processing stops and the disable completes. -/
  | disableRampEnd (dt : Nat) (g : Nat)
  /-- R256: Command that sets or enables the canceller of a victim sub-band. -/
  | canConfigure (dt : Nat) (r : Request)
  /-- R258: Command that freezes or releases canceller adaptation at the next block boundary. -/
  | canFreeze (dt : Nat) (r : Request)
  /-- R259: Command that copies a sub-band's coupling map bins to a host buffer. -/
  | canMapRead (dt : Nat) (r : Request)
  /-- R260: Command that writes a sub-band's coupling map bins from a host buffer. -/
  | canMapWrite (dt : Nat) (r : Request)
  /-- R242: A canceller block of a victim sub-band ends and the used paths are adapted. -/
  | cancellerBlockEnd (dt : Nat) (g : Nat) (m : Measured)
  /-- R243: ACQ_MS of adapting time passes and the path set moves from acquisition to tracking. -/
  | acqMsExpiry (dt : Nat) (g : Nat)
  /-- R238: Head and tail take new map values together at a partition boundary. -/
  | partitionBoundary (dt : Nat) (g : Nat)
  /-- R233: A sub-band's relocated bins are copied and the estimate switches to the new location. -/
  | mapMoveEnd (dt : Nat) (g : Nat)
  /-- R572: A relocation not complete within 1 ms clears the sub-band's bins. -/
  | canMove (dt : Nat) (g : Nat)
  /-- R294: Command that sets the governor's margin, clamp, restart and detector settings. -/
  | govConfigure (dt : Nat) (r : Request)
  /-- R295: Command that ends a hold-off or latch and may clear the cap or failure history. -/
  | govRestart (dt : Nat) (r : Request)
  /-- R270: A governor block ends; isolation is measured and the ceiling is updated. -/
  | governorBlockEnd (dt : Nat) (g : Nat) (m : Measured)
  /-- R285: A growth or autocorrelation detector trips and the governor sets a clamp. -/
  | oscillationTrip (dt : Nat) (g : Nat)
  /-- R285: CLAMP_HOLD_MS passes and the clamp is removed. -/
  | clampHoldEnd (dt : Nat) (g : Nat)
  /-- R288: The hold-off ends and the sub-band restarts under a restart cap. -/
  | holdoffEnd (dt : Nat) (g : Nat)
  /-- R289: 3,600 s of REPEAT without a trip remove the restart cap. -/
  | restartCapRemoval (dt : Nat) (g : Nat)
  /-- R296: Command that starts a noise probe on a sub-band. -/
  | canProbeStart (dt : Nat) (r : Request)
  /-- R296: Command that stops the running probe of a sub-band. -/
  | canProbeStop (dt : Nat) (r : Request)
  /-- R279: MEAS_FLOOR has been 1 for 500 ms and the governor starts an automatic probe. -/
  | probeAutoStart (dt : Nat) (g : Nat)
  /-- R278: The probe interval ends and the accumulated results replace PHYS and EFF. -/
  | probeEnd (dt : Nat) (g : Nat)
  /-- R277: A suspended probe resumes 10 ms after the output last exceeded the noise-floor level. -/
  | probeResume (dt : Nat) (g : Nat)
  /-- R268: Every 600 s firmware writes each sub-band's kept PHYS and centre to the profiles partition. -/
  | isoStore (dt : Nat)
  /-- R301: Each control tick the engine updates every inner loop and the due outer loops. -/
  | controlTick (dt : Nat) (missed : List Nat)
  /-- R335: The mismatch timer reaches PLAUS_TIME_MS and CTL.PLAUS is raised. -/
  | plausTimerExpiry (dt : Nat) (c : Nat)
  /-- R320: A ramped set-point or fixed gain reaches its request and the request completes. -/
  | setPointArrived (dt : Nat) (loop which : Nat)
  /-- R343: Command that changes an inner loop's mode. -/
  | ctlSetMode (dt : Nat) (r : Request)
  /-- R344: Command that requests a new set-point, fixed gain or share. -/
  | ctlSetPoint (dt : Nat) (r : Request)
  /-- R345: Command that writes one region's breakpoint and coefficients. -/
  | ctlSetSchedule (dt : Nat) (r : Request)
  /-- R338: Command that starts a test-signal injection on a loop, optionally with capture. -/
  | ctlInjectStart (dt : Nat) (r : Request)
  /-- R342: Command that ends the running injection of a loop. -/
  | ctlInjectStop (dt : Nat) (r : Request)
  /-- R342: An injection reaches the end of DURATION and completes OK. -/
  | injectionEnd (dt : Nat) (loop : Nat)
  /-- R331: Command that claims or restarts a repetitive controller slot. -/
  | ctlRepLearnStart (dt : Nat) (r : Request)
  /-- R332: Command that clears a slot's memory and frees it. -/
  | ctlRepLearnRelease (dt : Nat) (r : Request)
  /-- R348: Command that changes learning and apply settings of a held slot. -/
  | ctlRepLearnModify (dt : Nat) (r : Request)
  /-- R392: Command that configures or enables a timing group. -/
  | tddConfigure (dt : Nat) (r : Request)
  /-- R395: Command that writes an inactive gate page to become active at a named gating frame. -/
  | tddSetGatesWrite (dt : Nat) (r : Request)
  /-- R396: Command that makes the learned pages of both directions active. -/
  | tddCommitLearned (dt : Nat) (r : Request)
  /-- R396: Command that copies a gate page to a host buffer. -/
  | tddReadback (dt : Nat) (r : Request)
  /-- R361: The frame-timing source is acquired and the group goes to LOCKED. -/
  | syncAcquired (dt : Nat) (grp : Nat) (frameTick : Nat) (sfn : Nat) (err : Int)
  /-- R362: A detected burst or edge measures the timing error and corrects by at most one tick. -/
  | syncMeasurement (dt : Nat) (grp : Nat) (err : Int)
  /-- R361: Missing bursts or edges pass the loss count and the group enters HOLDOVER. -/
  | syncLoss (dt : Nat) (grp : Nat)
  /-- R361: HOLDOVER_S passes and the group goes to EXPIRED with gates closed. -/
  | holdoverExpiry (dt : Nat) (grp : Nat)
  /-- R374: A gating frame starts and pending gate pages become active. -/
  | gatingFrameStart (dt : Nat) (grp : Nat)
  /-- R370: A scheduled gate opens or closes through its 200 ns ramp. -/
  | gateEdge (dt : Nat) (grp : Nat) (uplink : Bool) (opened : Measured) (beam : Measured)
  /-- R364: Pattern learning over 200 gating frames ends and writes or fails to write learned pages. -/
  | tddLearn (dt : Nat) (grp : Nat) (counts : Measured)
  /-- R397: Command (KIND 0) that assigns a sub-band's protection band and output limit. -/
  | npSetLimitsSubband (dt : Nat) (r : Request)
  /-- R397: Command (KIND 1) that sets a protection band's noise-ceiling and donor-loss settings. -/
  | npSetLimitsBand (dt : Nat) (r : Request)
  /-- R397: Command (KIND 2) that sets a TX chain's composite limit and regrowth settings. -/
  | npSetLimitsChain (dt : Nat) (r : Request)
  /-- R384: Every 100 ms the donor DL levels and uplink noise ceilings are computed. -/
  | npEvaluation (dt : Nat) (levels : Measured)
  /-- R385: Donor DL undetected for DONOR_LOSS_MS mutes the band's uplink sub-bands. -/
  | donorLossMute (dt : Nat) (band : Nat)
  /-- R385: The donor DL level stays above threshold plus 3 dB for 200 ms and the mute releases. -/
  | donorRelease (dt : Nat) (band : Nat)
  /-- R388: Every 100 ms the ACLR estimate raises or lowers the regrowth back-off. -/
  | regrowthEvaluation (dt : Nat) (c : Nat) (gathered : Nat) (meas : List AclrMeas)
  /-- R389: MUTE_N low forces every RF-DAC input and stage 8 to zero. -/
  | muteNFall (dt : Nat)
  /-- R390: MUTE_N high reopens open gates through a 200 ns ramp. -/
  | muteNRise (dt : Nat)
  /-- R410: Command (KIND 0) that sets a TX chain's PA sequence offsets and polarities. -/
  | feSeqConfigurePa (dt : Nat) (r : Request)
  /-- R404: Command (KIND 1) that sets an RX chain's LNA enable and attenuator codes. -/
  | feSeqConfigureRx (dt : Nat) (r : Request)
  /-- R406: A TX chain's power-up sequence starts. -/
  | paPowerUpStart (dt : Nat) (c : Nat)
  /-- R406: A PA sequence reaches a programmed offset and asserts or deasserts PABIAS or PAEN. -/
  | paSequenceOffset (dt : Nat) (c : Nat)
  /-- R406: The sequence reaches UP_RF, releases the RF-DAC and sets TX_ACTIVE. -/
  | paPowerUpEnd (dt : Nat) (c : Nat)
  /-- R407: A TX chain's power-down sequence starts with the RF ramp to zero. -/
  | paPowerDownStart (dt : Nat) (c : Nat)
  /-- R407: A power-down sequence ends at its last deassertion. -/
  | paPowerDownEnd (dt : Nat) (c : Nat)
  /-- R418: Command that configures and claims a pulse-generator channel. -/
  | pgConfigure (dt : Nat) (r : Request)
  /-- R417: A pending pulse-generator change takes effect at the gating frame or period start. -/
  | pgConfigApply (dt : Nat) (ch : Nat)
  /-- R412: A pulse-generator channel reaches a scheduled asserting or deasserting edge. -/
  | pgEdge (dt : Nat) (ch : Nat) (asserting : Bool)
  /-- R429: Command that configures a window monitor or external trip source and its routing. -/
  | wmConfigure (dt : Nat) (r : Request)
  /-- R430: Command that releases latched trip destinations with no asserted source. -/
  | wmClear (dt : Nat) (r : Request)
  /-- R419: A window-monitor input crosses its asserting threshold. -/
  | monitorAssert (dt : Nat) (m input : Nat)
  /-- R419: A window-monitor input crosses its release threshold. -/
  | monitorRelease (dt : Nat) (m input : Nat)
  /-- R424: An external trip input falls and trips its routed destinations. -/
  | xtripFall (dt : Nat) (n : Nat)
  /-- R422: A monitor's blanking ends and a still-asserted condition trips. -/
  | blankingEnd (dt : Nat) (m : Nat)
  /-- R441: A control ball reads back opposite its driven level for 1 us. -/
  | pinCheckMismatch (dt : Nat) (ball : Nat)
  /-- R431: Command that assigns a function to a GPIO. -/
  | pinAssign (dt : Nat) (r : Request)
  /-- R446: Command (KIND 0) that configures a housekeeping sequence entry. -/
  | hkConfigureEntry (dt : Nat) (r : Request)
  /-- R447: Command (KIND 1) that configures and claims or releases an HT timer. -/
  | hkConfigureTimer (dt : Nat) (r : Request)
  /-- R444: Command (KIND 2) that sets the housekeeping DAC code. -/
  | hkConfigureDac (dt : Nat) (r : Request)
  /-- R447: An HT timer fires on its period or on its GPIO edge. -/
  | htTimerFire (dt : Nat) (n : Nat)
  /-- R447: A rising edge on an HT trigger GPIO. -/
  | htTriggerEdge (dt : Nat) (n : Nat)
  /-- R448: An entry's delay after its trigger ends and it requests a conversion. -/
  | hkRequest (dt : Nat) (e : Nat)
  /-- R450: A conversion ends, writes HK_DATA and HK_LAST and starts the next waiting request. -/
  | hkConversionEnd (dt : Nat) (nv : Nat)
  /-- R474: Command (KIND 0) that sets AUTO_RESUME. -/
  | thConfigureGlobal (dt : Nat) (r : Request)
  /-- R474: Command (KIND 1) that configures an external temperature sensor. -/
  | thConfigureSensor (dt : Nat) (r : Request)
  /-- R474: Command (KIND 2) that sets a board zone's offset. -/
  | thConfigureZone (dt : Nat) (r : Request)
  /-- R461: Every 10 ms the slow round converts the sensors and rails and takes thermal decisions. -/
  | thermalRound (dt : Nat)
  /-- R461: The slow round's conversions end and thermal decisions are taken. -/
  | thermalRoundEnd (dt : Nat) (m : RoundMeas)
  /-- R468: The 2 ms thermal fade ends and the PA power-down sequences start. -/
  | thermalFadeEnd (dt : Nat)
  /-- R470: An on-die sensor crosses 135 °C and the analogue trip forces safe levels. -/
  | analogueTrip (dt : Nat) (sensor : Nat)
  /-- R470: Every comparator reads below 130 °C and the analogue trip latch releases. -/
  | analogueTripRelease (dt : Nat)
  /-- R471: 1,000 rounds below 105 °C release the stop and may resume the radio. -/
  | thermalStopRelease (dt : Nat)
  /-- R109: Firmware writes each chain's present trims into the stored set at the band's interval. -/
  | trimStore (dt : Nat)
  /-- R491: The USB4 link is lost; rings are suspended and LNK.DOWN is raised. -/
  | linkLoss (dt : Nat)
  /-- R492: The host trains the link again and the device posts a link event. -/
  | linkReturn (dt : Nat) (mode : Nat)
  /-- R549: KEEP_S passes after a link loss and suspended ring contexts are discarded. -/
  | keepSExpiry (dt : Nat)
  /-- R482: A USB4 lane is found faulty and the link retrains without it. -/
  | laneFault (dt : Nat) (m : LaneFailure)
  /-- R493: A lower link mode ends streams in descending slot until the rest fit. -/
  | linkModeChange (dt : Nat) (mode : Nat)
  /-- R550: A USB bus reset or disconnect discards the queue pair's undelivered items. -/
  | usbBusReset (dt : Nat) (usb2 : Bool)
  /-- R508: Command that configures a capture slot. -/
  | capConfigure (dt : Nat) (r : Request)
  /-- R509: Command that starts a buffer capture or a stream. -/
  | capStart (dt : Nat) (r : Request)
  /-- R510: Command that ends a capture or stream, or triggers an armed buffer capture. -/
  | capStop (dt : Nat) (r : Request)
  /-- R511: Command that copies samples from the capture buffer. -/
  | capRead (dt : Nat) (r : Request)
  /-- R498: A buffer capture has filled PRE samples and is armed. -/
  | captureArmed (dt : Nat)
  /-- R499: The trigger of an armed buffer capture arrives. -/
  | captureTrigger (dt : Nat) (tick : Time) (cause : Nat) (arg : Nat)
  /-- R498: The post-trigger samples are written and the buffer capture completes. -/
  | captureDone (dt : Nat) (data : Measured) (sat : Measured)
  /-- R500: A capture source stops producing samples and the capture ends early. -/
  | captureSourceStop (dt : Nat) (slot : Nat) (byHost : Bool)
  /-- R503: A stream block closes and is delivered or abandoned. -/
  | streamBlock (dt : Nat) (slot : Nat) (payload : Measured) (nsamp : Measured) (t0 : Measured) (sat : Measured) (accepted : Bool)
  /-- R568: A source's condition is detected and the collector reacts at its level. -/
  | faultDetection (dt : Nat) (src addr kind : Nat)
  /-- R584: A 250 us recovery shadow ends and live merged sources are detected afresh. -/
  | shadowEnd (dt : Nat)
  /-- R584: A merge phase ends and live merged sources are detected afresh. -/
  | mergePhaseEnd (dt : Nat)
  /-- R591: The test phase ends 600 s after it started. -/
  | testPhaseTimeout (dt : Nat)
  /-- R588: Firmware takes a coded message from the queue and posts a FAULT event on every sink. -/
  | fault (dt : Nat)
  /-- R591: Command (KIND 0) that sets a source's severity. -/
  | fltConfigureSeverity (dt : Nat) (r : Request)
  /-- R591: Command (KIND 1) that sets ALIVE_THR and starts or ends the test phase. -/
  | fltConfigureGlobal (dt : Nat) (r : Request)
  /-- R592: Command that acknowledges fault sources and may re-arm FLT_FIRST. -/
  | fltAck (dt : Nat) (r : Request)
  /-- R593: Command that makes one forced detection of a source. -/
  | fltForcePulse (dt : Nat) (r : Request)
  /-- R593: Command that forces a detection and holds the source live. -/
  | fltForceHold (dt : Nat) (r : Request)
  /-- R593: Command that ends a forced hold of a source. -/
  | fltForceRelease (dt : Nat) (r : Request)
  /-- R46: An access or scrub finds a correctable or uncorrectable memory error. -/
  | memoryError (dt : Nat) (mem word : Nat) (double : Bool)
  /-- R39: Each second the scrub completes a pass of every ECC-protected on-chip memory. -/
  | sramScrubPass (dt : Nat)
  /-- R597: The MRAM scrub completes its 24 h pass. -/
  | mramScrubPass (dt : Nat)
  /-- R572: Once per second the NCO accumulators are checked against global time. -/
  | ncoCheck (dt : Nat) (bad : List Nat)
  /-- R589: Every 1.000 ms ALIVE changes level while its conditions hold. -/
  | aliveToggle (dt : Nat)
  /-- R589: Firmware feeds the keep-alive. -/
  | keepaliveFeed (dt : Nat)
  /-- R590: The keep-alive is not fed for 100 ms; ALIVE stops and MGT.KEEPALIVE is raised. -/
  | keepaliveTimeout (dt : Nat)
  /-- R48: The standby pair becomes active within 2 ms of the active pair's fence. -/
  | pairTakeover (dt : Nat)
  /-- R545: All barrier completions are posted with a pair active and RECOVERY_END is posted. -/
  | recoveryEnd (dt : Nat)
  /-- R605: A snapshot trigger reads its object set or coalesces into an earlier record. -/
  | snapshotTrigger (dt : Nat)
  /-- R605: A waiting snapshot record is written to the store. -/
  | snapshotWrite (dt : Nat) (verified : Bool)
  /-- R608: Coalesced repeat updates are written to the store at most every 100 ms. -/
  | coalesceFlush (dt : Nat)
  /-- R611: At each whole operating hour the statistics buckets and lifetime records are written. -/
  | hourBoundary (dt : Nat)
  /-- R600: Every 10 s the operating seconds count is written to partition 0. -/
  | opsecStore (dt : Nat)
  /-- R614: Command that freezes the recorder for a read. -/
  | recFreezeSet (dt : Nat) (r : Request)
  /-- R614: Command that releases the freeze and writes the withheld statistics. -/
  | recFreezeRelease (dt : Nat) (r : Request)
  /-- R614: A freeze ends 10 s after the last freeze command. -/
  | freezeTimeout (dt : Nat)
  /-- R617: Command that copies snapshot records, hourly buckets or lifetime records. -/
  | recRead (dt : Nat) (r : Request)
  /-- R618: Command that sets the host time offset and writes TIME_STEP. -/
  | recSetHosttime (dt : Nat) (r : Request)
  /-- R619: Command that arms a record clear under board authorisation. -/
  | recClearArm (dt : Nat) (r : Request)
  /-- R620: Command that clears the snapshot log and optionally the statistics. -/
  | recClearExec (dt : Nat) (r : Request)
  /-- R620: Background zeroing of the cleared record slots ends. -/
  | zeroingEnd (dt : Nat)
  /-- R651: Command that enables, configures or disables a two-wire bus. -/
  | twbConfigure (dt : Nat) (r : Request)
  /-- R651: TWB_CONFIGURE with CLEAR = 1 runs a bus clear after the current transfer. -/
  | twbClear (dt : Nat) (r : Request)
  /-- R652: Command that queues a WRITE, READ or WRITE_READ transfer on a bus. -/
  | twbTransfer (dt : Nat) (r : Request)
  /-- R650: Command that takes the oldest attention queue entry or waits for one. -/
  | twbAttention (dt : Nat) (r : Request)
  /-- R650: WAIT_MS passes with no entry and ATTENTION completes with KIND 0. -/
  | attentionWaitExpiry (dt : Nat) (bus : Nat)
  /-- R637: A queued transfer starts once the bus is free. -/
  | busTransferStart (dt : Nat) (bus : Nat)
  /-- R635: A transfer ends at STOP or on a non-retried error and completes. -/
  | busTransferEnd (dt : Nat) (bus : Nat) (res : BusResult)
  /-- R639: A START in an acknowledge slot ends the attempt for a retry. -/
  | ackSlotStart (dt : Nat) (bus : Nat)
  /-- R640: SDA reads low while released; the attempt ends for a retry. -/
  | arbitrationLost (dt : Nat) (bus n : Nat)
  /-- R636: SCL stays low for SCL_TO_MS and the transfer completes BUS_ERROR. -/
  | sclLowTimeout (dt : Nat) (bus : Nat) (sdaLow : Bool)
  /-- R637: SDA stays low with SCL high for SDA_TO_MS and a bus clear starts. -/
  | sdaLowTimeout (dt : Nat) (bus : Nat)
  /-- R638: A transfer waits for a free bus beyond both timeouts and completes BUS_ERROR. -/
  | busFreeTimeout (dt : Nat) (bus : Nat)
  /-- R644: A bus clear ends with SDA high, or fails and fences the bus. -/
  | busClearEnd (dt : Nat) (bus pulses : Nat) (ok : Bool)
  /-- R646: TWBn_ALERT_N low for 1 us is an alert awaiting a response read. -/
  | alert (dt : Nat) (bus : Nat)
  /-- R646: Between transfers the controller reads the Alert Response Address and queues the responder. -/
  | alertResponseRead (dt : Nat) (bus : Nat) (resp : Option Byte) (released : Bool)
  /-- R647: The alert line has been high for 1 ms and alert reads resume. -/
  | alertSuspendEnd (dt : Nat) (bus : Nat)
  /-- R648: A Host Notify write to address 0x08 is received and queued. -/
  | hostNotify (dt : Nat) (bus : Nat) (bytes : List Byte)
  /-- R654: A boot step ends by its primary or alternate method, or fails, and the ledger is written. -/
  | bootStepEnd (dt : Nat) (res : StepResult)
  /-- R664: A walk failure or S3 detection during early service sets EARLY's ALT flag. -/
  | earlyFail (dt : Nat)
  /-- R659: The 2,200 ms foreground calibration ends and writes the stored sets. -/
  | fgCalEnd (dt : Nat) (failed : BitVec 8)
  /-- R667: After a management reset firmware restarts within 60 ms, running boot steps 0-3 and 12. -/
  | firmwareRestart (dt : Nat)
  /-- R676: Command that copies boot ledger entries and clears named ALT flags. -/
  | bootLedgerRead (dt : Nat) (r : Request)
  /-- R677: Command that writes and verifies a firmware image and may activate it. -/
  | fwUpdate (dt : Nat) (r : Request)
  /-- R95: RESET_N returns high after a reset and the boot begins from reset release. -/
  | resetNRelease (dt : Nat) (clksel : Bool)
  /-- R487: The host sets or clears PCIe Bus Master Enable, which starts or stops every device-mastered transfer and releases held completions. -/
  | busMasterEnableWrite (dt : Nat) (on : Bool)
  /-- R486: The host unmasks an MSI-X vector or the function in BAR4 and a pending message is sent. -/
  | msixVectorUnmask (dt : Nat) (w : MsixWrite)
  /-- R533: The host reads an item or stream block from a USB IN endpoint, freeing room in the queue pair or stream buffer. -/
  | usbInTransfer (dt : Nat) (ep : InEndpoint)
  /-- R553: The host configures the USB3 or USB 2.0 function, which becomes an event sink that is up. -/
  | usbFunctionConfigured (dt : Nat) (f : UsbConfigured)
  /-- R485: Every 1 ms a refresh pass rewrites the BAR2 mirror words and increments MIRROR_SEQ. -/
  | mirrorRefresh (dt : Nat)
  /-- R429: An external trip input returns high and the trip source and its TRIP_GPIO deassert. -/
  | xtripRise (dt : Nat) (n : Nat)
  /-- R619: A record clear arm becomes older than 5 s and ARMED returns to 0. -/
  | clearArmExpiry (dt : Nat)
  /-- R137: TX traffic rises above -40 dBFS and the loopback trims resume with CAL_HOLD cleared. -/
  | calHoldEnd (dt : Nat) (c : Nat)
  /-- R277: A sub-band's output rises more than 3 dB above the TX noise floor and its probe is suspended. -/
  | probeSuspend (dt : Nat) (g : Nat)
  /-- R193: A coefficient load finishes within 50 us, the bank becomes loaded and any uncorrectable-error mute ends with a synchronising reset. -/
  | coefLoadEnd (dt : Nat) (g : Nat)
  /-- R259: A coupling-map read finishes its copy, completes and lets the paused paths adapt again. -/
  | mapReadEnd (dt : Nat) (g : Nat)
  /-- R677: A firmware update finishes writing and verification, completes and may set ACTIVE_IMG. -/
  | fwUpdateEnd (dt : Nat)
  deriving DecidableEq, Repr

end Sys2Proof
end

