-- ==== Sys2Proof/Machine/PartsRf.lean ====
section
/-!
DEFINITION. The state of the radio, the converters, the sub-bands, the canceller and the governor
(02_clocks_power_states.md to 07_stability_governor.md). Every default is the value at reset.
-/

namespace Sys2Proof.Machine

/-- A command that has started or is waiting in the queue of its source: the source's key and the entry's number. -/
structure CmdRef where
  src : Nat
  id : Nat
  deriving DecidableEq, Repr

/-- RADIO_CONFIG of R93. -/
structure RadioConfig where
  /-- R93 AUTO_RELOCK, 1 bit. -/
  autoRelock : Bool := true
  /-- R93 WAKE_USB, 1 bit. -/
  wakeUsb : Bool := true
  /-- R93 WAKE_GPIO, 6 bit; 63 names none. -/
  wakeGpio : Nat := 63
  /-- R93 DEFER_LIMIT_US, 17 bit. -/
  deferLimitUs : Nat := 5000
  deriving DecidableEq, Repr

/-- What started a movement of the radio (R76, R62, R78, R472, R654). -/
inductive WalkKind where
  | host
  | relock
  | boot
  | resume
  | fault
  | thermal
  | clock
  deriving DecidableEq, Repr

/-- A walk in progress (R76). -/
structure Walk where
  kind : WalkKind
  /-- R75 the RADIO_SET_STATE that made the walk. -/
  cmd : Option CmdRef
  /-- R76 the state in which the command found the radio. -/
  origin : Nat
  /-- R74 TARGET, 0 to 4; after a failed step the state in which the command found the radio (R76). -/
  target : Nat
  /-- R92 TARGET of the request, kept while the device walks back. -/
  asked : Nat
  /-- R80 the step in progress, 4 to 8; 0 while the walk moves down; 9 while the resume image is written (R81). -/
  step : Nat
  /-- R75 start of execution. -/
  startedAt : Time
  /-- R80 start of the step in progress. -/
  stepAt : Time
  /-- R76 the step that failed, while the device walks back. -/
  failedStep : Option Nat
  deriving DecidableEq, Repr

/-- The clock root and the radio (02_clocks_power_states.md). -/
structure Radio where
  /-- R92 STATE, 4 bit: 0 SLEEP to 4 REPEAT. -/
  state : Nat := 1
  /-- R92 TX enables in force, 8 bit (R74). -/
  txEn : BitVec 8 := 0
  /-- R92 DIR_EN in force, 2 bit. -/
  dirEn : BitVec 2 := 0
  /-- R76 walk in progress. -/
  walk : Option Walk := none
  /-- R84 the RADIO_SET_STATE executing without a walk, while its PA sequences run (R75, R83), with its start. -/
  setting : Option (CmdRef × Time) := none
  /-- R85, R86 the RADIO_SET_STATE that executes is raising. -/
  raising : Bool := false
  /-- R51 root PLL enabled. -/
  pllOn : Bool := false
  /-- R92 PLL_LOCKED, 1 bit. -/
  pllLocked : Bool := false
  /-- R54 time the root PLL was enabled. -/
  pllOnAt : Time := 0
  /-- R92 SRC_PRESENT, 1 bit. -/
  srcPresent : Bool := false
  /-- R92 ROOT_SRC, 1 bit: 1 external reference (R50: CLKSEL at reset release). Reset is the level of the ball. -/
  rootExt : Bool := true
  /-- R92 FALLBACK_OSC, 1 bit (R63). -/
  fallback : Bool := false
  /-- R63, R600 time since which the fallback oscillator times the operating seconds. -/
  fallbackAt : Time := 0
  /-- R63 time the crystal oscillator was last enabled, while it is not declared running. -/
  xtalOnAt : Option Time := none
  /-- R92 FG_CAL, 1 bit. -/
  fgCal : Bool := false
  /-- R62 attempts made by the relock in progress, and the time of the first. -/
  relock : Option (Nat × Time) := none
  /-- R106 quick calibration done since entry to SYNTH. -/
  quickDone : Bool := false
  /-- R66 rails that are good, 5 bit in the order of R64. Reset release needs all five. -/
  railsGood : BitVec 5 := 31
  /-- R66 internal reset held. -/
  inReset : Bool := false
  /-- R66 time the last rail became good. -/
  goodAt : Time := 0
  /-- R66 time of the last failure of a rail. -/
  failedAt : Time := 0
  /-- R95 RESET_N held low. -/
  resetN : Bool := false
  /-- R82 time at which the host paths are gated after the completion of a walk to SLEEP. -/
  gateAt : Option Time := none
  /-- R59 host paths gated in SLEEP. -/
  gated : Bool := false
  /-- R72 wake in progress: the wake source (0 USB resume, 1 GPIO) and its start. -/
  waking : Option (Nat × Time) := none
  /-- R576 state to which the radio goes at the next step boundary of the walk in progress, with the cause. -/
  fall : Option (Nat × WalkKind) := none
  deriving DecidableEq, Repr

/-- CNV_ATT_CONFIG of R141. -/
structure AttConfig where
  fastEn : Bool := false
  fastMax : Nat := 1
  attLsb : Nat := 1
  align : Nat := 0
  hystDb : Nat := 3
  holdMs : Nat := 100
  stepCal : Nat := 600
  fastThr : Nat := 2047
  deriving DecidableEq, Repr

/-- The trims of one physical slice, in the steps of R102: offset in 1/64 LSB, gain in 0.001 %, bandwidth in 0.01 %. -/
structure SliceTrim where
  offset : Int := 0
  gain : Int := 0
  bw : Int := 0
  deriving DecidableEq, Repr

/-- A coefficient set of a chain (R102, R106, R137): the trims of its 33 slices, the skew trim of every slice at every
position (key slice × 32 + position, in 3.75 fs), and the RF-DAC trims of the same-numbered TX chain: the segments' static
mismatch, the skew between sub-arrays, and the full-scale gain. -/
structure TrimSet where
  slices : Table SliceTrim := []
  skews : Table Int := []
  /-- R137 in LSB of the RF-DAC, and the full scale in dB about its nominal value. -/
  dacSeg : Rat := 0
  dacSkew : Rat := 0
  dacGain : Rat := 0
  deriving DecidableEq, Repr

/-- What of a set the gating of the RX converters leaves: the RF-DAC trims. -/
def TrimSet.dacOnly (t : TrimSet) : TrimSet := { dacSeg := t.dacSeg, dacSkew := t.dacSkew, dacGain := t.dacGain }

/-- A fast step in force, with the values it was taken with (R706). -/
structure FastStep where
  /-- R121 codes added to the bus. -/
  codes : Nat
  /-- R121 compensation, 0.01 dB. -/
  comp : Nat
  stepCal : Nat
  align : Nat
  /-- R706 FAST_THR of the release test. -/
  thr : Nat
  deriving DecidableEq, Repr

/-- The compensation of a fast step as the window output meets it (R122, R125): in 0.01 dB, the window sample from which it
applies, and the one from which it is taken away. -/
structure Comp where
  gain : Nat
  start : Nat
  stop : Option Nat
  deriving DecidableEq, Repr

/-- One RX chain's and one TX chain's converters (03_rf_converters.md). -/
structure Cnv where
  /-- R140 OVR_COUNT, 16 bit. -/
  ovrCount : Nat := 0
  /-- R140 OVR_STICKY, 1 bit. -/
  ovrSticky : Bool := false
  /-- R140 OVR_ACTIVE, 1 bit. -/
  ovrActive : Bool := false
  /-- R115, R499 the window sample that holds the first clipped one of the latest episode. -/
  ovrFirst : Option Nat := none
  /-- R140 SLICE_OVR, 33 bit. -/
  sliceOvr : Nat := 0
  /-- R117 end of the last overrange episode (the chain is clean from it). -/
  cleanAt : Option Time := none
  /-- R120 fast steps in force, oldest first. -/
  steps : List FastStep := []
  /-- R122 compensations that apply, will apply or are still to be taken away. -/
  comps : List Comp := []
  /-- R120 time of the last fast step. -/
  stepAt : Option Time := none
  /-- R125 start of the hold in progress: the last time a sample reached the release threshold. -/
  holdFrom : Time := 0
  /-- R126 end of the start test, while it runs. -/
  startTest : Option Time := none
  /-- R705 physical slice at each position; an unlisted position p holds slice p. -/
  slices : Table Nat := []
  /-- R142 SPARE_ID, 6 bit; 63 none. -/
  spare : Nat := 32
  /-- R142 NEXT_POS, 5 bit. -/
  nextPos : Nat := 0
  /-- R142 ROT_RUN, 1 bit. -/
  rotRun : Bool := false
  /-- R142 CHAIN_FENCED, 1 bit. -/
  fenced : Bool := false
  /-- R107, R114 the last quick calibration of the chain could not complete. -/
  quickFailed : Bool := false
  /-- R142 SKIP_COUNT, 8 bit. -/
  skip : Nat := 0
  /-- R142 SLICE_FENCED, 33 bit; from the fence map of the store (R114), which is empty at State.reset [12]. -/
  sliceFenced : Nat := 0
  /-- R103 consecutive failed verifications of the spare. -/
  verifyFails : Nat := 0
  /-- R100 time the present swap falls due. -/
  swapDue : Time := 0
  /-- R108 swaps made since entry to SYNTH. -/
  swapsSince : Nat := 0
  /-- R143 CLIP_COUNT, 16 bit. -/
  clipCount : Nat := 0
  /-- R143 CLIP_STICKY, 1 bit. -/
  clipSticky : Bool := false
  /-- R143 CAL_HOLD for low traffic (R137). -/
  calHold : Bool := false
  /-- R138 trims held after CNV.DACCAL until the next whole-device reset. -/
  calStuck : Bool := false
  /-- R143 GAIN_ERR, 16 bit. -/
  gainErr : Nat := 0
  /-- R704 TX chain fenced. -/
  txFenced : Bool := false
  /-- R102, R106 trims of the last calibrations; the values are free [20]. -/
  trims : TrimSet := {}
  /-- R113 entry band of a chain without a spare: the temperature band at the loss, or of a set loaded since. -/
  lossBand : Option Nat := none
  /-- R42 filter lanes lost, and which, bit per lane. -/
  lanesLost : Nat := 0
  lanes : Nat := 0
  /-- R42 canceller lanes lost on this victim chain, and which. -/
  canLanesLost : Nat := 0
  canLanes : Nat := 0
  /-- R42 the first of them, whose place the spare has taken. -/
  canSpared : Option Nat := none
  /-- R261 FENCED: canceller of this victim chain fenced (R241); subtraction goes on for 2 µs. -/
  canFenced : Bool := false
  deriving DecidableEq, Repr

/-- WIN_CONFIG of R139. -/
structure WinConfig where
  fcwA : BitVec 32 := 0x10000000
  fcwB : BitVec 32 := 0x10000000
  deriving DecidableEq, Repr

/-- The configuration of a sub-band (R176). R185 gives every field reset 0; D and L of 0 mean not configured. -/
structure SbConfig where
  enable : Bool := false
  winB : Bool := false
  offFreq : Bool := false
  forceDf : Bool := false
  autoShift : Bool := false
  df : Nat := 0
  d : Nat := 0
  l : Nat := 0
  lTx : Nat := 0
  fcwRx : Int := 0
  fcwTx : Int := 0
  bw : Nat := 0
  shCic : Nat := 0
  shFir : Nat := 0
  shDcb : Nat := 0
  deriving DecidableEq, Repr

/-- One coefficient bank: whether it is loaded (R188), Σ h (R159) and Σ n h (R175), in units of 2^-17. -/
structure Bank where
  loaded : Bool := false
  sumRe : Int := 0
  sumIm : Int := 0
  momRe : Int := 0
  momIm : Int := 0
  deriving DecidableEq, Repr

/-- What the host has set for a sub-band and the resume image keeps (R71). -/
structure SbSet where
  cfg : SbConfig := {}
  /-- R223 RX_ACT and TX_ACT, 1 bit each. -/
  rxAct : Nat := 0
  txAct : Nat := 0
  /-- R188 the two RX banks and the two TX banks. -/
  rx0 : Bank := {}
  rx1 : Bank := {}
  tx0 : Bank := {}
  tx1 : Bank := {}
  /-- R223 DCB_EN, DCB_FROZEN, DCB_K. -/
  dcbEn : Bool := false
  dcbFrozen : Bool := false
  dcbK : Nat := 8
  deriving DecidableEq, Repr

/-- A period in which outputs carry a tag (R210): the tag, the window sample of the first tagged output, and that of
the first output after it (none while the event lasts). -/
structure TagPeriod where
  tag : Nat
  start : Nat
  stop : Option Nat
  deriving DecidableEq, Repr

/-- A cross-fade in progress (R194). -/
structure Fade where
  cmd : Option CmdRef
  first : Nat
  outputs : Nat
  deriving DecidableEq, Repr

/-- A retune waiting for its window sample (R184). -/
structure Retune where
  due : Nat
  /-- Order of acceptance in the MIMO group. -/
  seq : Nat
  cmd : Option CmdRef
  members : List Nat
  fcwRx : Int
  fcwTx : Int
  deriving DecidableEq, Repr

/-- A hard switch waiting for its output (R196). -/
structure HardSwitch where
  due : Nat
  cmd : Option CmdRef
  members : List Nat
  rx : Bool
  tx : Bool
  deriving DecidableEq, Repr

/-- A synchronising reset waiting for its reset sample (R214). -/
structure SyncReset where
  due : Nat
  cmd : Option CmdRef
  members : List Nat
  /-- R237 the reset that starts the sub-band's outputs, from which its blocks count. -/
  fresh : Bool
  deriving DecidableEq, Repr

/-- A coefficient load in progress (R191, R193): the taps in units of 2^-17. -/
structure CoefLoad where
  cmd : Option CmdRef
  startedAt : Time
  members : List Nat
  tx : Bool
  bank : Nat
  taps : List (Int × Int)
  deriving DecidableEq, Repr

/-- The running state of a sub-band (04_channelisation.md, 05_filters_settling.md). -/
structure Sb where
  /-- R180 disable ramp: its end and the commands it completes. -/
  ramp : Option (Time × Option CmdRef) := none
  /-- R180 the window sample up to which stage 10 still takes what was made before the disable. -/
  drain : Option Nat := none
  /-- R185 SHED, 1 bit. -/
  shed : Bool := false
  /-- R185 LATENCY_NS, 16 bit. -/
  latency : Nat := 0
  /-- R237 window sample of the sub-band's first output after enable. -/
  firstOut : Nat := 0
  /-- R210 tag periods in force or to come. -/
  tags : List TagPeriod := []
  /-- R223 SETTLE_COUNT, 16 bit. -/
  settle : Nat := 0
  /-- R223 FADE_RX and FADE_TX. -/
  fadeRx : Option Fade := none
  fadeTx : Option Fade := none
  /-- R184, R196, R214, R193: retunes, a hard switch, synchronising resets and coefficient loads in progress that this
sub-band leads, in the order in which they started. -/
  retunes : List Retune := []
  hard : Option HardSwitch := none
  syncs : List SyncReset := []
  loads : List CoefLoad := []
  /-- R46 muted for an uncorrectable RX or TX bank word, and R253 for a map word. -/
  muteRx : Bool := false
  muteTx : Bool := false
  muteMap : Bool := false
  deriving DecidableEq, Repr

/-- CAN_CONFIGURE settings (R256) and the host freeze (R258). R256 gives EXCL_FIRST no reset value: it reads 0 [97]. -/
structure CanSet where
  enable : Bool := false
  srcMask : BitVec 4 := 15
  muAcq : Nat := 4
  muTrk : Nat := 8
  acqMs : Nat := 10
  refFloor : Nat := 100
  exclFirst : Nat := 0
  exclCount : Nat := 0
  hostFreeze : Bool := false
  deriving DecidableEq, Repr

/-- One path of a victim sub-band: what the device keeps beside its bins (R225, R227, R248, R250). -/
structure CanPath where
  /-- R261 PATH_ACT bit. -/
  active : Bool := false
  /-- R225 alignment delay, in outputs. -/
  delay : Nat := 0
  /-- R227 SCALE, 3 bit. -/
  scale : Nat := 0
  /-- R250 learned centre: window coarse word and FCW_RX; none before the bins are adapted or written. -/
  centre : Option (BitVec 32 × Int) := none
  /-- R248 CHANGE row: blocks still to be skipped. -/
  skip : Nat := 0
  /-- R239 first output whose reference the path convolves. -/
  since : Nat := 0
  /-- R241 window sample up to which subtraction goes on after a fence. -/
  lasts : Nat := 0
  /-- R238 first output whose partition may take the map values that wait; none while none wait. -/
  waits : Option Nat := none
  /-- R238, R251 while they wait for an update: the codes and the SCALE before it, and the first output whose partition may take
those; 0 once they are in force. -/
  held : Option (Nat × List (Int × Int) × Nat) := none
  deriving DecidableEq, Repr

/-- A map read or write in progress (R259, R260). -/
structure MapRead where
  cmd : CmdRef
  startedAt : Time
  paths : List Nat
  addr : Nat
  /-- R259 the entries as they stood at a partition boundary; none before it. -/
  data : Option (List Byte)
  deriving DecidableEq, Repr

/-- What one block gives to the estimates of R254, R263 and R280: of each source the transform of its references, delayed by
d_p, and the transforms of u and of r, of twice the block's length (R242, R264). -/
structure Spectra where
  refs : List (List (Rat × Rat))
  u : List (Rat × Rat)
  r : List (Rat × Rat)
  deriving DecidableEq, Repr

/-- The canceller state of a victim sub-band (06_coupling_canceller.md). -/
structure Can where
  /-- R261 ENABLED: number of bins allocated, 0 for none. -/
  nb : Nat := 0
  /-- R232 BASE_k of the location in use. -/
  base : Nat := 0
  /-- R261 CONVERGED. -/
  converged : Bool := false
  /-- R261 MODE: 0 off, 1 acquisition, 2 tracking. -/
  mode : Nat := 0
  /-- R261 FRZ_CAUSE, 5 bit. -/
  frz : BitVec 5 := 0
  p0 : CanPath := {}
  p1 : CanPath := {}
  p2 : CanPath := {}
  p3 : CanPath := {}
  /-- R261 ACHIEVED_DB in 0.1 dB, 10 bit. -/
  achieved : Nat := 0
  /-- R261 COUPLING_DB in 0.1 dB, 11 bit signed. -/
  coupling : Int := 0
  /-- R261 MEAS_FLOOR. -/
  measFloor : Bool := false
  /-- R261 DIVERGE_COUNT, 8 bit. -/
  diverge : Nat := 0
  /-- R255 consecutive measurement blocks of divergence. -/
  divRun : Nat := 0
  /-- R255 the last 32 values of ACHIEVED_DB, newest first. -/
  history : List Nat := []
  /-- R242 next block's number, counted from the first output after enable. -/
  block : Nat := 0
  /-- R249 time counted toward ACQ_MS. -/
  acqTime : Time := 0
  /-- R258 freeze in force from the last block boundary on. -/
  frozen : Bool := false
  /-- R233 move in progress: new base and time it began. -/
  moving : Option (Nat × Time) := none
  /-- R259 reads in progress. -/
  reading : List MapRead := []
  /-- R233 the new location of bins whose copy is complete, until the next partition boundary. -/
  copied : Option Nat := none
  /-- R254 passband powers of the references and of the estimate in the last 16 measurement blocks, newest first, and what
those blocks give to P_res. -/
  powers : List (Rat × Rat) := []
  spectra : List Spectra := []
  /-- R663 setting stored in early service. -/
  early : Bool := false
  deriving DecidableEq, Repr

/-- GOV_CONFIGURE settings (R294). -/
structure GovSet where
  groupTie : Bool := true
  useStored : Bool := true
  probeAuto : Bool := true
  clampDb : Nat := 20
  margin : Nat := 150
  isoInit : Int := 0
  offCeil : Int := 500
  holdoffS : Nat := 60
  restartStep : Nat := 6
  maxFail : Nat := 5
  clampHoldMs : Nat := 100
  extInitNs : Nat := 100
  oscFloor : Nat := 50
  acThr : Nat := 90
  acContrast : Nat := 50
  achMax : Nat := 55
  deriving DecidableEq, Repr

/-- A noise probe (R275, R278, R279): none of `cmd` marks an automatic one. -/
structure Probe where
  cmd : Option CmdRef
  level : Nat
  stop : Time
  /-- R278 used blocks since the probe began, or since MEASURED was cleared in it. -/
  used : Nat
  /-- R278 the passband powers of the references in the used blocks of the interval, and what those blocks give to P_u and
P_r. -/
  powers : List Rat
  spectra : List Spectra
  suspended : Bool
  everSuspended : Bool
  /-- R277 time the output last exceeded the level. -/
  lastAbove : Time
  deriving DecidableEq, Repr

/-- The governor state of a sub-band (07_stability_governor.md). Isolations and gains are in 0.0001 dB. -/
structure Gov where
  /-- R298 STATE: 0 free, 1 clamped, 2 hold-off, 3 latched. -/
  state : Nat := 0
  /-- R298 MEASURED. -/
  measured : Bool := false
  /-- R298 MEAS_FLOOR. -/
  floor : Bool := false
  /-- R263 PHYS and EFF. -/
  phys : Int := 0
  eff : Int := 0
  /-- R266 used blocks since MEASURED was cleared, up to 16. -/
  used : Nat := 0
  /-- R263 the passband powers of the references in those blocks, newest first, at most 16, and what the blocks give to P_u
and P_r. -/
  refPowers : List Rat := []
  spectra : List Spectra := []
  /-- R264 the sources correlated, bit (s mod 4). -/
  srcs : BitVec 4 := 0
  /-- R270 ceiling C; R298 CEIL 0x670 is −400, −40 dB. -/
  ceil : Int := -400000
  /-- R272 first computation made since entry to LISTEN or enable. -/
  started : Bool := false
  /-- R298 CEIL_MUTE. -/
  ceilMute : Bool := false
  /-- R265 next governor block, counted from the first output after enable, and per source the blocks still to be skipped
under the CHANGE row of R248. -/
  block : Nat := 0
  skips : Table Nat := []
  /-- R280 EXT in ns, and whether it has been measured. -/
  ext : Option Nat := none
  /-- R285 clamp in force and the end of its hold. -/
  clamp : Option (Int × Time) := none
  /-- R287 times of the trips since the last mute with the gains applied at them, newest first. -/
  trips : List (Time × Int) := []
  /-- R287 G_osc: applied gain at the first of the trips. -/
  gOsc : Int := 0
  /-- R287 end of the hold-off. -/
  holdoff : Option Time := none
  /-- R288 the hold-off has ended and the restart waits for LISTEN or for the other mutes. -/
  restartWaits : Bool := false
  /-- R288 restart cap, and R289 the REPEAT time counted without a trip: what is past, and since when it counts on. -/
  cap : Option Int := none
  capRepeat : Time := 0
  capFrom : Option Time := none
  /-- R287 times of the failures, newest first. -/
  fails : List Time := []
  /-- R299 LAST_MUTE_S, 32 bit. -/
  lastMute : Nat := 0
  /-- R296 probe running, and the result of the last one that ended. -/
  probe : Option Probe := none
  lastProbe : Nat := 0
  /-- R279 time since when MEAS_FLOOR has been 1 with no probe. -/
  floorSince : Option Time := none
  /-- R268 kept PHYS (0.1 dB) not yet stored, with its centre. -/
  lastPhys : Option (Int × BitVec 32 × Int) := none
  deriving DecidableEq, Repr

end Sys2Proof.Machine
end

