-- ==== Sys2Proof/Machine/PartsSig.lean ====
section
/-!
DEFINITION. The state of the sample path of one sub-band, stage by stage (R26, R155, R167, R203, R215, R216, R219, R239):
the histories that the next output depends on, and what the detectors and measurements gather. Every default is the value
after a whole-device reset: histories at zero.
-/

namespace Sys2Proof.Machine

/-- A complex sample word, real and imaginary part (I and Q). -/
abbrev Iq := Int × Int
/-- A complex number before its rounding. -/
abbrev Cx := Rat × Rat

/-- A gain ramp of stage 7 (R219 to R222): the gain of the last output, the ends of the ramp, its outputs made and its
length. Gains are linear amplitudes. -/
structure Ramp where
  gain : Rat := 0
  start : Rat := 0
  target : Rat := 0
  made : Nat := 64
  length : Nat := 64
  deriving DecidableEq, Repr

/-- The growth and autocorrelation detectors of a sub-band (R281, R282). -/
structure Detect where
  /-- R281 power gathered in the present window of n_L outputs, its outputs, and the sum and outputs of the window before. -/
  sum : Nat := 0
  count : Nat := 0
  before : Option (Nat × Nat) := none
  /-- R281 consecutive windows that rose by more than 3 dB. -/
  rises : Nat := 0
  /-- R282 outputs since the last evaluation. -/
  since : Nat := 0
  /-- Either detector has tripped, and the trip has not been taken. -/
  tripped : Bool := false
  deriving DecidableEq, Repr

/-- What one control tick measures at stages 6 and 9 (R29, R302): sums of squared magnitudes and the outputs in them, and
the outputs that are excluded for tags 01 or 11, and those of them that were transmitted (R313). -/
structure Meter where
  inSum : Nat := 0
  inCount : Nat := 0
  outSum : Nat := 0
  outCount : Nat := 0
  tagged : Nat := 0
  taggedSent : Nat := 0
  deriving DecidableEq, Repr

/-- What a capture point gives (R494): a stage word with its tag (R208), or the eight dB words of a loop record (R341). -/
inductive Captured where
  | word (i q : Int) (tag : Nat)
  | record (words : List Int)
  deriving DecidableEq, Repr
/-- What a capture or stream has taken from one of its sources since it started, newest first: the sample instant (R165), the
REF_DB that holds at it (R496) and the words; and whether one of them saturated (R495). -/
structure Taken where
  samples : List (Nat × Int × Captured) := []
  sat : Bool := false
  deriving DecidableEq, Repr

/-- The sample path of one sub-band. -/
structure Sig where
  /-- R152, R155 the six integrators, 73 bit, and the six comb delays. -/
  cicI : List Iq := List.replicate 6 (0, 0)
  cicC : List Iq := List.replicate 6 (0, 0)
  /-- R187 the FIR delay line, newest first, 24 bit. -/
  fir : List Iq := []
  /-- R203 the DC blocker's estimates of I and of Q, 32 bit with 8 fraction bits. -/
  dcb : Iq := (0, 0)
  /-- R165 number of the latest output, counted from the divider start, and its tag (R208). -/
  output : Nat := 0
  tag : Nat := 3
  /-- R236 the latest outputs of stages 4 and 5: u and r. -/
  u : Iq := (0, 0)
  r : Iq := (0, 0)
  /-- R494 the latest output of stage 8, the reference before tag replacement. -/
  sent : Iq := (0, 0)
  /-- R277 the latest output of stage 9 without the probe. -/
  bare : Iq := (0, 0)
  /-- R219 the gain ramp of stage 7. -/
  ramp : Ramp := {}
  /-- R370, R371 outputs that the gate's ramp has made, 0 closed. -/
  gate : Nat := 0
  /-- R382 the same for the schedule alone, whatever MUTE_N does. -/
  sched : Nat := 0
  /-- R239 the reference (stage 9 with tag 11 replaced by zero), newest first. -/
  refs : List Iq := []
  /-- R242 the residual of stage 5, and R255 the power before subtraction, newest first. -/
  resid : List Iq := []
  before : List Iq := []
  /-- R238 the coefficient set in force on each path: h_p[i] of R228. -/
  h0 : List Cx := []
  h1 : List Cx := []
  h2 : List Cx := []
  h3 : List Cx := []
  /-- R167 the TX interpolator's delay line, newest first, and the TX CIC's combs and integrators. -/
  txFir : List Iq := []
  txC : List Iq := List.replicate 6 (0, 0)
  txI : List Iq := List.replicate 6 (0, 0)
  /-- R216 window samples at which the TX histories are to restart. -/
  txZero : List Nat := []
  /-- R158 a stage has saturated since STAGE_SAT was last cleared; the window sample of a saturation that the collector has
not taken yet. -/
  sat : Bool := false
  satDue : Option Nat := none
  /-- R213, R248 the tags of those outputs, and whether their reference was gated or muted, newest first. -/
  tags : List Nat := []
  shuts : List Bool := []
  /-- R275 the two registers of the probe. -/
  probeI : Nat := 0
  probeQ : Nat := 0
  detect : Detect := {}
  meter : Meter := {}
  /-- R390 the window sample of the latest release of MUTE_N: no reference from before it enters stage 10. -/
  hush : Nat := 0
  /-- R363 the stage-6 powers of the present gating frame by symbol, and their outputs, while the group learns. -/
  symbols : Table (Nat × Nat) := []
  /-- R382 the stage-6 powers since the last evaluation, over outputs at which the gate is fully open, and how many. -/
  donor : Nat × Nat := (0, 0)
  deriving DecidableEq, Repr

/-- The transmit converter of a chain (R134 to R136, R167, R407): the words of its two windows, newest first; the converter
samples of the sum, newest first; the place in the 200 ns ramp at its input, in converter samples; and the clip episode. -/
structure Dac where
  a : List Iq := []
  b : List Iq := []
  line : List Rat := []
  place : Nat := 0
  code : Int := 0
  /-- R137 the time of the last code above −40 dBFS: a sine of that level has the peak code 81.9. -/
  loudAt : Time := 0
  /-- R136 an episode is in progress, its clean samples so far, and episodes begun that DAC_CLIP_EPISODE has not counted. -/
  clipping : Bool := false
  clean : Nat := 0
  begun : Nat := 0
  deriving DecidableEq, Repr

/-- A synchronising reset of the RX filter (R215): histories and the estimate at zero. -/
def Sig.resetRx (x : Sig) : Sig :=
  { x with cicI := List.replicate 6 (0, 0), cicC := List.replicate 6 (0, 0), fir := [], dcb := (0, 0) }
/-- A synchronising reset of the TX side (R216). -/
def Sig.resetTx (x : Sig) : Sig := { x with txFir := [], txC := List.replicate 6 (0, 0), txI := List.replicate 6 (0, 0) }
/-- The same at the moment at which the first output after the reset enters stage 10. -/
def Sig.resetTxAt (x : Sig) (m : Nat) : Sig := { x with txZero := x.txZero ++ [m] }
/-- The set in force of a path. -/
def Sig.taps (x : Sig) : Nat → List Cx
  | 0 => x.h0
  | 1 => x.h1
  | 2 => x.h2
  | _ => x.h3
def Sig.setTaps (x : Sig) (i : Nat) (h : List Cx) : Sig :=
  if i = 0 then { x with h0 := h } else if i = 1 then { x with h1 := h } else if i = 2 then { x with h2 := h }
  else { x with h3 := h }

end Sys2Proof.Machine
end

