-- ==== Sys2Proof/Machine/PartsCtl.lean ====
section
/-!
DEFINITION. The state of the control engine, TDD timing and network protection
(08_control_engine.md, 09_tdd_network_protection.md). Every default is the value at reset.
-/

namespace Sys2Proof.Machine

/-- One gain-scheduling region (R324, R346): coefficient codes and shifts, and the lower breakpoint in 0.01 dB.
The defaults are the reset coefficients of an inner loop. -/
structure Region where
  kp : Nat := 0x10000000
  ki : Nat := 0x01000000
  kaw : Nat := 0x10000000
  shKp : Nat := 30
  shKi : Nat := 30
  shAw : Nat := 30
  bp : Int := 0
  deriving DecidableEq, Repr

/-- What the host has set for a loop (R343 to R345). The defaults are those of an inner loop; an outer loop's
reset values are `outerReset` of Machine/Ops.lean. -/
structure LoopSet where
  mode : Nat := 1
  /-- R344 SP, G_FIX and SHARE in 0.01 dB. -/
  sp : Int := -2000
  gFix : Int := 0
  share : Int := 0
  /-- R344 SLEW in 0.01 dB/ms. -/
  slew : Nat := 1000
  /-- R345 NREG, MEAS_AVG, OUTER_DIV. -/
  nreg : Nat := 1
  measAvg : Nat := 0
  outerDiv : Nat := 8
  r0 : Region := {}
  r1 : Region := {}
  r2 : Region := {}
  r3 : Region := {}
  r4 : Region := {}
  r5 : Region := {}
  r6 : Region := {}
  r7 : Region := {}
  deriving DecidableEq, Repr

/-- A test-signal injection (R338 to R342). -/
structure Injection where
  cmd : CmdRef
  point : Nat
  capture : Bool
  kind : Nat
  amp : Int
  duration : Nat
  pre : Nat
  order : Nat
  hold : Nat
  fStart : Nat
  fEnd : Nat
  /-- updates made since execution. -/
  done : Nat
  /-- R338 LFSR. -/
  lfsr : Nat
  /-- R342 v differed from u on an injected update. -/
  limited : Bool
  deriving DecidableEq, Repr

/-- A CTL_SET_POINT waiting for its arrival (R320). -/
structure SetPointWait where
  cmd : CmdRef
  startedAt : Time
  deriving DecidableEq, Repr

/-- A CTL_SET_SCHEDULE that awaits its update (R345): the command, the region it writes, and the loop's settings. -/
structure Sched where
  cmd : CmdRef
  number : Nat
  nreg : Nat
  region : Region
  avg : Nat
  div : Nat
  deriving DecidableEq, Repr

/-- A loop of the control engine (R300): 0 to 127 inner, 128 to 135 outer. Powers and gains are dB words. -/
structure Loop where
  /-- R309 output v (vo for an outer loop); −40 dB at rest. -/
  v : DbWord := -671088640
  /-- R303 the output of the update before, which the gain stage has in the present control tick. -/
  stage : DbWord := -671088640
  /-- R309 integrator. -/
  i : DbWord := -671088640
  /-- R349 REGION. -/
  region : Nat := 0
  /-- R349 LIMIT. -/
  limit : Nat := 0
  /-- R349 HOLD. -/
  hold : Bool := false
  /-- R349 REST. -/
  rest : Bool := true
  /-- R319 the floor has been reached by the ramp from zero: its end. -/
  floorAt : Option Time := none
  /-- R316 ramped values. -/
  spRamp : DbWord := -335544320
  gfixRamp : DbWord := -671088640
  /-- R304 the limiter holds the gain at a bound of R31. -/
  bounded : Bool := false
  /-- R349 BOUND_MUTE. -/
  boundMute : Bool := false
  /-- R305 first update after rest made. -/
  boundSeen : Bool := false
  /-- R327 the coefficients that the last computed update used; none before the start update. -/
  used : Option Region := none
  /-- R302 y_in and y_out (P_comp for an outer loop); −127 dBFS. -/
  yIn : DbWord := -2130706432
  yOut : DbWord := -2130706432
  /-- R302 their averages in linear power. -/
  inPower : Rat := 0
  outPower : Rat := 0
  /-- R302 a first measurement has been taken since rest. -/
  inSeen : Bool := false
  outSeen : Bool := false
  /-- R313 y_out samples of the interval since the last outer update, and whether a hold was for the tags of outputs that were
transmitted. -/
  outs : List Rat := []
  tagHold : Bool := false
  /-- R349 MISSED, MISSED_COUNT. -/
  missed : Bool := false
  missedCount : Nat := 0
  /-- R337 consecutive missed updates. -/
  missRun : Nat := 0
  /-- R349 APPLIED in 0.01 dB; none while stage 7 applies zero. -/
  applied : Option Int := none
  /-- R321 CTL_SET_MODE that awaits its hand-over update: the mode and its commands. -/
  handover : Option (Nat × Option CmdRef) := none
  /-- R308 mode in force. -/
  mode : Nat := 1
  /-- R316 SHARE in force, in 0.01 dB. -/
  share : Int := 0
  /-- R343 result of the latest hand-over. -/
  handed : Nat := 0
  /-- R320 waits for SP, G_FIX, SHARE. -/
  waitSp : Option SetPointWait := none
  waitGfix : Option SetPointWait := none
  waitShare : Option SetPointWait := none
  /-- R345 CTL_SET_SCHEDULEs that await the next update. -/
  sched : List Sched := []
  /-- R338 injection running. -/
  inj : Option Injection := none
  /-- R330 slot held. -/
  slot : Option Nat := none
  /-- R353 muted for uncorrectable errors: the regions that have failed and are not rewritten yet. -/
  memMute : List Nat := []
  /-- R309 last law output u, for R344's result. -/
  u : DbWord := 0
  deriving DecidableEq, Repr

/-- A slot of the repetitive controller (R329, R348). Its memory is a table of dB words. -/
structure RepSlot where
  used : Bool := false
  learn : Bool := false
  apply : Bool := false
  frameAlign : Bool := false
  lead : Nat := 0
  period : Nat := 0
  kr : Nat := 0
  shKr : Nat := 0
  forget : Nat := 0
  repMax : Nat := 0
  j : Nat := 0
  periodErr : Bool := false
  mem : Table Int := []
  deriving DecidableEq, Repr

/-- The plausibility supervisor's settings (R351). -/
structure PlausSet where
  en : Bool := false
  detSrc : Nat := 0
  tol : Nat := 30
  timeMs : Nat := 100
  floor : Nat := 30
  deriving DecidableEq, Repr

/-- CTL_LINEUP (R352), 128 bits: a calibration object of the store. -/
structure Lineup where
  b : List Int := [0, 0, 0, 0, 0]
  refDbm : Int := 0
  icpt : Nat := 0
  slope : Int := 0
  deriving DecidableEq, Repr

/-- The supervisor and the outer measurements of a TX chain (R333 to R335, R350). -/
structure Plaus where
  /-- R335 start of the mismatch timer. -/
  timer : Option Time := none
  raised : Bool := false
  /-- R350 PLAUS_ERR in 0.1 dB. -/
  err : Int := 0
  /-- R334 time of the latest detector result taken while transmitting, and its code. -/
  detAt : Option Time := none
  detCode : Nat := 0
  /-- R465 the THROTTLE in force, taken at the chain's first outer update after a round, in 0.1 dB. -/
  throttle : Nat := 0
  /-- R350 P_COMP, a dB word. -/
  pComp : DbWord := -2130706432
  deriving DecidableEq, Repr

/-- TDD_CONFIGURE settings of a timing group (R392). R392 and R398 give only HOLDOVER_S a reset; the others read 0. -/
structure TddSet where
  enable : Bool := false
  learn : Bool := false
  autoApply : Bool := false
  source : Nat := 0
  scs : Nat := 0
  period : Nat := 0
  maskDl : BitVec 16 := 0
  maskUl : BitVec 16 := 0
  detSb : Nat := 0
  holdoverS : Nat := 10
  nId : Nat := 0
  ssbOffset : Int := 0
  leadDl : Nat := 0
  lagDl : Nat := 0
  leadUl : Nat := 0
  lagUl : Nat := 0
  ulAdvance : Nat := 0
  baseDl : Nat := 0
  lenDl : Nat := 0
  baseUl : Nat := 0
  lenUl : Nat := 0
  syncOffset : Int := 0
  frameT0 : Nat := 0
  /-- R398 PAGE_DL and PAGE_UL: active pages, and the entries in each of the four pages. -/
  pageDl : Nat := 0
  pageUl : Nat := 0
  cntDl0 : Nat := 0
  cntDl1 : Nat := 0
  cntUl0 : Nat := 0
  cntUl1 : Nat := 0
  deriving DecidableEq, Repr

/-- A gating frame that has ended: the settings and the entries of both active pages in it (R369, R370). -/
structure GateFrame where
  set : TddSet
  dl : List (BitVec 64)
  ul : List (BitVec 64)
  deriving DecidableEq, Repr

/-- A gate write that awaits activation (R374): the command, the direction or both, and the activation time. -/
structure GateWrite where
  cmd : Option CmdRef
  dl : Bool
  ul : Bool
  due : Time
  deriving DecidableEq, Repr

/-- A timing group (R361, R363, R398). -/
structure Tdd where
  /-- R398 SYNC: 0 OFF, 1 ACQUIRING, 2 LOCKED, 3 HOLDOVER, 4 EXPIRED. -/
  sync : Nat := 0
  /-- R358 start of the present radio frame on the downlink timeline, in window periods from the divider start. -/
  frame : Int := 0
  /-- R398 SFN, GF_IDX. -/
  sfn : Nat := 0
  gf : Nat := 0
  /-- R371 gates follow the schedule (from a gating frame start after LOCKED). -/
  gating : Bool := false
  /-- R362 end of the holdover. -/
  holdEnd : Time := 0
  /-- R398 TIME_ERR in ns. -/
  timeErr : Int := 0
  /-- R361 consecutive measurements above 24 ticks. -/
  bad : Nat := 0
  /-- R362 correction so far, in ticks. -/
  corr : Int := 0
  /-- R362 estimate of the root source's frequency offset against the source, in 2^-32, and the part of a window period that
  the extrapolation of a HOLDOVER still owes. -/
  freq : Int := 0
  drift : Int := 0
  /-- R375 writes pending, downlink and uplink. -/
  pendDl : Option GateWrite := none
  pendUl : Option GateWrite := none
  /-- R393 changes that await the next gating frame start. -/
  pendSet : Option TddSet := none
  /-- R363 learning: gating frames measured. -/
  learning : Option Nat := none
  /-- R363 for each symbol, the frames so far in which it lay 10 dB or more above the lowest. -/
  counts : List Nat := []
  /-- R363 learning has ended since LEARN was set or the group was last LOCKED. -/
  learnDone : Bool := false
  /-- R398 LEARNED. -/
  learned : Bool := false
  /-- R71 pages that hold a learned pattern: the direction, uplink true, and the page. -/
  learnedPages : List (Bool × Nat) := []
  /-- R358 the latest detected burst or edge, since the group began to acquire, and the period of the SSB bursts, the shortest
  between two detections. -/
  heardAt : Option Time := none
  beat : Option Time := none
  /-- R398 MIXED_SYM, CLASH_COUNT. -/
  mixed : Nat := 0
  clash : Nat := 0
  /-- R370 sub-bands whose gate is open or ramping open, per direction. -/
  openDl : BitVec 16 := 0
  openUl : BitVec 16 := 0
  /-- R370, R399 the time the ramp of a sub-band's gate ends: local index, + 16 for the uplink. -/
  ramps : Table Time := []
  /-- R371 the latest moves of the gates, newest first: the window sample, and the open sub-bands before it. -/
  movesDl : List (Nat × BitVec 16) := []
  movesUl : List (Nat × BitVec 16) := []
  /-- R369, R370, R413 the two gating frames before the present one, newest first, whose last runs may still be open. -/
  ended : List GateFrame := []
  /-- R376 direction muted for an uncorrectable page word. -/
  muteDl : Bool := false
  muteUl : Bool := false
  /-- R361 source's input has been lost with its pin (R435). -/
  srcLost : Bool := false
  deriving DecidableEq, Repr

/-- TDD_OUT_CONFIG (R400). -/
structure TddOut where
  beamEn : Bool := false
  beamGroup : Nat := 0
  fsyncEn : Bool := false
  fsyncGroup : Nat := 0
  beamDefault : Nat := 0
  beamDelay : Int := 0
  fsyncWidth : Nat := 123
  deriving DecidableEq, Repr

/-- NP_SET_LIMITS KIND 0 (R397). -/
structure NpSb where
  band : Nat := 255
  outMax : Int := 0
  deriving DecidableEq, Repr

/-- NP_SET_LIMITS KIND 1 (R397), in 0.01 dB. -/
structure NpBand where
  ulnEn : Bool := true
  donorEn : Bool := true
  bsRef : Int := 4600
  dlRxGain : Int := 0
  ulSysOffset : Int := 0
  ulNm : Int := 1000
  nf : Int := 500
  dlDet : Int := -10000
  donorLossMs : Nat := 2000
  deriving DecidableEq, Repr

/-- NP_SET_LIMITS KIND 2 (R397). -/
structure NpChain where
  regrowthEn : Bool := true
  lNp : Int := 0
  aclrLim : Nat := 45
  regrowthMax : Nat := 6
  deriving DecidableEq, Repr

/-- The running state of a protection band (R382 to R386, R399). -/
structure Band where
  /-- R399 DL_LEVEL in 0.01 dB; none without a level. -/
  level : Option Int := none
  /-- R399 LC_EST in 0.01 dB. -/
  lc : Int := 0
  /-- R399 ULN_CEIL in 0.01 dB; none before the first. -/
  uln : Option Int := none
  /-- R385 the level is lost, or has not come yet. -/
  muted : Bool := false
  /-- R386 the mute holds a sub-band, and NET.DONORLOSS lasts. -/
  lost : Bool := false
  /-- R385 time since when donor DL has been undetected, and since when it has been above release. -/
  undetectedFrom : Option Time := none
  aboveFrom : Option Time := none
  /-- R382 the evaluation before, or the entry to LISTEN. -/
  evalAt : Option Time := none
  deriving DecidableEq, Repr

/-- The regrowth back-off of a TX chain (R388): 0.1 dB, clean evaluations, and evaluations at the limit. -/
structure Regrowth where
  /-- R387 the evaluation before. -/
  evalAt : Option Time := none
  db : Nat := 0
  clean : Nat := 0
  overRun : Nat := 0
  deriving DecidableEq, Repr

end Sys2Proof.Machine
end

