-- ==== Sys2Proof/Machine/PartsIo.lean ====
section
/-!
DEFINITION. The state of the front end, housekeeping, thermal management, the host link and the capture engine
(10_front_end_control.md to 12_host_link_capture.md). Every default is the value at reset.
-/

namespace Sys2Proof.Machine

/-- FE_SEQ_CONFIGURE KIND 0 (R411): a TX chain's PA sequence. -/
structure FePa where
  paenPol : Bool := false
  pabiasPol : Bool := false
  usePabias : Bool := true
  upBias : Nat := 0
  upPaen : Nat := 2458
  upRf : Nat := 6144
  dnPaen : Nat := 123
  dnBias : Nat := 1229
  deriving DecidableEq, Repr

/-- FE_SEQ_CONFIGURE KIND 1 (R411): an RX chain's LNA and attenuator. -/
structure FeRx where
  lnaenPol : Bool := false
  useLna : Bool := true
  attBase : Nat := 0
  attSafe : Nat := 63
  deriving DecidableEq, Repr

/-- A PA sequence that runs (R406, R407): its start, and the values it started with (R410). -/
structure Seq where
  up : Bool
  startedAt : Time
  cfg : FePa
  /-- R408 outputs that the sequence still has to change. -/
  bias : Bool
  paen : Bool
  deriving DecidableEq, Repr

/-- The front end of a chain (R437). -/
structure Fe where
  /-- R437 SEQ off/on and the sequence running. -/
  seq : Option Seq := none
  on : Bool := false
  /-- R437 PAEN and PABIAS asserted; the balls' levels follow the polarities and the pins (R402). -/
  paen : Bool := false
  pabias : Bool := false
  /-- R437 LNAEN asserted. -/
  lnaen : Bool := false
  /-- R437 ATT_CODE, 6 bit; driven from PROFILE on. -/
  att : Nat := 0
  /-- R437 PAEN_TRIP, PAEN_TRIPS. -/
  trip : Bool := false
  trips : Nat := 0
  /-- R92 TX_ACTIVE bit. -/
  txActive : Bool := false
  /-- R406 power-up due, R408 power-down due. -/
  dueUp : Bool := false
  dueDown : Bool := false
  /-- R425, R469 RF-DAC input forced to zero outside a sequence. -/
  dacZero : Bool := false
  /-- R390 end of the force that MUTE_N put on the RF-DAC input. -/
  forceTill : Time := 0
  /-- R75 the RADIO_SET_STATE or walk executing started the sequence that runs or is due. -/
  mine : Bool := false
  deriving DecidableEq, Repr

/-- PG_CONFIGURE settings (R418). R438 gives reset ENABLED 0; the other fields read 0 until the first PG_CONFIGURE. -/
structure PgSet where
  enable : Bool := false
  pol : Bool := false
  pair : Bool := false
  latch : Bool := false
  safe : Nat := 0
  src : Nat := 0
  chain : Nat := 255
  sel : Nat := 0
  p0 : Nat := 0
  p1 : Nat := 0
  p2 : Nat := 0
  p3 : Nat := 0
  deadtime : Nat := 0
  deriving DecidableEq, Repr

/-- A pulse-generator channel (R438). -/
structure Pg where
  /-- R412 schedule asserted. -/
  level : Bool := false
  /-- R426 trip latched, its source and the count. -/
  tripped : Bool := false
  tripSrc : Nat := 0
  tripCount : Nat := 0
  /-- R417 change that awaits its moment, and its commands. -/
  change : Option (PgSet × CmdRef) := none
  /-- R434 claimed by PG_CONFIGURE; an odd channel by its even one (R415). -/
  owned : Bool := false
  paired : Bool := false
  /-- R414, R415 on an even channel: until then neither of a pair is newly asserted, for DEADTIME after an edge that no
  schedule foretold. -/
  quietTill : Time := 0
  deriving DecidableEq, Repr

/-- WM_CONFIGURE settings of a trip source (R429). -/
structure WmSet where
  enable : Bool := false
  mode : Nat := 0
  hyst : Nat := 8
  lo : Nat := 0
  hi : Nat := 1023
  dest : BitVec 24 := 0
  blankPg : Nat := 255
  blankTicks : Nat := 0
  tripGpio : Nat := 255
  deriving DecidableEq, Repr

/-- A trip source (R439). -/
structure Wm where
  asserted : Bool := false
  /-- R422 end of the blanking in progress. -/
  blank : Option Time := none
  /-- R439 FAILED. -/
  failed : Bool := false
  /-- R423 failed the last self-test. -/
  failRun : Nat := 0
  sticky : Bool := false
  count : Nat := 0
  /-- R419 the input's last known code. -/
  input : Nat := 0
  deriving DecidableEq, Repr

/-- HK_CONFIGURE KIND 0 (R454). -/
structure HkEntry where
  enable : Bool := false
  urgent : Bool := false
  engine : Bool := false
  trig : Nat := 0
  channel : Nat := 0
  trigIdx : Nat := 0
  delay : Nat := 0
  deriving DecidableEq, Repr

/-- HK_CONFIGURE KIND 1 (R454). -/
structure HkTimer where
  enable : Bool := false
  edge : Bool := false
  period : Nat := 0
  phase : Nat := 0
  /-- R447 its pin has been lost. -/
  pinLost : Bool := false
  /-- R447 tick of the last firing, so that no boundary fires twice; edges that still have to fire. -/
  last : Option Nat := none
  edges : List Time := []
  deriving DecidableEq, Repr

/-- A conversion's result (R456): URGENT, ENTRY, CHANNEL, TIME (in ticks) and CODE, with VALID. -/
structure HkResult where
  valid : Bool := false
  urgent : Bool := false
  entry : Nat := 0
  channel : Nat := 0
  time : Nat := 0
  code : Nat := 0
  deriving DecidableEq, Repr

/-- A request for a conversion (R446, R448): its class (0 urgent, 1 round, 2 normal), tick, entry (63 the round),
channel and consumer. -/
structure HkReq where
  cls : Nat
  due : Time
  entry : Nat
  channel : Nat
  engine : Bool
  deriving DecidableEq, Repr

/-- Housekeeping (R442 to R458). -/
structure Hk where
  /-- R446 requests in their delay. -/
  delayed : List HkReq := []
  /-- R448 requests that wait for the converter. -/
  waiting : List HkReq := []
  /-- R442 conversion in progress and its end. -/
  busy : Option (HkReq × Time) := none
  /-- R334 the TX chains that transmitted with a gate open when it sampled its input. -/
  sends : List Nat := []
  /-- R442, R444 the code of the housekeeping DAC when it sampled its input. -/
  dacAt : Nat := 0
  /-- R456 HK_DATA, and the time at which its consumer takes it (R451). -/
  data : HkResult := {}
  takenAt : Time := 0
  /-- R451 CONSUMER of the result, 0 firmware. -/
  byEngine : Bool := false
  /-- R24, R451 a stall of firmware keeps the result from its consumer. -/
  stalled : Bool := false
  /-- R458 HK_OVR, FENCED, OVR_LAST_CH, OVR_COUNT, TRIG_MISS, DROP_COUNT. -/
  ovr : Bool := false
  fenced : Bool := false
  ovrLastCh : Nat := 0
  ovrCount : Nat := 0
  trigMiss : Nat := 0
  dropCount : Nat := 0
  deriving DecidableEq, Repr

/-- TH_CONFIGURE KIND 1 (R474). -/
structure XsSet where
  enable : Bool := false
  channel : Nat := 0
  zone : Nat := 4
  t0 : Int := 0
  c0 : Nat := 0
  slope : Int := 0
  deriving DecidableEq, Repr

/-- Thermal management (R459 to R476). Temperatures in 0.1 °C. -/
structure Th where
  /-- R475 BAND. -/
  band : Nat := 1
  /-- R475 STOP, TRIP_ANALOG, STOP_COUNT. -/
  stop : Bool := false
  tripAnalog : Bool := false
  stopCount : Nat := 0
  /-- R470 analogue comparators that read 130 °C or more, 12 bit. -/
  hot : BitVec 12 := 0
  /-- R475 THROTTLE in 0.1 dB. -/
  throttle : Nat := 0
  hotZone : Nat := 0
  tEff : Int := 0
  /-- R475 PRED, 0.1 ms. -/
  pred : Nat := 65535
  /-- R474 AUTO_RESUME, the external sensors and OFS in force: what TH_CONFIGURE had set when the last round began. -/
  auto : Bool := true
  xs : Table XsSet := []
  ofs : Table Int := []
  /-- R460, R461 the last code that firmware has received in a round, with 1 added, for each channel; the channel of the
  latest one, and what it replaced, which comes back where that result is lost (R452). -/
  codes : Table Nat := []
  prior : Nat × Nat := (0, 0)
  /-- R471 consecutive rounds below 105 °C. -/
  cool : Nat := 0
  /-- R461 rounds since reset or wake; R462 rounds since the last check. -/
  rounds : Nat := 0
  /-- R461 round in progress and the time of the last one. -/
  inRound : Bool := false
  lastRound : Option Time := none
  /-- R461 the last round was timed by the fallback oscillator; the start of the round counter of STANDBY. -/
  lastFallback : Bool := false
  roundBase : Time := 0
  /-- R462 broken sensors: TS in bits 0 to 11, XS in bits 16 to 23. -/
  broken : BitVec 24 := 0
  /-- R463 consecutive rounds 10 °C or more away from both neighbours, per sensor. -/
  odd : Table Nat := []
  /-- R476 T_ZONE per zone (none 0x8000), T_PEAK, and the last 8 values (R467). -/
  zone : Table Int := []
  peak : Table Int := []
  past : Table (List Int) := []
  /-- R468 orderly stop in progress: fade end and the power-downs; R469 stop's snapshot written. -/
  fadeEnd : Option Time := none
  /-- R468 the fade has ended, and its weight stays 0 until the radio leaves LISTEN. -/
  fadeDone : Bool := false
  /-- R470 an analogue trip whose snapshot and way to STANDBY await firmware. -/
  tripWaits : Bool := false
  orderly : Bool := false
  snapDone : Bool := false
  stopZone : Nat := 0
  /-- R472 resume target: state, enables; whether a host request has replaced it. -/
  resume : Nat × BitVec 8 × BitVec 2 := (1, 0, 0)
  /-- R109 time of the last store write of the trims. -/
  trimAt : Time := 0
  /-- R268 time at which firmware last stored the kept isolations. -/
  isoAt : Time := 0
  /-- R477 consecutive rounds with the bandgap or ground out of range, and per rail. -/
  adcBad : Nat := 0
  railBad : Table Nat := []
  deriving DecidableEq, Repr

/-- The PCIe function's configuration header and the registers that R483 names (the values the rule gives; PCI Express lays
the header out). The base addresses of the BARs are the host's; D3hot and the error status of advanced error reporting change by
what PCI Express says, for which the table has no row [21]. -/
structure PcieConfig where
  vendor : BitVec 16 := 0x1F8B
  device : BitVec 16 := 0x7680
  subVendor : BitVec 16 := 0x1F8B
  subsystem : BitVec 16 := 0x0001
  classCode : BitVec 24 := 0x118000
  revision : BitVec 8 := 0x01
  /-- Sizes in bytes and base addresses of BAR0, BAR2 and BAR4, each 64-bit and non-prefetchable. -/
  barSize : List Nat := [65536, 16384, 65536]
  barBase : List (BitVec 64) := [0, 0, 0]
  vectors : Nat := 2048
  maxPayload : Nat := 256
  maxRead : Nat := 512
  /-- Power management: D0, or D3hot. -/
  d3hot : Bool := false
  /-- Advanced error reporting: uncorrectable and correctable error status. -/
  aerUncor : BitVec 32 := 0
  aerCor : BitVec 32 := 0
  deriving DecidableEq, Repr
/-- An entry of the MSI-X table (R486): the message's address and data, and its mask, set at reset [21]. -/
structure MsixVec where
  addr : BitVec 64 := 0
  data : BitVec 32 := 0
  masked : Bool := true
  deriving DecidableEq, Repr
/-- The identifiers of a USB device function and its one interface, class 0xFF where the spec gives it (R488), and whether the
host has enumerated it at Full-Speed (R489). -/
structure UsbFunction where
  vendor : BitVec 16 := 0x1F8B
  product : BitVec 16
  vendorClass : Bool := true
  fullSpeed : Bool := false
  deriving DecidableEq, Repr

/-- The host link (R478 to R493, R514). -/
structure Link where
  /-- R514 MODE. -/
  mode : Nat := 0
  pcieUp : Bool := false
  usb3Up : Bool := false
  usb2Up : Bool := false
  /-- R514 LANES_OK, 2 bit. -/
  lanesOk : BitVec 2 := 3
  startG3 : Bool := false
  dbDrop : Nat := 0
  downCount : Nat := 0
  retrain : Nat := 0
  /-- R487 Bus Master Enable. -/
  busMaster : Bool := false
  /-- R483 the configuration header of the PCIe function. -/
  config : PcieConfig := {}
  /-- R486 MSI-X enabled, the function masked, the table of BAR4, and the pending vectors. -/
  msixOn : Bool := false
  msixMask : Bool := false
  msixVec : Table MsixVec := []
  msixPend : Table Bool := []
  /-- R488, R489 the USB device functions. -/
  usb3Fn : UsbFunction := { product := 0x7681 }
  usb2Fn : UsbFunction := { product := 0x7682 }
  /-- R506 the blocks that wait on each USB3 stream endpoint, oldest first, with their slots. -/
  epBlocks : Table (List (Nat × List Byte)) := []
  /-- R485 MIRROR_SEQ, 64 bit, and the mirror's words by offset; the identification stands there from the start. -/
  mirrorSeq : Nat := 0
  mirror : Table Nat := [(0, 0x000076801F8B0001)]
  mirrorAt : Time := 0
  /-- R491 time of the loss, in operating seconds and sub-seconds. -/
  lostAt : Option (Nat × Nat) := none
  lostTime : Time := 0
  /-- R491, R492 the LINK events that await the end of delivery (R548), oldest first. -/
  linkEvent : List (Nat × Nat × Nat × Nat) := []
  deriving DecidableEq, Repr

/-- CAP_CONFIGURE settings of a slot (R508). -/
structure CapSet where
  configured : Bool := false
  point : Nat := 0
  winB : Bool := false
  compact : Bool := false
  nsrc : Nat := 1
  shift : Nat := 0
  srcs : List Nat := []
  trig : Nat := 0
  trigArg : Nat := 0
  level : Int := 0
  tAt : Nat := 0
  pre : Nat := 0
  blockKib : Nat := 0
  deriving DecidableEq, Repr

/-- A running stream (R503 to R507, R513). -/
structure Stream where
  run : Bool := false
  usb3 : Bool := false
  cmd : Option CmdRef := none
  /-- R497, R499 the start event in window samples; none until the gating frame starts that TRIG 5 names. -/
  started : Option Nat := none
  /-- R504 rate in bit/s. -/
  rate : Nat := 0
  /-- R513 GAP_COUNT, BLOCKS. -/
  gap : Nat := 0
  blocks : Nat := 0
  /-- R503 next SEQ, blocks abandoned since the last delivered one, and in all. -/
  seq : Nat := 0
  gapSince : Nat := 0
  abandoned : Nat := 0
  /-- R506 USB3 endpoint. -/
  ep : Nat := 0
  /-- R507 a stop awaits its last block: status and subcode. -/
  ending : Option (Nat × Nat) := none
  deriving DecidableEq, Repr

/-- The buffer capture and the capture buffer (R498 to R502, R512). -/
structure Cap where
  /-- R512 OWNER (last writer). -/
  lastWriter : Nat := 0
  /-- R434 present owner: 0 none, 1 CAP_START, 2 CTL_INJECT. -/
  owner : Nat := 0
  /-- R512 STATE, 3 bit. -/
  state : Nat := 0
  nsrcM1 : Nat := 0
  sat : Bool := false
  truncated : Bool := false
  sizeLog2 : Nat := 0
  valid : Nat := 0
  trigPos : Nat := 0
  /-- R509 the CAP_START that runs, and the trigger sample's instant. -/
  cmd : Option CmdRef := none
  trigAt : Nat := 0
  /-- R497 instant of the first sample, in window samples. -/
  started : Nat := 0
  /-- R45 the capture buffer, 16 MiB: its last contents in time order, beyond which it reads 0 [18]. -/
  buf : List Byte := []
  deriving DecidableEq, Repr

end Sys2Proof.Machine
end

