-- ==== Sys2Proof/Machine/PartsHost.lean ====
section
/-!
DEFINITION. The state of the command protocol, the fault collector, the recorder and its store, the two-wire buses,
the boot and the pins (13_command_protocol.md to 18_pins_electrical.md). Every default is the value at reset.
-/

namespace Sys2Proof.Machine

/-- What the block sends to the outside (R503, R520, R522, R530 to R534, R552, R556). -/
inductive Output where
  | completion (sink : Nat) (bytes : List Byte)
  | event (sink : Nat) (bytes : List Byte)
  | data (sink : Nat) (bytes : List Byte)
  | hostWrite (addr : Nat) (bytes : List Byte)
  | shadow (addr : Nat) (bytes : List Byte)
  | msix (vector : Nat) (addr : BitVec 64) (data : BitVec 32)
  | telemetry (ring : Nat) (bytes : List Byte)
  | block (slot : Nat) (bytes : List Byte)
  | busStart (bus op target : Nat) (bytes : List Byte)
  | busClear (bus : Nat)
  deriving DecidableEq, Repr

/-- How far a command has come (R537, R539, R545). -/
inductive Phase where
  | fetched
  | held (since : Time)
  | running (from_ : Time)
  | done (status sub : Nat) (result : Nat)
  deriving DecidableEq, Repr

/-- A command in the queue of its source. -/
structure Entry where
  id : Nat
  op : Nat
  req : Request
  phase : Phase := .fetched
  fetchedAt : Time := 0
  /-- R535 length of the hold that was released, in whole µs. -/
  heldUs : Option Nat := none
  /-- R532 data the command sends to the host, delivered before its completion on USB. -/
  data : List Byte := []
  /-- R549 the ring has been discarded while the command ran: its completion is discarded and counted. -/
  discarded : Bool := false
  deriving DecidableEq, Repr

/-- An item that awaits delivery (R533): its kind (1 completion, 2 event, 3 data of a USB path, 4 telemetry, 5 data for a host
buffer at an address), bytes, and its place in the order in which the items arose (R548). -/
structure Item where
  kind : Nat
  bytes : List Byte
  addr : Nat := 0
  no : Nat := 0
  deriving DecidableEq, Repr

/-- RING_CTX of R523. -/
structure Ring where
  base : Nat := 0
  tail : Nat := 0
  head : Nat := 0
  peer : Nat := 65535
  irqEn : Bool := false
  vector : Nat := 0
  type : Nat := 0
  log2size : Nat := 0
  /-- 0 UNUSED, 1 ACTIVE, 2 STOPPED, 3 DRAINING, 4 SUSPENDED. -/
  state : Nat := 0
  phase : Bool := true
  weight : Nat := 0
  modCount : Nat := 0
  modUs : Nat := 0
  esz : Nat := 0
  err : Nat := 0
  started : Nat := 0
  completed : Nat := 0
  lost : Nat := 0
  /-- R524 state before SUSPENDED. -/
  before : Nat := 0
  /-- R522 entries written since the last message, and the time of the first of them. -/
  since : Nat := 0
  sinceAt : Time := 0
  /-- R529 TAIL in force at RING_DELETE, the deleting command, and its ABORT flag. -/
  drain : Option (Nat × CmdRef × Bool) := none
  /-- R542 credit left in the arbitration round. -/
  credit : Nat := 0
  deriving DecidableEq, Repr

/-- The telemetry set of a ring (R555, R556). -/
structure Tlm where
  periodUs : Nat := 0
  items : List (Nat × Nat × Nat) := []
  seq : Nat := 0
  lostSince : Nat := 0
  last : Option Time := none
  deriving DecidableEq, Repr

/-- The setup words of one admin ring (R526). -/
structure Setup where
  lo : Option (BitVec 26) := none
  hi : Option (BitVec 26) := none
  shape : Option (BitVec 26) := none
  deriving DecidableEq, Repr

/-- An event sink's losses (R553): count and first SEQ lost. -/
structure Sink where
  lost : Nat := 0
  first : Nat := 0
  deriving DecidableEq, Repr

/-- A recovery barrier (R545). -/
structure Barrier where
  number : Nat
  cause : Nat
  ring : Nat
  aborted : Nat
  /-- R546 the number of the last command fetched before RECOVERY_BEGIN, and per ring the entries whose doorbell had
been written and which were not yet fetched. -/
  upTo : Nat
  owed : Table Nat
  deriving DecidableEq, Repr

/-- The command protocol (13_command_protocol.md). -/
structure Jcp where
  rings : Table Ring := []
  tlm : Table Tlm := []
  setup0 : Setup := {}
  setup1 : Setup := {}
  setup2 : Setup := {}
  /-- R563 SESSION, set at each GO. -/
  session : Nat := 0
  /-- R554 cause of the next ADMIN_READY. -/
  cause : Nat := 0
  /-- R549 rings discarded with kept entries: COMPLETIONS_DISCARDED events to post after ADMIN_READY. -/
  discarded : List (Nat × Nat) := []
  /-- Queues of commands by source: ring n at n, USB3 queue pair q at 20000 + q, USB 2.0 at 20008. -/
  queues : Table (List Entry) := []
  /-- Items awaiting delivery by ring or queue pair (R533, R547). -/
  items : Table (List Item) := []
  /-- R548 the number of the next item. -/
  nextItem : Nat := 0
  nextId : Nat := 0
  /-- R552 next SEQ. -/
  seq : Nat := 0
  sinkRing : Sink := {}
  sinkUsb3 : Sink := {}
  sinkUsb2 : Sink := {}
  barriers : List Barrier := []
  barrierNo : Nat := 0
  deriving DecidableEq, Repr

/-- A detection waiting for the collector: source bit, address, kind. -/
structure Due where
  bit : Nat
  addr : Nat
  kind : Nat
  deriving DecidableEq, Repr

/-- FLT_FIRST of R586. -/
structure First where
  seconds : Nat := 0
  subsec : Nat := 0
  message : Nat := 0
  merged : Nat := 0
  qovf : Nat := 0
  valid : Bool := false
  injected : Bool := false
  ovf : Bool := false
  level : Nat := 0
  phase : Nat := 0
  bit : Nat := 0
  deriving DecidableEq, Repr

/-- A collector mute (R578): the source and the address whose scope it mutes. -/
structure Mute where
  bit : Nat
  addr : Nat
  deriving DecidableEq, Repr

/-- The fault collector (14_faults.md). -/
structure Flt where
  /-- R569 FLT_STATUS and FLT_FORCE, 64 bit. -/
  status : BitVec 64 := 0
  force : BitVec 64 := 0
  /-- R568 lasting conditions that hold, and the end of the 1 µs of event conditions, by source. -/
  lasting : List Due := []
  pulse : Table Time := []
  /-- R570 held level by source; 0 for none. -/
  held : Table Nat := []
  first : First := {}
  /-- R588 messages in the queue: message, level acted (0xFF merged), injected. -/
  queue : List (Nat × Nat × Bool) := []
  /-- R583 open shadows: class and end. -/
  shadows : List (Nat × Time) := []
  /-- R582 merged sources awaiting the end of their shadow or phase, and whether a phase's first has acted. -/
  merged : List Due := []
  firstActed : Bool := false
  /-- R582 start-up phase, R591 test phase with its start, R95 recovery after a management reset. -/
  startup : Bool := true
  test : Option Time := none
  mgmt : Bool := false
  /-- R578 mutes in force. -/
  mutes : List Mute := []
  /-- Conditions detected in their blocks that await the collector [9]. -/
  due : List Due := []
  /-- R573 detections forced to a hold: address and kind. -/
  heldForce : Table (Nat × Nat) := []
  /-- R589 ALIVE level, last feed (none before the first), and the last 1.000 ms boundary. -/
  alive : Bool := false
  fed : Option Time := none
  /-- R590 the instant from which the 100 ms of MGT.KEEPALIVE count: the last feed, or the takeover after it ran out. -/
  watch : Option Time := none
  aliveAt : Time := 0
  /-- R589 since when both conditions of ALIVE hold. -/
  aliveOk : Time := 0
  /-- R499 the time of the latest detection of each source. -/
  seenAt : Table (Option Time) := []
  /-- R580, R584 the latest detection of each source. -/
  recent : List Due := []
  deriving DecidableEq, Repr

/-- FLT_CONFIGURE settings (R591). -/
structure FltSet where
  severity : Table Nat := []
  aliveThr : Nat := 3
  deriving DecidableEq, Repr

/-- A snapshot (R604 to R606): trigger, source, the time fields of the trigger, flags, payload, and its repeats (R608):
their count, the seconds of the latest, and its time. -/
structure Snap where
  trigger : Nat
  source : Nat
  seconds : Nat
  subsec : Nat
  powerCycles : Nat
  injected : Bool
  hostValid : Bool
  hostSeconds : Nat
  trunc : Bool
  noSubj : Bool
  nobj : Nat
  payload : List Byte
  repeats : Nat
  last : Nat
  lastAt : Time
  deriving DecidableEq, Repr

/-- A snapshot record in the store (R604, R609). -/
structure Record where
  seq : Nat
  snap : Snap
  /-- R598 words of the record, of its 32, that are uncorrectable and read as zero. -/
  bad : List Nat := []
  deriving DecidableEq, Repr

/-- A histogram set of one sub-band (R610): counts by quantity × 64 + bin, with minimum and maximum, in 0.1 dB,
and their seconds. -/
structure Hist where
  counts : Table Nat := []
  ext : Table (Int × Int × Nat × Nat) := []
  deriving DecidableEq, Repr

/-- An hourly bucket in the store (R612). -/
structure Bucket where
  subband : Nat
  partial_ : Bool
  hour : Nat
  powerCycles : Nat
  hist : Hist
  deriving DecidableEq, Repr

/-- A lifetime record (R611, R612). -/
structure Life where
  generation : Nat := 0
  hours : Nat := 0
  hist : Hist := {}
  deriving DecidableEq, Repr

/-- REC_STATS_CONFIG of R626. -/
structure StatsSet where
  slot : Nat := 255
  inLow : Int := -62
  outLow : Int := -62
  gainLow : Int := 38
  isoLow : Int := 20
  /-- R613 pending LOW values by quantity. -/
  pending : Table Int := []
  deriving DecidableEq, Repr

/-- The recorder's running state (15_event_recorder.md). -/
structure Rec where
  /-- R614 FROZEN: the end of the freeze, and the missed count with the first and last time. -/
  frozen : Option Time := none
  missedFreeze : Nat := 0
  missedFirst : Nat := 0
  missedLast : Nat := 0
  /-- R621 MISSED. -/
  missed : Nat := 0
  /-- R619 arm: SEQ, STATS, time. -/
  arm : Option (Nat × Bool × Time) := none
  /-- R621 ARMED: the arm is not older than 5 s. -/
  armed : Bool := false
  /-- R620 ZEROING: the end of the background zeroing. -/
  zeroing : Option Time := none
  /-- R605 triggers read and waiting for the store. -/
  waiting : List Snap := []
  /-- Triggers that have occurred and await the recorder: code, source, injected [9]. -/
  due : List (Nat × Nat × Bool) := []
  /-- R608 repeats not yet written to the store: SEQ, count, seconds and time of the latest. -/
  dirty : List (Nat × Nat × Nat × Time) := []
  coalesceAt : Time := 0
  /-- R610 the hour in progress by sub-band, the shadow set of a freeze, and the hours closed during it: HOUR, and each
sub-band enabled in it with its histograms (R614). -/
  hour : Table Hist := []
  shadow : Table Hist := []
  closed : List (Nat × List (Nat × Hist)) := []
  /-- R611 sub-bands enabled during the hour. -/
  used : List Nat := []
  hourNo : Nat := 0
  opsecAt : Time := 0
  /-- R605 triggers that found 64 waiting: their count and the seconds of the first and the last. -/
  queueMissed : Nat := 0
  queueFirst : Nat := 0
  queueLast : Nat := 0
  deriving DecidableEq, Repr

/-- A ledger entry (R668). -/
structure Ledger where
  bootNum : Nat
  powerCycles : Nat
  seconds : Nat
  resetSrc : Nat
  image : Nat
  result : Nat
  early : Bool
  outcome : List Nat
  detail : List Nat
  endMs : List Nat
  alt : BitVec 13
  clearCount : Nat
  deriving DecidableEq, Repr

/-- BOOT_CONFIG of R675. -/
structure BootConfig where
  earlyEn : Bool := false
  activeImg : Nat := 0
  startState : Nat := 1
  startTxEn : BitVec 8 := 0
  startDirEn : BitVec 2 := 0
  deriving DecidableEq, Repr

/-- A transfer in a bus queue (R632, R652). -/
structure Transfer where
  cmd : CmdRef
  op : Nat
  addr10 : Bool
  pec : Bool
  buf : Bool
  target : Nat
  wdata : List Byte
  rlen : Nat
  hostAddr : Nat
  retries : Nat
  deriving DecidableEq, Repr

/-- TWB_CONFIGURE settings (R651). -/
structure TwbSet where
  enable : Bool := false
  alertEn : Bool := true
  notifyEn : Bool := false
  mode : Nat := 0
  retries : Nat := 2
  sclTo : Nat := 25
  sdaTo : Nat := 35
  araMax : Nat := 8
  deriving DecidableEq, Repr

/-- What occupies a bus (R633, R643, R646). -/
inductive BusUse where
  | idle
  | transfer
  /-- a bus clear: the TWB_CONFIGURE that asked for it, and whether the SDA-low timeout of R637 started it. -/
  | clear (cmd : Option CmdRef) (sda : Bool)
  deriving DecidableEq, Repr

/-- A two-wire bus (R653). -/
structure Twb where
  fenced : Bool := false
  sdaStuck : Bool := false
  alertIn : Bool := false
  alertSusp : Bool := false
  /-- R647 reads made for the present alert. -/
  araReads : Nat := 0
  busy : BusUse := .idle
  /-- R651 settings in force for the transfer on the bus. -/
  inForce : TwbSet := {}
  queue : List Transfer := []
  /-- R650 attention queue: kind, address, data, seconds. -/
  attn : List (Nat × Nat × Nat × Nat) := []
  /-- R650 the waiting ATTENTION and its end. -/
  wait : Option (CmdRef × Option Time) := none
  notifyBad : Nat := 0
  attnLost : Nat := 0
  busErrors : Nat := 0
  nacks : Nat := 0
  arbLost : Nat := 0
  retriesUsed : Nat := 0
  /-- R643 a bus clear is due, with the TWB_CONFIGURE that asked for it, and whether it follows the SDA-low timeout. -/
  clearDue : Option (Option CmdRef × Bool) := none
  /-- R651 disabling once the transfer on the bus ends. -/
  disabling : Bool := false
  /-- R636, R637 start of the wait for a free bus. -/
  waitFrom : Time := 0
  /-- R628, R637 time from which a START may follow on the free bus. -/
  freeAt : Time := 0
  /-- R628, R644 start of the transfer or bus clear on the bus; R637 since when the controller drives neither line; R646 when
  the present alert was seen. -/
  startAt : Time := 0
  idleAt : Time := 0
  alertAt : Time := 0
  deriving DecidableEq, Repr

/-- The boot (R654, R674). -/
structure Boot where
  bootNum : Nat := 0
  /-- R674 STEP, RUNNING, EARLY, RECOVERY, IMAGE, RESET_SRC, ALT. -/
  step : Nat := 0
  running : Bool := true
  early : Bool := false
  recovery : Bool := false
  image : Nat := 0
  resetSrc : Nat := 0
  alt : BitVec 13 := 0
  /-- R654 reset release. -/
  releasedAt : Time := 0
  /-- R402 outputs driven (PROFILE has ended). -/
  driven : Bool := false
  /-- R661 PROFILE ended on its primary method. -/
  profilePrimary : Bool := false
  /-- R666 a RADIO_SET_STATE has replaced the start state. -/
  startReplaced : Bool := false
  /-- R664 a failure of EARLY that EARLY_FAIL still has to note. -/
  earlyDue : Bool := false
  /-- R590 active pair and pairs fenced, 2 bit. -/
  pair : Nat := 0
  pairFenced : BitVec 2 := 0
  /-- R48 takeover in progress. -/
  takeover : Bool := false
  /-- R678 update in progress: the command, image, activate, contents and start. -/
  update : Option (CmdRef × Nat × Bool × List Byte × Time) := none
  deriving DecidableEq, Repr

/-- The input balls and the boundary scan (R683, R684, R699). Their levels are the board's [17]. -/
structure Pins where
  /-- R389 MUTE_N high. -/
  muteN : Bool := true
  /-- R619 CLR_PERMIT_N high, and since when the ball has had its level. -/
  clrPermitN : Bool := true
  clrPermitAt : Time := 0
  /-- R50 CLKSEL. -/
  clksel : Bool := true
  /-- R429 XTRIP0 to XTRIP3 balls low. -/
  xtrip : BitVec 4 := 0
  /-- R433 when the function of a GPIO last changed. -/
  gpioAt : Table Time := []
  /-- R697 TAP instruction in force. -/
  tap : BitVec 8 := 1
  /-- R698 the boundary-scan register: data, enable and input cells, in an order the BSDL file gives. R697 states no
  reset value [6]. -/
  boundary : BitVec 257 := 0
  deriving DecidableEq, Repr

end Sys2Proof.Machine
end

