-- ==== Sys2Proof/Machine/PartsStore.lean ====
section
/-!
DEFINITION. The settings that the host supplies and the resume image keeps (R71), and the contents of the
non-volatile store (R595). Every default is the value at reset.
-/

namespace Sys2Proof.Machine

/-- The reset settings of an outer loop (R346): KP 0, KI 1/16, KAW 1/4. -/
def outerReset : LoopSet :=
  let r : Region := { kp := 0, ki := 0x04000000 }
  { r0 := r, r1 := r, r2 := r, r3 := r, r4 := r, r5 := r, r6 := r, r7 := r }

/-- The reset state of an outer loop: R350 gives VO 0 at reset. -/
def outerIdle : Loop := { v := 0, i := 0 }

/-- Every host-supplied setting and table: what the resume image of R71 and the stored profile of R675 keep. -/
structure Settings where
  radioCfg : RadioConfig := {}
  win : Table WinConfig := []
  att : Table AttConfig := []
  sb : Table SbSet := []
  /-- R45 filter coefficient banks: word (sub-band × 2 + bank) × 384 + tap. -/
  rxCoef : Table (Int × Int) := []
  /-- R45 TX interpolator coefficients: word (sub-band × 2 + bank) × 128 + tap. -/
  txCoef : Table (Int × Int) := []
  can : Table CanSet := []
  gov : Table GovSet := []
  loops : Table LoopSet := []
  outers : Table LoopSet := []
  plaus : Table PlausSet := []
  tdd : Table TddSet := []
  /-- R45 gate schedule tables: entry direction × 4,096 + index (R366). -/
  gates : Table (BitVec 64) := []
  tddOut : TddOut := {}
  npSb : Table NpSb := []
  npBand : Table NpBand := []
  npChain : Table NpChain := []
  fePa : Table FePa := []
  feRx : Table FeRx := []
  pg : Table PgSet := []
  wm : Table WmSet := []
  /-- R440 FUNC in force on each GPIO, 8 bit. -/
  gpio : Table Nat := []
  hkEntry : Table HkEntry := []
  hkTimer : Table HkTimer := []
  /-- R444 housekeeping DAC code, 12 bit. -/
  hkDac : Nat := 0
  xs : Table XsSet := []
  ofs : Table Int := []
  autoResume : Bool := true
  cap : Table CapSet := []
  flt : FltSet := {}
  /-- R563 KEEP_S, 12 bit. -/
  keepS : Nat := 60
  twb : Table TwbSet := []
  deriving DecidableEq, Repr

/-- REC_TRIG_CONFIG of R623 as written. -/
structure TrigSet where
  en : Bool
  set : Nat
  coalesceMs : Nat
  deriving DecidableEq, Repr

/-- REC_SNAP_LIST of R624 as written. -/
structure SnapItem where
  valid : Bool
  obj : Nat
  inst : Nat
  deriving DecidableEq, Repr

/-- The contents of the MRAM store (R595). The spec gives no contents of a store that nothing has written: it is
empty at State.reset [18]. -/
structure Store where
  /-- R668 the boot ledger, newest entry first, at most 1,024. -/
  ledger : List Ledger := []
  bootConfig : BootConfig := {}
  /-- R670 alternate flags, bit per step. -/
  alt : BitVec 13 := 0
  /-- R675 stored profile; R71 resume image. -/
  profile : Option Settings := none
  resume : Option Settings := none
  /-- R677 images A and B: contents, and whether each is valid. -/
  imageA : List Byte := []
  imageB : List Byte := []
  validA : Bool := true
  validB : Bool := true
  /-- R106 stored coefficient sets: chain × 5 + band. -/
  sets : Table (Option TrimSet) := []
  /-- R114 fence maps by chain. -/
  fenceMap : Table Nat := []
  lineup : Table Lineup := []
  /-- R268 kept PHYS (0.1 dB) with window word and FCW_RX, by sub-band. -/
  kept : Table (Option (Int × BitVec 32 × Int)) := []
  /-- R290 latches by sub-band. -/
  latch : Table Bool := []
  /-- R600 operating seconds last stored; R601 power-cycle count. -/
  opsec : Option Nat := none
  powerCycles : Nat := 0
  /-- R602 HOST_OFS and HOST_VALID. -/
  hostOfs : Int := 0
  hostValid : Bool := false
  /-- R620 CLEAR_COUNT. -/
  clearCount : Nat := 0
  /-- R609 snapshot records, oldest first; R604 next SEQ. -/
  records : List Record := []
  nextSeq : Nat := 0
  /-- R611 hourly buckets: slot × 720 + HOUR mod 720; the two copies of each lifetime record: sub-band × 2 + copy. -/
  buckets : Table (Option Bucket) := []
  lives : Table Life := []
  trig : Table (Option TrigSet) := []
  snapList : Table (Option SnapItem) := []
  cmdSel : Table (Option (BitVec 64)) := []
  stats : Table (Option StatsSet) := []
  /-- R596 spare rows used by bank, and rows that showed a correctable error in this scrub period. -/
  spares : Table Nat := []
  rowErr : Table Nat := []
  /-- R598, R673 objects of partitions 0 and 3 of whose two copies one has failed, by number, with that copy. -/
  half : List (Nat × Nat) := []
  deriving DecidableEq, Repr

/-- Planted and found memory errors (R46, R565). -/
structure Mem where
  /-- R565 errors planted: memory row, word, double-bit. -/
  planted : List (Nat × Nat × Bool) := []
  /-- R597, R39 start of the present scrub passes. -/
  sramPass : Time := 0
  mramPass : Time := 0
  /-- R572 time of the last check of the NCO accumulators. -/
  ncoAt : Time := 0
  deriving DecidableEq, Repr

end Sys2Proof.Machine
end

