-- ==== Sys2Proof/Machine/State.lean ====
section
/-!
DEFINITION. The state of the block, the reasons a step can stop, and the state after reset.
-/

namespace Sys2Proof.Machine

/-- Reasons for a fault. No command of this block faults: the spec answers every command with a status (R537), and
every event changes state or is ignored. The one constructor is raised by nothing; safe. -/
inductive Fault where
  /-- Raised by no meaning of this model; safe. -/
  | none
  deriving DecidableEq, Repr

/-- Reasons for a refusal. -/
inductive Refusal where
  /-- A row without a meaning: raised by an arm of `exec` that is not modelled yet; safe, since it stops. -/
  | notModelled (mnemonic : String)
  deriving DecidableEq, Repr

/-- The state of the block. Time runs in window-clock periods from reset release. -/
structure State where
  /-- The present time [1]. -/
  now : Time := 0
  /-- R56 time of the divider start; none while the root PLL has not locked. -/
  divStart : Option Time := none
  /-- R600 operating time less `now`, in 1/65,536 s. -/
  opOfs : Int := 0
  /-- The model's own counter of draws: each free value is Config.free of it [4]. -/
  draws : Nat := 0
  /-- What the latest step sent to the outside [13]. -/
  out : List Output := []
  /-- Commands and events that wait, first in, first out. -/
  pending : List Instr := []
  set : Settings := {}
  radio : Radio := {}
  cnv : Table Cnv := []
  sb : Table Sb := []
  can : Table Can := []
  /-- R226 the coupling map, 2,097,152 × 40 bit: real and imaginary code of the bin j of path p and sub-band k, at
(p × 16 + k) × 16,384 + j; its address in the memory is p × 65,536 + BASE_k + j (R231) [19]. -/
  map : Table (Int × Int) := []
  /-- R26 the sample path of each sub-band, and R169 the words of the sixteen TX windows, 22 bit: key chain × 2 + window. -/
  sig : Table Sig := []
  txWin : Table Iq := []
  /-- R497, R498 what the captures have taken: key slot × 4 + the number of the source in its slot. -/
  taken : Table Taken := []
  /-- R136, R167 the transmit converters. -/
  dac : Table Dac := []
  gov : Table Gov := []
  /-- R13 the control tick that the loops have last taken. -/
  ctlTick : Option Nat := none
  loops : Table Loop := []
  outers : Table Loop := []
  slots : Table RepSlot := []
  plaus : Table Plaus := []
  tdd : Table Tdd := []
  /-- R377 BEAM[5:0], and the tick of the last downlink change; R379 the end of the FSYNC_OUT pulse. -/
  beam : Nat := 0
  beamTick : Option Nat := none
  fsync : Time := 0
  band : Table Band := []
  regrowth : Table Regrowth := []
  /-- R397 settings that take effect at the next evaluation: bands of sub-bands, settings of bands and of chains. -/
  npWaitSb : Table (Option Nat) := []
  npWaitBand : Table (Option NpBand) := []
  npWaitChain : Table (Option NpChain) := []
  fe : Table Fe := []
  pg : Table Pg := []
  wm : Table Wm := []
  hk : Hk := {}
  hkLast : Table HkResult := []
  th : Th := {}
  link : Link := {}
  cap : Cap := {}
  streams : Table Stream := []
  jcp : Jcp := {}
  flt : Flt := {}
  rcd : Rec := {}
  store : Store := {}
  mem : Mem := {}
  twb : Table Twb := []
  boot : Boot := {}
  pins : Pins := {}
  deriving DecidableEq, Repr

/-- The block at reset release (R70): radio in STANDBY, boot step 0 about to run, nothing waiting. -/
def State.reset : State := {}

end Sys2Proof.Machine
end

