-- ==== Sys2Proof/Machine/Ops.lean ====
section
/-!
DEFINITION. The named operations over the state: time, draws, the tables' entries, and the queries that several
blocks make.
-/

namespace Sys2Proof.Machine

/-- What the block sends in this step. -/
def State.emit (s : State) (o : Output) : State := { s with out := s.out ++ [o] }

/-- The free value of the next draw. -/
def State.draw (s : State) : Nat := Config.free s.draws
/-- The draw is used up. -/
def State.drawn (s : State) : State := { s with draws := s.draws + 1 }
/-- The free value some draws ahead, and several draws used up. -/
def State.drawAt (s : State) (i : Nat) : Nat := Config.free (s.draws + i)
def State.drawnBy (s : State) (n : Nat) : State := { s with draws := s.draws + n }

/-- Window samples since the divider start of R56 (R147, R165); 0 before it. -/
def State.window (s : State) : Nat :=
  match s.divStart with
  | some t => s.now - t
  | none => 0

/-- Sample ticks since the divider start (R12, R56). -/
def State.tick (s : State) : Nat := s.window / perTick

/-- Operating time in 1/65,536 s (R600). -/
def State.opTime (s : State) : Nat := (s.opOfs + (s.now / perSubsec : Nat)).toNat
def State.seconds (s : State) : Nat := s.opTime / 65536 % 4294967296
def State.subsec (s : State) : Nat := s.opTime % 65536

/-! Entries of the tables, and their updates. -/

def State.sbOf (s : State) (g : Nat) : Sb := Table.get {} s.sb g
def State.sbSet (s : State) (g : Nat) : SbSet := Table.get {} s.set.sb g
def State.cfg (s : State) (g : Nat) : SbConfig := (s.sbSet g).cfg
def State.canOf (s : State) (g : Nat) : Can := Table.get {} s.can g
def State.canSet (s : State) (g : Nat) : CanSet := Table.get {} s.set.can g
def State.govOf (s : State) (g : Nat) : Gov := Table.get {} s.gov g
def State.govSet (s : State) (g : Nat) : GovSet := Table.get {} s.set.gov g
def State.cnvOf (s : State) (c : Nat) : Cnv := Table.get {} s.cnv c
def State.attOf (s : State) (c : Nat) : AttConfig := Table.get {} s.set.att c
def State.winOf (s : State) (c : Nat) : WinConfig := Table.get {} s.set.win c
def State.loopOf (s : State) (l : Nat) : Loop :=
  if l < 128 then Table.get {} s.loops l else Table.get outerIdle s.outers (l - 128)
def State.loopSet (s : State) (l : Nat) : LoopSet :=
  if l < 128 then Table.get {} s.set.loops l else Table.get outerReset s.set.outers (l - 128)
def State.slotOf (s : State) (n : Nat) : RepSlot := Table.get {} s.slots n
def State.plausOf (s : State) (c : Nat) : Plaus := Table.get {} s.plaus c
def State.plausSet (s : State) (c : Nat) : PlausSet := Table.get {} s.set.plaus c
def State.tddOf (s : State) (g : Nat) : Tdd := Table.get {} s.tdd g
def State.tddSet (s : State) (g : Nat) : TddSet := Table.get {} s.set.tdd g
def State.sigOf (s : State) (g : Nat) : Sig := Table.get {} s.sig g
def State.dacOf (s : State) (c : Nat) : Dac := Table.get {} s.dac c
def State.bandOf (s : State) (b : Nat) : Band := Table.get {} s.band b
def State.npBand (s : State) (b : Nat) : NpBand := Table.get {} s.set.npBand b
def State.npSb (s : State) (g : Nat) : NpSb := Table.get {} s.set.npSb g
def State.npChain (s : State) (c : Nat) : NpChain := Table.get {} s.set.npChain c
def State.regrowthOf (s : State) (c : Nat) : Regrowth := Table.get {} s.regrowth c
def State.feOf (s : State) (c : Nat) : Fe := Table.get {} s.fe c
def State.fePa (s : State) (c : Nat) : FePa := Table.get {} s.set.fePa c
def State.feRx (s : State) (c : Nat) : FeRx := Table.get {} s.set.feRx c
def State.pgOf (s : State) (n : Nat) : Pg := Table.get {} s.pg n
def State.pgSet (s : State) (n : Nat) : PgSet := Table.get {} s.set.pg n
/-- The settings that give a channel its schedule: a complement has those of its even channel (R415). -/
def State.pgSchedule (s : State) (ch : Nat) : PgSet := s.pgSet (if (s.pgOf ch).paired then ch - 1 else ch)
/-- The timing group of a GATE or FRAME channel (R418). -/
def PgSet.group (k : PgSet) : Nat := k.sel % 4
def State.wmOf (s : State) (n : Nat) : Wm := Table.get {} s.wm n
def State.wmSet (s : State) (n : Nat) : WmSet := Table.get {} s.set.wm n
def State.gpio (s : State) (n : Nat) : Nat := Table.get 0 s.set.gpio n
def State.hkEntry (s : State) (n : Nat) : HkEntry := Table.get {} s.set.hkEntry n
def State.hkTimer (s : State) (n : Nat) : HkTimer := Table.get {} s.set.hkTimer n
def State.xsOf (s : State) (n : Nat) : XsSet := Table.get {} s.th.xs n
def State.stream (s : State) (n : Nat) : Stream := Table.get {} s.streams n
def State.capSet (s : State) (n : Nat) : CapSet := Table.get {} s.set.cap n
def State.ring (s : State) (n : Nat) : Ring := Table.get {} s.jcp.rings n
def State.tlmOf (s : State) (n : Nat) : Tlm := Table.get {} s.jcp.tlm n
def State.queue (s : State) (k : Nat) : List Entry := Table.get [] s.jcp.queues k
def State.items (s : State) (k : Nat) : List Item := Table.get [] s.jcp.items k
/-- Those that take an entry of their ring. -/
def State.entries (s : State) (k : Nat) : List Item := (s.items k).filter (fun it => decide (it.kind ≠ 5))
/-- The endpoint may start transfers: its link is up, Bus Master Enable is set and it is in D0 (R483, R487). -/
def State.masters (s : State) : Bool := s.link.pcieUp && s.link.busMaster && !s.link.config.d3hot
/-- The window sample of a time that is not later than now. -/
def State.windowOf (s : State) (t : Time) : Nat := s.window - (s.now - t)
def State.twbOf (s : State) (b : Nat) : Twb := Table.get {} s.twb b
def State.twbSet (s : State) (b : Nat) : TwbSet := Table.get {} s.set.twb b
def State.severity (s : State) (dflt bit : Nat) : Nat :=
  match Table.get 0 s.set.flt.severity bit with
  | 0 => dflt
  | v => v - 1

def State.modSb (s : State) (g : Nat) (f : Sb → Sb) : State := { s with sb := Table.modify {} s.sb g f }
def State.modSbSet (s : State) (g : Nat) (f : SbSet → SbSet) : State :=
  { s with set := { s.set with sb := Table.modify {} s.set.sb g f } }
def State.modCan (s : State) (g : Nat) (f : Can → Can) : State := { s with can := Table.modify {} s.can g f }
def State.modCanSet (s : State) (g : Nat) (f : CanSet → CanSet) : State :=
  { s with set := { s.set with can := Table.modify {} s.set.can g f } }
def State.modGov (s : State) (g : Nat) (f : Gov → Gov) : State := { s with gov := Table.modify {} s.gov g f }
def State.modStore (s : State) (f : Store → Store) : State := { s with store := f s.store }
def State.modCnv (s : State) (c : Nat) (f : Cnv → Cnv) : State := { s with cnv := Table.modify {} s.cnv c f }
def State.modLoop (s : State) (l : Nat) (f : Loop → Loop) : State :=
  if l < 128 then { s with loops := Table.modify {} s.loops l f }
  else { s with outers := Table.modify outerIdle s.outers (l - 128) f }
def State.modLoopSet (s : State) (l : Nat) (f : LoopSet → LoopSet) : State :=
  if l < 128 then { s with set := { s.set with loops := Table.modify {} s.set.loops l f } }
  else { s with set := { s.set with outers := Table.modify outerReset s.set.outers (l - 128) f } }
def State.modSlot (s : State) (n : Nat) (f : RepSlot → RepSlot) : State :=
  { s with slots := Table.modify {} s.slots n f }
def State.modPlaus (s : State) (c : Nat) (f : Plaus → Plaus) : State :=
  { s with plaus := Table.modify {} s.plaus c f }
def State.modTdd (s : State) (g : Nat) (f : Tdd → Tdd) : State := { s with tdd := Table.modify {} s.tdd g f }
def State.modTddSet (s : State) (g : Nat) (f : TddSet → TddSet) : State :=
  { s with set := { s.set with tdd := Table.modify {} s.set.tdd g f } }
def State.modSig (s : State) (g : Nat) (f : Sig → Sig) : State := { s with sig := Table.modify {} s.sig g f }
def State.modBand (s : State) (b : Nat) (f : Band → Band) : State := { s with band := Table.modify {} s.band b f }
def State.modFe (s : State) (c : Nat) (f : Fe → Fe) : State := { s with fe := Table.modify {} s.fe c f }
def State.modPg (s : State) (n : Nat) (f : Pg → Pg) : State := { s with pg := Table.modify {} s.pg n f }
def State.modPgSet (s : State) (n : Nat) (f : PgSet → PgSet) : State :=
  { s with set := { s.set with pg := Table.modify {} s.set.pg n f } }
def State.modWm (s : State) (n : Nat) (f : Wm → Wm) : State := { s with wm := Table.modify {} s.wm n f }
def State.setGpio (s : State) (n func : Nat) : State :=
  { s with
    set := { s.set with gpio := Table.set 0 s.set.gpio n func }
    pins := { s.pins with gpioAt := Table.set 0 s.pins.gpioAt n s.now } }
def State.modStream (s : State) (n : Nat) (f : Stream → Stream) : State :=
  { s with streams := Table.modify {} s.streams n f }
def State.modRing (s : State) (n : Nat) (f : Ring → Ring) : State :=
  { s with jcp := { s.jcp with rings := Table.modify {} s.jcp.rings n f } }
def State.modTlm (s : State) (n : Nat) (f : Tlm → Tlm) : State :=
  { s with jcp := { s.jcp with tlm := Table.modify {} s.jcp.tlm n f } }
def State.setQueue (s : State) (k : Nat) (q : List Entry) : State :=
  { s with jcp := { s.jcp with queues := Table.set [] s.jcp.queues k q } }
def State.setItems (s : State) (k : Nat) (q : List Item) : State :=
  { s with jcp := { s.jcp with items := Table.set [] s.jcp.items k q } }
def State.modTwb (s : State) (b : Nat) (f : Twb → Twb) : State := { s with twb := Table.modify {} s.twb b f }

/-- A change folded over a list of indices. -/
def State.each (s : State) (is : List Nat) (f : State → Nat → State) : State := is.foldl f s

/-! Indices (R1, R4, R6). -/

/-- The chain of a global sub-band index (R4). -/
def chainOf (g : Nat) : Nat := g / 16
/-- The local index of a global sub-band index (R4). -/
def localOf (g : Nat) : Nat := g % 16
/-- First chain of the MIMO group of a chain (R1). -/
def groupBase (c : Nat) : Nat := c / 4 * 4
/-- Sub-bands of one local index on the four chains of the MIMO group of `g` (R181). -/
def groupOf (g : Nat) : List Nat :=
  let b := groupBase (chainOf g)
  [b, b + 1, b + 2, b + 3].map (fun c => c * 16 + localOf g)
/-- The sub-bands a command covers: its instance, or with GROUP = 1 the four of the group (R181). -/
def covered (group : Bool) (g : Nat) : List Nat := if group then groupOf g else [g]
/-- Chains 0 to 7. -/
def chains : List Nat := List.range 8
/-- Sub-bands of a chain. -/
def sbsOf (c : Nat) : List Nat := (List.range 16).map (fun k => c * 16 + k)
/-- All global sub-band indices. -/
def allSbs : List Nat := List.range 128
/-- Whether a chain is of the uplink (R1). -/
def isUplink (c : Nat) : Bool := decide (4 ≤ c)

/-! The factorisation and counts of a sub-band. -/

/-- Df in force (R151): the forced one, or the largest divisor of D not exceeding 8. -/
def SbConfig.dfUsed (c : SbConfig) : Nat := if c.forceDf then c.df else largestDivisor c.d 8
/-- Dc = D / Df (R151). -/
def SbConfig.dcUsed (c : SbConfig) : Nat := c.d / c.dfUsed
/-- N_u = ceil((L − 1)/Df) + 7 (R208, R212). -/
def SbConfig.nUnsettled (c : SbConfig) : Nat := ceilDiv (c.l - 1) c.dfUsed + 7
/-- N_b = 65,536 / 2^floor(log2 D) (R229). -/
def binsOf (d : Nat) : Nat := 65536 / 2 ^ (Nat.log2 d)
/-- Load of one filter in units of 2^-10, each term rounded up (R160, R161). -/
def loadUnits (taps d : Nat) : Nat := ceilDiv (taps * 1024) d
/-- The active RX bank and the active TX bank of a sub-band. -/
def SbSet.rxBank (x : SbSet) (b : Nat) : Bank := if b = 0 then x.rx0 else x.rx1
def SbSet.txBank (x : SbSet) (b : Nat) : Bank := if b = 0 then x.tx0 else x.tx1

/-- The four paths of a victim sub-band, by s mod 4 (R6). -/
def Can.path (x : Can) : Nat → CanPath
  | 0 => x.p0
  | 1 => x.p1
  | 2 => x.p2
  | _ => x.p3
/-- One path changed. -/
def Can.setPath (x : Can) (i : Nat) (p : CanPath) : Can :=
  if i = 0 then { x with p0 := p } else if i = 1 then { x with p1 := p } else if i = 2 then { x with p2 := p }
  else { x with p3 := p }
/-- All four paths changed. -/
def Can.mapPaths (x : Can) (f : Nat → CanPath → CanPath) : Can :=
  { x with p0 := f 0 x.p0, p1 := f 1 x.p1, p2 := f 2 x.p2, p3 := f 3 x.p3 }

/-- Two bands whose centres lie `diff` apart, in Hz × 2^32, overlap; bands that only touch do not. -/
def bandsMeet (diff : Int) (bw1 bw2 : Nat) : Bool := decide (2 * diff.natAbs < (bw1 + bw2) * 4294967296)

/-! Conditions several chapters ask for. -/

/-- The sub-band is enabled, its disable ramp included (R185). -/
def State.enabled (s : State) (g : Nat) : Bool := (s.cfg g).enable
/-- The radio is in LISTEN or REPEAT. -/
def State.listening (s : State) : Bool := decide (3 ≤ s.radio.state)
/-- TX chain `c` transmits with its PA sequence ended (R92 TX_ACTIVE). -/
def State.transmits (s : State) (c : Nat) : Bool := (s.feOf c).txActive
/-- Both the TX enable and the direction's enable of a chain are 1 (R69). -/
def State.txWanted (s : State) (c : Nat) : Bool :=
  bit s.radio.txEn.toNat c && bit s.radio.dirEn.toNat (if isUplink c then 1 else 0)
/-- The timing group that holds a sub-band (R355). -/
def State.groupFor (s : State) (g : Nat) : Option Nat :=
  (List.range 4).find? (fun t =>
    let x := s.tddSet t
    bit (if isUplink (chainOf g) then x.maskUl else x.maskDl).toNat (localOf g))
/-- The gate of a sub-band is open: ungated, or open in its group (R355, R369). -/
def State.gateOpen (s : State) (g : Nat) : Bool :=
  match s.groupFor g with
  | none => true
  | some t =>
    let x := s.tddOf t
    if isUplink (chainOf g) then bit x.openUl.toNat (localOf g) else bit x.openDl.toNat (localOf g)
/-- The gate is fully open, its ramp ended (R399). -/
def State.gateFull (s : State) (g : Nat) : Bool :=
  match s.groupFor g with
  | none => true
  | some t =>
    let x := s.tddOf t
    s.gateOpen g && decide (Table.get 0 x.ramps (localOf g + if isUplink (chainOf g) then 16 else 0) ≤ s.now)

/-- Whether a collector mute of a source and address covers a TX chain (R572, Mute scope). -/
def State.muteCoversChain (s : State) (m : Mute) (c : Nat) : Bool :=
  let pgChain := fun n => let k := (s.pgSet n).chain; decide (k = 255) || decide (k = c)
  if m.bit = 0 then decide (m.addr / 33 = c)
  else if m.bit = 8 ∨ m.bit = 14 then decide (m.addr / 32 = c)
  else if m.bit ∈ [1, 2, 3, 10, 15, 18, 26] then decide (m.addr = c)
  else if (4 ≤ m.bit ∧ m.bit ≤ 7) ∨ (31 ≤ m.bit ∧ m.bit ≤ 36) then true
  else if m.bit ∈ [19, 20, 21, 43] then decide (m.addr = 128 + c)
  else if m.bit = 28 then if 16 ≤ m.addr then decide (m.addr - 16 = c) else pgChain m.addr
  else if m.bit = 29 then
    bit (s.wmSet m.addr).dest.toNat (16 + c) ||
      (List.range 16).any (fun n => bit (s.wmSet m.addr).dest.toNat n && pgChain n)
  else if m.bit = 30 then if m.addr < 32 then decide (m.addr % 8 = c) else pgChain (m.addr - 32)
  else false
/-- Whether it covers a sub-band: its TX chain, or less. -/
def State.muteCovers (s : State) (m : Mute) (g : Nat) : Bool :=
  let c := chainOf g
  s.muteCoversChain m c ||
    (if m.bit ∈ [9, 11, 12, 16, 17, 19, 20, 21, 40, 41, 42, 43] then decide (m.addr = g)
     else if m.bit = 13 then
      if m.addr < 0x800 then decide (m.addr = g)
      else decide ((m.addr - 0x800) / 2 = c) && ((s.cfg g).winB == decide ((m.addr - 0x800) % 2 = 1))
     else if m.bit = 22 then
      if (s.govSet m.addr).groupTie then (groupOf m.addr).contains g else decide (m.addr = g)
     else if m.bit ∈ [23, 24, 27] then decide (s.groupFor g = some m.addr)
     else if m.bit = 25 then isUplink c && decide ((s.npSb g).band = m.addr)
     else if m.bit = 45 then
      decide (s.groupFor g = some (m.addr / 2)) && (isUplink c == decide (m.addr % 2 = 1))
     else false)

/-- Muted by a reaction of the collector (R574, R578), or on the TX chain of a fenced RX chain (R42). -/
def State.faultMuted (s : State) (g : Nat) : Bool :=
  s.flt.mutes.any (fun m => s.muteCovers m g) || (s.cnvOf (chainOf g)).fenced

/-- Muted for a memory word (R46, R253, R353, R376). -/
def State.memMuted (s : State) (g : Nat) : Bool :=
  let x := s.sbOf g
  x.muteRx || x.muteTx || x.muteMap || decide ((s.loopOf g).memMute ≠ []) || decide ((s.loopOf (128 + chainOf g)).memMute ≠ []) ||
    (match s.groupFor g with
     | none => false
     | some t => if isUplink (chainOf g) then (s.tddOf t).muteUl else (s.tddOf t).muteDl)

/-- Muted by the governor: hold-off, latch, or a waiting restart (R287, R290), on any chain of a tied group (R286). -/
def State.govMuted (s : State) (g : Nat) : Bool := decide (2 ≤ (s.govOf g).state) || (s.govOf g).ceilMute

/-- Donor-loss muted (R383, R385). -/
def State.donorMuted (s : State) (g : Nat) : Bool :=
  isUplink (chainOf g) &&
    (let b := (s.npSb g).band
     if b = 255 then true
     else !(allSbs.any (fun h => !isUplink (chainOf h) && s.enabled h && decide ((s.npSb h).band = b))) ||
       ((s.npBand b).donorEn && (s.bandOf b).muted))

/-- Muted for any reason, the gates and the thermal fade apart. -/
def State.muted (s : State) (g : Nat) : Bool :=
  s.faultMuted g || s.memMuted g || s.govMuted g || s.donorMuted g || (s.loopOf g).boundMute ||
    (s.sbOf g).shed || decide ((s.loopOf g).mode = 0)

/-- A source that holds S4 (R77, R578). -/
def State.s4Held (s : State) : Bool := s.flt.held.any (fun e => decide (4 ≤ e.2))

/-! Copies in the store (R598, R673). -/

/-- An object of partition 0 or 3 is written, in both of its copies. -/
def State.repaired (s : State) (n : Nat) : State :=
  { s with store := { s.store with half := s.store.half.filter (fun e => e.1 != n) } }

/-! The balls (R402, R701). -/

/-- The TAP instructions that give the balls to the boundary-scan register. -/
def scanTakes (tap : BitVec 8) : Bool := [0x00, 0x03, 0x04, 0x05, 0x06].contains tap.toNat
/-- The device drives its outputs: from PROFILE on (R402), unless the boundary-scan register sets the balls (R701). -/
def State.drives (s : State) : Bool := s.boot.driven && !scanTakes s.pins.tap

/-! The management processors (R24, R25). -/

/-- The collector is powered (R59). -/
def State.collects (s : State) : Bool := !s.radio.inReset && decide (1 ≤ s.radio.state)
/-- Firmware runs: PAIR has ended, no restart is in progress, and a pair is active (R658, R667, R703). What firmware
carries out (R25) stands still while it does not. -/
def State.firmwareRuns (s : State) : Bool :=
  s.collects && decide (2 < s.boot.step) && !s.boot.recovery && !s.flt.mgmt && decide (s.boot.pairFenced ≠ 3) && !s.boot.takeover
/-- A result of housekeeping that firmware has not taken yet (R451). -/
def State.hkForFirmware (s : State) : Bool := s.hk.data.valid && !s.hk.byEngine && decide (s.now < s.hk.takenAt)
/-- Firmware stops: a result it has not taken stays (R24, R451). -/
def State.hkStall (s : State) : State := { s with hk := { s.hk with stalled := s.hk.stalled || s.hkForFirmware } }
/-- Firmware goes on, and takes a result that waited within 2 µs: when is a free value [4]. -/
def State.hkResume (s : State) : State :=
  if s.hk.stalled then
    { s.drawn with hk := { s.hk with stalled := false, takenAt := s.now + s.draw % 3933 } }
  else s

end Sys2Proof.Machine
end

