-- ==== Sys2Proof/Machine/Signal.lean ====
section
/-!
DEFINITION. The sample path (R26): the exact arithmetic of each stage, the sample path of a sub-band and of the converters
through one window sample, and the time that passes before a command or event. A window sample is processed as time passes
it: at a moment, the samples before it have been, and a command or event of the moment acts before the sample of the
moment [88].
-/

namespace Sys2Proof.Machine

/-! Arithmetic of samples. -/

/-- A number rounded to nearest; a tie is a free choice [7]. -/
def roundRat (q : Rat) : Int := nearest q
def Iq.ofCx (z : Cx) : Iq := (roundRat z.1, roundRat z.2)
def Iq.toCx (z : Iq) : Cx := ((z.1 : Rat), (z.2 : Rat))
def Iq.times (a b : Iq) : Iq := (a.1 * b.1 - a.2 * b.2, a.1 * b.2 + a.2 * b.1)
/-- The squared magnitude of a sample. -/
def Iq.power (a : Iq) : Nat := (a.1 * a.1 + a.2 * a.2).toNat
def Cx.times (a b : Cx) : Cx := (a.1 * b.1 - a.2 * b.2, a.1 * b.2 + a.2 * b.1)
def Cx.conj (a : Cx) : Cx := (a.1, -a.2)
def Cx.scale (k : Rat) (a : Cx) : Cx := (k * a.1, k * a.2)
def Cx.power (a : Cx) : Rat := a.1 * a.1 + a.2 * a.2
/-- The quotient of two complex numbers. -/
def Cx.over (a b : Cx) : Cx := Cx.scale (1 / Cx.power b) (Cx.times a (Cx.conj b))
/-- A two's-complement word of `n` bits, as it wraps. -/
def wrapTo (n : Nat) (v : Int) : Int := signedOf n (bitsOf n v)
/-- The shift, rounding and saturation of R156 on I and on Q. -/
def shiftSat (v : Iq) (sh : Nat) : Iq := (sat24 (roundShift v.1 sh), sat24 (roundShift v.2 sh))
/-- Whether that saturates (R158). -/
def saturates (v : Iq) (sh : Nat) : Bool := decide (shiftSat v sh ≠ (roundShift v.1 sh, roundShift v.2 sh))

/-! NCOs and mixers (R129, R147, R148). -/

/-- An accumulator at sample `n`: FCW × n mod 2^32, for converter samples of a coarse NCO and window samples of a fine
one (R129, R147). -/
def accumulator (fcw : Int) (n : Nat) : Nat := bitsOf 32 (fcw * n)
/-- The 20-bit phase of an accumulator (R148). -/
def phaseOf (acc : Nat) : Nat := acc / 4096
/-- A word rotated by a phase and rounded to nearest, with no shift (R148): the RX mixer turns back by it, the TX mixer
forward (R145) [88]. -/
def rotate (w : Iq) (phase : Nat) (back : Bool) : Iq :=
  let v := Iq.times w (cosineCode phase, if back then -sineCode phase else sineCode phase)
  (roundQ v.1 131072 (Config.roundsUp v.1 0), roundQ v.2 131072 (Config.roundsUp v.2 0))
/-- The RX mixer's word, 19 bit (R148, R155). What a code at the end of its range turns into beyond 19 bits is unstated: it
wraps [88]. -/
def mixed (w : Iq) (phase : Nat) : Iq :=
  let v := rotate w phase true
  (wrapTo 19 v.1, wrapTo 19 v.2)

/-! CIC and FIR (R152, R155, R167, R187). -/

/-- The integrators take a sample: each adds what the one before it now holds, in 73 bits (R155). -/
def integrate : List Iq → Iq → List Iq
  | [], _ => []
  | a :: rest, x =>
    let v : Iq := (wrapTo 73 (a.1 + x.1), wrapTo 73 (a.2 + x.2))
    v :: integrate rest v
/-- The combs take a sample: each subtracts the one before it; the new delays and the output. -/
def comb : List Iq → Iq → List Iq × Iq
  | [], x => ([], x)
  | a :: rest, x =>
    let y := comb rest (wrapTo 73 (x.1 - a.1), wrapTo 73 (x.2 - a.2))
    (x :: y.1, y.2)
/-- y[n] = Σ h[i] × x[n − i] (R187): taps from h[0], the line newest first. -/
def dot (taps line : List Iq) : Iq := (List.zipWith Iq.times taps line).sum

/-- The shifts in force: the command's, or with AUTO_SHIFT those of R157. -/
def SbConfig.cicShift (c : SbConfig) : Nat :=
  if c.dcUsed = 1 then 0 else if c.autoShift then log2Up (c.dcUsed ^ 6) 64 0 - 4 else c.shCic
def SbConfig.firShift (c : SbConfig) : Nat := if c.autoShift then 17 else c.shFir
def SbConfig.dcbShift (c : SbConfig) : Nat := if c.autoShift then 0 else c.shDcb
/-- The gain of the CIC before its shift: Dc^6, or the exact 16 of Dc = 1 (R156). -/
def SbConfig.cicGain (c : SbConfig) : Nat := if c.dcUsed = 1 then 16 else c.dcUsed ^ 6
/-- |Σ h| of a bank, in units of 2^-17 (R159). -/
def Bank.sum (b : Bank) : Rat := magnitude b.sumRe b.sumIm
/-- The net numeric gain of the RX stages with a bank (R159). -/
def SbConfig.rxNet (c : SbConfig) (b : Bank) : Rat :=
  (c.cicGain : Rat) * b.sum / (2 ^ (c.cicShift + c.firShift + c.dcbShift) : Nat)
/-- The net numeric gain of the TX stages with a bank: the FIR interpolates by Df and the CIC by Dc, each with the shift
that the device sets (R167, R168). -/
def SbConfig.txNet (c : SbConfig) (b : Bank) : Rat :=
  let sh := Config.txShift c.dcUsed c.dfUsed
  (c.dcUsed ^ 5 : Nat) * b.sum / (c.dfUsed * 2 ^ (sh.1 + sh.2) : Nat)

/-! The waiting changes of a sub-band, as a window sample meets them. -/

/-- The RX or TX taps of a bank. -/
def State.tapsOf (s : State) (g : Nat) (tx : Bool) (b : Nat) : List Iq :=
  if tx then Table.range (0, 0) s.set.txCoef ((g * 2 + b) * 128) (s.cfg g).lTx
  else Table.range (0, 0) s.set.rxCoef ((g * 2 + b) * 384) (s.cfg g).l
/-- The retunes that wait for a sub-band, whichever sub-band of its group leads them. -/
def State.retunesOf (s : State) (g : Nat) : List Retune :=
  (groupOf g).flatMap (fun h => (s.sbOf h).retunes.filter (fun r => r.members.contains g))
/-- The one accepted last. -/
def lastRetune (l : List Retune) : Option Retune :=
  l.foldl (fun a r => match a with
    | some b => if b.seq < r.seq then some r else a
    | none => some r) none
/-- The fine word at a window sample: that of the last retune whose sample has come, else the one in force (R184). -/
def State.fcwAt (s : State) (g m : Nat) (tx : Bool) : Int :=
  match lastRetune ((s.retunesOf g).filter (fun r => decide (r.due ≤ m))) with
  | some r => if tx then r.fcwTx else r.fcwRx
  | none => if tx then (s.cfg g).fcwTx else (s.cfg g).fcwRx
/-- A synchronising reset of the sub-band falls on a window sample (R214). -/
def State.resetsAt (s : State) (g m : Nat) : Bool :=
  (groupOf g).any (fun h => (s.sbOf h).syncs.any (fun r => decide (r.due = m) && r.members.contains g))
/-- The sub-band has outputs at a window sample: enabled in LISTEN, not shed, and its first reset has come. -/
def State.runsAt (s : State) (g m : Nat) : Bool :=
  s.enabled g && s.listening && !(s.sbOf g).shed && decide (0 < (s.cfg g).d) &&
    !(groupOf g).any (fun h => (s.sbOf h).syncs.any (fun r => r.fresh && decide (m < r.due) && r.members.contains g))
/-- A disabled sub-band's stage 10 still takes what was made before the disable: R180 lets the gain reach zero over 64 outputs,
and the 69 outputs and the filters between stage 9 and the TX window hold more than that; that they drain is the model's
choice [88]. -/
def State.drainsAt (s : State) (g m : Nat) : Bool := !s.enabled g && s.listening && (s.sbOf g).drain.any (fun e => decide (m < e))
/-- The fade of one side of a sub-band. -/
def Sb.fade (x : Sb) (tx : Bool) : Option Fade := if tx then x.fadeTx else x.fadeRx
/-- Output `i` of a fade at a window sample; none before its first output (R194). The TX filter makes Df outputs for one
output of the sub-band, and the rule counts those of the sub-band only: the weight stands still between them [97]. -/
def Fade.index (f : Fade) (d m : Nat) : Option Nat := if f.first ≤ m then some ((m - f.first) / max 1 d) else none
/-- The active bank at a window sample: exchanged from a hard switch's output (R196) and after a fade's last (R194). On the TX
side too the switch counts from the window sample of its output boundary, and not from the moment at which that output enters
stage 10, `txDelay` later: the model's choice, since R194 names only the boundary [88]. -/
def State.bankAt (s : State) (g m : Nat) (tx : Bool) : Nat :=
  let a := if tx then (s.sbSet g).txAct else (s.sbSet g).rxAct
  let hard := (groupOf g).any (fun h => match (s.sbOf h).hard with
    | some x => decide (x.due ≤ m) && x.members.contains g && (if tx then x.tx else x.rx)
    | none => false)
  let faded := match (s.sbOf g).fade tx with
    | some f => (match f.index (s.cfg g).d m with
      | some i => decide (f.outputs ≤ i)
      | none => false)
    | none => false
  if hard || faded then 1 - a else a
/-- A bank of one side. -/
def SbSet.side (x : SbSet) (tx : Bool) (b : Nat) : Bank := if tx then x.txBank b else x.rxBank b
/-- Two banks' outputs in a fade, each scaled by its normalising gain: (1 − w) × y_old + w × y_new with w = (i + 1)/F, in
the scale of the old bank (R194) [88]. On the RX side the mix is the FIR's output: where it exceeds the 24 bits of R155 it saturates
as R156 has it, and R158 counts it, which R194 does not say: the model's choice [88]. -/
def crossFade (old new : Iq) (oldSum newSum : Rat) (i f : Nat) : Iq :=
  let w : Rat := ((i + 1 : Nat) : Rat) / (f : Rat)
  Iq.ofCx (Cx.scale (1 - w) old.toCx + Cx.scale (w * (oldSum / newSum)) new.toCx)
/-- The place in a fade and its length at a window sample; none outside it. -/
def State.fadeAt (s : State) (g m : Nat) (tx : Bool) : Option (Nat × Nat) :=
  match ((s.sbOf g).fade tx).bind (fun f => (f.index (s.cfg g).d m).map (fun i => (i, f.outputs))) with
  | some (i, f) => if i < f then some (i, f) else none
  | none => none
/-- One FIR at a window sample: the active bank, or in a fade the mix of both. -/
def State.filterAt (s : State) (g m : Nat) (tx : Bool) (sh : Nat) (line : List Iq) : Iq :=
  let b := s.bankAt g m tx
  let one := fun (n : Nat) =>
    let v := dot (s.tapsOf g tx n) line
    if tx then (roundShift v.1 sh, roundShift v.2 sh) else shiftSat v sh
  match s.fadeAt g m tx with
  | some (i, f) =>
    let v := crossFade (one b) (one (1 - b)) ((s.sbSet g).side tx b).sum ((s.sbSet g).side tx (1 - b)).sum i f
    if tx then v else shiftSat v 0
  | none => one b
/-- A bank of the RX FIR that works at a window sample saturates: the active one, or in a fade either, or their mix (R158). -/
def State.filterSaturates (s : State) (g m sh : Nat) (line : List Iq) : Bool :=
  let b := s.bankAt g m false
  let one := fun (n : Nat) => dot (s.tapsOf g false n) line
  saturates (one b) sh || (match s.fadeAt g m false with
    | some (i, f) => saturates (one (1 - b)) sh || saturates (crossFade (shiftSat (one b) sh) (shiftSat (one (1 - b)) sh)
        ((s.sbSet g).side false b).sum ((s.sbSet g).side false (1 - b)).sum i f) 0
    | none => false)
/-- The bank whose normalising gain applies. -/
def State.bankUsed (s : State) (g m : Nat) (tx : Bool) : Bank := (s.sbSet g).side tx (s.bankAt g m tx)
def State.rxNetAt (s : State) (g m : Nat) : Rat := (s.cfg g).rxNet (s.bankUsed g m false)
def State.txNetAt (s : State) (g m : Nat) : Rat := (s.cfg g).txNet (s.bankUsed g m true)

/-- The window sample of the output that holds a window sample (R209). -/
def holding (m d : Nat) : Nat := ceilDiv m d * d
/-- The code of an RX chain's RF-ADC at a converter sample, −2,047 to 2,047 (R98). -/
def adcCode (c n : Nat) : Int := clampInt (-2047) 2047 (Config.ball c n)
/-- An RX chain's RF-ADC clips in a window sample (R115). -/
def clipsIn (c m : Nat) : Bool := (List.range 12).any (fun i => decide ((adcCode c (12 * m + i)).natAbs = 2047))
/-- The tag 11 of an overrange episode that began at a window sample still holds at an output: N_u outputs have not passed
since the output that holds the first clipped sample, or one clipped after it (R116). -/
def SbConfig.overrangeHolds (k : SbConfig) (c start m : Nat) : Bool :=
  let n := (k.nUnsettled + 1) * k.d
  decide (m < start + n) || (List.range n).any (fun i =>
    decide (i ≤ m) && decide (start ≤ m - i) && clipsIn c (m - i) && decide (m < holding (m - i) k.d + n))
/-- The tag of the output at a window sample: the highest that applies (R119, R211). A tag 11 without an end is that of a
fenced chain, or of an episode that lasts. -/
def State.tagAt (s : State) (g m : Nat) : Nat :=
  ((s.sbOf g).tags.filterMap (fun p =>
    let open_ := match p.stop with
      | some e => decide (m < e)
      | none => decide (p.tag ≠ 3) || (s.cnvOf (chainOf g)).fenced || (s.cfg g).overrangeHolds (chainOf g) p.start m
    if decide (p.start ≤ m) && open_ then some p.tag else none)).foldl max 0

/-! Stage 4 (R203, R204). -/

/-- One of I and Q: the output and the new estimate. -/
def dcBlock (en frozen : Bool) (k sh tag : Nat) (e x : Int) : Int × Int :=
  if en then (sat24 (roundShift (x - roundShift e 8) sh),
    if !frozen && decide (tag ≠ 3) then e + roundShift (x * 256 - e) k else e)
  else (sat24 (roundShift x sh), 0)
/-- Whether its output saturates (R158). -/
def dcSaturates (en : Bool) (sh : Nat) (e x : Int) : Bool :=
  let v := roundShift (if en then x - roundShift e 8 else x) sh
  decide (sat24 v ≠ v)

/-! Stage 5 (R225, R236 to R239). -/

/-- A source's reference of output `k`: zero before the path became active (R239) and for an output not yet made. -/
def Sig.refAt (x : Sig) (since : Nat) (k : Int) : Iq :=
  if k < (since : Int) ∨ (x.output : Int) < k then (0, 0) else x.refs.getD (x.output - k.toNat) (0, 0)
/-- Whether a path contributes at a window sample: active, or within 2 µs of its canceller's fence (R241). -/
def CanPath.applies (p : CanPath) (m : Nat) : Bool := p.active || decide (m < p.lasts)
/-- A tap of the head that a failed lane of the fenced canceller carried (R241): zero while subtraction goes on. The first lane
lost counts no more, since the spare carries its taps (R42). -/
def State.lostTap (s : State) (g i : Nat) : Bool :=
  let x := s.cnvOf (chainOf g)
  x.canFenced && decide (i < 128) && (List.range 32).any (fun n =>
    bit x.canLanes n && decide (x.canSpared ≠ some n) && Config.laneCarries n i)
/-- The estimate of one path for output `n`, referred to the victim's words through the gains of R9 and R226. -/
def State.pathEstimate (s : State) (sigs : Table Sig) (g m n i : Nat) : Cx :=
  let src := (groupBase (chainOf g) + i) * 16 + localOf g
  let p := (s.canOf g).path i
  if p.applies m then
    let x := Table.get {} sigs src
    Cx.scale (s.txNetAt src m * s.rxNetAt g m)
      (((Table.get {} sigs g).taps i).zipIdx.map (fun e =>
        if s.lostTap g e.2 then (0, 0)
        else Cx.times e.1 (x.refAt p.since ((n : Int) - p.delay - e.2)).toCx)).sum
  else (0, 0)
/-- e[n], the sum over the paths, with a rounding error that lies at least 66 dB below it (R236): neither part errs by more than
(|Re| + |Im|)/3992, so the error by no more than |e|/1996, and 1,996 exceeds 10^3.3. -/
def State.estimate (s : State) (sigs : Table Sig) (g m n : Nat) : Cx :=
  let z := ((List.range 4).map (s.pathEstimate sigs g m n)).sum
  let err := (max z.1 (-z.1) + max z.2 (-z.2)) / 3992
  (near z.1 err, near z.2 err)

/-! Stage 7 (R159, R219 to R222). -/

/-- N_fast = min(64, max(1, floor(f_sb × 0.5 µs))) (R221). -/
def fastLength (d : Nat) : Nat := min 64 (max 1 (196608 / (200 * d)))
/-- A bound of zero under R31 holds: a mute of the governor, of the collector, of a memory word or of donor loss, or the
bound-mute (R287, R305, R380, R574). A memory mute acts so too [97]. -/
def State.boundZero (s : State) (g : Nat) : Bool :=
  s.faultMuted g || s.memMuted g || s.govMuted g || s.donorMuted g || (s.loopOf g).boundMute
/-- The gain that stage 7 is to apply: none below the ramp to zero of a disable, in mode MUTE, and under a bound of zero; else
the loop's gain under the clamp in force (R31, R285, R322). -/
def State.gainWanted (s : State) (g : Nat) : Option Int :=
  if (s.sbOf g).ramp.isSome || decide ((s.loopOf g).mode = 0) || s.boundZero g then none
  else
    ((s.loopOf g).applied).map (fun a => match (s.govOf g).clamp with
      | some (c, _) => min a (c / 100)
      | none => a)
/-- The same as a linear amplitude. -/
def amplitudeOf : Option Int → Rat
  | some a => amplitude a
  | none => 0
/-- One output of the ramp. A new target starts a fresh ramp from the gain of the last output (R220), of 64 outputs, or of
N_fast where a bound imposes the fall (R221). -/
def Ramp.next (x : Ramp) (target : Rat) (bound : Bool) (d : Nat) : Ramp :=
  let x := if target = x.target then x
    else { x with
      start := x.gain, target := target, made := 0
      length := if bound ∧ target < x.gain then fastLength d else 64 }
  if x.made < x.length then
    { x with gain := x.start + (x.target - x.start) * raised x.made x.length, made := x.made + 1 }
  else { x with gain := x.target }
/-- A bound of R31 imposes the gain: zero, a clamp below the loop's gain, or a bound that the limiter meets; a disable and
mode MUTE are none (R180, R221, R322). A bound that falls below the applied gain while one of those two ramps runs leaves it
its 64 outputs: R221 would ask for N_fast, R222 and R322 for 64; the model's choice [97]. -/
def State.boundHolds (s : State) (g : Nat) : Bool :=
  (s.sbOf g).ramp.isNone && decide ((s.loopOf g).mode ≠ 0) &&
    (s.boundZero g || (s.loopOf g).bounded || (match (s.govOf g).clamp, (s.loopOf g).applied with
      | some (c, _), some a => decide (c / 100 < a)
      | _, _ => false))

/-! Stage 8 (R276, R369 to R371, R389, R704). -/

/-- τ of a bank as a number; 0 for a bank with no sum (R175). -/
def Bank.tauQ (b : Bank) : Rat := ((b.momRe * b.sumRe + b.momIm * b.sumIm : Int) : Rat) /
  ((b.sumRe * b.sumRe + b.sumIm * b.sumIm : Int) : Rat)
/-- Window samples from the RX balls to an output at its sample instant (R174, R371): the converter and front decimator, whose
share of the 23.8 ns of t_fix the rules do not give [97], the CIC and the FIR. -/
def State.ballDelay (s : State) (g m : Nat) : Nat :=
  let k := s.cfg g
  min 46 Config.frontDelay + 3 * (k.dcUsed - 1) + (k.dcUsed * (s.bankUsed g m false).tauQ).floor.toNat
/-- The sub-bands of a direction that were open or opening at a window sample: those before the first move after it. -/
def Tdd.openAt (x : Tdd) (up : Bool) (m : Nat) : BitVec 16 :=
  match (if up then x.movesUl else x.movesDl).reverse.find? (fun e => decide (m < e.1)) with
  | some e => e.2
  | none => if up then x.openUl else x.openDl
/-- The gate of a sub-band at the RX-ball time of its output at a window sample (R371). -/
def State.gateOpenAt (s : State) (g m : Nat) : Bool :=
  match s.groupFor g with
  | none => true
  | some t => bit ((s.tddOf t).openAt (isUplink (chainOf g)) (m - s.ballDelay g m)).toNat (localOf g)

/-- Outputs of a gate ramp: max(1, ceil(200 ns × f_sb)) (R371). -/
def gateLength (d : Nat) : Nat := max 1 (ceilDiv 49152 (125 * d))
/-- The gate's place in its ramp after one output: up while it is open, down while it is closed, and at once at 0 while
MUTE_N forces stage 8 to zero. -/
def gateNext (place len : Nat) (isOpen forced : Bool) : Nat :=
  if forced then 0 else if isOpen then min len (place + 1) else min len place - 1
def gateWeight (place len : Nat) : Rat := if place = 0 then 0 else raised (place - 1) len
/-- Stage 8 is zero for MUTE_N or a fenced TX chain (R389, R704); a mute is a bound of stage 7. -/
def State.forcedZero (s : State) (g : Nat) : Bool := !s.pins.muteN || (s.cnvOf (chainOf g)).txFenced
/-- The source is gated or muted apart from its gate, as R28, R248 and R302 count it, the thermal fade included (R468). -/
def State.shut (s : State) (g : Nat) : Bool := s.muted g || s.forcedZero g || s.th.fadeEnd.isSome
/-- The weight of the thermal fade at a window sample: a raised cosine from 1 to 0 over the 2 ms that end it (R468). -/
def State.thermalWeight (s : State) (m : Nat) : Rat :=
  match s.th.fadeEnd, s.divStart with
  | some t, some d =>
    if t ≤ d + m then 0
    else if d + m + 3932160 ≤ t then 1
    else near ((1 - cosineOf (((t - (d + m) : Nat) : Rat) / 7864320)) / 2) (1 / 2 ^ 80)
  | _, _ => 1
/-- A probe is transmitted (R276): REPEAT with the TX chain transmitting, the gate open, no mute, MUTE_N high, and not
suspended (R277). -/
def State.probeRuns (s : State) (g : Nat) : Bool :=
  match (s.govOf g).probe with
  | some p => !p.suspended && decide (s.radio.state = 4) && s.transmits (chainOf g) && s.gateOpen g && !s.muted g && !s.forcedZero g
  | none => false
/-- One step of a register of x^23 + x^18 + 1 (R275). -/
def probeStep (v : Nat) : Nat := v * 2 % 8388608 + Nat.xor (v / 4194304 % 2) (v / 131072 % 2)
/-- TX noise density in 0.01 dBFS/Hz at a frequency in Hz, linear between the points of R691 (R693). -/
def noiseDensity (hz : Rat) : Rat :=
  let seg := fun (a b fa fb : Rat) => a + (b - a) * (hz - fa) / (fb - fa)
  if hz ≤ 1000000000 then -15700
  else if hz ≤ 2000000000 then seg (-15700) (-15500) 1000000000 2000000000
  else if hz ≤ 3500000000 then seg (-15500) (-15300) 2000000000 3500000000
  else if hz ≤ 5000000000 then seg (-15300) (-15100) 3500000000 5000000000
  else if hz ≤ 7125000000 then seg (-15100) (-14900) 5000000000 7125000000
  else -14900
/-- The RF centre of a fine word in a window of a chain (R128, R145), in units of 1,966.08 MHz / 2^32. -/
def State.rfCentre (s : State) (c : Nat) (winB : Bool) (fcw : Int) : Int :=
  let w := s.winOf c
  12 * ((if winB then w.fcwB else w.fcwA).toNat : Int) + fcw
/-- The TX noise floor of a sub-band in 0.01 dBFS: the density at its RF centre plus 10 × log10 of BW/1 Hz (R693). -/
def State.txFloor (s : State) (g : Nat) : Rat :=
  let k := s.cfg g
  let hz : Rat := (s.rfCentre (chainOf g) k.winB k.fcwTx : Rat) * 1966080000 / 4294967296
  noiseDensity hz + (if !s.radio.rootExt && decide (3500000000 ≤ hz) then 200 else 0) + (dbOf k.bw : Rat) * 100 / 16777216
/-- The probe's sample in reference words (R275, R276): LEVEL dB below the floor, 0 dBFS being 32,752 in the TX window. -/
def State.probeSample (s : State) (g m : Nat) (x : Sig) : Cx :=
  match (s.govOf g).probe with
  | some p => Cx.scale (amplitude (s.txFloor g - (p.level * 100 : Nat)) * 32752 / s.txNetAt g m)
      (Config.probeShape (s.cfg g).bw (s.cfg g).d x.probeI x.probeQ)
  | none => (0, 0)

/-! Detectors and measurements (R29, R281, R282, R302). -/

/-- n_L = round(τ_L × f_sb) (R280); a tie is a free choice [7]. -/
def State.loopOut (s : State) (g : Nat) : Nat :=
  let d := (s.cfg g).d
  if d = 0 then 0
  else
    let ns := (s.sbOf g).latency + (s.govOf g).ext.getD (s.govSet g).extInitNs
    (roundQ ((ns * 196608 : Nat) : Int) ((100000 * d : Nat) : Int) (Config.roundsUp ns d)).toNat
/-- A power sum of `n` words lies at or above OSC_FLOOR, words of magnitude `unit` being 0 dBFS (R281, R282). -/
def aboveFloor (sum n floor : Nat) (unit : Rat) : Bool := atLeastMinusDb sum (unit * unit * (n : Rat)) floor
/-- The growth detector takes a sample (R281): `nl` outputs a window; a tag of 11 restarts the count, with a window that
begins at the next output [97]. -/
def Detect.growth (x : Detect) (tag power nl floor : Nat) (unit : Rat) : Detect :=
  if tag = 3 then { x with sum := 0, count := 0, before := none, rises := 0 }
  else
    let sum := x.sum + power
    if x.count + 1 < nl then { x with sum := sum, count := x.count + 1 }
    else
      let rose := match x.before with
        | some (b, n) => moreThanDb ((sum * n : Nat) : Rat) ((b * (x.count + 1) : Nat) : Rat) 3
        | none => false
      let rises := if rose then x.rises + 1 else 0
      { x with
        sum := 0, count := 0, before := some (sum, x.count + 1), rises := rises
        tripped := x.tripped || (decide (4 ≤ rises) && aboveFloor sum (x.count + 1) floor unit) }
/-- |ρ(l)|² of a list of samples, newest first (R282): the autocorrelation over the overlap of the list with itself, over
the geometric mean of the powers of the two parts that overlap, so that ρ(0) and a steady oscillation give 1; 0 where a part
is silent. The rule says normalised and no more [97]. -/
def rho2 (xs : List Iq) (l : Nat) : Rat :=
  let ys := xs.drop l
  let num := Iq.power (List.zipWith (fun a b => Iq.times a (b.1, -b.2)) xs ys).sum
  let den := ((xs.take ys.length).map Iq.power).sum * (ys.map Iq.power).sum
  if den = 0 then 0 else (num : Rat) / (den : Rat)
/-- The trip test of R282 on the squares of A and B: A ≥ AC_THR, and A − B ≥ AC_CONTRAST, in 0.01. -/
def correlated (a2 b2 : Rat) (thr contrast : Nat) : Bool :=
  let t : Rat := (thr : Rat) / 100
  let k : Rat := (contrast : Rat) / 100
  let left := a2 - k * k - b2
  decide (t * t ≤ a2) && decide (0 ≤ left) && decide (4 * k * k * b2 ≤ left * left)
/-- The autocorrelation detector takes an output (R282): every n_L outputs, over the last 4 × n_L references. Half of an
odd n_L, a tie that the rule leaves open, rounds up: the model's choice [97]. -/
def Detect.autocorrelation (x : Detect) (refs : List Iq) (nl floor thr contrast : Nat) (unit : Rat) : Detect :=
  if x.since + 1 < nl then { x with since := x.since + 1 }
  else
    let xs := refs.take (4 * nl)
    let e := (xs.map Iq.power).sum
    let a := ((List.range 5).map (fun i => rho2 xs (nl + i - 2))).foldl max 0
    { x with
      since := 0
      tripped := x.tripped ||
        (correlated a (rho2 xs ((nl + 1) / 2)) thr contrast && aboveFloor e (4 * nl) floor unit) }
/-- Stages 6 and 9 measure an output (R29, R213, R302): tags 01 and 11 are excluded; stage 9 counts where it transmits
through an open gate. -/
def Meter.take (x : Meter) (tag : Nat) (r ref : Iq) (sends : Bool) : Meter :=
  if tag = 1 ∨ tag = 3 then
    { x with tagged := x.tagged + 1, taggedSent := if sends then x.taggedSent + 1 else x.taggedSent }
  else { x with
    inSum := x.inSum + r.power, inCount := x.inCount + 1
    outSum := if sends then x.outSum + ref.power else x.outSum, outCount := if sends then x.outCount + 1 else x.outCount }

/-- The period of a gating frame in window-clock periods (R357). -/
def framePeriod : Nat → Nat
  | 0 => 983040
  | 1 => 1966080
  | 2 => 3932160
  | 3 => 4915200
  | 4 => 9830400
  | _ => 19660800
/-- The symbol of a gating frame at a place in it, in window samples: 7 × 2^SCS symbols to 0.5 ms, the first of them 64 ticks
longer (R356, R357). -/
def symbolAt (scs at_ : Nat) : Nat :=
  let len := 8768 / 2 ^ scs
  let t := at_ / perTick
  let r := t % 61440
  t / 61440 * (7 * 2 ^ scs) + (if r < len + 64 then 0 else 1 + (r - (len + 64)) / len)
/-- The symbol into which a downlink sub-band of chain 0 measures at a window sample while its group learns (R363). -/
def State.learnsAt (s : State) (g m : Nat) : Option Nat :=
  match s.groupFor g with
  | some t =>
    if chainOf g = 0 ∧ (s.tddOf t).learning.isSome then
      some (symbolAt (s.tddSet t).scs (((m : Int) - (s.tddOf t).frame) % framePeriod (s.tddSet t).period).toNat)
    else none
  | none => none

/-! One window sample of a sub-band. -/

/-- The references and residuals that a sub-band may still need, as victim or as source: two blocks of the canceller and of
the governor with the longest alignment delay, what stage 10 has not taken, or four loop delays. -/
def State.historyOf (s : State) (g : Nat) : Nat :=
  max (2 * binsOf (max 1 (s.cfg g).d) + 1024) (4 * s.loopOut g + 8)
/-- A history of outputs brought to output `n`: an output that was not made reads as `d`. -/
def fillTo {α : Type} (d : α) (latest n keep : Nat) (hist : List α) : List α :=
  List.replicate (min keep (n - latest - 1)) d ++ hist
/-- Window samples from the sample instant of an output to the moment at which its reference enters the interpolation of
stage 10: the 69 stages of n_p, and the k × 32 of the RX delivery with the (15 − k) × 32 of the TX delay (R164, R174). What
stages 3 to 9 do stands at the sample instant: the delivery offset changes none of it (R166) [88]. -/
def txDelay (d : Nat) : Nat := 69 * d + 480

/-- Stages 4 to 9 at an output (R26): `y` is the FIR output, `n` its number, `tag` its tag. -/
def State.output (s : State) (sigs : Table Sig) (g m n tag : Nat) (y : Iq) (x : Sig) : Sig :=
  let k := s.cfg g
  let q := s.sbSet g
  -- stage 4
  let a := dcBlock q.dcbEn q.dcbFrozen q.dcbK k.dcbShift tag x.dcb.1 y.1
  let b := dcBlock q.dcbEn q.dcbFrozen q.dcbK k.dcbShift tag x.dcb.2 y.2
  let u : Iq := (a.1, b.1)
  -- stage 5
  let v := Iq.ofCx (u.toCx - s.estimate sigs g m n)
  let r := shiftSat v 0
  -- stage 7
  let ramp := x.ramp.next (amplitudeOf (s.gainWanted g)) (s.boundHolds g) k.d
  let net := s.rxNetAt g m * s.txNetAt g m
  let gained := Cx.scale (ramp.gain / net) r.toCx
  -- stage 8, with the probe after it
  let len := gateLength k.d
  let place := gateNext x.gate len (s.gateOpenAt g m) (!s.pins.muteN)
  let sched := gateNext x.sched len (s.gateOpenAt g m) false
  let w := if s.forcedZero g then 0 else gateWeight place len * s.thermalWeight m
  let bare := Iq.ofCx (Cx.scale w gained)
  let sent := Iq.ofCx (Cx.scale w gained + (if s.probeRuns g then Cx.scale w (s.probeSample g m x) else (0, 0)))
  -- stage 9 and the reference
  let ref : Iq := if tag = 3 then (0, 0) else sent
  let shut := decide (place < len) || s.shut g
  let keep := s.historyOf g
  let refs := (ref :: fillTo (0, 0) x.output n keep x.refs).take keep
  let sat := saturates v 0 || dcSaturates q.dcbEn k.dcbShift x.dcb.1 y.1 || dcSaturates q.dcbEn k.dcbShift x.dcb.2 y.2
  let c := s.govSet g
  let det := (x.detect.growth tag r.power (s.loopOut g) c.oscFloor (s.rxNetAt g m * 32752)).autocorrelation refs
    (s.loopOut g) c.oscFloor c.acThr c.acContrast (32752 / s.txNetAt g m)
  { x with
    dcb := (a.2, b.2), output := n, tag := tag, u := u, r := r, sent := sent, bare := bare, ramp := ramp, gate := place, sched := sched, refs := refs
    symbols := match s.learnsAt g m with
      | some i => if tag = 1 ∨ tag = 3 then x.symbols else Table.modify (0, 0) x.symbols i (fun p => (p.1 + r.power, p.2 + 1))
      | none => x.symbols
    resid := (r :: fillTo (0, 0) x.output n keep x.resid).take keep
    before := (u :: fillTo (0, 0) x.output n keep x.before).take keep
    sat := x.sat || sat, satDue := if sat then some m else x.satDue
    tags := (tag :: fillTo 3 x.output n keep x.tags).take keep
    shuts := (shut :: fillTo true x.output n keep x.shuts).take keep
    probeI := probeStep x.probeI, probeQ := probeStep x.probeQ
    detect := if s.muted g then {} else det
    meter := x.meter.take tag r sent (s.transmits (chainOf g) && !shut)
    donor := if (s.groupFor g).isNone ∨ len ≤ sched then
        (if tag = 1 ∨ tag = 3 then x.donor else (x.donor.1 + r.power, x.donor.2 + 1))
      else x.donor }

/-! Stages 1 and 2 (R128 to R131). -/

/-- A coarse NCO's rotation at converter sample `n`, forward: its accumulator is FCW × n mod 2^32 (R129). The spec gives its
sine and cosine no precision: they lie within one step of the fine NCO's words, 2^-17, of the exact ones [88]. -/
def coarse (fcw : BitVec 32) (n : Nat) : Cx :=
  let q : Rat := (accumulator (fcw.toNat : Int) n : Rat) / 4294967296
  (near (cosineOf q) (1 / 131072), near (sineOf q) (1 / 131072))
/-- The coarse word of a window of a chain, which RX and TX share (R132). -/
def State.fcwWin (s : State) (c : Nat) (winB : Bool) : BitVec 32 := if winB then (s.winOf c).fcwB else (s.winOf c).fcwA
/-- The word of an RX window: the balls' converter samples turned back by the coarse NCO and decimated by 12, 12 samples a
word, with 0 dBFS, code 2,047, at 32,752: the two-sided response of a real sine counts twice (R131). Its rounding is
unstated [7]. -/
def State.windowWord (s : State) (c : Nat) (winB : Bool) (m : Nat) : Iq :=
  let v : Cx := (frontFilter.zipIdx.map (fun e =>
    if 12 * m < e.2 then (0, 0)
    else Cx.scale (32 * e.1 * (adcCode c (12 * m - e.2) : Rat)) (Cx.conj (coarse (s.fcwWin c winB) (12 * m - e.2))))).sum
  (clampInt (-131072) 131071 (eitherWay v.1), clampInt (-131072) 131071 (eitherWay v.2))
/-- A compensation applies at a window sample (R122, R125). -/
def Comp.applies (x : Comp) (m : Nat) : Bool := decide (x.start ≤ m) && (match x.stop with
  | some e => decide (m < e)
  | none => true)
/-- The word that enters the sub-bands of a window at a window sample, with the compensation of the fast steps that apply
(R121, R122, R131). -/
def State.windowIn (s : State) (g m : Nat) : Iq :=
  let c := chainOf g
  let w := s.windowWord c (s.cfg g).winB m
  let comp : Nat := (((s.cnvOf c).comps.filter (fun x => x.applies m)).map Comp.gain).sum
  let v := if comp = 0 then w else Iq.ofCx (Cx.scale (amplitude comp) (Iq.toCx w))
  (clampInt (-131072) 131071 v.1, clampInt (-131072) 131071 v.2)

/-- Stage 3 and what follows it at a window sample (R147 to R156, R165, R187). -/
def State.receiveSample (s : State) (sigs : Table Sig) (g m : Nat) (x : Sig) : Sig :=
  let k := s.cfg g
  let x := if s.resetsAt g m then x.resetRx.resetTxAt (m + txDelay k.d) else x
  let w := mixed (s.windowIn g m) (phaseOf (accumulator (s.fcwAt g m false) m))
  let x := if k.dcUsed = 1 then
      { x with fir := ((w.1 * 16, w.2 * 16) :: x.fir).take 384 }
    else
      let ints := integrate x.cicI w
      if m % k.dcUsed = 0 then
        let y := comb x.cicC (ints.getLastD (0, 0))
        { x with
          cicI := ints, cicC := y.1, fir := (shiftSat y.2 k.cicShift :: x.fir).take 384
          sat := x.sat || saturates y.2 k.cicShift, satDue := if saturates y.2 k.cicShift then some m else x.satDue }
      else { x with cicI := ints }
  if m % k.d = 0 then
    let sat := s.filterSaturates g m k.firShift x.fir
    s.output sigs g m (m / k.d) (s.tagAt g m) (s.filterAt g m false k.firShift x.fir)
      { x with sat := x.sat || sat, satDue := if sat then some m else x.satDue }
  else x

/-- Stage 10 at a window sample up to the fine mixer (R167): the reference enters after the skew reversal (R164); the
interpolating FIR takes the reference and zeros between references, the CIC its outputs and zeros between them. The word
that enters the TX window. -/
def State.transmitSample (s : State) (g m : Nat) (x : Sig) : Sig × Iq :=
  let k := s.cfg g
  let sh := Config.txShift k.dcUsed k.dfUsed
  let x := if x.txZero.contains m then { x.resetTx with txZero := x.txZero.filter (fun t => decide (m < t)) } else x
  let late : Int := (m : Int) - txDelay k.d
  let takes := decide (late % k.dcUsed = 0)
  let ref : Iq := if late % k.d = 0 ∧ (x.hush : Int) ≤ late then x.refAt 0 (late / k.d) else (0, 0)
  let x := if takes then { x with txFir := (ref :: x.txFir).take 128 } else x
  let y : Iq := if takes then s.filterAt g m true sh.1 x.txFir else (0, 0)
  let out := fun (v : Iq) => rotate v (phaseOf (accumulator (s.fcwAt g m true) m)) false
  if k.dcUsed = 1 then (x, out y)
  else
    let c := if takes then comb x.txC y else (x.txC, (0, 0))
    let ints := integrate x.txI c.2
    let v := ints.getLastD (0, 0)
    ({ x with txC := c.1, txI := ints }, out (roundShift v.1 sh.2, roundShift v.2 sh.2))

/-- The key of a TX window: chain × 2 + window. -/
def winKey (s : State) (g : Nat) : Nat := chainOf g * 2 + ofBool (s.cfg g).winB
/-- Every sub-band that runs takes a window sample; the TX windows gather their sums, 22 bit (R149, R167, R169). -/
def State.sample (s : State) (x : Table Sig × Table Iq) (m : Nat) : Table Sig × Table Iq :=
  (allSbs.filter (fun g => s.runsAt g m || s.drainsAt g m)).foldl (fun (t : Table Sig × Table Iq) g =>
    let x := Table.get {} t.1 g
    let y := s.transmitSample g m (if s.runsAt g m then s.receiveSample t.1 g m x else x)
    (Table.set {} t.1 g y.1, Table.modify (0, 0) t.2 (winKey s g) (fun v =>
      (wrapTo 22 (v.1 + y.2.1), wrapTo 22 (v.2 + y.2.2))))) (x.1, [])

/-! Stages 10 and 11 of a chain (R132, R134 to R136, R167). -/

/-- The converter samples of the 200 ns ramp at an RF-DAC's input (R407). -/
def dacRamp : Nat := 4719
/-- The RF-DAC's input is forced to zero at a time: MUTE_N and its release, a trip or a stop, or the boundary scan (R389, R390,
R425, R469, R701). A fenced chain's input ramps down with its power-down (R407, R704). -/
def State.dacForcedAt (s : State) (c : Nat) (t : Time) : Bool :=
  !s.pins.muteN || decide (t < (s.feOf c).forceTill) || (s.feOf c).dacZero || scanTakes s.pins.tap
/-- The same now. -/
def State.dacForced (s : State) (c : Nat) : Bool := s.dacForcedAt c s.now
/-- One converter sample: the two windows interpolated by 12 and turned forward by their coarse NCOs, added, and compensated
for the zero-order hold; the code saturates at ±8191 (R134 to R136). A clip episode begins and ends as an overrange episode
does: it ends after 1,024 clean samples (R115). -/
def State.dacSample (s : State) (c n : Nat) (forced : Bool) (x : Dac) : Dac :=
  let up := fun (h : List Iq) => (h.zipIdx.map (fun e => Cx.scale (Config.upTap (12 * e.2 + n % 12)) e.1.toCx)).sum
  let v : Cx := Cx.times (up x.a) (coarse (s.fcwWin c false) n) + Cx.times (up x.b) (coarse (s.fcwWin c true) n)
  let place := if s.transmits c then min dacRamp (x.place + 1) else x.place - 1
  let w : Rat := if forced ∨ place = 0 then 0 else raised (place - 1) dacRamp
  let line := ((8191 / 32752) * v.1 :: x.line).take sincFilter.length
  let y := eitherWay (w * (List.zipWith (fun h v => h * v) sincFilter line).sum)
  let code := clampInt (-8191) 8191 y
  let beyond := decide (code ≠ y)
  { x with
    line := line, place := place, code := code
    loudAt := if 82 ≤ code.natAbs then s.divStart.getD 0 + n / 12 else x.loudAt
    clipping := beyond || (x.clipping && decide (x.clean < 1023))
    clean := if beyond then 0 else x.clean + ofBool x.clipping
    begun := if beyond && !x.clipping then x.begun + 1 else x.begun }
/-- Several converter samples from one on. -/
def State.dacSamples (s : State) (c n : Nat) (forced : Bool) (x : Dac) : Nat → Dac
  | 0 => x
  | k + 1 => s.dacSamples c (n + 1) forced (s.dacSample c n forced x) k
/-- Every chain's transmit converter takes a window sample's words, and makes 12 converter samples. -/
def State.convert (s : State) (win : Table Iq) (dacs : Table Dac) (m : Nat) : Table Dac :=
  chains.foldl (fun t c => Table.modify {} t c (fun x =>
    let y : Dac := { x with
      a := (Table.get (0, 0) win (c * 2) :: x.a).take Config.upWords
      b := (Table.get (0, 0) win (c * 2 + 1) :: x.b).take Config.upWords }
    s.dacSamples c (12 * m) (s.dacForcedAt c ((s.divStart.getD 0) + m)) y 12)) dacs

/-- A transmit converter after a time in which its windows carry nothing. -/
def State.quietDac (s : State) (c dt : Nat) (x : Dac) : Dac :=
  { x with
    a := [], b := [], line := [], code := 0
    place := if s.transmits c then min dacRamp (x.place + 12 * dt) else x.place - 12 * dt
    clipping := x.clipping && decide (x.clean + 12 * dt < 1024)
    clean := if x.clipping then x.clean + 12 * dt else x.clean }

/-! What the captures take (R494 to R498, R503). -/

/-- Bytes of a sample (R494, R495). -/
def CapSet.size (k : CapSet) : Nat := if k.point ≤ 1 then 4 else if k.point = 5 then 32 else if k.compact then 4 else 8
/-- N of R498. -/
def CapSet.samples (k : CapSet) : Nat := 16777216 / (k.nsrc * k.size)
/-- OUTER_DIV' of a loop (R494). -/
def State.loopDiv (s : State) (l : Nat) : Nat := if l < 128 then 1 else (s.loopSet l).outerDiv
/-- Window samples between two samples of a source (R165, R494). -/
def State.capPeriod (s : State) (point src : Nat) : Nat :=
  if point ≤ 1 then 1 else if point = 5 then perControl * s.loopDiv src else max 1 (s.cfg src).d
/-- A stage word shifted right, rounded and saturated to a field of the sample format, and whether it saturated (R495). -/
def capField (bits sh : Nat) (v : Int) : Int × Bool :=
  let r := roundShift v sh
  let c := clampInt (-(2 ^ (bits - 1) : Nat)) ((2 ^ (bits - 1) : Nat) - 1) r
  (c, decide (c ≠ r))
/-- The field of a stage word in the slot's format: its bits and its shift. -/
def CapSet.field (k : CapSet) : Nat × Nat := if k.point ≤ 1 then (16, 2) else if k.compact then (15, k.shift) else (24, 0)
/-- The amplitude, 1 at 0 dBFS, of a captured magnitude of 16,384 (R9, R495): a 0 dBFS sine has 8,188 in the window format,
and 32,752 in the window word, which the net gain of the RX stages gives a sub-band at its RF-ADC, or that of the TX stages
at its RF-DAC. -/
def State.refAmplitude (s : State) (k : CapSet) (src m : Nat) : Rat :=
  let unit : Rat := ((16384 * 2 ^ k.field.2 : Nat) : Rat)
  if k.point ≤ 1 then 16384 / 8188
  else if k.point = 4 then unit * s.txNetAt src m / 32752
  else unit / (s.rxNetAt src m * 32752)
/-- REF_DB (R496) in 0.01 dB: the level of a tone captured at magnitude 16,384. -/
def State.refLevel (s : State) (k : CapSet) (src m : Nat) : CentiDb := centiDbOf (s.refAmplitude k src m * s.refAmplitude k src m)
/-- The stage word of a capture point at a window sample, and its tag (R494). -/
def State.pointWord (s : State) (sigs : Table Sig) (win : Table Iq) (k : CapSet) (src m : Nat) : Iq × Nat :=
  let x := Table.get {} sigs src
  if k.point = 0 then (s.windowWord src k.winB m, 0)
  else if k.point = 1 then (Table.get (0, 0) win (src * 2 + ofBool k.winB), 0)
  else if k.point = 2 then (x.u, x.tag)
  else if k.point = 3 then (x.r, x.tag)
  else (x.sent, x.tag)
/-- The instant of a trigger's sample, and of the first sample after the capture's end (R498). -/
def State.capEnd (s : State) : Nat :=
  let k := s.capSet 0
  s.cap.trigAt + (k.samples - k.pre) * s.capPeriod k.point (k.srcs.getD 0 0)
/-- A slot takes samples of an instant: the buffer capture from its start to its end, a stream from its start event until
a stop (R497, R498, R507). -/
def State.slotTakes (s : State) (slot m : Nat) : Bool :=
  if slot = 0 then
    decide (s.cap.owner = 1) && decide (s.cap.started ≤ m) && (decide (s.cap.state ≠ 3) || decide (m < s.capEnd))
  else
    let x := s.stream slot
    x.run && x.ending.isNone && (match x.started with
      | some t => decide (t ≤ m)
      | none => false)
/-- The samples a slot keeps of a source: the buffer holds N, a stream all that no block has taken. -/
def CapSet.keeps (k : CapSet) (slot : Nat) (xs : List (Nat × Int × Captured)) : List (Nat × Int × Captured) :=
  if slot = 0 then xs.take k.samples else xs
/-- A slot takes one sample of its source `i`. -/
def CapSet.take (k : CapSet) (slot i m : Nat) (ref : Int) (w : Captured) (sat : Bool) (t : Table Taken) : Table Taken :=
  Table.modify {} t (slot * 4 + i) (fun x => { samples := k.keeps slot ((m, ref, w) :: x.samples), sat := x.sat || sat })
/-- The stage words that the captures take at a window sample: an output of a sub-band at its sample instant. -/
def State.takeWords (s : State) (sigs : Table Sig) (win : Table Iq) (t : Table Taken) (m : Nat) : Table Taken :=
  ((List.range 17).filter (fun n => s.slotTakes n m && decide ((s.capSet n).point < 5))).foldl (fun t n =>
    let k := s.capSet n
    (k.srcs.zipIdx.filter (fun e => decide (m % s.capPeriod k.point e.1 = 0) && (decide (k.point ≤ 1) || s.runsAt e.1 m))).foldl
      (fun t e =>
        let v := s.pointWord sigs win k e.1 m
        k.take n e.2 m (s.refLevel k e.1 m) (.word v.1.1 v.1.2 v.2)
          ((capField k.field.1 k.field.2 v.1.1).2 || (capField k.field.1 k.field.2 v.1.2).2) t) t) t
/-- The records of a loop's update that the captures take, at the start of its control tick (R341, R494). -/
def State.takeRecord (s : State) (l : Nat) (words : List DbWord) : State :=
  let m := s.window / perControl * perControl
  { s with taken := ((List.range 17).filter (fun n => s.slotTakes n m && decide ((s.capSet n).point = 5))).foldl (fun t n =>
      let k := s.capSet n
      (k.srcs.zipIdx.filter (fun e => decide (e.1 = l))).foldl (fun t e => k.take n e.2 m 0 (.record words) false t) t) s.taken }

/-- The sample path: sub-bands, TX windows, transmit converters, and what the captures take. -/
abbrev Path := Table Sig × Table Iq × Table Dac × Table Taken
/-- The window samples of an interval, in order. -/
def State.samples (s : State) (x : Path) (m : Nat) : Nat → Path
  | 0 => x
  | n + 1 =>
    let y := s.sample (x.1, x.2.1) m
    s.samples (y.1, y.2, s.convert y.2 x.2.2.1 m, s.takeWords y.1 y.2 x.2.2.2 m) (m + 1) n
/-- A capture or stream of stage words is at work. -/
def State.takesWords (s : State) : Bool :=
  (List.range 17).any (fun n => decide ((s.capSet n).point < 5) && (if n = 0 then decide (s.cap.owner = 1) else (s.stream n).run))
/-- The sample path after a time, the commands and events in force standing still in it: what changes at a moment arrives as
a row at that moment, before its window sample [1]. -/
def State.path (s : State) (dt : Nat) : Path :=
  if s.divStart.isNone then (s.sig, s.txWin, s.dac, s.taken)
  else if !(s.takesWords || allSbs.any (fun g => (s.enabled g && s.listening) || s.drainsAt g s.window)) then
    (s.sig, [], chains.foldl (fun t c => Table.modify {} t c (s.quietDac c dt)) s.dac, s.taken)
  else s.samples (s.sig, s.txWin, s.dac, s.taken) s.window dt

/-! Transforms (R228, R242, R251). -/

/-- The inverse transform of R228. -/
def inverseBins (bins : List Cx) : List Cx :=
  let nb := bins.length
  (List.range nb).map (fun (i : Nat) => Cx.scale (1 / (nb : Rat)) ((bins.zipIdx.map (fun e =>
    Cx.times e.1 (unitRoot nb ((i : Int) * ((e.2 : Int) - (nb / 2 : Nat)))))).sum))
/-- The transform of a response to bins, in the order of R228. -/
def binsFrom (h : List Cx) : List Cx :=
  let nb := h.length
  (List.range nb).map (fun (j : Nat) => (h.zipIdx.map (fun e =>
    Cx.times e.1 (unitRoot nb (-(e.2 : Int) * ((j : Int) - (nb / 2 : Nat)))))).sum)
/-- The transforms of R242, of as many points as the list has. -/
def fft (xs : List Cx) : List Cx :=
  (List.range xs.length).map (fun (k : Nat) => (xs.zipIdx.map (fun e =>
    Cx.times e.1 (unitRoot xs.length (-(e.2 : Int) * k)))).sum)
def ifft (xs : List Cx) : List Cx :=
  (List.range xs.length).map (fun (n : Nat) => Cx.scale (1 / (xs.length : Rat)) ((xs.zipIdx.map (fun e =>
    Cx.times e.1 (unitRoot xs.length ((e.2 : Int) * n)))).sum))
/-- A bank's response at bin j, normalised (R159, R251): taps of the rate f_sb × Df. -/
def bankResponse (taps : List Iq) (sum : Rat) (df nb j : Nat) : Cx :=
  Cx.scale (1 / sum) (taps.zipIdx.map (fun e =>
    Cx.times (Iq.toCx e.1) (unitRoot (nb * df) (-(e.2 : Int) * ((j : Int) - (nb / 2 : Nat)))))).sum

/-- The entries of a history for `n` outputs from number `first` on, oldest first; `latest` is the number of its newest
entry, and an output that it does not hold reads as `d`. -/
def outputsOf {α : Type} (d : α) (hist : List α) (latest : Nat) (first : Int) (n : Nat) : List α :=
  (List.range n).map (fun i =>
    let k : Int := first + i
    if k < 0 ∨ (latest : Int) < k then d else hist.getD (latest - k.toNat) d)

/-! Time. -/

/-- The TX chains whose loopback calibration has run in an interval (R39, R137): transmitting, with trims that do not
hold. -/
def State.observed (s : State) (dt : Nat) : List Nat :=
  if dt = 0 then []
  else chains.filter (fun c => s.transmits c && !(s.cnvOf c).calHold && !(s.cnvOf c).calStuck)
/-- A trim after a time: it moves by 1/16 LSB per 10 ms at most, which way and how far is a free value (R137). -/
def trimStep (v : Rat) (dt : Nat) (lsb : Rat) (seed : Nat) : Rat :=
  let most : Rat := lsb * (dt : Rat) / 314572800
  v + most * (((seed % 2001 : Nat) : Rat) / 1000 - 1)
/-- The last error of those chains, a free value, and their RF-DAC trims after a time, the full scale within ±0.1 dB of its
nominal value (R137, R143): 1 LSB of full scale is taken as 0.00106 dB, no more than 20 × log10(1 + 1/8,191). -/
def State.loopback (s : State) (cs : List Nat) (dt : Nat) : Table Cnv :=
  cs.zipIdx.foldl (fun t e => Table.modify {} t e.1 (fun x => { x with
    gainErr := s.drawAt (4 * e.2) % 65536
    trims := { x.trims with
      dacSeg := trimStep x.trims.dacSeg dt 1 (s.drawAt (4 * e.2 + 1)), dacSkew := trimStep x.trims.dacSkew dt 1 (s.drawAt (4 * e.2 + 2))
      dacGain := max (-1 / 10) (min (1 / 10) (trimStep x.trims.dacGain dt (106 / 100000) (s.drawAt (4 * e.2 + 3)))) } })) s.cnv
/-- The time that passes before a command or event; what the step before sent is gone from the output. -/
def State.advance (s : State) (dt : Nat) : State :=
  { s with
    now := s.now + dt, out := [], cnv := s.loopback (s.observed dt) dt, draws := s.draws + 4 * (s.observed dt).length
    sig := (s.path dt).1, txWin := (s.path dt).2.1, dac := (s.path dt).2.2.1, taken := (s.path dt).2.2.2 }

end Sys2Proof.Machine
end

