-- ==== Sys2Proof/Machine/Deliver.lean ====
section
/-!
DEFINITION. What the block sends to the host: completions in the order the rules fix, events to every sink, MSI-X
messages (R517 to R522, R533 to R540, R552, R553), and the notes the blocks leave for the collector and the recorder.
-/

namespace Sys2Proof.Machine

/-- The key of a source's queue. -/
def srcKey : Src → Nat
  | .ring n => n
  | .usb3 q => 20000 + q
  | .usb2 => 20008

/-- Status codes of R538. -/
def stOk : Nat := 0x0000
def stBadOpcode : Nat := 0x0010
def stBadLength : Nat := 0x0011
def stIllegal : Nat := 0x0012
def stBadObject : Nat := 0x0013
def stWrongState : Nat := 0x0014
def stBusy : Nat := 0x0020
def stBudget : Nat := 0x0021
def stFenced : Nat := 0x0022
def stTimeout : Nat := 0x0030
def stAbortedRecovery : Nat := 0x0031
def stAbortedHost : Nat := 0x0032
def stNotPermitted : Nat := 0x0040
def stBusError : Nat := 0x0050
def stBusNack : Nat := 0x0051
def stBusArbLost : Nat := 0x0052
def stIntegrity : Nat := 0x0060

/-- Entries a ring can still take (R517): one less than its size, less those unconsumed. -/
def Ring.room (r : Ring) : Nat :=
  let size := 2 ^ r.log2size
  size - 1 - (r.tail + size - r.head) % size

/-- A vector's entry of the MSI-X table. -/
def State.msixVec (s : State) (v : Nat) : MsixVec := Table.get {} s.link.msixVec v
/-- A vector's message can go out: MSI-X is enabled, neither the function nor the vector is masked, and the endpoint may start
transfers (R486, R487). -/
def State.msixFree (s : State) (v : Nat) : Bool := s.masters && s.link.msixOn && !s.link.msixMask && !(s.msixVec v).masked
/-- An MSI-X message is sent, or pends (R486, R487). -/
def State.sendMsix (s : State) (v : Nat) : State :=
  if s.msixFree v then s.emit (.msix v (s.msixVec v).addr (s.msixVec v).data)
  else { s with link := { s.link with msixPend := Table.set false s.link.msixPend v true } }

/-- The ring's vector is sent after MOD_COUNT entries, or on every entry with MOD_US = 0 (R522). -/
def State.moderate (s : State) (n : Nat) : State :=
  let r := s.ring n
  let s := s.modRing n (fun r => { r with since := r.since + 1, sinceAt := if r.since = 0 then s.now else r.sinceAt })
  if r.irqEn && (decide (r.modUs = 0) || decide (r.modCount ≤ r.since + 1)) then
    (s.modRing n (fun r => { r with since := 0 })).sendMsix r.vector
  else s

/-- The byte that carries PHASE, with the bit set as given (R517). -/
def withPhase (bytes : List Byte) (off : Nat) (phase : Bool) : List Byte :=
  bytes.set off (BitVec.ofNat 8 (byteAt bytes off % 128 + if phase then 128 else 0))

/-- TAIL past one more entry; PHASE inverts when TAIL wraps to 0 (R517). -/
def Ring.produced (r : Ring) : Ring :=
  let t := (r.tail + 1) % 2 ^ r.log2size
  { r with tail := t, phase := if t = 0 then !r.phase else r.phase }

/-- One item written into a ring of the host (R518), or into a buffer of it (R532). -/
def State.writeItem (s : State) (n : Nat) (it : Item) : State :=
  let r := s.ring n
  let o := if it.kind = 1 then Output.completion n (withPhase it.bytes 7 r.phase)
    else if it.kind = 2 then Output.event n (withPhase it.bytes 3 r.phase)
    else Output.telemetry n (withPhase it.bytes 31 r.phase)
  if it.kind = 5 then s.emit (.hostWrite it.addr it.bytes)
  else ((s.emit o).modRing n Ring.produced).moderate n

/-- The oldest item of a ring is written where the ring has room for it (R517); data for a buffer take none. -/
def State.drainOne (s : State) (k : Nat) : State :=
  match s.items k with
  | [] => s
  | it :: rest => if it.kind = 5 ∨ 0 < (s.ring k).room then (s.setItems k rest).writeItem k it else s

/-- The items of a ring are written as far as its state, its room and the endpoint allow (R487, R517, R525, R547); those of a
USB queue pair wait for the host's IN transfers (R533). -/
def State.drain (s : State) (k : Nat) : State :=
  if 20000 ≤ k then s
  else
    let r := s.ring k
    if r.state = 0 ∨ r.state = 2 then
      (s.modRing k (fun r => { r with lost := (r.lost + (s.entries k).length) % 4294967296 })).setItems k []
    else if (r.state = 1 ∨ r.state = 3) ∧ s.masters then
      s.each (List.replicate (s.items k).length k) State.drainOne
    else s

/-- The number of an item is used up. -/
def State.itemNumbered (s : State) : State := { s with jcp := { s.jcp with nextItem := s.jcp.nextItem + 1 } }
/-- One more item for a ring or queue pair, behind all that have arisen. -/
def State.pushItem (s : State) (k : Nat) (it : Item) : State :=
  (s.itemNumbered.setItems k (s.items k ++ [{ it with no := s.jcp.nextItem }])).drain k

/-- A trigger left for the recorder, which SNAPSHOT_TRIGGER takes up (R606). -/
def State.trigger (s : State) (code source : Nat) (injected : Bool := false) : State :=
  { s with rcd := { s.rcd with due := s.rcd.due ++ [(code, source, injected)] } }

/-- A condition detected in a block, left for the collector, which FAULT_DETECTION takes up (R568). A lasting
condition holds until it ends; an event condition shows in FLT_LIVE for 1 µs. -/
def State.raise (s : State) (b addr kind : Nat) (lasting : Bool := false) : State :=
  let d : Due := { bit := b, addr := addr, kind := kind }
  { s with flt := { s.flt with
      due := s.flt.due ++ [d]
      lasting := if lasting then (if s.flt.lasting.contains d then s.flt.lasting else s.flt.lasting ++ [d])
        else s.flt.lasting
      pulse := if lasting then s.flt.pulse else Table.set 0 s.flt.pulse b (s.now + 1967) } }

/-- A lasting condition ends (R568). -/
def State.ends (s : State) (b addr : Nat) : State :=
  { s with flt := { s.flt with lasting := s.flt.lasting.filter (fun d => !(d.bit == b && d.addr == addr)) } }

/-- Bit n of FLT_LIVE (R569). -/
def State.live (s : State) (n : Nat) : Bool :=
  s.flt.lasting.any (fun d => d.bit == n) || decide (s.now < Table.get 0 s.flt.pulse n) || bit s.flt.force.toNat n ||
    (decide (n = 9) && s.sig.any (fun e => e.2.satDue.isSome))

/-- The opcodes of the reset selection of R625. -/
def recDefaultOps : List Nat := [0x0101, 0x0311, 0x0510, 0x0901, 0x0902, 0x0903, 0x0C01, 0x0030, 0x0031]

/-- REC_CMD_SEL of an opcode group (R625). -/
def State.cmdSel (s : State) (group : Nat) : BitVec 64 :=
  match Table.get none s.store.cmdSel group with
  | some v => v
  | none =>
    BitVec.ofNat 64 ((recDefaultOps.filter (fun op => op / 256 == group)).foldl (fun a op => a + 2 ^ (op % 256)) 0)

/-- HOLD of R535: bit 13 selects units of 16 µs. -/
def holdField (us : Nat) : Nat := if us ≤ 8191 then us else 8192 + min 8191 (ceilDiv us 16)

/-- The 16 bytes of a completion, PHASE apart (R534, R535). -/
def completionBytes (e : Entry) (status sub result : Nat) : List Byte :=
  let detail := match e.heldUs with
    | some us => if status = stOk then 0x4000 + holdField us else sub % 16384
    | none => if status = stOk then 0 else sub % 16384
  let keep := status = stOk ∨ status = stTimeout ∨ status = stAbortedRecovery ∨ status = stAbortedHost
  leBytes 4 e.req.tag.toNat ++ leBytes 2 status ++ leBytes 2 detail ++ leBytes 8 (if keep then result else 0)

/-- The sink of a source's completions (R533, PEER of R523). -/
def State.sinkOf (s : State) (k : Nat) : Nat := if 20000 ≤ k then k else (s.ring k).peer

/-- A completion that nothing takes is discarded and counted (R549). -/
def State.discardEntry (s : State) (k : Nat) : State :=
  s.modRing k (fun r => { r with lost := (r.lost + 1) % 4294967296 })
/-- A finished command leaves its queue: its data item on USB and its completion, unless R536 suppresses it or its ring has been
discarded (R549). -/
def State.postEntry (s : State) (k : Nat) (e : Entry) : State :=
  match e.phase with
  | .done status sub result =>
    if e.discarded then s.discardEntry k else
    let s := s.modRing k (fun r => if k < 20000 then { r with completed := (r.completed + 1) % 4294967296 } else r)
    let s := if 20000 ≤ k ∧ e.data ≠ [] then s.pushItem k { kind := 3, bytes := e.data } else s
    if bit e.req.flags.toNat 2 && status == stOk then s
    else s.pushItem (s.sinkOf k) { kind := 1, bytes := completionBytes e status sub result }
  | _ => s

/-- The finished commands that may be posted, and those that stay: an ORDERED command waits for every earlier one,
and every later one waits for it (R540). -/
def postable : List Entry → Bool → Bool → List Entry × List Entry
  | [], _, _ => ([], [])
  | e :: rest, waits, ordered =>
    let isDone := match e.phase with
      | .done _ _ _ => true
      | _ => false
    let ord := bit e.req.flags.toNat 0
    if isDone && !ordered && !(ord && waits) then
      let r := postable rest waits ordered
      (e :: r.1, r.2)
    else
      let r := postable rest true (ordered || ord)
      (r.1, e :: r.2)

/-- The completions that may be posted are posted (R540, R546). -/
def State.flush (s : State) (k : Nat) : State :=
  let r := postable (s.queue k) false false
  r.1.foldl (fun s e => s.postEntry k e) (s.setQueue k r.2)

/-- A command ends with a status, a subcode and a result; its completion follows when the order allows. With no
management pair left, open commands do not complete (R703). -/
def State.complete (s : State) (ref : CmdRef) (status sub result : Nat) : State :=
  if s.boot.pairFenced = 3 then s else
  match (s.queue ref.src).find? (fun e => e.id == ref.id) with
  | none => s
  | some e =>
    let s := s.setQueue ref.src
      ((s.queue ref.src).map (fun x => if x.id == ref.id then { x with phase := .done status sub result } else x))
    let s := if bit (s.cmdSel (e.op / 256)).toNat (e.op % 256) then s.trigger 0x40 (e.op * 65536 + status) else s
    s.flush ref.src

/-- As `complete`, for a command that may be absent. -/
def State.completeOpt (s : State) (ref : Option CmdRef) (status sub result : Nat) : State :=
  match ref with
  | some r => s.complete r status sub result
  | none => s

/-- Data of a command to the host: into its buffer over PCIe, or with the completion over USB (R532). Where the endpoint may
start no transfer they wait before the completion that cannot be written either (R487). -/
def State.giveData (s : State) (ref : CmdRef) (addr : Nat) (bytes : List Byte) : State :=
  if 20000 ≤ ref.src then
    s.setQueue ref.src ((s.queue ref.src).map (fun x => if x.id == ref.id then { x with data := bytes } else x))
  else if s.masters then s.emit (.hostWrite addr bytes)
  else s.pushItem (s.sinkOf ref.src) { kind := 5, bytes := bytes, addr := addr }

/-- The command `ref` started at this time; 0 if it is gone. -/
def State.startOf (s : State) (ref : CmdRef) : Time :=
  match (s.queue ref.src).find? (fun e => e.id == ref.id) with
  | some e => match e.phase with
    | .running t => t
    | _ => s.now
  | none => s.now

/-- The request of a command in a queue. -/
def State.requestOf (s : State) (ref : CmdRef) : Option Request :=
  ((s.queue ref.src).find? (fun e => e.id == ref.id)).map Entry.req

/-- The 32 bytes of an event entry, PHASE apart (R552). -/
def State.eventBytes (s : State) (code : Nat) (payload : List Byte) : List Byte :=
  leBytes 2 code ++ leBytes 2 0 ++ leBytes 4 s.jcp.seq ++ leBytes 4 s.seconds ++ leBytes 2 s.subsec ++ leBytes 2 0 ++
    (payload ++ List.replicate 16 0).take 16

/-- An event that a sink loses (R553). -/
def Sink.lose (k : Sink) (seq : Nat) : Sink := { lost := k.lost + 1, first := if k.lost = 0 then seq else k.first }

/-- An event for ring 2: written or kept while there is room, lost otherwise (R547, R553). -/
def State.postRing (s : State) (bytes : List Byte) : State :=
  let r := s.ring 2
  let waiting := (s.items 2).length
  if r.state = 1 ∧ waiting < r.room ∨ r.state = 4 ∧ waiting < 1024 then s.pushItem 2 { kind := 2, bytes := bytes }
  else if r.state = 1 ∨ r.state = 4 then { s with jcp := { s.jcp with sinkRing := s.jcp.sinkRing.lose s.jcp.seq } }
  else s

/-- An event for a USB sink: kept until the host reads it, lost at the limit of R533. -/
def State.postUsb3 (s : State) (bytes : List Byte) : State :=
  if s.link.usb3Up then
    if (s.items 20000).length < 1024 then s.pushItem 20000 { kind := 2, bytes := bytes }
    else { s with jcp := { s.jcp with sinkUsb3 := s.jcp.sinkUsb3.lose s.jcp.seq } }
  else s
def State.postUsb2 (s : State) (bytes : List Byte) : State :=
  if s.link.usb2Up then
    if (s.items 20008).length < 1024 then s.pushItem 20008 { kind := 2, bytes := bytes }
    else { s with jcp := { s.jcp with sinkUsb2 := s.jcp.sinkUsb2.lose s.jcp.seq } }
  else s

/-- An event is posted on every sink that is up, with one SEQ (R553). -/
def State.post (s : State) (code : Nat) (payload : List Byte) : State :=
  let b := s.eventBytes code payload
  let s := ((s.postRing b).postUsb3 b).postUsb2 b
  { s with jcp := { s.jcp with seq := (s.jcp.seq + 1) % 4294967296 } }

/-- Whether any event sink is up (R588). -/
def State.sinkUp (s : State) : Bool := decide ((s.ring 2).state = 1) || s.link.usb3Up || s.link.usb2Up

/-- EVENTS_LOST is owed to a sink that has room again (R553). It carries the next SEQ without using it up [14]. -/
def State.owedEvents (s : State) : State :=
  let lostPayload := fun (k : Sink) => leBytes 4 k.lost ++ leBytes 4 k.first
  let s := if 0 < s.jcp.sinkRing.lost ∧ (s.ring 2).state = 1 ∧ (s.items 2).length < (s.ring 2).room then
      { s.postRing (s.eventBytes 0x0004 (lostPayload s.jcp.sinkRing)) with
        jcp := { (s.postRing (s.eventBytes 0x0004 (lostPayload s.jcp.sinkRing))).jcp with sinkRing := {} } }
    else s
  let s := if 0 < s.jcp.sinkUsb3.lost ∧ s.link.usb3Up ∧ (s.items 20000).length < 1024 then
      let t := s.postUsb3 (s.eventBytes 0x0004 (lostPayload s.jcp.sinkUsb3))
      { t with jcp := { t.jcp with sinkUsb3 := {} } }
    else s
  if 0 < s.jcp.sinkUsb2.lost ∧ s.link.usb2Up ∧ (s.items 20008).length < 1024 then
    let t := s.postUsb2 (s.eventBytes 0x0004 (lostPayload s.jcp.sinkUsb2))
    { t with jcp := { t.jcp with sinkUsb2 := {} } }
  else s

end Sys2Proof.Machine
end

