-- ==== Sys2Proof/Machine/Subband.lean ====
section
/-!
DEFINITION. Shared operations on sub-bands: latency, budgets, tags, output boundaries (04_channelisation.md,
05_filters_settling.md).
-/

namespace Sys2Proof.Machine

/-- τ of a bank as an exact fraction: the real part of Σ n h / Σ h (R175), numerator and denominator. -/
def Bank.tau (b : Bank) : Int × Int :=
  (b.momRe * b.sumRe + b.momIm * b.sumIm, b.sumRe * b.sumRe + b.sumIm * b.sumIm)

/-- LATENCY_NS of R174 and R175, rounded to nearest: 267.940625 ns of t_fix and t_eq, and window samples of
3,125/6,144 ns. Where an active bank holds no coefficients with a sum, no τ is stated: the value is free [7]. A sum below 0 reads 0 and one
above 65,535 wraps, which the spec leaves open [7]. -/
def latencyNs (c : SbConfig) (rx tx : Bank) (up : Bool) (free : Nat) : Nat :=
  let dc : Int := c.dcUsed
  let a := rx.tau
  let b := tx.tau
  if c.d = 0 then 0
  else if a.2 = 0 ∨ b.2 = 0 then free % 65536
  else
    let whole : Int := 69 * c.d + 6 * (dc - 1)
    let den := a.2 * b.2
    let win := whole * den + dc * (a.1 * b.2 + b.1 * a.2)
    (roundQ (267940625 * 6144 * den + win * 3125 * 1000000) (1000000 * 6144 * den) up).toNat % 65536

/-- LATENCY_NS of a sub-band with its active banks. -/
def State.latencyOf (s : State) (g : Nat) : Nat :=
  let x := s.sbSet g
  latencyNs x.cfg (x.rxBank x.rxAct) (x.txBank x.txAct) (Config.roundsUp 0 s.draws) s.draw

/-- τ in 1/256 of a tap for the result of R193; its rounding is unstated [7]. -/
def tau256 (b : Bank) (draw : Nat) : Int :=
  let t := b.tau
  if t.2 = 0 then 0
  else
    let q := 256 * t.1 / t.2
    if 256 * t.1 % t.2 = 0 then q else if Config.roundsUp (256 * t.1) draw then q + 1 else q

/-- RX_CAP in MACs per window sample (R160). -/
def State.rxCap (s : State) (c : Nat) : Nat := 384 - 32 * ((s.cnvOf c).lanesLost - 1)

/-- A fade is in progress: its first faded output has come (R195). -/
def State.fading (s : State) (g : Nat) (tx : Bool) : Bool := ((s.sbOf g).fade tx).any (fun f => decide (f.first ≤ s.window))
/-- What one sub-band counts on its RX filter engine: nothing when not enabled or shed, twice from the first faded output of
a cross-fade (R160, R195). -/
def State.rxTerm (s : State) (g : Nat) : Nat :=
  let c := s.cfg g
  if c.enable && !(s.sbOf g).shed then
    loadUnits c.l c.d * (if s.fading g false then 2 else 1)
  else 0
/-- What one sub-band counts on its TX engine (R161). -/
def State.txTerm (s : State) (g : Nat) : Nat :=
  let c := s.cfg g
  if c.enable then loadUnits c.lTx c.d * (if s.fading g true then 2 else 1) else 0

def State.rxLoad (s : State) (c : Nat) : Nat := ((sbsOf c).map s.rxTerm).sum
def State.txLoad (s : State) (c : Nat) : Nat := ((sbsOf c).map s.txTerm).sum
/-- Loads once pending disable ramps have ended (R163). -/
def State.rxLoadLater (s : State) (c : Nat) : Nat :=
  ((sbsOf c).map (fun g => if (s.sbOf g).ramp.isSome then 0 else s.rxTerm g)).sum
def State.txLoadLater (s : State) (c : Nat) : Nat :=
  ((sbsOf c).map (fun g => if (s.sbOf g).ramp.isSome then 0 else s.txTerm g)).sum

/-- What the cross-fades that a chain has accepted will add from their first faded output (R195). -/
def State.fadesToCome (s : State) (c : Nat) (tx : Bool) : Nat :=
  ((sbsOf c).map (fun g =>
    if (s.cfg g).enable && ((s.sbOf g).fade tx).isSome && !s.fading g tx && (tx || !(s.sbOf g).shed) then
      loadUnits (if tx then (s.cfg g).lTx else (s.cfg g).l) (s.cfg g).d
    else 0)).sum

/-- The same once pending disable ramps have ended (R163). -/
def State.fadesLater (s : State) (c : Nat) (tx : Bool) : Nat :=
  ((sbsOf c).map (fun g =>
    if (s.cfg g).enable && (s.sbOf g).ramp.isNone && ((s.sbOf g).fade tx).isSome && !s.fading g tx && (tx || !(s.sbOf g).shed) then
      loadUnits (if tx then (s.cfg g).lTx else (s.cfg g).l) (s.cfg g).d
    else 0)).sum

/-- The first output boundary at least 1 µs after the start of execution, as a window sample (R214). -/
def State.boundary (s : State) (d : Nat) : Nat := ceilDiv (s.window + 1967) d * d

/-- A tag period is added; those that have ended are dropped (R210, R211). -/
def State.addTag (s : State) (g tag start : Nat) (stop : Option Nat) : State :=
  s.modSb g (fun x => { x with
    tags := x.tags.filter (fun p => match p.stop with
      | some e => decide (s.window ≤ e)
      | none => true) ++ [{ tag := tag, start := start, stop := stop }]
    settle := if tag = 1 then satUp 0xFFFF x.settle else x.settle })

/-- The tag of the latest RX output: the highest that applies (R119, R223). -/
def State.tagNow (s : State) (g : Nat) : Nat :=
  let c := s.cfg g
  if !c.enable ∨ c.d = 0 then 3
  else if s.listening then s.tagAt g ((s.window - 1) / c.d * c.d)
  else (s.sigOf g).tag

/-- A settling event of `n` outputs on every enabled sub-band of a chain, from the output that holds a window sample
(R124, R210). -/
def State.settleChain (s : State) (c m : Nat) : State :=
  s.each ((sbsOf c).filter (fun g => s.enabled g && s.listening)) (fun s g =>
    let x := s.cfg g
    s.addTag g 1 (holding m x.d) (some (holding m x.d + x.nUnsettled * x.d)))

/-- A synchronising reset is put in place for the sub-bands: its reset sample is chosen under R214. Where D differs among
the four of a group, the spec does not say on whose boundary the one sample lies: the first chain's, the model's choice
[90]. -/
def State.startSync (s : State) (gs : List Nat) (cmd : Option CmdRef) (fresh : Bool) : State :=
  match gs with
  | [] => s
  | g :: _ =>
    s.modSb g (fun x => { x with
      syncs := x.syncs ++ [{ due := s.boundary (s.cfg g).d, cmd := cmd, members := gs, fresh := fresh }] })

/-- The latency of R175 is brought up to date, at enable and at the end of a bank switch. -/
def State.refreshLatency (s : State) (g : Nat) : State :=
  let v := s.latencyOf g
  s.drawn.modSb g (fun x => { x with latency := v })

/-- The status of a command ended because the radio left LISTEN, by what moved the radio (R217, R328). -/
def causeStatus : WalkKind → Nat × Nat
  | .host => (stAbortedHost, 0x004)
  | .fault => (stAbortedRecovery, 0x003)
  | .thermal => (stAbortedRecovery, 0x004)
  | _ => (stAbortedRecovery, 0x006)

/-- The sub-bands whose commands a set of members shares: whether any of them still carries the command. -/
def State.fadeHeld (s : State) (ref : Option CmdRef) : Bool :=
  ref.isSome && allSbs.any (fun g => decide (((s.sbOf g).fadeRx.bind Fade.cmd) = ref) ||
    decide (((s.sbOf g).fadeTx.bind Fade.cmd) = ref))

/-- The result of SB_SWITCH_BANK (R200). -/
def switchResult (latency : Nat) (hard : Bool) : Nat := latency % 65536 + (if hard then 65536 else 0)

/-- The RX or TX banks of a sub-band are exchanged, and the latency follows (R194, R199). -/
def State.exchange (s : State) (g : Nat) (rx tx : Bool) : State :=
  (s.modSbSet g (fun x => { x with
    rxAct := if rx then 1 - x.rxAct else x.rxAct
    txAct := if tx then 1 - x.txAct else x.txAct })).refreshLatency g

end Sys2Proof.Machine
end

