-- ==== Sys2Proof/Machine/Zither.lean ====
section
/-!
DEFINITION. Shared operations of the coupling canceller (06_coupling_canceller.md): allocation, paths, bins.
-/

namespace Sys2Proof.Machine

/-- The window coarse word of a sub-band (R139, R145). -/
def State.fcwOf (s : State) (g : Nat) : BitVec 32 :=
  let w := s.winOf (chainOf g)
  if (s.cfg g).winB then w.fcwB else w.fcwA
/-- The centre of a sub-band: window coarse word and FCW_RX (R250). -/
def State.centreOf (s : State) (g : Nat) : BitVec 32 × Int := (s.fcwOf g, (s.cfg g).fcwRx)

/-- The canceller of a sub-band is to have bins (R229); in early service settings are only stored (R663). -/
def State.wantsBins (s : State) (g : Nat) : Bool :=
  s.enabled g && (s.canSet g).enable && !s.boot.early && !(s.cfg g).offFreq

/-- Bins of a chain's enabled sub-bands whose canceller is enabled (R229): what is allocated, or in early service will
be at its end (R663). -/
def State.binsWanted (s : State) (c : Nat) : Nat :=
  (((sbsOf c).filter (fun g => s.enabled g && (s.canSet g).enable && !(s.cfg g).offFreq)).map
    (fun g => binsOf (s.cfg g).d)).sum

/-- Bins of the chain's allocated sub-bands (R229). -/
def State.binLoad (s : State) (c : Nat) : Nat :=
  (((sbsOf c).filter (fun g => decide (0 < (s.canOf g).nb))).map (fun g => (s.canOf g).nb)).sum

/-- BASE_k in canonical order: the bins of every allocated sub-band placed before it (R232). -/
def State.canonicalBase (s : State) (g : Nat) : Nat :=
  let n := (s.canOf g).nb
  (((sbsOf (chainOf g)).filter (fun h =>
      let m := (s.canOf h).nb
      decide (n < m) || (decide (m = n) && decide (h < g) && decide (0 < m)))).map (fun h => (s.canOf h).nb)).sum

/-- After an allocation changes, every sub-band whose BASE_k changes is moved (R233). -/
def State.relayout (s : State) (c : Nat) : State :=
  s.each (sbsOf c) (fun s' g =>
    let b := s.canonicalBase g
    let x := s.canOf g
    if x.nb = 0 then s'
    else if x.copied.getD x.base = b then s'.modCan g (fun x => { x with moving := none })
    else if x.moving.map Prod.fst = some b then s'
    else s'.modCan g (fun x => { x with moving := some (b, s.now) }))

/-- The path index p of R6, and the map's first word of a path and sub-band. -/
def pathIndex (g i : Nat) : Nat := chainOf g * 4 + i
def mapKey (g i : Nat) : Nat := (pathIndex g i * 16 + localOf g) * 16384

/-- The number of the latest output boundary of a sub-band; the output of the moment itself has not been made. -/
def State.outputNow (s : State) (g : Nat) : Nat := s.window / max 1 (s.cfg g).d
/-- New map values of a path take effect at the first partition boundary from output `n` on (R238). -/
def State.renewFrom (s : State) (g i n : Nat) : State :=
  s.modCan g (fun x => x.setPath i { x.path i with waits := some n })
/-- They replace what the path holds, an update that still waits with it: the next partition boundary takes them. -/
def State.renewSet (s : State) (g i : Nat) : State :=
  (s.modCan g (fun x => x.setPath i { x.path i with held := none })).renewFrom g i (s.outputNow g)
/-- They change it: an update of adaptation that still waits takes them along. -/
def State.alterSet (s : State) (g i : Nat) : State :=
  s.renewFrom g i ((((s.canOf g).path i).waits).getD (s.outputNow g))
/-- The first output of the first partition at or after an output: partitions have 64 outputs, counted from the first
after enable (R237). -/
def State.partitionFrom (s : State) (g n : Nat) : Nat :=
  let first := (s.sbOf g).firstOut / max 1 (s.cfg g).d
  first + ceilDiv (n - first) 64 * 64

/-- The bins of a sub-band are cleared on a path. -/
def State.clearPath (s : State) (g i : Nat) : State :=
  ({ s with map := Table.clear s.map (mapKey g i) 16384 }).renewSet g i
/-- The bins of a victim sub-band are cleared on its four paths. -/
def State.clearBins (s : State) (g : Nat) : State := (List.range 4).foldl (fun s i => s.clearPath g i) s

/-- The path set enters acquisition (R243). -/
def Can.acquire (x : Can) : Can :=
  { x with mode := 1, converged := false, acqTime := 0, history := [], divRun := 0 }

/-- Bins are allocated and cleared; acquisition (R252 row 1). The sub-bands of the chain are laid out again. -/
def State.allocate (s : State) (g : Nat) : State :=
  let s := s.clearBins g
  let nb := binsOf (s.cfg g).d
  let s := s.modCan g (fun x => ({ x with
    nb := nb, moving := none, copied := none, powers := [], spectra := []
    block := (s.window - (s.sbOf g).firstOut) / max 1 (nb * (s.cfg g).d) }).acquire)
  let b := s.canonicalBase g
  (s.modCan g (fun x => { x with base := b })).relayout (chainOf g)

/-- One path as a buffer shows it (R259). For bins that were never adapted or written the header names the present centre, since
the rule states no learned one: the model's choice [97]. -/
def State.pathImage (s : State) (g i : Nat) : List Byte :=
  let x := s.canOf g
  let p := x.path i
  let c := p.centre.getD (s.centreOf g)
  leBytes 1 (pathIndex g i) ++ leBytes 1 p.scale ++ leBytes 2 (s.cfg g).d ++ leBytes 4 x.nb ++ leBytes 4 c.1.toNat ++
    leBytes 4 (bitsOf 32 c.2) ++
    (Table.range (0, 0) s.map (mapKey g i) x.nb).flatMap (fun v => leBytes 4 (bitsOf 32 v.1) ++ leBytes 4 (bitsOf 32 v.2))
def State.pathsImage (s : State) (g : Nat) (ps : List Nat) : List Byte := ps.flatMap (s.pathImage g)
/-- The reads in progress take the entries as they stand: at a partition boundary, or as the bins are released (R259). -/
def State.copyReads (s : State) (g : Nat) : State :=
  s.modCan g (fun y => { y with reading := y.reading.map (fun m => { m with data := some (m.data.getD (s.pathsImage g m.paths)) }) })

/-- Bins are released and cleared; the canceller of the sub-band is off (R234, R252 row 2). COUPLING_DB, MEAS_FLOOR and
FRZ_CAUSE keep their last values, which the rules leave open [97]. -/
def State.release (s : State) (g : Nat) : State :=
  if (s.canOf g).nb = 0 then s
  else
    let s := (s.copyReads g).clearBins g
    let s := s.modCan g (fun x => { x with
      nb := 0, base := 0, mode := 0, converged := false, moving := none, copied := none, achieved := 0, history := [],
      powers := [], spectra := []
      p0 := {}, p1 := {}, p2 := {}, p3 := {} })
    s.relayout (chainOf g)

/-- The allocation follows the settings: bins where they are wanted, none elsewhere. -/
def State.syncBins (s : State) (g : Nat) : State :=
  if s.wantsBins g then (if (s.canOf g).nb = 0 then s.allocate g else s)
  else s.release g

/-- Whether the path from source chain (group base + i) to victim sub-band g is active (R224). -/
def State.pathWanted (s : State) (g i : Nat) : Bool :=
  let src := (groupBase (chainOf g) + i) * 16 + localOf g
  decide (0 < (s.canOf g).nb) && s.enabled g && (s.canSet g).enable && s.enabled src && !(s.cfg src).offFreq &&
    decide (s.fcwOf g = s.fcwOf src) && decide ((s.cfg g).fcwRx = (s.cfg src).fcwRx) &&
    decide ((s.cfg g).d = (s.cfg src).d) && bit (s.canSet g).srcMask.toNat i && !(s.cnvOf (chainOf g)).canFenced &&
    s.listening

/-- The alignment delay d_p: the whole number of outputs in the victim's latency from RX ball to stage 5 plus the source's
from stage 9 to TX ball, from the terms of R174 (R225). The two parts of t_fix and of t_eq add up to the whole of each; of
n_p the 32 RX staging outputs, the DC blocker and the subtraction lie before, the tag replacement and the 32 TX staging
outputs after: 67 [89]. -/
def State.alignDelay (s : State) (g src : Nat) : Nat :=
  let rx := (s.cfg g).dcUsed
  let tx := (s.cfg src).dcUsed
  let fixed : Rat := 267940625 * 196608 / (100000 * 1000000)
  let taps : Rat := rx * ((s.sbSet g).side false (s.sbSet g).rxAct).tauQ + tx * ((s.sbSet src).side true (s.sbSet src).txAct).tauQ
  let total : Rat := (fixed + (3 * (rx - 1) + 3 * (tx - 1) : Nat) + taps) / (max 1 (s.cfg g).d : Nat)
  67 + (total.floor).toNat

/-- The difference of two centres in units of 0.457763671875 Hz: a window word counts 12 of them (R128, R145). -/
def centreDiff (a b : BitVec 32 × Int) : Int :=
  12 * ((a.1.toNat : Int) - (b.1.toNat : Int)) + (a.2 - b.2)

/-- What R250 does to a path's bins when the centre changes: kept, shifted or cleared. A block's update that still waits for its
64 outputs is shifted with the bins, and the next partition boundary takes all of them: the model's choice, since R238 does
not speak of a shift in between. A shift empties the window of the last 16 measurement blocks of R254: the model's choice too
[97]. -/
def State.recentre (s : State) (g i : Nat) : State :=
  let x := s.canOf g
  match (x.path i).centre with
  | none => s
  | some old =>
    let new := s.centreOf g
    let diff := centreDiff new old
    -- Δf = f_sb / N_b: 2^32 / (D × N_b) units of the fine word
    let num := diff * ((s.cfg g).d * x.nb : Nat)
    if diff = 0 then s
    else if num % 4294967296 = 0 ∧ (num / 4294967296).natAbs * 4 ≤ x.nb then
      let m := num / 4294967296
      let bins := Table.range (0, 0) s.map (mapKey g i) x.nb
      let moved := (List.range x.nb).map (fun j =>
        let k := (j : Int) + m
        if 0 ≤ k ∧ k < (x.nb : Int) then bins.getD k.toNat (0, 0) else (0, 0))
      ({ s.clearPath g i with map := Table.setRange (0, 0) (s.clearPath g i).map (mapKey g i) moved }).modCan g
        (fun x => { x.setPath i { x.path i with centre := some new } with converged := false, history := [], powers := [], spectra := [] })
    else
      (s.clearPath g i).modCan g (fun x => (x.setPath i { x.path i with centre := none, scale := 0 }).acquire)

/-- Whether a block of the victim is in progress, so that its present block does not count as the first after an
event (R248). -/
def State.midBlock (s : State) (g : Nat) : Bool :=
  let x := s.cfg g
  decide ((s.sbOf g).firstOut + (s.canOf g).block * (s.canOf g).nb * x.d < s.window)

/-- The same for a governor block (R265). -/
def State.midGovBlock (s : State) (g : Nat) : Bool :=
  let d := (s.cfg g).d
  decide ((s.sbOf g).firstOut + (s.govOf g).block * binsOf d * d < s.window)
/-- The governor measures a source again with the second block after an event of the CHANGE row (R248, R265). -/
def State.skipSource (s : State) (g i : Nat) : State :=
  let n := if s.midGovBlock g then 2 else 1
  s.modGov g (fun x => { x with skips := Table.modify 0 x.skips i (fun k => max n k) })
/-- The CHANGE row of R248: the paths adapt again with the second block after the event. -/
def State.skipPath (s : State) (g i : Nat) : State :=
  let n := if s.midBlock g then 2 else 1
  (s.modCan g (fun x => x.setPath i { x.path i with skip := max n (x.path i).skip })).skipSource g i

/-- One path of a victim brought up to date: activation with its alignment delay, centre test and CHANGE row, or
deactivation (R224, R225, R239, R250). -/
def State.refreshPath (s : State) (g i : Nat) : State :=
  let want := s.pathWanted g i
  let p := (s.canOf g).path i
  if want == p.active then s
  else if want then
    let d := s.alignDelay g ((groupBase (chainOf g) + i) * 16 + localOf g)
    let s := s.modCan g (fun x => x.setPath i { x.path i with active := true, delay := d, since := ceilDiv s.window (max 1 (s.cfg g).d), lasts := 0 })
    ((s.recentre g i).skipPath g i).renewSet g i
  else
    let lasts := if (s.cnvOf (chainOf g)).canFenced then s.window + 3933 else 0
    s.modCan g (fun x => x.setPath i { x.path i with active := false, lasts := lasts })

/-- The paths of victim sub-bands brought up to date. -/
def State.refreshPaths (s : State) (gs : List Nat) : State :=
  s.each gs (fun s g => (List.range 4).foldl (fun s i => s.refreshPath g i) s)

/-- B_new[j]/B_old[j] of a sub-band's RX or TX banks, the new one `b` (R251); none where |B_old[j]| lies more than 30 dB
below |B_old| at the centre, which is 1. -/
def State.bankRatio (s : State) (g : Nat) (tx : Bool) (b nb j : Nat) : Option Cx :=
  let one := fun (n : Nat) => bankResponse (s.tapsOf g tx n) ((s.sbSet g).side tx n).sum (s.cfg g).dfUsed nb j
  let old := one (1 - b)
  if 1000 * Cx.power old < 1 then none else some (Cx.over (one b) old)
/-- A bank switch of `src` that touches a path scales the path's bins by the ratio of the bank responses, the new bank
being the active one (R251). -/
def State.scalePath (s : State) (g i src : Nat) (tx : Bool) : State :=
  let b := if tx then (s.sbSet src).txAct else (s.sbSet src).rxAct
  let scaled := fun (j : Nat) (v : Iq) =>
    match s.bankRatio src tx b (s.canOf g).nb j with
    | some q =>
      let w := Iq.ofCx (Cx.times (Iq.toCx v) q)
      ((clampInt (-524287) 524287 w.1, clampInt (-524287) 524287 w.2) : Iq)
    | none => (0, 0)
  let s := s.modCan g (fun x => x.setPath i { x.path i with
    held := (x.path i).held.map (fun h => (h.1, h.2.1.zipIdx.map (fun e => scaled e.2 e.1), h.2.2)) })
  ({ s with map := Table.mapRange (0, 0) s.map (mapKey g i) 16384 (fun a v => scaled (a - mapKey g i) v) }).alterSet g i

/-- An RX switch on the victim touches its four paths; a TX switch on the source touches the paths it sources.
CONVERGED clears, and the CHANGE row applies (R248, R252): at the end of a cross-fade, the rule not saying whether at its
end or at its start [97]. -/
def State.switchedRx (s : State) (g : Nat) : State :=
  if (s.canOf g).nb = 0 then s.each [0, 1, 2, 3] (fun s i => s.skipSource g i)
  else ((List.range 4).foldl (fun s i => (s.scalePath g i g false).skipPath g i) s).modCan g
    (fun x => { x with converged := false, history := [] })
def State.switchedTx (s : State) (g : Nat) : State :=
  s.each (groupOf g) (fun s v =>
    if (s.canOf v).nb = 0 then s.skipSource v (chainOf g % 4)
    else ((s.scalePath v (chainOf g % 4) g true).skipPath v (chainOf g % 4)).modCan v
      (fun x => { x with converged := false, history := [] }))

/-- The weight of a bank switch in progress on a bin: 1 − w + w × B_new[j]/B_old[j] at the present output (R251). -/
def State.fadeWeight (s : State) (g : Nat) (tx : Bool) (nb j : Nat) : Cx :=
  let b := if tx then (s.sbSet g).txAct else (s.sbSet g).rxAct
  match ((s.sbOf g).fade tx).bind (fun f => (f.index (s.cfg g).d s.window).map (fun i => (i, f.outputs))) with
  | some (i, f) =>
    let w : Rat := ((min (i + 1) f : Nat) : Rat) / (f : Rat)
    (1 - w, 0) + Cx.scale w ((s.bankRatio g tx (1 - b) nb j).getD (0, 0))
  | none => (1, 0)
/-- The values of codes of a path's bins at a SCALE (R226), with the weights of the fades that touch the path (R251). -/
def State.pathBins (s : State) (g i : Nat) (codes : List Iq) (scale : Nat) : List Cx :=
  let x := s.canOf g
  let src := (groupBase (chainOf g) + i) * 16 + localOf g
  codes.zipIdx.map (fun e =>
    Cx.scale (1 / (2 ^ (17 + scale) : Nat)) (Cx.times (Cx.times (Iq.toCx e.1) (s.fadeWeight g false x.nb e.2))
      (s.fadeWeight src true x.nb e.2)))
/-- The coefficient set that the map holds comes into force on a path (R228, R238). -/
def State.takeSet (s : State) (g i : Nat) : State :=
  (s.modSig g (fun x => x.setTaps i (inverseBins (s.pathBins g i
    (Table.range (0, 0) s.map (mapKey g i) (s.canOf g).nb) ((s.canOf g).path i).scale)))).modCan g
    (fun x => x.setPath i { x.path i with waits := none, held := none })
/-- The set of the codes before an update that still waits comes into force, or follows a fade there. -/
def State.takeHeld (s : State) (g i : Nat) (codes : List Iq) (scale : Nat) : State :=
  (s.modSig g (fun x => x.setTaps i (inverseBins (s.pathBins g i codes scale)))).modCan g
    (fun x => x.setPath i { x.path i with held := some (0, codes, scale) })

end Sys2Proof.Machine
end

