-- ==== Sys2Proof/Machine/Stability.lean ====
section
/-!
DEFINITION. Shared operations of the stability governor (07_stability_governor.md): sources, ceiling, mutes.
Isolations and gains are in 0.0001 dB.
-/

namespace Sys2Proof.Machine

/-- Whether the governor correlates a victim with the sub-band of source chain (group base + i) (R264). -/
def State.correlates (s : State) (g i : Nat) : Bool :=
  let src := (groupBase (chainOf g) + i) * 16 + localOf g
  s.enabled g && !(s.cfg g).offFreq && s.enabled src && !(s.cfg src).offFreq &&
    decide (s.fcwOf g = s.fcwOf src) && decide ((s.cfg g).fcwRx = (s.cfg src).fcwRx) &&
    decide ((s.cfg g).d = (s.cfg src).d)

/-- MEASURED is cleared: the used blocks count afresh, in a running probe too (R267, R278). -/
def Gov.forget (x : Gov) : Gov :=
  { x with
    measured := false, used := 0, refPowers := [], spectra := []
    probe := x.probe.map (fun p => { p with used := 0, powers := [], spectra := [] }) }

/-- The sources brought up to date: a source that becomes correlated or ceases to be clears MEASURED (R267). -/
def State.refreshSources (s : State) (gs : List Nat) : State :=
  s.each gs (fun s g =>
    let mask := BitVec.ofNat 4 ((List.range 4).foldl (fun a i => a + if s.correlates g i then 2 ^ i else 0) 0)
    if mask = (s.govOf g).srcs then s else s.modGov g (fun x => { x.forget with srcs := mask }))

/-- The last PHYS of a sub-band with its centre: that of this run, else the stored one (R268). -/
def State.keptIso (s : State) (g : Nat) : Option (Int × BitVec 32 × Int) :=
  match (s.govOf g).lastPhys with
  | some v => some v
  | none => Table.get none s.store.kept g
/-- ISO_S of R268: the kept PHYS where USE_STORED is 1 and the RF centres are equal, else ISO_INIT_DB. -/
def State.isoStart (s : State) (g : Nat) : Int :=
  match s.keptIso g with
  | some (p, w, f) =>
    if (s.govSet g).useStored && decide (centreDiff (w, f) (s.centreOf g) = 0) then p * 1000
    else (s.govSet g).isoInit * 1000
  | none => (s.govSet g).isoInit * 1000

/-! Estimates (R254, R263, R264, R266, R280). -/

/-- A power ratio in units of 10^-n dB; its rounding is unstated [7]. Over no power at all it reads as the largest. -/
def ratioDb (num den : Rat) (n : Nat) : Int :=
  if den ≤ 0 then 131 * 10 ^ n
  else
    let v := dbOf (num / den)
    roundQ (v * (10 ^ n : Nat)) 16777216 (Config.roundsUp v n)
/-- What a block of `nb` outputs from number `first` on gives to the estimates of a victim sub-band: the transforms of twice
the block, of each source's references with their predecessors, delayed by d_p, and of u and r after zeros (R242, R264); in
words of the windows. -/
def State.blockSpectra (s : State) (g nb first : Nat) (srcs : List (Nat × Nat)) : Spectra :=
  let x := s.sigOf g
  let sig := fun (h : List Iq) => fft (List.replicate nb (0, 0) ++ (outputsOf (0, 0) h x.output first nb).map (fun v =>
    Cx.scale (1 / s.rxNetAt g s.window) (Iq.toCx v)))
  { refs := srcs.map (fun e =>
      let src := (groupBase (chainOf g) + e.1) * 16 + localOf g
      let y := s.sigOf src
      fft ((outputsOf (0, 0) y.refs y.output ((first : Int) - nb - e.2) (2 * nb)).map (fun v =>
        Cx.scale (s.txNetAt src s.window) (Iq.toCx v))))
    u := sig x.before, r := sig x.resid }
/-- The power of u's or r's component that is correlated with the references, or the 95 % confidence floor where the estimate
lies below it, and whether it does (R254, R266). -/
def correlatedOf (bs : List (List (List Cx) × List Cx)) : Rat × Bool :=
  (max (Config.correlatedPower bs) (Config.confidenceFloor bs), decide (Config.correlatedPower bs < Config.confidenceFloor bs))
def powerU (l : List Spectra) : Rat × Bool := correlatedOf (l.map (fun b => (b.refs, b.u)))
def powerR (l : List Spectra) : Rat × Bool := correlatedOf (l.map (fun b => (b.refs, b.r)))
/-- The squared magnitudes of the cross-correlation of u with a source over blocks, by lag (R280). -/
def crossLags (l : List Spectra) (i nb : Nat) : List Rat :=
  ((ifft (l.foldl (fun a b =>
    List.zipWith (fun v z => v + z) a (List.zipWith Cx.times ((b.refs.getD i []).map Cx.conj) b.u))
    (List.replicate (2 * nb) (0, 0)))).take nb).map Cx.power
/-- The lag of the largest magnitude among the sources; the first of equal ones. -/
def largestLag (l : List Spectra) (sources nb : Nat) : Nat :=
  (((List.range sources).flatMap (fun i => (crossLags l i nb).zipIdx)).foldl
    (fun (a : Rat × Nat) e => if a.1 < e.1 then e else a) (0, 0)).2
/-- The external delay of a lag in ns: a lag stands for one output's length (R225), and where in it the delay lies is open
[97]. -/
def lagNs (lag d : Nat) : Nat :=
  let t : Rat := (d : Rat) * 100000 / 196608
  (between (lag * t) ((lag + 1) * t)).floor.toNat
/-- PHYS and EFF in 0.0001 dB, MEAS_FLOOR, and EXT (R263, R266, R280). -/
structure GovResult where
  phys : Int
  eff : Int
  floor : Bool
  ext : Nat
/-- The result of used blocks: `off` where the canceller is off, r then being u (R263). -/
def State.govResult (s : State) (g : Nat) (powers : List Rat) (l : List Spectra) (off : Bool) : GovResult :=
  let mean := powers.sum / (max 1 powers.length : Nat)
  let u := powerU l
  let r := if off then u else powerR l
  { phys := ratioDb mean u.1 4, eff := ratioDb mean r.1 4, floor := u.2 || r.2
    ext := lagNs (largestLag l ((List.range 4).filter (fun i => s.correlates g i)).length (binsOf (s.cfg g).d)) (s.cfg g).d }
/-- The canceller of a sub-band is off, or fenced (R263, R267). -/
def State.cancelsNot (s : State) (g : Nat) : Bool := decide ((s.canOf g).nb = 0) || (s.cnvOf (chainOf g)).canFenced

/-- The target T of R269. -/
def State.target (s : State) (g : Nat) : Int :=
  let x := s.govOf g
  let k := s.govSet g
  let e := if x.measured then min x.eff (x.phys + k.achMax * 10000) else s.isoStart g
  e - (k.margin * 1000 : Nat) - (if s.boot.early then 50000 else 0)

/-- The ceiling C of a sub-band after an update: the fall at once, the rise at most `step` (R270), under the restart
cap and +50 dB (R269); an off-frequency sub-band takes OFF_CEIL_DB (R274). -/
def State.nextCeil (s : State) (g : Nat) (step : Int) : Int :=
  let x := s.govOf g
  let capped := fun (v : Int) => match x.cap with
    | some c => min v c
    | none => v
  if (s.cfg g).offFreq then capped ((s.govSet g).offCeil * 1000)
  else
    let t := min 500000 (capped (s.target g))
    if t ≤ x.ceil then t else min t (x.ceil + step)

/-- The ceiling mute of R272: set below −40 dB, released at −39 dB, asserted between them at a first computation. -/
def ceilMuteNext (first : Bool) (now : Bool) (c : Int) : Bool :=
  if c < -400000 then true else if -390000 ≤ c then false else if first then true else now

/-- A loop at rest (R318, R319, R707): its law's state is given up; an inner loop's gain stage rises from zero to
the floor by the ramp of R219, which ends at `floorAt`. -/
def Loop.atRest (x : Loop) (floorAt : Option Time) : Loop :=
  { x with
    rest := true, v := -671088640, stage := -671088640, i := -671088640, region := 0, used := none, boundSeen := false
    inSeen := false, outSeen := false, yIn := -2130706432, yOut := -2130706432, inPower := 0, outPower := 0
    floorAt := floorAt, limit := 5, outs := [], tagHold := false, hold := false
    applied := if x.mode = 0 then none else some (-4000) }
/-- The ramped values are discarded (R322, R328). -/
def Loop.dropRamps (x : Loop) : Loop := { x with spRamp := -335544320, gfixRamp := -671088640 }

/-- The end of the ramp of 64 outputs from zero to the floor, counted from a sub-band's first output (R219, R319). -/
def State.floorTime (s : State) (g : Nat) : Time :=
  max s.now ((s.divStart.getD 0) + (s.sbOf g).firstOut) + 64 * (s.cfg g).d
/-- A loop comes to rest; nothing that an inner loop has measured so far is kept (R302, R318, R707). -/
def State.restLoop (s : State) (l : Nat) : State :=
  if l < 128 then
    let t := s.floorTime l
    (s.modLoop l (fun x => x.atRest (some t))).modSig l (fun x => { x with meter := {} })
  else s.modLoop l (fun x => x.atRest none)

/-- A mute of the collector covers the whole TX chain. -/
def State.chainMuted (s : State) (c : Nat) : Bool := s.flt.mutes.any (fun m => s.muteCoversChain m c)
/-- Mutes of the collector end; a loop whose mute ends is at rest, and so is the outer loop of a TX chain (R318, R578,
R707). -/
def State.unmute (s : State) (gone : Mute → Bool) : State :=
  let t : State := { s with flt := { s.flt with mutes := s.flt.mutes.filter (fun m => !gone m) } }
  let u := t.each (allSbs.filter (fun g => s.enabled g && s.faultMuted g && !t.faultMuted g)) (fun u g => u.restLoop g)
  u.each (chains.filter (fun c => s.chainMuted c && !t.chainMuted c)) (fun u c => u.restLoop (128 + c))
/-- The mutes of one source and address end, where the owning chapter names the release (R578). -/
def State.unmuteAt (s : State) (b addr : Nat) : State := s.unmute (fun m => m.bit == b && m.addr == addr)

/-- C as the loops see it: with GROUP_TIE = 1 the lowest of the enabled sub-bands of the group (R271). -/
def State.ceilOf (s : State) (g : Nat) : Int :=
  if (s.govSet g).groupTie then
    ((groupOf g).filter (fun h => s.enabled h)).foldl (fun a h => min a (s.govOf h).ceil) (s.govOf g).ceil
  else (s.govOf g).ceil

/-- The ceiling mute follows C; a mute that releases leaves the loop at rest (R272, R318). -/
def State.ceilMuteAt (s : State) (first : Bool) (g : Nat) : State :=
  let x := s.govOf g
  let mute := ceilMuteNext first x.ceilMute (s.ceilOf g)
  let s := s.modGov g (fun x => { x with ceilMute := mute })
  if x.ceilMute && !mute then s.restLoop g else s
/-- The other sub-bands of a group that take the C of `g` too (R271) and have been computed. -/
def State.tiedTo (s : State) (g : Nat) : List Nat :=
  (groupOf g).filter (fun h => h != g && s.enabled h && (s.govSet h).groupTie && (s.govOf h).started)
/-- The governor computes C and the ceiling mutes that follow from it (R270 to R272). -/
def State.ceiling (s : State) (g : Nat) (step : Int) : State :=
  let x := s.govOf g
  let c := s.nextCeil g step
  let s := (s.modGov g (fun x => { x with ceil := c, started := true })).ceilMuteAt (!x.started) g
  s.each (s.tiedTo g) (fun s h => s.ceilMuteAt false h)

/-- The first computation on sub-bands at one moment: C of each starts at T, and the mutes follow from all of them (R269,
R271, R272). -/
def State.firstCeilings (s : State) (gs : List Nat) : State :=
  let s := s.each gs (fun s g => s.modGov g (fun x => { x with started := false, ceil := -2147483647 }))
  let s := s.each gs (fun s g =>
    let c := s.nextCeil g 4294967294
    s.modGov g (fun x => { x with ceil := c, started := true }))
  let s := s.each gs (fun s g => s.ceilMuteAt true g)
  s.each ((gs.flatMap s.tiedTo).dedup.filter (fun h => !gs.contains h)) (fun s h => s.ceilMuteAt false h)

/-- The sub-bands that act as one for the oscillation rules (R286). -/
def State.tied (s : State) (g : Nat) : List Nat := if (s.govSet g).groupTie then groupOf g else [g]

/-- An event payload of R554: the sub-band, and a gain in 0.01 dB. -/
def govPayload (g : Nat) (gain : Int) : List Byte :=
  [BitVec.ofNat 8 g, 0] ++ leBytes 2 (bitsOf 16 (gain / 100))

/-- A clamp, mute, restart or latch: event and snapshot trigger (R293). -/
def State.govNote (s : State) (n g : Nat) (gain : Int) : State :=
  (s.post (0x20 + n) (govPayload g gain)).trigger (0x10 + n) g

/-- The gain that stage 7 applies to a sub-band, in 0.0001 dB: that of its latest output; the floor while it applies zero.
At the end of a ramp it is the gain that the ramp went to, and within one its level (R285, R286, R291). -/
def State.appliedGain (s : State) (g : Nat) : Int :=
  let x := (s.sigOf g).ramp
  if x.gain = 0 then -400000
  else
    match s.gainWanted g with
    | some a => if x.length ≤ x.made ∧ x.target = amplitudeOf (some a) then a * 100 else ratioDb (x.gain * x.gain) 1 4
    | none => ratioDb (x.gain * x.gain) 1 4

/-- EFF becomes PHYS: the victim's canceller no longer counts, nor in what a running measurement has gathered (R267 row
1). -/
def State.effIsPhys (s : State) (g : Nat) : State :=
  let plain := fun (l : List Spectra) => l.map (fun b => { b with r := b.u })
  s.modGov g (fun x => { x with
    eff := x.phys, spectra := plain x.spectra, probe := x.probe.map (fun p => { p with spectra := plain p.spectra }) })

/-- The restart of a sub-band and of those tied to it takes place where LISTEN, MUTE_N and S4 let it: the loop at rest,
under the cap in force; or it waits (R288, R291). A mute of another source ends by its own rule, and the loop is then at
rest (R578). -/
def State.restartNow (s : State) (g : Nat) : State :=
  let ready := s.listening && s.pins.muteN && !s.s4Held
  let s := s.each (s.tied g) (fun s h =>
    let s := if s.listening ∧ s.enabled h then s.ceiling h 0 else s
    if ready then
      let s := s.modGov h (fun x => { x with state := 0, restartWaits := false })
      if s.enabled h then s.restLoop h else s
    else s.modGov h (fun x => { x with restartWaits := true }))
  if ready then s.govNote 2 g (((s.govOf g).cap).getD 0) else s
/-- A hold-off or a latch ends: the restart cap comes into force, and the sub-band restarts (R288). -/
def State.restart (s : State) (g : Nat) : State :=
  let s := s.unmute (fun m => m.bit == 22 && (s.tied g).contains m.addr)
  (s.each (s.tied g) (fun s h =>
    let cap := (s.govOf h).gOsc - ((s.govSet h).restartStep * 10000 : Nat)
    s.modGov h (fun x => { x with
      cap := some cap, capRepeat := 0, capFrom := if s.radio.state = 4 then some s.now else none, holdoff := none }))).restartNow g

/-- The restarts that waited for LISTEN, for MUTE_N or for the end of S4 take place (R288, R291). -/
def State.restartWaiting (s : State) : State :=
  s.each allSbs (fun s g => if (s.govOf g).restartWaits then s.restartNow g else s)

end Sys2Proof.Machine
end

