-- ==== Sys2Proof/Machine/Verdict.lean ====
section
/-!
DEFINITION. The checks of a command in the order of R537: their outcomes, the parameter fields, and the conditions
that hold a command back (R87 to R91).
-/

namespace Sys2Proof.Machine

/-- What the checks of a command answer: it may start, it is held (R87, R163, R177), or it ends with a status and a
subcode of R538. -/
inductive Verdict where
  | ok
  | wait
  | fail (status sub : Nat)
  deriving DecidableEq, Repr

/-- A command of R566: its opcode, parameter length, whether it is administrative (R558), its checks from the
instance on, and its effect from the start of execution. -/
structure CmdDef where
  op : Nat
  plen : Nat
  admin : Bool
  check : Request → State → Verdict
  apply : CmdRef → Request → State → State

/-- The first check that applies, in order (R537). -/
def checks : List (Bool × Verdict) → Verdict
  | [] => .ok
  | (b, v) :: rest => if b then v else checks rest

/-- ILLEGAL_VALUE with the parameter byte offset of the field plus 1 (R538). -/
def bad (off : Nat) : Verdict := .fail stIllegal (off + 1)
/-- ILLEGAL_VALUE for a combination of fields. -/
def combo : Verdict := .fail stIllegal 0x100
/-- ILLEGAL_VALUE for the content of a buffer. -/
def badContent : Verdict := .fail stIllegal 0x101
/-- BAD_OBJECT for an instance that does not exist. -/
def badInst : Verdict := .fail stBadObject 2
/-- WRONG_STATE with a subcode. -/
def wrong (sub : Nat) : Verdict := .fail stWrongState sub
/-- INTEGRITY for a host buffer that cannot be read (R532). -/
def unread : Verdict := .fail stIntegrity 4
/-- RESOURCE_BUSY with a kind and an index. -/
def busy (kind index : Nat) : Verdict := .fail stBusy (kind * 256 + index)
/-- BUDGET_EXCEEDED with a subcode. -/
def overBudget (sub : Nat) : Verdict := .fail stBudget sub
/-- RESOURCE_FENCED with a subcode. -/
def fenced (sub : Nat) : Verdict := .fail stFenced sub

/-- Parameter fields (R530): unsigned, two's complement, a bit of a flag byte. -/
def pu (r : Request) (off n : Nat) : Nat := leAt r.params off n
def ps (r : Request) (off n : Nat) : Int := leSigned r.params off n
def flag (r : Request) (off k : Nat) : Bool := bit (byteAt r.params off) k
/-- The instance field. -/
def instOf (r : Request) : Nat := r.inst.toNat
/-- A signed field outside a range. -/
def outside (lo hi v : Int) : Bool := decide (v < lo) || decide (hi < v)
/-- The data a command's buffer gives, to a length. -/
def bufOf (r : Request) : List Byte := r.buf.getD []
/-- Bits hi to lo of an object's value (R16). -/
def bitsAt (v hi lo : Nat) : Nat := v / 2 ^ lo % 2 ^ (hi - lo + 1)
/-- The same bits read as two's complement. -/
def signedAt (v hi lo : Nat) : Int := signedOf (hi - lo + 1) (bitsAt v hi lo)
/-- ILLEGAL_VALUE of an object write: the VALUE byte that holds the field's lowest bit, plus 1 (R560). -/
def badField (lo : Nat) : Verdict := .fail stIllegal (lo / 8 + 1)

/-- Whether the packet came by the PCIe tunnel. -/
def byPcie (r : Request) : Bool :=
  match r.src with
  | .ring _ => true
  | _ => false

/-- A walk in progress goes on to its target: no step of it has failed, and no reaction ends it at its next step boundary
(R76, R576). -/
def State.walksTo (s : State) (n : Nat) : Bool :=
  s.radio.fall.isNone && (match s.radio.walk with
    | some w => decide (n ≤ w.target) && w.failedStep.isNone
    | none => false)
/-- The root PLL is not locked, but a walk or a relock in progress will lock it (R87). -/
def State.lockLater (s : State) : Bool :=
  !s.radio.pllLocked && (s.walksTo 2 || s.radio.relock.isSome)
/-- The root PLL is not locked, or a named chain is in foreground calibration, but settling, a walk or a relock in
progress will change that (R87). Foreground calibration covers every chain (R659). -/
def State.pllLater (s : State) : Bool := (s.radio.fgCal && s.radio.pllLocked) || s.lockLater
/-- LISTEN is not reached, but a walk in progress will reach it (R87). -/
def State.listenLater (s : State) : Bool :=
  !s.listening && s.walksTo 3
/-- The checks of a command that needs the root PLL locked (R87, R90). -/
def needPll (s : State) : List (Bool × Verdict) :=
  [(s.pllLater, .wait), (!s.radio.pllLocked, wrong 1)]
/-- The checks of PG_CONFIGURE, WM_CONFIGURE and HK_CONFIGURE, which ask for the lock alone (R87, R90). -/
def needLock (s : State) : List (Bool × Verdict) :=
  [(s.lockLater, .wait), (!s.radio.pllLocked, wrong 1)]
/-- The checks of a command that needs LISTEN or REPEAT (R87, R90). -/
def needListen (s : State) : List (Bool × Verdict) :=
  [(s.listenLater, .wait), (!s.listening, wrong 1)]

end Sys2Proof.Machine
end

