-- ==== Sys2Proof/Machine/Issue.lean ====
section
/-!
DEFINITION. How a command reaches the device, is checked, held, and started (R519 to R521, R537 to R546).
-/

namespace Sys2Proof.Machine

/-- Commands fetched and not completed, device-wide (R543). -/
def State.outstanding (s : State) : Nat := (s.jcp.queues.map (fun e => e.2.length)).sum

/-- Completions that a completion ring must still take: those waiting, and one for each outstanding command of the
submission rings that name it (R521). -/
def State.reserved (s : State) (peer : Nat) : Nat :=
  (s.entries peer).length +
    ((s.jcp.rings.filter (fun e => decide (e.2.type = 1 ∧ e.2.peer = peer))).map (fun e => (s.queue e.1).length)).sum

/-- A submission ring has an entry the device may fetch (R487, R521, R524, R525, R529, R543). -/
def State.fetchable (s : State) (n : Nat) : Bool :=
  let r := s.ring n
  decide (r.type = 1) && decide (r.state = 1 ∨ r.state = 3) && decide (r.head ≠ r.tail) && s.masters &&
    decide (s.reserved r.peer < (s.ring r.peer).room) &&
    decide (s.outstanding < if n = 0 then 4096 else 4032)

/-- Ring 0 comes first; the others by weighted round robin (R542): a ring whose credit is spent waits while another
that could be fetched from has credit left. -/
def State.turn (s : State) (n : Nat) : Bool :=
  decide (n = 0) ||
    (!s.fetchable 0 &&
      (decide (0 < (s.ring n).credit) ||
        !(s.jcp.rings.any (fun e => decide (e.1 ≠ 0) && decide (e.1 ≠ n) && s.fetchable e.1 && decide (0 < e.2.credit)))))

/-- The credits after a fetch from a ring: a round begins with each ring's WEIGHT when none that could be fetched from
has credit left (R542). -/
def State.spend (s : State) (n : Nat) : State :=
  let s := if 0 < (s.ring n).credit ∨ n = 0 then s
    else s.each (s.jcp.rings.map Prod.fst) (fun s m => s.modRing m (fun r => { r with credit := r.weight }))
  s.modRing n (fun r => { r with credit := r.credit - 1 })

/-- Undelivered completions of a queue pair (R533). -/
def State.undelivered (s : State) (k : Nat) : Nat := ((s.items k).filter (fun it => decide (it.kind = 1))).length
/-- A source can deliver a command packet (R487 to R489, R521, R533); 64 outstanding commands are kept for ring 0 (R543). -/
def State.canDeliver (s : State) : Src → Bool
  | .ring n => s.fetchable n && s.turn n
  | .usb3 q => decide (q < 8) && s.link.usb3Up && decide (s.undelivered (20000 + q) < 1024) &&
      decide (s.outstanding < 4032)
  | .usb2 => s.link.usb2Up && decide (s.undelivered 20008 < 1024) && decide (s.outstanding < 4032)

/-- A packet enters the queue of its source; a ring's HEAD advances and its shadow is written (R520). -/
def State.deliver (s : State) (op : Nat) (r : Request) : State :=
  let k := srcKey r.src
  let e : Entry := { id := s.jcp.nextId, op := op, req := r, fetchedAt := s.now }
  let s := { s with jcp := { s.jcp with nextId := s.jcp.nextId + 1 } }
  let s := s.setQueue k (s.queue k ++ [e])
  match r.src with
  | .ring n =>
    let s := (s.spend n).modRing n (fun r => { r with head := (r.head + 1) % 2 ^ r.log2size })
    let g := s.ring n
    s.emit (.shadow (g.base + 64 * 2 ^ g.log2size) (leBytes 2 g.head ++ List.replicate 62 0))
  | _ => s

/-- A command that has started, or has ended. -/
def Phase.begun : Phase → Bool
  | .running _ => true
  | .done _ _ _ => true
  | _ => false

/-- The first command of a source that has not started (R539). -/
def State.firstWaiting (s : State) (k : Nat) : Option Entry := (s.queue k).find? (fun e => !e.phase.begun)

/-- The sources a barrier covers (R545): all, or a ring with the submission rings that complete into it. -/
def State.inBarrier (s : State) (ring k : Nat) : Bool :=
  decide (ring = 0xFFFF) || decide (ring = k) || (decide (k < 20000) && decide ((s.ring k).peer = ring))

/-- A barrier holds the command back: it was submitted after RECOVERY_BEGIN (R546), or no pair is left (R703). -/
def State.barred (s : State) (k : Nat) (e : Entry) : Bool :=
  decide (s.boot.pairFenced = 3) ||
    s.jcp.barriers.any (fun b => decide (b.upTo ≤ e.id) && s.inBarrier b.ring k)

/-- The command may start now: FENCE waits for every earlier completion (R541), and a management pair must run. -/
def State.mayStart (s : State) (k : Nat) (e : Entry) : Bool :=
  !s.barred k e && !s.radio.gated && !s.radio.inReset && !s.flt.mgmt &&
    (!(bit e.req.flags.toNat 1) || decide ((s.queue k).head?.map Entry.id = some e.id))

/-- The phase of a command in its queue. -/
def State.setPhase (s : State) (ref : CmdRef) (f : Entry → Entry) : State :=
  s.setQueue ref.src ((s.queue ref.src).map (fun e => if e.id == ref.id then f e else e))

/-- The opcodes that recovery mode accepts (R672): NOP, IDENTIFY, BOOT_LEDGER_READ, FW_UPDATE, DEVICE_RESET. -/
def recoveryOps : List Nat := [0x0001, 0x0002, 0x0C01, 0x0C02, 0x0030]

/-- The sources that take administrative opcodes (R558). -/
def takesAdmin : Src → Bool
  | .ring n => decide (n = 0)
  | .usb3 q => decide (q = 0)
  | .usb2 => true

/-- What the device forbids as a whole comes after a command's own parameter values (R537): in SLEEP no block is powered
(R59, R91), and recovery mode accepts five opcodes (R672). -/
def State.overall (s : State) (op : Nat) (v : Verdict) : Verdict :=
  let forbidden := checks [(decide (s.radio.state = 0), wrong 1), (s.boot.recovery && !recoveryOps.contains op, wrong 8)]
  match v, forbidden with
  | .fail st sub, f => if st = stIllegal ∨ st = stBadObject ∨ f = .ok then .fail st sub else f
  | v, .ok => v
  | _, f => f

/-- The opcodes whose rules name no instance: their INSTANCE is 0 (R530, R537). -/
def soleOps : List Nat :=
  [0x0001, 0x0002, 0x0020, 0x0030, 0x0031, 0x0101, 0x0804, 0x0902, 0x0A01, 0x0A02, 0x0A03, 0x0A04, 0x0A05, 0x0C01,
    0x0C02, 0x0D01, 0x0D02]

/-- The checks of R537 on one command. -/
def State.verdict (s : State) (d : CmdDef) (r : Request) : Verdict :=
  checks [
    (d.admin && !takesAdmin r.src, .fail stBadOpcode 2),
    (decide (r.plen.toNat ≠ d.plen), .fail stBadLength 0),
    (decide (r.flags.toNat / 8 ≠ 0) || decide (r.rsvd ≠ 0) ||
      (decide (r.object ≠ 0) && !(decide (d.op = 3) || decide (d.op = 4))), .fail stIllegal 0x0FF),
    (soleOps.contains d.op && decide (r.inst ≠ 0), badInst),
    (true, s.overall d.op (d.check r s))]

/-- A command starts (R539); a hold that ends is measured (R535). -/
def State.running (s : State) (ref : CmdRef) : State :=
  (s.setPhase ref (fun e => { e with
    phase := .running s.now
    heldUs := match e.phase with
      | .held t => some (microsUp (s.now - t))
      | _ => none })).modRing ref.src
    (fun g => if ref.src < 20000 then { g with started := (g.started + 1) % 4294967296 } else g)

/-- A command starts, and its first effect is applied (R539). -/
def State.start (s : State) (d : CmdDef) (ref : CmdRef) (r : Request) : State := d.apply ref r (s.running ref)

/-- A command that is next in order meets its checks: it starts, is held, or ends (R537, R539, R87). -/
def State.begin (s : State) (d : CmdDef) (ref : CmdRef) (r : Request) : State :=
  match s.verdict d r with
  | .ok => s.start d ref r
  | .wait => s.setPhase ref (fun e => { e with
      phase := match e.phase with
        | .held t => .held t
        | _ => .held s.now })
  | .fail st sub => s.complete ref st sub 0

/-- A command fetched although a barrier or a RING_DELETE with ABORT has already ended it completes at once (R529, R545,
R546). -/
def State.doomed (s : State) (k : Nat) : Option (Nat × Nat) :=
  if s.jcp.barriers.any (fun b => decide (0 < Table.get 0 b.owed k)) then some (stAbortedRecovery, 1)
  else
    match (s.ring k).drain with
    | some (_, _, true) => if k < 20000 then some (stAbortedHost, 5) else none
    | _ => none
/-- One entry fewer that a barrier still has to end. -/
def State.settleOwed (s : State) (k : Nat) : State :=
  { s with jcp := { s.jcp with barriers := s.jcp.barriers.map (fun b =>
      if 0 < Table.get 0 b.owed k then { b with owed := Table.modify 0 b.owed k (· - 1), aborted := b.aborted + 1 } else b) } }

/-- A command packet arrives: it joins its source's queue where the source can deliver it, and begins at once if it is
next in order; otherwise it waits for COMMAND_START. -/
def State.issue (s : State) (d : CmdDef) (r : Request) : State :=
  if s.canDeliver r.src then
    let id := s.jcp.nextId
    let s := s.deliver d.op r
    let k := srcKey r.src
    match s.doomed k with
    | some (st, sub) => (s.settleOwed k).complete { src := k, id := id } st sub 0
    | none =>
    match s.firstWaiting k with
    | some e => if e.id = id ∧ s.mayStart k e then s.begin d { src := k, id := id } r else s
    | none => s
  else s

end Sys2Proof.Machine
end

