-- ==== Sys2Proof/Machine/Stats.lean ====
section
/-!
DEFINITION. The histograms of R610: what one measurement counts.
-/

namespace Sys2Proof.Machine

/-- REC_STATS_CONFIG of a sub-band: as written, or its reset (R626). -/
def State.statsOf (s : State) (g : Nat) : StatsSet :=
  match Table.get none s.store.stats g with
  | some x => x
  | none => { slot := if localOf g ≤ 3 then chainOf g * 4 + localOf g else 255 }

/-- LOW of a quantity, in its own units of 1 dB or 0.5 dB (R610). -/
def StatsSet.low (x : StatsSet) : Nat → Int
  | 0 => x.inLow
  | 1 => x.outLow
  | 2 => x.gainLow
  | _ => x.isoLow

/-- The bin of a value in units of 2^-24 dB (R610); gains count in steps of 0.5 dB. -/
def binOf (q : Nat) (low v : Int) : Nat :=
  let w : Int := if q = 2 then 8388608 else 16777216
  if v < low * w then 0 else min 63 (1 + ((v - low * w) / w).toNat)

/-- One value counted in a histogram set: its bin, and the minimum and maximum in 0.1 dB with their seconds. -/
def Hist.count (h : Hist) (q : Nat) (low v : Int) (seconds : Nat) (up : Bool) : Hist :=
  let tenth := roundQ (v * 10) 16777216 up
  let old := h.ext.find? (fun e => e.1 == q)
  let ext := match old with
    | none => (tenth, tenth, seconds, seconds)
    | some (_, lo, hi, tl, th) =>
      (min lo tenth, max hi tenth, if tenth < lo then seconds else tl, if hi < tenth then seconds else th)
  { counts := Table.modify 0 h.counts (q * 64 + binOf q low v) (fun n => n + 1)
    ext := Table.insert (Table.erase h.ext q) q ext }

/-- One measurement of an enabled sub-band enters the statistics, or the shadow set of a freeze (R610, R614). -/
def State.count (s : State) (g q : Nat) (v : Int) : State :=
  if s.enabled g then
    let f := fun (h : Hist) => h.count q ((s.statsOf g).low q) v s.seconds (Config.roundsUp v s.draws)
    let used := if s.rcd.used.contains g then s.rcd.used else s.rcd.used ++ [g]
    if s.rcd.frozen.isSome then
      { s with rcd := { s.rcd with shadow := Table.modify {} s.rcd.shadow g f, used := used } }
    else { s with rcd := { s.rcd with hour := Table.modify {} s.rcd.hour g f, used := used } }
  else s

end Sys2Proof.Machine
end

