-- ==== Sys2Proof/Machine/Cittern.lean ====
section
/-!
DEFINITION. The control engine's arithmetic, bounds, laws and updates (08_control_engine.md).
-/

namespace Sys2Proof.Machine

/-! Number formats (R306, R307). -/

/-- The floor of R10, −40 dB, and the top, +50 dB. -/
def dbFloor : DbWord := -671088640
def dbTop : DbWord := 838860800
/-- The product of R307. -/
def mulsh (k : Nat) (x : DbWord) (sh : Nat) : DbWord := satDb (roundShift ((k : Int) * x) sh)
/-- A host value in 0.01 dB as a dB word, rounded to nearest (R307). No such value is a tie. -/
def ofCenti (c : Int) : DbWord := satDb (roundQ (c * 16777216) 100 false)
/-- A governor value in 0.0001 dB as a dB word. -/
def of10k (v : Int) : DbWord := satDb (roundQ (v * 16777216) 10000 false)
/-- A dB word rounded to 0.01 dB (R304); a tie, which the rule leaves open, is a free choice [7]. -/
def toCenti (v : DbWord) : Int := roundQ (v * 100) 16777216 (Config.roundsUp v 0)
/-- The upward slew of one tick, SLEW/960 dB (R306). -/
def slewTick (slew : Nat) : DbWord := roundQ ((slew : Int) * 16777216) 96000 false
/-- A ramped value moved toward its goal, stopping exactly on it (R316). -/
def towards (v goal step : DbWord) : DbWord := if v < goal then min goal (v + step) else max goal (v - step)

/-! Regions (R324 to R326). -/

/-- One region of a loop's settings. -/
def LoopSet.region (k : LoopSet) : Nat → Region
  | 0 => k.r0
  | 1 => k.r1
  | 2 => k.r2
  | 3 => k.r3
  | 4 => k.r4
  | 5 => k.r5
  | 6 => k.r6
  | _ => k.r7
/-- One region written. -/
def LoopSet.setRegion (k : LoopSet) (n : Nat) (r : Region) : LoopSet :=
  match n with
  | 0 => { k with r0 := r }
  | 1 => { k with r1 := r }
  | 2 => { k with r2 := r }
  | 3 => { k with r3 := r }
  | 4 => { k with r4 := r }
  | 5 => { k with r5 := r }
  | 6 => { k with r6 := r }
  | _ => { k with r7 := r }

/-- Half the hysteresis band of a breakpoint, 0.5 dB. -/
def halfBand : DbWord := 8388608
/-- The region moved upward as far as the measurement permits (R325). -/
def regionUp (k : LoopSet) (m : DbWord) : Nat → Nat → Nat
  | 0, r => r
  | fuel + 1, r =>
    if r + 1 < k.nreg ∧ ofCenti (k.region (r + 1)).bp + halfBand ≤ m then regionUp k m fuel (r + 1) else r
/-- The region moved downward as far as the measurement permits (R325). -/
def regionDown (k : LoopSet) (m : DbWord) : Nat → Nat
  | 0 => 0
  | r + 1 => if m < ofCenti (k.region (r + 1)).bp - halfBand then regionDown k m r else r + 1
/-- The region after one update. -/
def nextRegion (k : LoopSet) (m : DbWord) (r : Nat) : Nat :=
  let r := min r (k.nreg - 1)
  let up := regionUp k m 8 r
  if up = r then regionDown k m r else up
/-- The region a loop takes at its start update: the upper one inside a band (R326). -/
def startRegion (k : LoopSet) (m : DbWord) : Nat := regionDown k m (k.nreg - 1)
/-- The proportional term of a region. -/
def Region.prop (r : Region) (e : DbWord) : DbWord := mulsh r.kp e r.shKp

/-! Bounds (R31, R312, R314, R380). -/

/-- The composite limit in force of a TX chain, with the THROTTLE that its outer loop has taken (R312, R465), in 0.01 dB and as a
dB word. -/
def State.lcCenti (s : State) (c : Nat) : Int :=
  (s.npChain c).lNp - ((s.plausOf c).throttle * 10 : Nat) - ((s.regrowthOf c).db * 10 : Nat)
def State.lcNow (s : State) (c : Nat) : DbWord := ofCenti (s.lcCenti c)
/-- lc + share + vo of a sub-band (R309, R314). -/
def State.feed (s : State) (g : Nat) : DbWord :=
  satDb (satDb (s.lcNow (chainOf g) + ofCenti (s.loopOf g).share) + (s.loopOf (128 + chainOf g)).v)
/-- The network-protection bound B_NP at an input power; none while it is zero (R380). -/
def State.protection (s : State) (g : Nat) (yIn : DbWord) : Option DbWord :=
  if s.donorMuted g then none
  else
    let m := satDb (ofCenti (s.npSb g).outMax - yIn)
    let b := (s.npSb g).band
    match (if isUplink (chainOf g) && decide (b < 16) && (s.npBand b).ulnEn then (s.bandOf b).uln else none) with
    | some v => some (min m (ofCenti v))
    | none => some m
/-- A bound of zero, below every dB word a bound can take. -/
def zeroBound : DbWord := -2147483648
/-- The four bounds of R31 with their codes in LIMIT (R349), a mute of R287, R578 or R46 as a bound of zero. -/
def State.bounds (s : State) (g : Nat) (yIn : DbWord) : List (DbWord × Nat) :=
  [(if s.govMuted g || s.faultMuted g || s.memMuted g then zeroBound else of10k (s.ceilOf g), 1),
   ((s.protection g yIn).getD zeroBound, 2),
   (satDb (s.feed g - yIn), 3)] ++
  (match (s.govOf g).clamp with
   | some (v, _) => [(of10k v, 4)]
   | none => [])
/-- The lowest bound, and its code. -/
def lowest (l : List (DbWord × Nat)) : DbWord × Nat :=
  l.foldl (fun a b => if b.1 < a.1 then b else a) (2147483647, 0)
def State.lowestBound (s : State) (g : Nat) (yIn : DbWord) : DbWord × Nat := lowest (s.bounds g yIn)
/-- The bound-mute of R305: asserted below −40 dB, released at −39 dB, asserted between them at the first update. -/
def boundMuteNext (seen now : Bool) (b : DbWord) : Bool :=
  if b < dbFloor then true else if -654311424 ≤ b then false else if seen then now else true

/-! Injected signals and the repetitive controller (R330, R338). -/

/-- The second tap of each maximal LFSR of R338. -/
def lfsrTap : Nat → Nat
  | 7 => 6
  | 9 => 5
  | 11 => 9
  | 15 => 14
  | _ => 18
/-- One step of the LFSR. -/
def lfsrStep (order v : Nat) : Nat :=
  (2 * v + (if bit v (order - 1) == bit v (lfsrTap order - 1) then 0 else 1)) % 2 ^ order
/-- Whether an injection adds its signal at its present update. -/
def Injection.active (j : Injection) : Bool := decide (j.pre ≤ j.done) && decide (j.done < j.pre + j.duration)
/-- Whether a chip of the LFSR is +AMP: the stage and the polarity are open [22]. -/
def chipOf (order v : Nat) : Bool := bit v (Config.chipStage order % max 1 order) ^^ Config.chipUp order
/-- The phase of a chirp at injected update `k`, in turns: its frequency moves linearly from F_START to F_END over DURATION,
at `rate` updates a second, from phase 0 [22]. -/
def Injection.turns (j : Injection) (rate : Rat) (k : Nat) : Rat :=
  ((j.fStart : Rat) * k + ((j.fEnd : Rat) - j.fStart) * k * k / (2 * max 1 j.duration : Nat)) / rate
/-- The value injected at the present update of a loop whose updates come every `div` control ticks. -/
def Injection.value (j : Injection) (div : Nat) : DbWord :=
  if !j.active then 0
  else if j.kind = 0 then ofCenti j.amp
  else if j.kind = 1 then (if chipOf j.order j.lfsr then ofCenti j.amp else -(ofCenti j.amp))
  else eitherWay ((ofCenti j.amp : Rat) * sineOf (j.turns (960000 / (max 1 div : Nat)) (j.done - j.pre)))
/-- The injection after an update at which v differed from u or not. -/
def Injection.next (j : Injection) (limited : Bool) : Injection :=
  { j with
    done := j.done + 1
    limited := j.limited || (j.active && limited)
    lfsr := if j.active && decide (j.kind = 1) && decide ((j.done - j.pre + 1) % max 1 j.hold = 0)
      then lfsrStep j.order j.lfsr else j.lfsr }

/-- The timing group of a loop's direction (R331). -/
def State.loopGroup (s : State) (l : Nat) : Option Nat :=
  if l < 128 then s.groupFor l
  else (List.range 4).find? (fun t =>
    (s.tddSet t).enable && decide ((if isUplink (l - 128) then (s.tddSet t).maskUl else (s.tddSet t).maskDl) ≠ 0))

/-- Whether the present control tick contains a frame start of the loop's direction (R331). -/
def State.frameInTick (s : State) (l : Nat) : Bool :=
  match s.loopGroup l with
  | none => false
  | some t =>
    let k := s.tddSet t
    let p : Int := framePeriod k.period
    let up := isUplink (if l < 128 then chainOf l else l - 128)
    let start : Int := ((s.tddOf t).frame : Int) - (if up then (k.ulAdvance * perTick : Nat) else 0)
    let last : Int := ((s.window / perControl * perControl + perControl - 1 : Nat) : Int)
    decide ((last - start) % p < perControl)

/-- The repetitive index in force at an update, and the correction of a slot (R330 to R332). -/
def State.repIndex (s : State) (l : Nat) (r : RepSlot) : Nat :=
  if r.frameAlign && s.frameInTick l then 0 else r.j
def RepSlot.rep (r : RepSlot) (j : Nat) (mode : Nat) (outer : Bool) : DbWord :=
  if r.apply && !r.periodErr && (outer || decide (mode = 2) || decide (mode = 3)) then
    Table.get 0 r.mem ((j + r.lead) % max 1 r.period)
  else 0
/-- One learning step of R330. -/
def RepSlot.learnStep (r : RepSlot) (j : Nat) (e : DbWord) : RepSlot :=
  let m := Table.get 0 r.mem j
  let lim := ofCenti (r.repMax * 100 : Nat)
  let f := if r.forget = 0 then 0 else m / (2 ^ r.forget : Nat)
  { r with mem := Table.set 0 r.mem j (clampInt (-lim) lim (satDb (satDb (m - f) + mulsh r.kr e r.shKr))) }

/-- A loop's slot after an update: learned if the update allows it, the index advanced; CTL.REPSAT when a word
reaches ±REP_MAX (R330, R353). -/
def State.repAfter (s : State) (l j : Nat) (learn : Bool) (e : DbWord) : State :=
  match (s.loopOf l).slot with
  | none => s
  | some n =>
    let r := s.slotOf n
    let r' := if learn && r.learn && !r.periodErr then r.learnStep j e else r
    let lim := ofCenti (r.repMax * 100 : Nat)
    let w := Table.get 0 r'.mem j
    let old := Table.get 0 r.mem j
    let s := s.modSlot n (fun _ => { r' with j := (j + 1) % max 1 r.period })
    if (w = lim ∨ w = -lim) ∧ w ≠ old then s.raise 21 l 0 else s

/-- A capture record of eight dB words (R341). -/
def recordBytes (l : List DbWord) : List Byte := l.flatMap (fun v => leBytes 4 (bitsOf 32 v))
/-- The record of an update, and the injection's step (R341, R342, R494). -/
def State.injectAfter (s : State) (l : Nat) (words : List DbWord) (limited : Bool) : State :=
  let s := s.takeRecord l words
  match (s.loopOf l).inj with
  | none => s
  | some j =>
    let s := if j.capture && decide (j.done < j.pre + j.duration) then
        { s with cap := { s.cap with buf := s.cap.buf ++ recordBytes words } }
      else s
    s.modLoop l (fun x => { x with inj := some (j.next limited) })

/-- The result of an injection (R342): records written, and whether v differed from u. -/
def Injection.result (j : Injection) : Nat :=
  (if j.capture then min j.done (j.pre + j.duration) else 0) + 4294967296 * ofBool j.limited

/-- An injection ends with a status; a capture's records stay and its ownership ends (R341, R342). -/
def State.endInjection (s : State) (l status sub : Nat) : State :=
  match (s.loopOf l).inj with
  | none => s
  | some j =>
    let s := s.modLoop l (fun x => { x with inj := none })
    let s := if j.capture then
        { s with cap := { s.cap with
          owner := 0, valid := s.cap.buf.length / 32, state := if status = stOk then 4 else 5 } }
      else s
    s.complete j.cmd status sub j.result
/-! Inner loops (R302 to R311, R318 to R327). -/

/-- What one update's law answers. -/
structure LawOut where
  spE : DbWord
  e : DbWord
  u : DbWord
  v : DbWord
  i : DbWord
  limit : Nat

/-- Which limit set v (R349 LIMIT). -/
def limitCode (u v : DbWord) (bnd : DbWord × Nat) (up : DbWord) (gfix : Option DbWord) : Nat :=
  if v = u then 0
  else if v = bnd.1 then bnd.2
  else if gfix = some v then 6
  else if v = up then 7
  else 5

/-- The law of R309 in one update, from the previous output, the integrator and the ramped values. -/
def innerLaw (k : LoopSet) (x : Loop) (bnd : DbWord × Nat) (feed rep injOut injSp : DbWord) : LawOut :=
  let up := satDb (x.v + slewTick k.slew)
  if x.mode = 1 then
    let u := satDb (x.gfixRamp + injOut)
    let v := max (min (min u bnd.1) up) dbFloor
    { spE := satDb (min x.spRamp feed + injSp), e := 0, u := u, v := v, i := v,
      limit := limitCode u v bnd up none }
  else
    let r := k.region x.region
    let spE := satDb (min x.spRamp feed + injSp)
    let e := satDb (spE - x.yOut)
    let u := satDb (satDb (satDb (r.prop e + x.i) + rep) + injOut)
    let hi := min bnd.1 up
    let hi := if x.mode = 3 then min hi x.gfixRamp else hi
    let v := max (min u hi) dbFloor
    let i := clampInt dbFloor dbTop
      (satDb (satDb (x.i + mulsh r.ki e r.shKi) + mulsh r.kaw (satDb (v - u)) r.shAw))
    { spE := spE, e := e, u := u, v := v, i := i,
      limit := limitCode u v bnd up (if x.mode = 3 then some x.gfixRamp else none) }

/-- The hand-over update of R321 to an incoming mode 1 to 3: the loop, whether case 6 applied, and the error of the incoming
law. LIMIT says what set v (R349): in case 6 the upward slew. -/
def handOver (k : LoopSet) (x : Loop) (mode : Nat) (bnd : DbWord × Nat) (feed rep injOut injSp : DbWord) :
    Loop × Bool × DbWord :=
  let r := k.region x.region
  let spE := satDb (min x.spRamp feed + injSp)
  let e := satDb (spE - x.yOut)
  let p := if mode = 1 then 0 else r.prop e
  let rep := if mode = 1 then 0 else rep
  let i := clampInt dbFloor dbTop (satDb (satDb (satDb (x.v - p) - rep) - injOut))
  let raw := satDb (satDb (satDb (p + i) + rep) + injOut)
  let hi := if mode = 3 then min bnd.1 x.gfixRamp else bnd.1
  let u1 := if mode = 1 then max (min (ofCenti k.gFix) bnd.1) dbFloor else max (min raw hi) dbFloor
  let u := if mode = 1 then ofCenti k.gFix else raw
  let x := { x with
    mode := mode, i := i, u := u, handover := none, hold := false, used := some r
    limit := limitCode u u1 bnd 2147483647 (if mode = 3 then some x.gfixRamp else none) }
  if (u1 - x.v).natAbs ≤ 16777216 then ({ x with v := u1 }, false, e)
  else if u1 < x.v then ({ x with v := u1, gfixRamp := if mode = 1 then ofCenti k.gFix else x.gfixRamp }, false, e)
  else ({ x with gfixRamp := if mode = 1 then x.v else x.gfixRamp, limit := 7 }, true, e)

/-- The result of CTL_SET_MODE (R343). -/
def modeResult (mode : Nat) (v : DbWord) (case6 stored : Bool) : Nat :=
  (if mode = 0 then 0x8000 else bitsOf 16 (toCenti v)) + 65536 * ofBool case6 + 131072 * ofBool stored

/-- A command that several loops carry completes with the last of them. -/
def State.completeMode (s : State) (cmd : Option CmdRef) : State :=
  match cmd with
  | none => s
  | some c =>
    if (List.range 128).any (fun l => decide (((s.loopOf l).handover.bind Prod.snd) = some c)) then s
    else
      let l := ((s.requestOf c).map instOf).getD 0
      s.complete c stOk 0 (s.loopOf l).handed

/-- A schedule write over a loop's settings. -/
def LoopSet.write (k : LoopSet) (l : Nat) (q : Sched) : LoopSet :=
  { k.setRegion q.number q.region with
    nreg := q.nreg, measAvg := q.avg, outerDiv := if l < 128 then k.outerDiv else q.div }
/-- A loop's settings once the writes that wait for its next update have taken effect. -/
def State.loopSetLater (s : State) (l : Nat) : LoopSet := (s.loopOf l).sched.foldl (fun k q => k.write l q) (s.loopSet l)
/-- A region of a loop is rewritten: with no failed region left the loop's mutes for MEM.CTL end, and the loop is at rest
(R353). -/
def State.mendRegion (s : State) (l n : Nat) : State :=
  let failed := (s.loopOf l).memMute
  let left := failed.filter (fun j => j != n)
  if left ≠ [] then s.modLoop l (fun x => { x with memMute := left })
  else if failed = [] then s.unmuteAt 43 l
  else ((s.unmuteAt 43 l).modLoop l (fun x => { x with memMute := [] })).restLoop l
/-- One schedule write takes effect (R345); rewriting a failed region ends the loop's mute, and puts it at rest (R353).
Its command completes with the last loop that carries it. -/
def State.takeSched (s : State) (l : Nat) (q : Sched) : State :=
  let s := s.modLoopSet l (fun k => k.write l q)
  let s := s.mendRegion l q.number
  if (List.range 136).any (fun m => (s.loopOf m).sched.any (fun z => decide (z.cmd = q.cmd))) then s
  else s.complete q.cmd stOk 0 0
/-- Pending schedule writes take effect at the loop's update, in their order. -/
def State.takeSchedule (s : State) (l : Nat) : State :=
  match (s.loopOf l).sched with
  | [] => s
  | qs => qs.foldl (fun s q => s.takeSched l q) (s.modLoop l (fun x => { x with sched := [] }))

/-- What one loop measures for an update (R302, R313, R333): absent where no output qualifies. `tagged` says that the hold
is only for tags 01 or 11 of outputs that were transmitted (R313), `settled` that every output of the tick was tagged 00 or 10 (R319), `missed` that the
update is missed (R336). -/
structure LoopMeas where
  yIn : Option Rat
  yOut : Option Rat
  tagged : Bool
  settled : Bool
  missed : Bool
  deriving DecidableEq, Repr
/-- The mean of `n` squared magnitudes as a power, words of magnitude `unit` being 0 dBFS (R302). -/
def meanPower (sum n : Nat) (unit : Rat) : Option Rat :=
  if n = 0 then none else some ((sum : Rat) / ((n : Rat) * unit * unit))
/-- A power as a dB word; one below −127 dBFS reads as that (R302). -/
def powerDb (q : Rat) : DbWord := max (-2130706432) (dbOf q)
/-- What the outputs of the control tick that has ended give to an inner loop (R29, R302): the residual referred to the
RF-ADC, the reference to the RF-DAC. -/
def State.tickMeas (s : State) (g : Nat) (missed : Bool) : LoopMeas :=
  let x := (s.sigOf g).meter
  { yIn := meanPower x.inSum x.inCount (s.rxNetAt g s.window * 32752)
    yOut := meanPower x.outSum x.outCount (32752 / s.txNetAt g s.window)
    tagged := decide (x.outCount = 0) && decide (0 < x.taggedSent)
    settled := decide (0 < x.inCount) && decide (x.tagged = 0), missed := missed }

/-- The measurement part of an update (R302): averages in linear power with a weight of 2^-M, holds, and the powers an outer
update will use (R313). -/
def Loop.measure (x : Loop) (avg : Nat) (m : LoopMeas) : Loop :=
  let mix := fun (seen : Bool) (old new : Rat) => if seen then old + (new - old) / (2 ^ avg : Nat) else new
  let x := match m.yIn with
    | some y =>
      let p := mix x.inSeen x.inPower y
      { x with yIn := powerDb p, inPower := p, inSeen := true }
    | none => x
  match m.yOut with
  | some y =>
    let p := mix x.outSeen x.outPower y
    { x with yOut := powerDb p, outPower := p, outSeen := true, outs := x.outs ++ [p] }
  | none => { x with tagHold := x.tagHold || m.tagged }

/-- The ramped values advance at every control tick (R316). -/
def Loop.ramps (x : Loop) (k : LoopSet) : Loop :=
  { x with
    spRamp := towards x.spRamp (ofCenti k.sp) (slewTick k.slew)
    gfixRamp := towards x.gfixRamp (ofCenti k.gFix) (slewTick k.slew) }

/-- A missed update, which is no held one: MISSED, the count and the consecutive misses (R337, R349). -/
def Loop.miss (x : Loop) : Loop :=
  { x with missed := true, missedCount := satUp 0xFFFF x.missedCount, missRun := x.missRun + 1, hold := false }
/-- CTL.MISSED, and CTL.STALL at 96 consecutive misses (R337). -/
def State.missFaults (s : State) (l : Nat) : State :=
  let s := s.raise 19 l 0
  if (s.loopOf l).missRun = 96 then s.raise 20 l 0 true else s
/-- The consecutive misses end. -/
def State.missEnds (s : State) (l : Nat) : State :=
  (s.modLoop l (fun x => { x with missRun := 0 })).ends 20 l

/-- The conditions of the start update, which needs a y_out of the tick to set sp_ramp to (R319). -/
def State.startable (s : State) (g : Nat) (x : Loop) (m : LoopMeas) : Bool :=
  (match x.floorAt with
   | some t => decide (t ≤ s.now)
   | none => true) &&
  m.settled && m.yOut.isSome && s.transmits (chainOf g) && s.gateOpen g && s.pins.muteN

/-- The limiter of R304: what stage 7 applies in the present tick, the output of the update before (R303) under the
bound, and whether the bound is what sets it (R221). -/
def Loop.limited (x : Loop) (bnd : DbWord) : Loop :=
  { x with
    applied := if x.mode = 0 ∨ x.boundMute then none else some (toCenti (min x.stage bnd))
    bounded := decide (bnd < x.stage) }

/-- Whether a loop makes a hold update: bound-muted, or AGC or ALC with y_out held (R305, R311). -/
def holds (x : Loop) (mode : Nat) (m : LoopMeas) : Bool := x.boundMute || (decide (2 ≤ mode) && m.yOut.isNone)

/-- What a repetitive slot and an injection give a loop at an update: the slot's index and word, and the injected value
(R330, R338). -/
def State.repNow (s : State) (l : Nat) (x : Loop) (mode : Nat) (outer : Bool) : Nat × DbWord :=
  match x.slot.map s.slotOf with
  | some r => (s.repIndex l r, r.rep (s.repIndex l r) mode outer)
  | none => (0, 0)
def Loop.injected (x : Loop) (div : Nat) : DbWord :=
  match x.inj with
  | some q => q.value div
  | none => 0
def Loop.injectsSp (x : Loop) : Bool :=
  match x.inj with
  | some q => decide (q.point = 0)
  | none => false

/-- What a mode change at an update gives: the loop, and the error of an AGC or ALC law that the update computed. -/
structure HandOut where
  loop : Loop
  error : Option DbWord := none
/-- A mode change at an update (R321, R322): none while it waits for an update that is not held. -/
def State.takeMode (s : State) (g : Nat) (x : Loop) (k : LoopSet) (m : LoopMeas) (bnd : DbWord × Nat)
    (feed injOut injSp : DbWord) : Option HandOut :=
  match x.handover with
  | none => none
  | some (mode, _) =>
    if mode = 0 then
      some { loop := { ({ x with mode := 0 }.atRest none).dropRamps with
        handover := none, hold := x.boundMute, handed := modeResult 0 0 false false } }
    else if x.mode = 0 then
      let y := { ({ x with mode := mode }.atRest (some (s.floorTime g))) with handover := none, hold := x.boundMute }
      some { loop := { y with handed := modeResult mode y.v false true } }
    else if x.rest then
      some { loop := { x with
        mode := mode, handover := none, limit := 5, hold := holds x mode m, handed := modeResult mode x.v false true } }
    else if holds x mode m then
      if mode = 1 then
        some { loop := { x with mode := 1, handover := none, hold := true, handed := modeResult 1 x.v false true } }
      else none
    else
      let r := handOver k { x with region := nextRegion k x.yIn x.region } mode bnd feed (s.repNow g x mode false).2 injOut injSp
      some { loop := { r.1 with handed := modeResult mode r.1.v r.2.1 false }
             error := if 2 ≤ mode then some r.2.2 else none }

/-- The records of an update that computes no law. -/
def State.idleAfter (s : State) (l : Nat) (words : List DbWord) (j : Nat) : State :=
  (s.repAfter l j false 0).injectAfter l words false

/-- The inputs of an inner update: the settings, the bound and what set it, the feed of R309, and what the slot and the
injection add. -/
structure InnerIn where
  k : LoopSet
  bnd : DbWord × Nat
  feed : DbWord
  j : Nat
  rep : DbWord
  injV : DbWord
  injOut : DbWord
  injSp : DbWord

/-- The integrator at a region switch or after a write into the region in force: i + p_old − p_new, which leaves u as it was
(R327). Where the two terms are equal there is nothing to adjust. -/
def bumpless (used : Option Region) (r : Region) (e i lo hi : DbWord) : DbWord :=
  match used with
  | none => i
  | some old => if old.prop e = r.prop e then i else clampInt lo hi (satDb (satDb (i + old.prop e) - r.prop e))

/-- The law of an inner loop at a computed update, the start update included (R309, R319, R326, R327). R330 does not say
whether the start update itself is past the start update: here it learns, where v = u, as every computed update does
(DESIGN CHOICE [97]). -/
def State.innerLawTick (s : State) (g : Nat) (x : Loop) (q : InnerIn) : State :=
  let x := if x.rest then
      { x with rest := false, spRamp := x.yOut, gfixRamp := dbFloor, i := dbFloor, v := dbFloor,
               region := startRegion q.k x.yIn }
    else { x with region := nextRegion q.k x.yIn x.region }
  let e := satDb (satDb (min x.spRamp q.feed + q.injSp) - x.yOut)
  let i := if x.mode = 1 then x.i else bumpless x.used (q.k.region x.region) e x.i dbFloor dbTop
  let o := innerLaw q.k { x with i := i } q.bnd q.feed q.rep q.injOut q.injSp
  let y := { x with v := o.v, i := o.i, u := o.u, limit := o.limit, hold := false, used := some (q.k.region x.region) }
  ((s.modLoop g (fun _ => y.limited q.bnd.1)).repAfter g q.j (decide (o.v = o.u) && decide (2 ≤ x.mode)) o.e).injectAfter g
    [o.spE, y.yOut, o.e, o.u, o.v, o.i, q.rep, q.injV] (decide (o.v ≠ o.u))

/-- An update without a mode change: idle in MUTE, at rest before the start update, held, or computed (R305, R311, R319,
R322). -/
def State.innerUpdate (s : State) (g : Nat) (m : LoopMeas) (x : Loop) (q : InnerIn) (idle : List DbWord) : State :=
  if x.mode = 0 then (s.modLoop g (fun _ => { x with hold := x.boundMute }.limited q.bnd.1)).idleAfter g idle q.j
  else if x.rest && !(s.startable g x m && !x.boundMute) then
    (s.modLoop g (fun _ => { x with limit := 5, hold := holds x x.mode m }.limited q.bnd.1)).idleAfter g idle q.j
  else if !x.rest && holds x x.mode m then
    (s.modLoop g (fun _ => { x with hold := true }.limited q.bnd.1)).idleAfter g idle q.j
  else s.innerLawTick g x q

/-- A mode change at an update: the loop as handed over, its records, and the end of its injection and of its command (R321,
R342). -/
def State.innerHanded (s : State) (g : Nat) (q : InnerIn) (spE : DbWord) (cmd : Option CmdRef) (h : HandOut) : State :=
  let y := h.loop
  (((((s.modLoop g (fun _ => y.limited q.bnd.1)).repAfter g q.j (h.error.isSome && decide (y.v = y.u)) (h.error.getD 0)).injectAfter g
    [spE, y.yOut, h.error.getD (-2147483648), y.u, y.v, y.i, q.rep, q.injV] (decide (y.v ≠ y.u)))).endInjection g
      stAbortedHost 6).completeMode cmd
/-- An update that is not missed: handed over, or computed. -/
def State.innerNow (s : State) (g : Nat) (m : LoopMeas) (x : Loop) (q : InnerIn) (spE : DbWord) (idle : List DbWord) : State :=
  match s.takeMode g x q.k m q.bnd q.feed q.injOut q.injSp with
  | some h => s.innerHanded g q spE (x.handover.bind Prod.snd) h
  | none => s.innerUpdate g m x q idle
/-- One inner loop at a control tick (R301 to R311, R316 to R327, R330, R336 to R341). -/
def State.innerTick (s : State) (g : Nat) (m : LoopMeas) : State :=
  let s := s.takeSchedule g
  let k := s.loopSet g
  let x := (s.loopOf g)
  let x := { x with stage := x.v }
  let x := if x.rest then x else x.ramps k
  let x := x.measure k.measAvg m
  let bnd := s.lowestBound g x.yIn
  let was := x.boundMute
  let x := { x with boundMute := boundMuteNext x.boundSeen x.boundMute bnd.1, boundSeen := true }
  let x := if was && !x.boundMute then x.atRest (some (s.floorTime g)) else x
  let r := s.repNow g x x.mode false
  let inj := x.injected 1
  let q : InnerIn := {
    k := k, bnd := bnd, feed := s.feed g, j := r.1, rep := r.2, injV := inj
    injOut := if x.injectsSp then 0 else inj, injSp := if x.injectsSp then inj else 0 }
  let spE := satDb (min x.spRamp q.feed + q.injSp)
  let idle := [spE, x.yOut, -2147483648, x.u, x.v, x.i, q.rep, q.injV]
  if m.missed then
    ((s.modLoop g (fun _ => x.miss.limited bnd.1)).missFaults g).idleAfter g idle q.j
  else (s.missEnds g).innerNow g m { x with missRun := 0 } q spE idle

/-! Outer loops (R313 to R315, R707) and the supervisor (R333 to R335). -/

/-- The term of a sub-band in P_comp, a linear power: the mean of its measurements of the interval, its last one if it was
held for its tags, or none (R313). -/
def Loop.compTerm (x : Loop) : Option Rat :=
  match x.outs with
  | [] => if x.tagHold then some x.outPower else none
  | l => some (l.sum / (l.length : Rat))

/-- P_comp of a chain: 10 × log10 of the sum of the terms (R313); none where no sub-band contributes. -/
def State.composite (s : State) (c : Nat) : Option DbWord :=
  match ((sbsOf c).filter (fun g => s.enabled g)).filterMap (fun g => (s.loopOf g).compTerm) with
  | [] => none
  | l => some (powerDb l.sum)

/-- LINEUP_B of the temperature band in force, in 0.01 dB (R333). -/
def State.lineupB (s : State) (c : Nat) : Int := (Table.get ({} : Lineup) s.store.lineup c).b.getD s.th.band 0

/-- The plausibility check at an outer update of a chain (R334, R335). -/
def State.plausCheck (s : State) (c : Nat) (p : Option DbWord) : State :=
  let k := s.plausSet c
  let x := s.plausOf c
  let fresh := match x.detAt with
    | some t => decide (s.now ≤ t + 10 * perMs)
    | none => false
  match p with
  | none => s
  | some p =>
    if k.en && s.transmits c && decide (-(k.floor * 16777216 : Nat) ≤ p) && fresh then
      let l := Table.get ({} : Lineup) s.store.lineup c
      let det := ofCenti l.refDbm + ((x.detCode : Int) - l.icpt) * l.slope * 16
      let diff := det - (p + ofCenti (s.lineupB c))
      let err := roundQ (diff * 10) 16777216 (Config.roundsUp diff 1)
      if (k.tol * 16777216 : Nat) < (diff * 10).natAbs then
        s.modPlaus c (fun x => { x with err := err, timer := some (x.timer.getD s.now) })
      else
        (s.modPlaus c (fun x => { x with err := err, timer := none, raised := false })).ends 18 c
    else s

/-- The applied gain of a sub-band lies below the law's output u: a limit holds v below it, the limiter holds the gain below
v, or stage 7 applies zero (R344). -/
def Loop.below (x : Loop) : Bool :=
  decide (x.v < x.u) || (match x.applied with
    | some a => x.bounded && decide (a < toCenti x.v)
    | none => true)
/-- A SHARE request takes effect and completes at the next outer update (R316, R320). -/
def State.takeShare (s : State) (g : Nat) : State :=
  let v := (s.loopSet g).share
  let w := (s.loopOf g).waitShare
  let s := s.modLoop g (fun x => { x with share := v, waitShare := none })
  match w with
  | none => s
  | some w =>
    if (List.range 128).any (fun h => decide (((s.loopOf h).waitShare.map SetPointWait.cmd) = some w.cmd)) then s
    else
      let h := ((s.requestOf w.cmd).map instOf).getD g
      (s.complete w.cmd stOk 0 (bitsOf 16 v + 65536 * ofBool (s.loopOf h).below +
          4294967296 * microsUp (s.now - w.startedAt))).post 0x0013
        (leBytes 2 h ++ [2, 0] ++ leBytes 2 (bitsOf 16 v))
/-- The SHARE requests of a chain. -/
def State.takeShares (s : State) (c : Nat) : State := s.each (sbsOf c) State.takeShare

/-- The law of an outer loop at an update with a composite power (R313, R314, R324 to R327, R707). Its start update
learns as the later ones do (DESIGN CHOICE [97]; R330 leaves it open). -/
def State.outerLaw (s : State) (c : Nat) (x : Loop) (k : LoopSet) (lc p rep injV : DbWord) (j : Nat) : State :=
  let l := 128 + c
  let region := if x.rest then startRegion k p else nextRegion k p x.region
  let e := satDb (lc - p)
  let r := k.region region
  let i0 := bumpless x.used r e x.i dbFloor 0
  let u := satDb (satDb (satDb (r.prop e + i0) + rep) + injV)
  let v := max (min u 0) dbFloor
  let i := clampInt dbFloor 0 (satDb (satDb (i0 + mulsh r.ki e r.shKi) + mulsh r.kaw (satDb (v - u)) r.shAw))
  let s := s.modLoop l (fun x => { x with
    region := region, rest := false, hold := false, u := u, v := v, i := i, missRun := 0, used := some r
    limit := if v = u then 0 else if v = dbFloor then 5 else 0 })
  ((s.repAfter l j (decide (v = u)) e).injectAfter l [lc, p, e, u, v, i, rep, injV] (decide (v ≠ u))).plausCheck c (some p)

/-- One outer loop at one of its updates (R313, R314, R707). -/
def State.outerTick (s : State) (c : Nat) (missed : Bool) : State :=
  let l := 128 + c
  let s := (s.takeSchedule l).takeShares c
  let s := if missed then s else s.modPlaus c (fun q => { q with throttle := s.th.throttle })
  let k := s.loopSet l
  let x := s.loopOf l
  let p := s.composite c
  let lc := s.lcNow c
  let s := s.each (sbsOf c) (fun s g => s.modLoop g (fun x => { x with outs := [], tagHold := false }))
  let r := s.repNow l x 0 true
  let j := r.1
  let rep := r.2
  let injV := x.injected k.outerDiv
  let idle := [lc, p.getD (-2130706432), -2147483648, x.u, x.v, x.i, rep, injV]
  if missed then
    ((((s.modLoop l Loop.miss).missFaults l).repAfter l j false 0).injectAfter l idle false)
  else
    let s := s.missEnds l
    let s := s.modPlaus c (fun q => { q with pComp := p.getD (-2130706432) })
    match p with
    | none => ((s.modLoop l (fun x => { x with hold := true })).repAfter l j false 0).injectAfter l idle false
    | some p => s.outerLaw c x k lc p rep injV j

/-! What ends a loop's work (R328, R332, R342). -/

/-- The injections of the loops that satisfy a test end (R342). -/
def State.endInjections (s : State) (which : Nat → Bool) (status sub : Nat) : State :=
  s.each ((List.range 136).filter which) (fun s l => s.endInjection l status sub)

/-- The ramped value a waiting CTL_SET_POINT has reached, in 0.01 dB. -/
def State.rampedCenti (s : State) (l which : Nat) : Int :=
  let x := s.loopOf l
  if which = 0 then toCenti x.spRamp else if which = 1 then toCenti x.gfixRamp else x.share
/-- The waiting CTL_SET_POINT of a loop for one value. -/
def Loop.wait (x : Loop) (which : Nat) : Option SetPointWait :=
  if which = 0 then x.waitSp else if which = 1 then x.waitGfix else x.waitShare
/-- As changed. -/
def Loop.setWait (x : Loop) (which : Nat) (w : Option SetPointWait) : Loop :=
  if which = 0 then { x with waitSp := w } else if which = 1 then { x with waitGfix := w }
  else { x with waitShare := w }

/-- The result of CTL_SET_POINT (R344). -/
def State.pointResult (s : State) (l which : Nat) (startedAt : Time) : Nat :=
  bitsOf 16 (s.rampedCenti l which) + 65536 * ofBool (s.loopOf l).below +
    4294967296 * microsUp (s.now - startedAt)

/-- A waiting CTL_SET_POINT ends with a status: on every loop that carries it (R320, R328). -/
def State.endPoint (s : State) (l which status sub : Nat) : State :=
  match (s.loopOf l).wait which with
  | none => s
  | some w =>
    let res := s.pointResult l which w.startedAt
    let s := (groupOf l).foldl (fun s h =>
      if decide (((s.loopOf h).wait which).map SetPointWait.cmd = some w.cmd) then
        s.modLoop h (fun x => x.setWait which none) else s) s
    s.complete w.cmd status sub res

/-- A loop's state is discarded: its sub-band is disabled, or the radio leaves LISTEN (R328). Requests that wait and
an injection end with the status given; a mode change that waits is stored (R322), a schedule write is in force. -/
def State.discardLoop (s : State) (l status sub : Nat) : State :=
  let s := s.endInjection l status sub
  let s := if l < 128 then ((s.endPoint l 0 status sub).endPoint l 1 status sub).endPoint l 2 status sub else s
  let s := s.takeSchedule l
  let cmd := (s.loopOf l).handover.bind Prod.snd
  let s := if l < 128 then s else s.modPlaus (l - 128) (fun q => { q with pComp := -2130706432 })
  let s := s.modLoop l (fun x => { (x.atRest none).dropRamps with
    boundMute := false, applied := none, bounded := false, u := 0
    v := if l < 128 then dbFloor else x.v
    mode := match x.handover with
      | some (m, _) => m
      | none => x.mode
    handed := match x.handover with
      | some (m, _) => modeResult m dbFloor false true
      | none => x.handed
    handover := none
    share := (s.loopSet l).share })
  s.completeMode cmd

end Sys2Proof.Machine
end

