-- ==== Sys2Proof/Machine/FrontOps.lean ====
section
/-!
DEFINITION. Shared operations of the front end (10_front_end_control.md): ownership of the GPIOs, PA sequences, trips.
-/

namespace Sys2Proof.Machine

/-! Ownership (R431 to R436). -/

/-- The safety functions of R431: XTRIPn and the trip output. -/
def isSafety (f : Nat) : Bool := (decide (0x30 ≤ f) && decide (f < 0x34)) || decide (f = 0x52)

/-- A claim of a GPIO for a function is refused: another owner holds the pin, and R435 does not let the claim take
it. -/
def State.gpioBusy (s : State) (g f : Nat) : Bool :=
  let h := s.gpio g
  decide (h ≠ 0) && !(isSafety f && !isSafety h)

/-- The former owner of a GPIO loses it: RESOURCE_LOST and the effect of R435. -/
def State.loseGpio (s : State) (g : Nat) : State :=
  let f := s.gpio g
  let s := (s.setGpio g 0).post 0x0011 [BitVec.ofNat 8 g, BitVec.ofNat 8 f]
  if 0x20 ≤ f ∧ f < 0x28 then
    { s with set := { s.set with hkTimer := Table.modify {} s.set.hkTimer (f - 0x20) (fun t => { t with pinLost := true, edges := [] }) } }
  else if 0x40 ≤ f ∧ f < 0x46 then { s with set := { s.set with tddOut := { s.set.tddOut with beamEn := false } } }
  else if f = 0x48 then { s with set := { s.set with tddOut := { s.set.tddOut with fsyncEn := false } } }
  else if f = 0x50 then
    s.each (List.range 4) (fun s t =>
      let k := s.tddSet t
      if k.enable ∧ 4 ≤ k.source ∧ k.detSb = g then s.modTdd t (fun x => { x with srcLost := true }) else s)
  else if f = 0x51 then { s with set := { s.set with radioCfg := { s.set.radioCfg with wakeGpio := 63 } } }
  else s

/-- A claim that is not refused takes the pin; a non-safety owner loses it (R434, R435). -/
def State.claimGpio (s : State) (g f : Nat) : State :=
  (if s.gpio g = 0 then s else s.loseGpio g).setGpio g f

/-! PA sequences (R404 to R410, R704). -/

/-- The code on a chain's attenuator bus (R405): ATT_BASE with the fast steps, or ATT_SAFE. -/
def State.attCode (s : State) (c : Nat) : Nat :=
  let k := s.feRx c
  if s.radio.state < 2 ∨ (s.cnvOf c).fenced then k.attSafe
  else min 63 (k.attBase + ((s.cnvOf c).steps.map FastStep.codes).sum)
/-- The bus drives that code once the outputs are driven (R402). -/
def State.driveAtt (s : State) (c : Nat) : State :=
  if s.boot.driven then
    let v := s.attCode c
    s.modFe c (fun x => { x with att := v })
  else s
/-- LNAEN follows the radio state, USE_LNA and the fence (R403, R404). -/
def State.driveLna (s : State) (c : Nat) : State :=
  let v := decide (2 ≤ s.radio.state) && (s.feRx c).useLna && !(s.cnvOf c).fenced
  s.modFe c (fun x => { x with lnaen := v })
/-- Both, for every chain. -/
def State.driveFront (s : State) : State := s.each chains (fun s c => (s.driveLna c).driveAtt c)

/-- A power-up sequence falls due (R406), unless the chain is fenced (R704). With its PAEN trip latched it raises PABIAS alone
(R425, R428). -/
def State.askUp (s : State) (c : Nat) : State :=
  if (s.cnvOf c).txFenced then s
  else s.modFe c (fun x => { x with dueUp := true, dueDown := false })
/-- A power-down sequence falls due (R408), where the chain is up or on its way up; one that runs goes on. -/
def State.askDown (s : State) (c : Nat) : State :=
  let x := s.feOf c
  let up := match x.seq with
    | some q => q.up
    | none => x.on || x.paen || x.pabias
  if up then s.modFe c (fun x => { x with dueUp := false, dueDown := true })
  else s.modFe c (fun x => { x with dueUp := false })
/-- The sequence of a chain runs or is due. -/
def Fe.busy (x : Fe) : Bool := x.seq.isSome || x.dueUp || x.dueDown
/-- A PAEN trip counts as the end of the chain's power-up sequence (R427). -/
def Fe.busyUp (x : Fe) : Bool := x.busy && !(x.trip && (match x.seq with
  | some q => q.up
  | none => !x.dueDown))
/-- Some chain's sequence runs. -/
def State.seqBusy (s : State) : Bool := chains.any (fun c => (s.feOf c).busyUp)

/-- A PA sequence runs, tripped or not (R92 WALK, R428). -/
def State.seqRuns (s : State) : Bool := chains.any (fun c => (s.feOf c).busy)

/-- The power-up sequence starts (R406). -/
def State.startUp (s : State) (c : Nat) : State :=
  let k := s.fePa c
  s.modFe c (fun x => { x with
    seq := some { up := true, startedAt := s.now, cfg := k, bias := k.usePabias, paen := true }, dueUp := false })
/-- The power-down sequence starts (R407, R408): TX_ACTIVE clears, and it ends at once where nothing is asserted. -/
def State.startDown (s : State) (c : Nat) : State :=
  let k := s.fePa c
  s.modFe c (fun x => { x with
    seq := if x.paen || x.pabias then
        some { up := false, startedAt := s.now, cfg := k, bias := x.pabias, paen := x.paen } else none
    on := if x.paen || x.pabias then x.on else false
    txActive := false, dueDown := false, dueUp := false })

/-- Ticks from the start of a sequence to its end (R406 to R408). -/
def Seq.length (q : Seq) : Nat :=
  if q.up then q.cfg.upRf
  else max (if q.paen then q.cfg.dnPaen else 0) (if q.bias then q.cfg.dnBias else 0)
/-- The sequence's clock, in ticks. -/
def State.seqTicks (s : State) (q : Seq) : Nat := (s.now - q.startedAt) / perTick

/-! Trips (R424 to R428). -/

/-- What SLEEP keeps of a monitor: its failure, which holds its condition asserted (R423). -/
def Wm.kept (x : Wm) : Wm := { failed := x.failed, asserted := x.failed }

/-- A trip source acts: enabled, asserted, and not blanked (R422, R423, R429). -/
def State.srcActs (s : State) (m : Nat) : Bool :=
  let x := s.wmOf m
  (s.wmSet m).enable && (x.asserted || x.failed) &&
    (match x.blank with
     | some t => decide (t ≤ s.now) || x.failed
     | none => true)
/-- Some source routed to a destination is asserted, blanked or not (R426, R439). -/
def State.routed (s : State) (d : Nat) : Bool :=
  (List.range 21).any (fun m =>
    bit (s.wmSet m).dest.toNat d && (s.wmSet m).enable && ((s.wmOf m).asserted || (s.wmOf m).failed))
/-- A destination trips: latched, counted, FE.TRIP (R425, R426, R428). A latched destination trips no further [97]. -/
def State.trip (s : State) (d src : Nat) : State :=
  if d < 16 then
    if (s.pgOf d).tripped then s
    else (s.modPg d (fun x => { x with
      tripped := true, tripSrc := src, tripCount := satUp 0xFFFF x.tripCount })).raise 28 d 0
  else
    let c := d - 16
    if (s.feOf c).trip then s
    else (s.modFe c (fun x => { x with
      trip := true, trips := satUp 0xFFFF x.trips, txActive := false, dacZero := true, paen := false })).raise 28 d 0
/-- A source that acts trips every destination routed to it (R424). -/
def State.tripAll (s : State) (m : Nat) : State :=
  if s.srcActs m then
    s.each ((List.range 24).filter (fun d => bit (s.wmSet m).dest.toNat d)) (fun s d => s.trip d m)
  else s
/-- A power-up of a chain that the movement in progress waits for (R75, R406). -/
def State.bringUp (s : State) (c : Nat) : State :=
  let s := s.askUp c
  s.modFe c (fun x => { x with mine := x.busy })
/-- The power-up sequences of step 8 run (R80). -/
def State.stepEightRuns (s : State) : Bool := match s.radio.walk with
  | some w => decide (w.step = 8) && decide (s.radio.state = 3)
  | none => false
/-- A latched destination releases (R426, R427). A chain that step 8 is powering up begins its sequence anew, as it would in
REPEAT. -/
def State.untrip (s : State) (d : Nat) : State :=
  if d < 16 then s.modPg d (fun x => { x with tripped := false })
  else
    let c := d - 16
    let s := s.modFe c (fun x => { x with trip := false, dacZero := false })
    if !s.txWanted c then s
    else if s.radio.state = 4 then s.askUp c
    else if s.stepEightRuns then s.bringUp c
    else s

end Sys2Proof.Machine
end

