-- ==== Sys2Proof/Machine/GateOps.lean ====
section
/-!
DEFINITION. Shared operations of TDD timing and gating (R355 to R379): the symbol grid, schedules, sync states.
-/

namespace Sys2Proof.Machine

/-! The symbol grid and the schedules (R356, R357, R366 to R372). -/

/-- Half-milliseconds in a gating frame. -/
def halves (period : Nat) : Nat := framePeriod period / 983040
/-- N_sym of R357. -/
def nSym (k : TddSet) : Nat := 7 * 2 ^ k.scs * halves k.period
/-- Gating frames in a radio frame. -/
def framesPer (k : TddSet) : Nat := 19660800 / framePeriod k.period
/-- Start of a symbol in ticks from the gating frame start (R356). -/
def symStart (scs sym : Nat) : Nat :=
  let n := 7 * 2 ^ scs
  sym / n * 61440 + (if sym % n = 0 then 0 else 64) + sym % n * (8768 / 2 ^ scs)

/-- Fields of a gate schedule entry (R367). -/
def entStart (e : BitVec 64) : Nat := bitsAt e.toNat 63 52
def entLen (e : BitVec 64) : Nat := bitsAt e.toNat 51 40
def entBeamValid (e : BitVec 64) : Bool := bit e.toNat 39
def entMask (e : BitVec 64) : Nat := bitsAt e.toNat 31 16

/-- First entry of a page of a group, and the number of entries it holds (R366). -/
def pageAt (k : TddSet) (up : Bool) (page : Nat) : Nat :=
  if up then 4096 + k.baseUl + page * k.lenUl else k.baseDl + page * k.lenDl
def pageCount (k : TddSet) (up : Bool) (page : Nat) : Nat :=
  if up then (if page = 0 then k.cntUl0 else k.cntUl1) else if page = 0 then k.cntDl0 else k.cntDl1
def setCount (k : TddSet) (up : Bool) (page n : Nat) : TddSet :=
  if up then (if page = 0 then { k with cntUl0 := n } else { k with cntUl1 := n })
  else if page = 0 then { k with cntDl0 := n } else { k with cntDl1 := n }
def activePage (k : TddSet) (up : Bool) : Nat := if up then k.pageUl else k.pageDl

/-- The entries of a page. -/
def State.pageOf (s : State) (k : TddSet) (up : Bool) (page : Nat) : List (BitVec 64) :=
  Table.range 0 s.set.gates (pageAt k up page) (pageCount k up page)
/-- Entries written into a page. -/
def State.writePage (s : State) (t : Nat) (up : Bool) (page : Nat) (es : List (BitVec 64)) : State :=
  let k := s.tddSet t
  ({ s with set := { s.set with gates := Table.setRange 0 s.set.gates (pageAt k up page) es } }).modTddSet t
    (fun k => setCount k up page es.length)

/-- The open intervals of a page with their ramps (R370), in thousandths of a window-clock period from the gating
frame start on the downlink timeline; the ramp of 200 ns is 393.216 periods. -/
def openIntervals (k : TddSet) (up : Bool) (es : List (BitVec 64)) : List (Int × Int) :=
  (es.filter (fun e => decide (entMask e ≠ 0))).map (fun e =>
    let lead := if up then k.leadUl else k.leadDl
    let lag := if up then k.lagUl else k.lagDl
    let shift : Int := if up then k.ulAdvance else 0
    let a : Int := symStart k.scs (entStart e)
    let b : Int := symStart k.scs (entStart e + entLen e)
    ((a - lead - shift) * 16000 - 393216, (b + lag - shift) * 16000 + 393216))

/-- Whether a downlink and an uplink interval overlap in any frame (R372). -/
def clashes (k : TddSet) (dl ul : List (BitVec 64)) : Bool :=
  let p : Int := framePeriod k.period * 1000
  (openIntervals k false dl).any (fun a => (openIntervals k true ul).any (fun b =>
    [-4, -3, -2, -1, 0, 1, 2, 3, 4].any (fun n =>
      decide (a.1 < b.2 + n * p) && decide (b.1 + n * p < a.2))))

/-- The two masks share a symbol. -/
def shareSymbol (a b : BitVec 64) : Bool :=
  decide (entStart a < entStart b + entLen b) && decide (entStart b < entStart a + entLen a)
/-- No two entries set one mask bit, or BEAM_VALID, on a common symbol, and they stand in ascending START_SYM
(R368). -/
def ordered : List (BitVec 64) → Bool
  | [] => true
  | e :: rest =>
    (match rest with
     | [] => true
     | f :: _ => decide (entStart e ≤ entStart f)) &&
      rest.all (fun f => !(shareSymbol e f &&
        (decide (Nat.land (entMask e) (entMask f) ≠ 0) || (entBeamValid e && entBeamValid f)))) && ordered rest
/-- A page's entries are legal for the group (R367, R368). -/
def pageLegal (k : TddSet) (up : Bool) (es : List (BitVec 64)) : Bool :=
  let mask := (if up then k.maskUl else k.maskDl).toNat
  es.all (fun e =>
    decide (entStart e < nSym k) && decide (1 ≤ entLen e) && decide (entLen e ≤ nSym k - entStart e) &&
      !bit e.toNat 38 && decide (bitsAt e.toNat 15 0 = 0) && decide (Nat.land (entMask e) mask = entMask e)) &&
    ordered es

/-- The page of a direction that will be active at an activation: one that a pending write brings in by then, else
the active one (R372). -/
def State.pageAtActivation (s : State) (t : Nat) (up : Bool) (due : Time) : List (BitVec 64) :=
  let k := s.tddSet t
  let x := s.tddOf t
  let page := match (if up then x.pendUl else x.pendDl) with
    | some w => if w.due ≤ due then 1 - activePage k up else activePage k up
    | none => activePage k up
  s.pageOf k up page

/-- The settings that may change on an enabled group (R393). -/
def TddSet.take (old new : TddSet) : TddSet :=
  { old with
    leadDl := new.leadDl, lagDl := new.lagDl, leadUl := new.leadUl, lagUl := new.lagUl, ulAdvance := new.ulAdvance
    holdoverS := new.holdoverS, syncOffset := new.syncOffset, learn := new.learn, autoApply := new.autoApply }
/-- The settings of a group from its next gating frame on (R393). -/
def State.tddNext (s : State) (t : Nat) : TddSet := match (s.tddOf t).pendSet with
  | some n => (s.tddSet t).take n
  | none => s.tddSet t
/-- A gate write is due in the frame that starts at a window sample: its boundary is nearest (R374). -/
def writeDue (w : Option GateWrite) (at_ : Int) (p : Nat) : Bool := match w with
  | some w => decide ((w.due : Int) ≤ at_ + (p / 2 : Nat))
  | none => false
/-- The start of the present gating frame of a group, as a window sample. -/
def Tdd.frameStart (x : Tdd) (p : Nat) : Int := x.frame + (x.gf * p : Nat)
/-- The settings and the entries that hold for a direction in the gating frame `n` after the present one: the page and the
settings in force, those that the frames to come bring in, or those of a frame that has ended (R369, R374, R393). -/
def State.frameOf (s : State) (t : Nat) (up : Bool) (n : Int) : TddSet × List (BitVec 64) :=
  let x := s.tddOf t
  let k := s.tddSet t
  let p := framePeriod k.period
  let act := activePage k up
  if n < 0 then match x.ended[(-n - 1).toNat]? with
    | some e => (e.set, if up then e.ul else e.dl)
    | none => (k, [])
  else if n = 0 then (k, s.pageOf k up act)
  else (s.tddNext t, s.pageOf k up
    (if writeDue (if up then x.pendUl else x.pendDl) (x.frameStart p + n * p) p then 1 - act else act))
/-- The gating frames whose runs may touch the present instant: UL_ADVANCE reaches less than three frames ahead, and LAG less
than one back. Each with its number and its start in thousandths of a window-clock period. -/
def State.framesNow (s : State) (t : Nat) : List (Int × Int) :=
  let p := framePeriod (s.tddSet t).period
  let start := (s.tddOf t).frameStart p
  let q := ((s.window : Int) - start) / p
  [q - 1, q, q + 1, q + 2, q + 3].map (fun n => (n, (start + n * p) * 1000))
/-- The mask that the schedule opens at the present instant, ramps included (R369, R370). -/
def State.scheduledNow (s : State) (t : Nat) (up : Bool) : BitVec 16 :=
  let now : Int := (s.window : Int) * 1000
  (s.framesNow t).foldl (fun acc f =>
    let k := s.frameOf t up f.1
    k.2.foldl (fun acc e =>
      if (openIntervals k.1 up [e]).any (fun a => decide (f.2 + a.1 ≤ now) && decide (now < f.2 + a.2 - 393216))
      then acc ||| BitVec.ofNat 16 (entMask e) else acc) acc) 0

/-! Donor loss (R383, R385, R386). -/

/-- A band's donor-loss mute holds some enabled uplink sub-band in LISTEN: no downlink sub-band of the band is enabled, or the
level is lost. -/
def State.donorHeld (s : State) (b : Nat) : Bool :=
  s.listening && allSbs.any (fun g => s.enabled g && isUplink (chainOf g) && decide ((s.npSb g).band = b) && s.donorMuted g)
/-- NET.DONORLOSS is raised as the mute of a band begins; as it ends for its sub-bands, the condition ends and the event is
posted, and where none of them is left, the condition ends. A mute of sub-bands without a band has no address (R386) [81]. -/
def State.judgeDonor (s : State) (b : Nat) : State :=
  let x := s.bandOf b
  let held := s.donorHeld b
  if held = x.lost then s
  else
    let s := s.modBand b (fun x => { x with lost := held })
    if held then s.raise 25 b 0 true
    else
      let s := s.ends 25 b
      if s.listening ∧ allSbs.any (fun g => s.enabled g && isUplink (chainOf g) && decide ((s.npSb g).band = b)) then
        s.post 0x0031 [BitVec.ofNat 8 b]
      else s
def State.judgeDonors (s : State) : State := s.each (List.range 16) State.judgeDonor

/-! Gates (R361, R370, R373, R375). -/

/-- Every gate of a group closes at once. -/
def State.closeGates (s : State) (t : Nat) : State :=
  s.modTdd t (fun x => { x with openDl := 0, openUl := 0, movesDl := [], movesUl := [], ended := [], gating := false })

/-- What SLEEP keeps of a group: the mutes of broken page words and a source lost with its pin (R71, R376, R435). -/
def Tdd.kept (x : Tdd) : Tdd := { muteDl := x.muteDl, muteUl := x.muteUl, srcLost := x.srcLost }
def State.tddKept (s : State) : Table Tdd := (List.range 4).foldl (fun t n => Table.set {} t n (s.tddOf n).kept) []
/-- Pending writes of a group that can no longer become active end; their pages stay inactive (R375). -/
def State.loseWrites (s : State) (t : Nat) : State :=
  let x := s.tddOf t
  let cmds := ((x.pendDl.bind GateWrite.cmd).toList ++ (x.pendUl.bind GateWrite.cmd).toList).eraseDups
  cmds.foldl (fun s c => s.complete c stAbortedRecovery 7 0)
    (s.modTdd t (fun x => { x with pendDl := none, pendUl := none }))

/-- The group gives a loop's direction its timing, or would if it were enabled and no other does (R331). -/
def State.timesLoop (s : State) (t l : Nat) : Bool :=
  decide (s.loopGroup l = some t) || ((s.loopGroup l).isNone && decide (128 ≤ l) &&
    decide ((if isUplink (l - 128) then (s.tddSet t).maskUl else (s.tddSet t).maskDl) ≠ 0))
/-- A frame-aligned repetitive slot of a loop of the group loses its period (R332). -/
def State.loopPeriodErr (t : Nat) (s : State) (l : Nat) : State :=
  match (s.loopOf l).slot with
  | some n =>
    if (s.slotOf n).frameAlign ∧ s.timesLoop t l then s.modSlot n (fun r => { r with periodErr := true }) else s
  | none => s
/-- The slots of all the group's loops. -/
def State.periodErr (s : State) (t : Nat) : State := s.each (List.range 136) (State.loopPeriodErr t)
/-- A frame-aligned slot whose loop is timed by a frame of another period than the slot's has met a change of frame period
(R331, R332): its group's own, or that of the group that times it now. -/
def State.loopPeriodMoved (s : State) (l : Nat) : State :=
  match (s.loopOf l).slot with
  | some n =>
    match s.loopGroup l with
    | some t =>
      if (s.slotOf n).frameAlign ∧ (s.slotOf n).period * perControl ≠ framePeriod (s.tddSet t).period then
        s.modSlot n (fun r => { r with periodErr := true })
      else s
    | none => s
  | none => s
/-- The slots of all loops, after the groups or their members have changed. -/
def State.periodsMoved (s : State) : State := s.each (List.range 136) State.loopPeriodMoved

/-- A write becomes active: the direction's pages change places (R374). -/
def State.swapPage (s : State) (t : Nat) (up : Bool) : State :=
  (s.modTddSet t (fun k => if up then { k with pageUl := 1 - k.pageUl } else { k with pageDl := 1 - k.pageDl })).modTdd t
    (fun x => if up then { x with pendUl := none } else { x with pendDl := none })

/-- The drive of BEAM[5:0] goes to BEAM_DEFAULT where the group owns it (R378). -/
def State.beamDefault (s : State) (t : Nat) : State :=
  if s.set.tddOut.beamEn ∧ s.set.tddOut.beamGroup = t then { s with beam := s.set.tddOut.beamDefault } else s

/-- The pairs of a group's pulse generators leave their schedule or take it up again: the one that is to be asserted waits
for DEADTIME after the edge of the other (R414, R415). -/
def State.pairsTurn (s : State) (t : Nat) : State :=
  s.each (List.range 16) (fun s ch =>
    let k := s.pgSet ch
    if k.enable ∧ k.pair ∧ (k.src = 1 ∨ k.src = 2) ∧ k.group = t ∧ ((s.pgOf ch).level ∨ (s.pgOf (ch + 1)).level) then
      s.modPg ch (fun x => { x with quietTill := s.now + k.deadtime * perTick })
    else s)
/-- The group goes to ACQUIRING with its gates closed at once (R361); NET.SYNCLOSS where it was LOCKED or HOLDOVER. -/
def State.reacquire (s : State) (t : Nat) : State :=
  let was := (s.tddOf t).sync
  let s := ((s.modTdd t (fun x => { x with sync := 1, bad := 0, learning := none, heardAt := none })).closeGates t).loseWrites t
  let s := if was = 3 then s.periodErr t else s
  if was = 2 ∨ was = 3 then (s.pairsTurn t).raise 23 t 0 else s

/-- HOLDOVER_S has passed: EXPIRED, gates closed, NET.HOLDOVER (R361). -/
def State.expire (s : State) (t : Nat) : State :=
  (((((s.modTdd t (fun x => { x with sync := 4, learning := none, heardAt := none })).closeGates t).loseWrites t).periodErr t |>.beamDefault t).pairsTurn t).raise
    24 t 0 true

/-- The group leaves EXPIRED: the condition of NET.HOLDOVER ends. -/
def State.leaveExpired (s : State) (t : Nat) : State := if (s.tddOf t).sync = 4 then (s.ends 24 t).unmuteAt 24 t else s.unmuteAt 24 t

/-- The group is disabled: OFF, gates closed, pending writes lost (R361, R375, R393). -/
def State.groupOff (s : State) (t : Nat) : State :=
  let was := (s.tddOf t).sync
  let s := ((((s.leaveExpired t).modTdd t (fun x => { x with
    sync := 0, bad := 0, learning := none, pendSet := none })).closeGates t).loseWrites t)
  let s := if was = 2 ∨ was = 3 then s.pairsTurn t else s
  if was = 3 then s.periodErr t else s

end Sys2Proof.Machine
end

