-- ==== Sys2Proof/Machine/Gating.lean ====
section
/-!
DEFINITION. TDD_CONFIGURE, TDD_SET_GATES, TDD_OUT_CONFIG, and the events of frame timing and gates
(09_tdd_network_protection.md).
-/

namespace Sys2Proof.Machine

/-- A request with one parameter byte given. -/
def withByte (r : Request) (off v : Nat) : Request :=
  { r with params := (r.params ++ List.replicate (off + 1 - r.params.length) 0).set off (BitVec.ofNat 8 v) }
/-- A request with one bit of a parameter byte given. -/
def withBit (r : Request) (off k : Nat) (on : Bool) : Request :=
  let b := byteAt r.params off
  withByte r off (b - (if bit b k then 2 ^ k else 0) + if on then 2 ^ k else 0)

/-! TDD_CONFIGURE (R392 to R394). -/

/-- The settings of a TDD_CONFIGURE, over the pages' state of the group. -/
def tddOfRequest (r : Request) (old : TddSet) : TddSet :=
  { old with
    enable := flag r 0 0, learn := flag r 0 1, autoApply := flag r 0 2
    source := pu r 1 1, scs := pu r 2 1, period := pu r 3 1
    maskDl := BitVec.ofNat 16 (pu r 4 2), maskUl := BitVec.ofNat 16 (pu r 6 2)
    detSb := pu r 8 1, holdoverS := pu r 9 1, nId := pu r 10 2, ssbOffset := ps r 12 4
    leadDl := pu r 16 2, lagDl := pu r 18 2, leadUl := pu r 20 2, lagUl := pu r 22 2, ulAdvance := pu r 24 4
    baseDl := pu r 28 2, lenDl := pu r 30 2, baseUl := pu r 32 2, lenUl := pu r 34 2
    syncOffset := ps r 36 4, frameT0 := pu r 40 8 }

/-- A page's entries once its place or length changes: none, so that its gates stay closed [24]. -/
def freshPages (old new : TddSet) : TddSet :=
  let k := if old.baseDl = new.baseDl ∧ old.lenDl = new.lenDl then new else { new with cntDl0 := 0, cntDl1 := 0 }
  if old.baseUl = new.baseUl ∧ old.lenUl = new.lenUl then k else { k with cntUl0 := 0, cntUl1 := 0 }

/-- Two ranges of page entries overlap (R366). -/
def rangesMeet (a n b m : Nat) : Bool := decide (0 < n) && decide (0 < m) && decide (a < b + m) && decide (b < a + n)

/-- The pages of a group fit the tables beside those of the other groups (R366). -/
def State.pagesFit (s : State) (t : Nat) (k : TddSet) : Bool :=
  decide (k.baseDl + 2 * k.lenDl ≤ 4096) && decide (k.baseUl + 2 * k.lenUl ≤ 4096) &&
    (List.range 4).all (fun o => decide (o = t) ||
      (let q := s.tddSet o
       !rangesMeet k.baseDl (2 * k.lenDl) q.baseDl (2 * q.lenDl) &&
         !rangesMeet k.baseUl (2 * k.lenUl) q.baseUl (2 * q.lenUl)))
/-- No sub-band lies in two groups (R355). -/
def State.masksFree (s : State) (t : Nat) (k : TddSet) : Bool :=
  (List.range 4).all (fun o => decide (o = t) ||
    (decide (k.maskDl &&& (s.tddSet o).maskDl = 0) && decide (k.maskUl &&& (s.tddSet o).maskUl = 0)))
/-- The sync GPIO of an enabled group (R394). -/
def TddSet.pin (k : TddSet) : Option Nat := if k.enable ∧ 4 ≤ k.source then some k.detSb else none

/-- The page of a direction that will be active when a TDD_CONFIGURE takes effect (R372, R393). -/
def State.pageLater (s : State) (t : Nat) (k : TddSet) (up : Bool) : List (BitVec 64) :=
  if (s.tddSet t).enable ∧ k.enable then
    let x := s.tddOf t
    s.pageAtActivation t up (x.frame + ((x.gf + 1) * framePeriod k.period : Nat)).toNat
  else s.pageOf k up (activePage k up)

def checkTddConfigure (r : Request) (s : State) : Verdict :=
  let t := instOf r
  let old := s.tddSet t
  let k := freshPages old (tddOfRequest r old)
  let src := k.source
  let det := decide (1 ≤ src) && decide (src ≤ 3)
  checks ([
    (decide (4 ≤ t), badInst),
    (decide (8 ≤ pu r 0 1), bad 0), (decide (5 < src), bad 1),
    (decide (2 < k.scs) || (decide (k.scs ≠ 0) && (decide (src = 1) || decide (src = 3))), bad 2),
    (decide (5 < k.period), bad 3),
    (if det then decide (63 < k.detSb) else if src = 0 then decide (k.detSb ≠ 0) else decide (15 < k.detSb), bad 8),
    (decide (k.nId ≠ 0xFFFF) && decide ((if src = 3 then 503 else 1007) < k.nId), bad 10),
    (det && decide ((s.cfg k.detSb).bw < 2 * k.ssbOffset.natAbs), bad 12),
    (decide (4095 < k.leadDl), bad 16), (decide (4095 < k.lagDl), bad 18), (decide (4095 < k.leadUl), bad 20),
    (decide (4095 < k.lagUl), bad 22), (decide (131071 < k.ulAdvance), bad 24),
    (decide (4095 < k.baseDl), bad 28), (decide (2048 < k.lenDl), bad 30), (decide (4095 < k.baseUl), bad 32),
    (decide (2048 < k.lenUl), bad 34), (outside (-1228799) 1228799 k.syncOffset, bad 36),
    (decide (src ≠ 0) && decide (k.frameT0 ≠ 0), bad 40),
    (!s.masksFree t k || !s.pagesFit t k, combo),
    (clashes k (s.pageLater t k false) (s.pageLater t k true), combo)] ++
    (if det then needPll s else []) ++ [
    (old.enable && decide ({ TddSet.take old k with enable := k.enable } ≠ k), wrong 4),
    (match k.pin with
     | some g => decide (old.pin ≠ some g) && s.gpioBusy g 0x50
     | none => false, busy 1 k.detSb)])

/-- A radio frame that starts at a window sample with an SFN becomes the group's timing (R357, R359). -/
def State.setFrame (s : State) (t : Nat) (start : Int) (sfn : Nat) : State :=
  let n := ((s.window : Int) - start) / 19660800
  let frame := start + n * 19660800
  s.modTdd t (fun x => { x with
    frame := frame, sfn := (((sfn : Int) + n) % 1024).toNat
    gf := (((s.window : Int) - frame) / framePeriod (s.tddSet t).period).toNat })

/-- The group is LOCKED: its gates follow the schedule from the next gating frame start (R361). -/
def State.lock (s : State) (t : Nat) : State :=
  ((if (s.tddOf t).sync = 2 ∨ (s.tddOf t).sync = 3 then s else s.pairsTurn t).leaveExpired t).modTdd t (fun x => { x with
    sync := 2, gating := false, bad := 0, freq := 0, srcLost := false, learning := none, learnDone := false
    heardAt := some s.now })

/-- New settings of a group that is or has been off: it gives its timing pin back where it still holds it, claims the new one,
and a changed frame period is a PERIOD_ERR for the loops that it times (R332, R392, R394, R436). -/
def State.takeTdd (s : State) (t : Nat) (k : TddSet) : State :=
  let old := s.tddSet t
  let s := match old.pin with
    | some g => if (s.tddOf t).srcLost ∨ s.gpio g ≠ 0x50 then s else s.setGpio g 0
    | none => s
  let s := match k.pin with
    | some g => s.claimGpio g 0x50
    | none => s
  let s := if old.period = k.period then s else s.periodErr t
  (s.modTddSet t (fun _ => k)).periodsMoved

def applyTddConfigure (ref : CmdRef) (r : Request) (s : State) : State :=
  let t := instOf r
  let old := s.tddSet t
  let k := freshPages old (tddOfRequest r old)
  let s :=
    if old.enable ∧ k.enable then s.modTdd t (fun x => { x with pendSet := some k })
    else
      let s := s.takeTdd t k
      if !k.enable then s.groupOff t
      else if k.source = 0 then (s.lock t).setFrame t (k.frameT0 * perTick : Nat) 0
      else s.modTdd t (fun x => { x with sync := 1, bad := 0, corr := 0, srcLost := false, heardAt := none, beat := none })
  s.complete ref stOk 0 0

def cmdTddConfigure : CmdDef := ⟨0x0501, 48, false, checkTddConfigure, applyTddConfigure⟩
/-- R392. -/
def execTddConfigure (dt : Nat) (r : Request) (s : State) : Host.Outcome State Fault Refusal :=
  .next ((s.advance dt).issue cmdTddConfigure r)

/-! TDD_SET_GATES (R374, R375, R395, R396). -/

/-- The entries in a buffer. -/
def entriesOf (bs : List Byte) (n : Nat) : List (BitVec 64) :=
  (List.range n).map (fun j => BitVec.ofNat 64 (leAt bs (8 * j) 8))
def entryBytes (es : List (BitVec 64)) : List Byte := es.flatMap (fun e => leBytes 8 e.toNat)

/-- The moment a write of a group becomes active (R374); none for on execution. -/
def State.activation (s : State) (t : Nat) (imm : Bool) (gf sfn : Nat) : Option Time :=
  let x := s.tddOf t
  let k := s.tddSet t
  if x.sync = 2 ∨ x.sync = 3 then
    let p := framePeriod k.period
    let least : Int := s.window + 196608
    if imm then
      let m := (least - x.frame + (p - 1 : Nat)) / p
      some (x.frame + m * p).toNat
    else
      let first := x.frame + ((sfn + 1024 - x.sfn) % 1024 * 19660800 + gf * p : Nat)
      some (if first < least then first + 1024 * 19660800 else first).toNat
  else none

def checkTddSetGates (r : Request) (s : State) : Verdict :=
  let t := instOf r
  let k := s.tddSet t
  let x := s.tddOf t
  let up := flag r 0 0
  let imm := flag r 0 1
  let commit := flag r 0 2
  let back := flag r 0 3
  let write := !commit && !back
  let len := if up then k.lenUl else k.lenDl
  let n := pu r 16 2
  let buf := (bufOf r).take (pu r 20 4)
  let es := entriesOf buf n
  let act := s.activation t imm (pu r 1 1) (pu r 2 2)
  let due := act.getD s.window
  let ks := if act.isSome then [s.tddNext t] else [k, s.tddNext t]
  let other := s.pageAtActivation t (!up) due
  let off := decide (x.sync ≠ 2) && decide (x.sync ≠ 3)
  checks [
    (decide (4 ≤ t), badInst),
    (decide (32 ≤ pu r 0 1) || (commit && back), bad 0),
    (if imm then decide (pu r 1 1 ≠ 0) else decide (framesPer k ≤ pu r 1 1), bad 1),
    (if imm then decide (pu r 2 2 ≠ 0) else decide (1023 < pu r 2 2), bad 2),
    (!write && decide (pu r 4 4 ≠ 0), bad 4),
    (decide (pu r 8 8 % 8 ≠ 0) || ((commit || !byPcie r) && decide (pu r 8 8 ≠ 0)), bad 8),
    (if write then decide (len < n) else decide (n ≠ 0), bad 16),
    (decide (pu r 18 2 ≠ 0), bad 18),
    (if write then decide (pu r 20 4 ≠ n * 8) else if back then decide (pu r 20 4 < len * 8)
     else decide (pu r 20 4 ≠ 0), bad 20),
    (write && off && !imm, wrong 8), (commit && !x.learned, wrong 6),
    (commit && ks.any (fun n => clashes n (s.pageOf k false (1 - k.pageDl)) (s.pageOf k true (1 - k.pageUl))), combo),
    (write && r.buf.isNone && decide (n ≠ 0), unread),
    (write && decide (crc32c buf ≠ pu r 4 4), .fail stIntegrity 1),
    (write && !(pageLegal k up es && ks.all (fun n => !(if up then clashes n other es else clashes n es other))), badContent),
    ((write && (if up then x.pendUl else x.pendDl).isSome) ||
      (commit && (x.pendDl.isSome || x.pendUl.isSome)), busy 7 t)]

/-- A direction's page swap on execution, or pending; an uncorrectable word's mute ends with the replacement
(R376). -/
def State.activate (s : State) (t : Nat) (up : Bool) : State :=
  ((s.swapPage t up).unmuteAt 45 (t * 2 + if up then 1 else 0)).modTdd t (fun x =>
    if up then { x with muteUl := false, learned := false } else { x with muteDl := false, learned := false })
/-- A write takes its direction's page into force; the swap of AUTO_APPLY is no TDD_SET_GATES and ends no mute (R364, R376). -/
def State.activateWrite (s : State) (t : Nat) (up : Bool) (w : Option GateWrite) : State :=
  if (w.bind GateWrite.cmd).isSome then s.activate t up else s.swapPage t up

def applyTddSetGates (ref : CmdRef) (r : Request) (s : State) : State :=
  let t := instOf r
  let k := s.tddSet t
  let up := flag r 0 0
  let commit := flag r 0 2
  if flag r 0 3 then
    let act := activePage k up
    let page := if flag r 0 4 then 1 - act else act
    let es := s.pageOf k up page
    let bs := entryBytes es
    (s.giveData ref (pu r 8 8) bs).complete ref stOk 0 (crc32c bs + 4294967296 * es.length)
  else
    let due := s.activation t (flag r 0 1) (pu r 1 1) (pu r 2 2)
    let s := if commit then s
      else (s.writePage t up (1 - activePage k up) (entriesOf (bufOf r) (pu r 16 2))).modTdd t (fun x => { x with
        learned := false, learnedPages := x.learnedPages.filter (fun p => p != (up, 1 - activePage k up)) })
    match due with
    | none =>
      let s := if commit then (s.activate t false).activate t true else s.activate t up
      s.complete ref stOk 0 (s.tick % 2 ^ 64)
    | some d =>
      let w : GateWrite := { cmd := some ref, dl := commit || !up, ul := commit || up, due := d }
      s.modTdd t (fun x => { x with
        pendDl := if w.dl then some w else x.pendDl, pendUl := if w.ul then some w else x.pendUl })

def cmdTddSetGates : CmdDef := ⟨0x0502, 24, false, checkTddSetGates, applyTddSetGates⟩
/-- R395: a write. -/
def execTddSetGatesWrite (dt : Nat) (r : Request) (s : State) : Host.Outcome State Fault Refusal :=
  .next ((s.advance dt).issue cmdTddSetGates (withBit (withBit r 0 2 false) 0 3 false))
/-- R396: COMMIT_LEARNED. -/
def execTddCommitLearned (dt : Nat) (r : Request) (s : State) : Host.Outcome State Fault Refusal :=
  .next ((s.advance dt).issue cmdTddSetGates (withBit (withBit r 0 2 true) 0 3 false))
/-- R396: READBACK. -/
def execTddReadback (dt : Nat) (r : Request) (s : State) : Host.Outcome State Fault Refusal :=
  .next ((s.advance dt).issue cmdTddSetGates (withBit (withBit r 0 2 false) 0 3 true))

/-! Frame timing (R358 to R362). -/

/-- An error in ticks as TIME_ERR in ns (R398); a tie, which the rule leaves open, is a free choice [7]. -/
def errNs (err : Int) : Int := roundQ (err * 15625) 1920 (Config.roundsUp err 2)

/-- Sources 4 and 5 are acquired at the second edge: one has been heard since the group began to acquire (R358). -/
def State.acquirable (s : State) (grp : Nat) : Bool := decide ((s.tddSet grp).source < 4) || (s.tddOf grp).heardAt.isSome
/-- The time without a detected burst or edge after which a source may be lost (R358): 5 SSB bursts of the period found, or of
160 ms while none is, 10 PSS/SSS pairs of 5 ms, or 2 edges. How the period is found, and that of the pairs, is the
model's [94]. -/
def lossTime (source : Nat) (beat : Option Time) : Time :=
  if source < 3 then 5 * beat.getD (160 * perMs) else if source = 3 then 50 * perMs else if source = 4 then 20 * perMs else 2 * perSecond
/-- The SSB period, 5 to 160 ms (R358), that fits the time between two detected bursts. -/
def ssbPeriod (dt : Time) : Time :=
  (([5, 10, 20, 40, 80].filter (fun p => decide (2 * dt < 3 * p * perMs))).map (fun p => p * perMs)).headD (160 * perMs)
/-- A burst or edge is detected (R358). -/
def Tdd.heard (x : Tdd) (now : Time) : Tdd :=
  let seen := x.heardAt.map (fun t => ssbPeriod (now - t))
  { x with
    heardAt := some now
    beat := match x.beat, seen with
      | some a, some b => some (min a b)
      | none, b => b
      | a, none => a }
/-- An edge of sources 4 and 5 lies more than 1 µs, 122.88 ticks, away from its prediction: it counts as missing (R358). -/
def edgeMissing (source : Nat) (err : Int) : Bool := decide (4 ≤ source) && decide (122 < err.natAbs)
/-- R358, R361: the source is acquired, or regained in HOLDOVER. -/
def execSyncAcquired (dt grp frameTick sfn : Nat) (err : Int) (s : State) : Host.Outcome State Fault Refusal :=
  let s := s.advance dt
  let x := s.tddOf grp
  let k := s.tddSet grp
  .next (
    if 4 ≤ grp ∨ !k.enable ∨ k.source = 0 ∨ x.srcLost then s
    else if x.sync = 1 ∨ x.sync = 4 then
      if !s.acquirable grp then s else
      let start := ((frameTick : Int) + k.syncOffset) * perTick
      let beat := (x.heard s.now).beat
      ((s.lock grp).modTdd grp (fun x => { x with timeErr := errNs err, corr := 0, beat := beat })).setFrame grp start
        (if 4 ≤ k.source then 0 else sfn)
    else if x.sync = 3 then
      let s := s.modTdd grp (fun x => { x with timeErr := errNs err })
      if err.natAbs ≤ 24 then
        (s.periodErr grp).modTdd grp (fun x => { x.heard s.now with sync := 2, bad := 0 })
      else s.reacquire grp
    else s)

/-- R358, R361, R362: a detected burst or edge. A group that acquires notes it; in LOCKED and HOLDOVER it is a measurement of
the timing error, with a correction of at most one tick and a new estimate of the frequency offset, a free value
[94]. -/
def execSyncMeasurement (dt grp : Nat) (err : Int) (s : State) : Host.Outcome State Fault Refusal :=
  let s := s.advance dt
  let x := s.tddOf grp
  let k := s.tddSet grp
  .next (
    if 4 ≤ grp ∨ !k.enable ∨ k.source = 0 ∨ x.srcLost then s
    else if !(x.sync = 2 ∨ x.sync = 3) then s.modTdd grp (fun x => x.heard s.now)
    else if edgeMissing k.source err then s
    else
      let s := s.modTdd grp (fun x => { x.heard s.now with timeErr := errNs err })
      if 24 < err.natAbs then
        if x.bad + 1 = 3 then s.reacquire grp else s.modTdd grp (fun x => { x with bad := x.bad + 1 })
      else if x.sync = 3 then
        (s.periodErr grp).modTdd grp (fun x => { x with sync := 2, bad := 0 })
      else
        let step : Int := if 0 < err then 1 else if err < 0 then -1 else 0
        s.drawn.modTdd grp (fun x => { x with
          bad := 0, frame := x.frame + step * perTick, corr := x.corr + step, freq := signedOf 32 s.draw }))

/-- R358, R361, R362: the source is lost; a HOLDOVER_S of 0 passes straight to EXPIRED. -/
def execSyncLoss (dt grp : Nat) (s : State) : Host.Outcome State Fault Refusal :=
  let s := s.advance dt
  let silent : Bool := match (s.tddOf grp).heardAt with
    | some t => decide (t + lossTime (s.tddSet grp).source (s.tddOf grp).beat ≤ s.now)
    | none => true
  .next (
    if grp < 4 ∧ (s.tddOf grp).sync = 2 ∧ (s.tddSet grp).source ≠ 0 ∧ silent then
      let h := (s.tddSet grp).holdoverS
      let s := (s.modTdd grp (fun x => { x with
        sync := 3, bad := 0, drift := 0, holdEnd := s.now + h * perSecond, learning := none })).raise 23 grp 0
      if h = 0 then s.expire grp else s
    else s)

/-- R361: HOLDOVER_S has passed. -/
def execHoldoverExpiry (dt grp : Nat) (s : State) : Host.Outcome State Fault Refusal :=
  let s := s.advance dt
  .next (if grp < 4 ∧ (s.tddOf grp).sync = 3 ∧ (s.tddOf grp).holdEnd ≤ s.now then s.expire grp else s)

/-- The learned pages become the pending swap of both directions at the next gating frame start (R364). -/
def State.autoApply (s : State) (t : Nat) : State :=
  let w : GateWrite := { cmd := none, dl := true, ul := true, due := s.window }
  s.modTdd t (fun x => { x with pendDl := some w, pendUl := some w, learned := false })

/-- The timing of a group in HOLDOVER moves with the estimated offset over a time (R362). -/
def Tdd.extrapolate (x : Tdd) (p : Nat) : Tdd :=
  if x.sync = 3 then
    let v := x.drift + x.freq * p
    { x with frame := x.frame + v / 4294967296, drift := v % 4294967296 }
  else x
/-- The summed stage-6 power of the group's downlink sub-bands on chain 0 in a symbol of the frame that has ended (R363). -/
def State.symbolPower (s : State) (t i : Nat) : Rat :=
  (((sbsOf 0).filter (fun g => s.enabled g && bit (s.tddSet t).maskDl.toNat (localOf g))).map (fun g =>
    let p := Table.get (0, 0) (s.sigOf g).symbols i
    (meanPower p.1 p.2 (s.rxNetAt g s.window * 32752)).getD 0)).sum
/-- The symbols that lie 10 dB or more above the lowest of the frame. -/
def State.highSymbols (s : State) (t : Nat) : List Bool :=
  let ps := (List.range (nSym (s.tddSet t))).map (s.symbolPower t)
  let low := ps.min?.getD 0
  ps.map (fun p => decide (0 < p) && decide (10 * low ≤ p))
/-- A gating frame of a learning group has ended: it is counted, and the next one is gathered afresh. The frame in which
learning starts is none of the 200 (R363). -/
def State.learnFrame (s : State) (t : Nat) : State :=
  let s := match (s.tddOf t).learning with
    | none => s.modTdd t (fun x => { x with learning := some 0, counts := List.replicate (nSym (s.tddSet t)) 0 })
    | some n => if n < 200 then
        let high := s.highSymbols t
        s.modTdd t (fun x => { x with learning := some (n + 1), counts := List.zipWith (fun n b => n + ofBool b) x.counts high })
      else s
  s.each ((sbsOf 0).filter (fun g => s.groupFor g = some t)) (fun s g => s.modSig g (fun x => { x with symbols := [] }))
/-- Streams that wait for a gating frame of the group start with it (R497, R499). -/
def State.startStreams (s : State) (t : Nat) (at_ : Int) : State :=
  s.each (List.range 17) (fun s n =>
    if (s.stream n).run ∧ (s.stream n).started.isNone ∧ (s.capSet n).trig = 5 ∧ (s.capSet n).trigArg = t then
      s.modStream n (fun x => { x with started := some at_.toNat }) else s)
/-- The gating frame that ends is kept for the last of its runs, where the gates followed it (R361, R369). -/
def State.noteFrame (s : State) (t : Nat) : State :=
  let k := s.tddSet t
  let e : GateFrame := { set := k, dl := s.pageOf k false k.pageDl, ul := s.pageOf k true k.pageUl }
  s.modTdd t (fun x => { x with ended := if x.gating then (e :: x.ended).take 2 else [] })
/-- The numbers of the next gating frame: after the last of a radio frame, the radio frame's start and SFN advance; in
HOLDOVER they drift (R361, R362). -/
def State.nextFrame (s : State) (grp : Nat) : State :=
  let k := s.tddSet grp
  let wraps := decide (framesPer k ≤ (s.tddOf grp).gf + 1)
  let s := s.modTdd grp (fun x => { x with
    gf := if wraps then 0 else x.gf + 1
    frame := if wraps then x.frame + 19660800 else x.frame
    sfn := if wraps then (x.sfn + 1) % 1024 else x.sfn
    gating := true })
  s.modTdd grp (fun x => x.extrapolate (framePeriod k.period))
/-- A configuration that waits comes into force with the frame (R393). -/
def State.takeConfig (s : State) (grp : Nat) : State :=
  match (s.tddOf grp).pendSet with
  | some n =>
    let learns := n.learn && !(s.tddSet grp).learn
    (s.modTddSet grp (fun k => k.take n)).modTdd grp (fun x => { x with
      pendSet := none, learnDone := if learns then false else x.learnDone, learning := if n.learn then x.learning else none })
  | none => s
/-- The gate pages that wait for the frame become active, and their commands complete with its time (R374). -/
def State.takeWrites (s : State) (grp : Nat) (dl ul : Option GateWrite) (at_ : Int) (p : Nat) : State :=
  let cmds := ((if writeDue dl at_ p then (dl.bind GateWrite.cmd).toList else []) ++
    (if writeDue ul at_ p then (ul.bind GateWrite.cmd).toList else [])).eraseDups
  let s := if writeDue dl at_ p then s.activateWrite grp false dl else s
  let s := if writeDue ul at_ p then s.activateWrite grp true ul else s
  s.each (List.range cmds.length) (fun s i => s.completeOpt cmds[i]? stOk 0 ((at_ / perTick).toNat % 2 ^ 64))
/-- A LOCKED group that learns counts the frame's symbols (R363). -/
def State.learnNow (s : State) (grp : Nat) : State :=
  let y := s.tddOf grp
  if (s.tddSet grp).learn ∧ y.sync = 2 ∧ !y.learnDone ∧ !y.learned then s.learnFrame grp else s
/-- FSYNC is driven from the start of a radio frame, a window sample (R379). -/
def State.driveFsync (s : State) (grp : Nat) (wraps : Bool) (at_ : Int) : State :=
  if (wraps && s.set.tddOut.fsyncEn && decide (s.set.tddOut.fsyncGroup = grp)) = true then
    { s with fsync := s.now + s.set.tddOut.fsyncWidth * perTick - ((s.window : Int) - at_).toNat }
  else s
/-- R362, R374, R379, R393, R363: a gating frame of a LOCKED or HOLDOVER group starts. -/
def execGatingFrameStart (dt grp : Nat) (s : State) : Host.Outcome State Fault Refusal :=
  let s := s.advance dt
  let x := s.tddOf grp
  let k := s.tddSet grp
  let p := framePeriod k.period
  let at_ := x.frame + ((x.gf + 1) * p : Nat)
  .next (
    if 4 ≤ grp ∨ !(x.sync = 2 ∨ x.sync = 3) ∨ (s.window : Int) < at_ then s
    else
      (((((((s.noteFrame grp).nextFrame grp).takeConfig grp).takeWrites grp x.pendDl x.pendUl at_ p).learnNow grp).startStreams grp at_)).driveFsync
        grp (decide (framesPer k ≤ x.gf + 1)) at_)

/-- The beam index of a run of a direction that begins in the present tick, BEAM_DELAY later (R377). -/
def State.beamBegins (s : State) (t : Nat) (up : Bool) : Option Nat :=
  ((s.framesNow t).flatMap (fun f =>
    let k := s.frameOf t up f.1
    let shift : Int := s.set.tddOut.beamDelay - (if up then (k.1.ulAdvance : Int) else 0)
    (k.2.filter (fun e =>
      let late := (s.window : Int) - f.2 / 1000 - ((symStart k.1.scs (entStart e) : Int) + shift) * perTick
      entBeamValid e && decide (0 ≤ late) && decide (late < perTick))).map (fun e => bitsAt e.toNat 37 32))).head?
/-- The gates of a direction move at a window sample; moves older than 65,536 samples, 33 µs, no output waits for (R371). -/
def Tdd.moveGates (x : Tdd) (up : Bool) (new : BitVec 16) (m : Nat) : Tdd :=
  let kept := fun (l : List (Nat × BitVec 16)) => l.filter (fun e => decide (m < e.1 + 65536))
  if up then { x with openUl := new, movesUl := (m, x.openUl) :: kept x.movesUl }
  else { x with openDl := new, movesDl := (m, x.openDl) :: kept x.movesDl }
/-- The ramps of some sub-bands of a direction end at a time (R370). -/
def Tdd.ramp (x : Tdd) (up : Bool) (which : BitVec 16) (till : Time) : Tdd :=
  let keys := ((List.range 16).filter (fun k => bit which.toNat k)).map (fun k => if up then k + 16 else k)
  { x with ramps := keys.foldl (fun t k => Table.modify 0 t k (max till)) x.ramps }
/-- R369, R370, R373: the gates of a direction open or close through their ramps as the active page schedules them now;
the interlock keeps the later gate closed. -/
def State.gatesMove (s : State) (grp : Nat) (uplink : Bool) : State :=
  let x := s.tddOf grp
  let k := s.tddSet grp
  let want := s.scheduledNow grp uplink &&& (if uplink then k.maskUl else k.maskDl)
  let was := if uplink then x.openUl else x.openDl
  let rising := want &&& ~~~was
  let otherOpen := decide ((if uplink then x.openDl else x.openUl) ≠ 0) ||
    (List.range 16).any (fun k => decide (s.now < Table.get 0 x.ramps (if uplink then k else k + 16)))
  let clash := decide (rising ≠ 0) && otherOpen
  let new := if clash then want &&& was else want
  let s := if new = was then s
    else s.modTdd grp (fun x => (x.moveGates uplink new s.window).ramp uplink (new ^^^ was) (s.now + 394))
  if clash then (s.modTdd grp (fun x => { x with clash := satUp 0xFF x.clash })).raise 27 grp 0 else s
/-- R377: a run that begins drives its beam index, the downlink's before the uplink's in one tick. -/
def State.beamMoves (s : State) (grp : Nat) (uplink : Bool) : State :=
  match s.beamBegins grp uplink with
  | some b =>
    if s.set.tddOut.beamEn ∧ s.set.tddOut.beamGroup = grp ∧ !(uplink ∧ s.beamTick = some s.tick) then
      { s with beam := b, beamTick := if uplink then s.beamTick else some s.tick }
    else s
  | none => s
/-- R369, R370, R373, R377: a group that gates and is synchronised moves its gates and its beam. -/
def execGateEdge (dt grp : Nat) (uplink : Bool) (_opened _beam : Measured) (s : State) : Host.Outcome State Fault Refusal :=
  let s := s.advance dt
  let x := s.tddOf grp
  .next (if grp < 4 ∧ (s.tddSet grp).enable ∧ x.gating ∧ (x.sync = 2 ∨ x.sync = 3) then
      (s.gatesMove grp uplink).beamMoves grp uplink
    else s)

/-! Pattern learning (R363 to R365). -/

/-- The runs of chosen symbols, as (start, length) pairs. -/
def runsOf : List Bool → Nat → List (Nat × Nat)
  | [], _ => []
  | b :: rest, n =>
    let tail := runsOf rest (n + 1)
    if b then
      match tail with
      | (m, len) :: more => if m = n + 1 then (n, len + 1) :: more else (n, 1) :: tail
      | [] => [(n, 1)]
    else tail

/-- The quiet symbols that open the uplink: all but the first two after each run of downlink symbols (R364). The
pattern repeats, so a run at the end of the frame is followed by its first symbols. -/
def uplinkSymbols : List SymbolClass → Nat → List Bool
  | [], _ => []
  | .downlink :: rest, _ => false :: uplinkSymbols rest 2
  | .mixed :: rest, n => false :: uplinkSymbols rest n
  | .quiet :: rest, n => decide (n = 0) :: uplinkSymbols rest (n - 1)
/-- Guard symbols still owed at the end of a frame. -/
def guardLeft : List SymbolClass → Nat → Nat
  | [], n => n
  | .downlink :: rest, _ => guardLeft rest 2
  | .mixed :: rest, n => guardLeft rest n
  | .quiet :: rest, n => guardLeft rest (n - 1)

/-- One entry of a learned page. -/
def learnedEntry (mask : BitVec 16) (r : Nat × Nat) : BitVec 64 :=
  BitVec.ofNat 64 (packFields [(12, r.1), (12, r.2), (8, 0), (16, mask.toNat), (16, 0)])

/-- The class of a symbol that lay 10 dB or more above the lowest in `n` of the 200 frames (R363). -/
def symbolClass (n : Nat) : SymbolClass := if 190 ≤ n then .downlink else if n ≤ 10 then .quiet else .mixed
/-- R25, R363 to R365: learning over 200 gating frames ends. -/
def execTddLearn (dt grp : Nat) (_counts : Measured) (s : State) : Host.Outcome State Fault Refusal :=
  let s := s.advance dt
  let x := s.tddOf grp
  let k := s.tddSet grp
  let ready := grp < 4 ∧ x.sync = 2 ∧ x.learning = some 200 ∧ x.pendDl.isNone ∧ x.pendUl.isNone ∧ s.firmwareRuns
  let frame := x.counts.map symbolClass
  .next (
    if ready then
      let s := s.modTdd grp (fun x => { x with
        learning := none, learnDone := true, mixed := min 255 (frame.filter (· == SymbolClass.mixed)).length })
      let event := fun (s : State) (res : Nat) => s.post 0x0030 [BitVec.ofNat 8 grp, BitVec.ofNat 8 res]
      if !frame.contains .downlink then event s 1
      else if !frame.contains .quiet then event s 2
      else
        let dl := (runsOf (frame.map (· == SymbolClass.downlink)) 0).map (learnedEntry k.maskDl)
        let ul := (runsOf (uplinkSymbols frame (guardLeft frame 0)) 0).map (learnedEntry k.maskUl)
        let s := (s.writePage grp false (1 - k.pageDl) (dl.take k.lenDl)).writePage grp true (1 - k.pageUl)
          (ul.take k.lenUl)
        let s := event (s.modTdd grp (fun x => { x with
          learned := true
          learnedPages := ([(false, 1 - k.pageDl), (true, 1 - k.pageUl)] ++ x.learnedPages).dedup })) 0
        if k.autoApply then s.autoApply grp else s
    else s)

/-! TDD_OUT_CONFIG (R377 to R379, R400). -/

/-- The value of TDD_OUT_CONFIG. -/
def tddOutValue (s : State) : Nat :=
  let o := s.set.tddOut
  packFields [(1, ofBool o.beamEn), (2, o.beamGroup), (1, ofBool o.fsyncEn), (2, o.fsyncGroup), (6, o.beamDefault),
    (4, 0), (16, bitsOf 16 o.beamDelay), (16, o.fsyncWidth), (16, 0)]
/-- The checks of a write of TDD_OUT_CONFIG. -/
def checkTddOut (v : Nat) (s : State) : Verdict :=
  let has := fun f => (List.range 16).any (fun g => decide (s.gpio g = f))
  checks [
    (decide (bitsAt v 31 16 = 0), badField 16),
    (outside (-4096) 4095 (signedAt v 47 32), badField 32),
    (bit v 63 && !(List.range 6).all (fun n => has (0x40 + n)), wrong 8)]
/-- The write's effect. -/
def writeTddOut (v : Nat) (s : State) : State :=
  let o : TddOut := {
    beamEn := bit v 63, beamGroup := bitsAt v 62 61, fsyncEn := bit v 60, fsyncGroup := bitsAt v 59 58
    beamDefault := bitsAt v 57 52, beamDelay := signedAt v 47 32, fsyncWidth := bitsAt v 31 16 }
  let s := { s with set := { s.set with tddOut := o } }
  if o.beamEn then { s with beam := o.beamDefault } else s

end Sys2Proof.Machine
end

