-- ==== Sys2Proof/Machine/Protect.lean ====
section
/-!
DEFINITION. Network protection (R380 to R391): NP_SET_LIMITS, the 100 ms evaluations, the donor-loss mute, MUTE_N.
-/

namespace Sys2Proof.Machine

/-! NP_SET_LIMITS (R397). -/

/-- Every parameter byte from an offset on is 0. -/
def zeroFrom (r : Request) (off len : Nat) : Bool := (List.range (len - off)).all (fun n => decide (byteAt r.params (off + n) = 0))
/-- A reserved field is not 0 (R538). -/
def reserved (r : Request) (off len : Nat) : Bool × Verdict :=
  ((List.range len).any (fun n => decide (byteAt r.params (off + n) ≠ 0)), bad off)

/-- The band settings of KIND 1. -/
def npBandOf (r : Request) : NpBand :=
  { ulnEn := flag r 1 1, donorEn := flag r 1 2, bsRef := ps r 2 2, dlRxGain := ps r 4 2, ulSysOffset := ps r 6 2
    ulNm := pu r 8 2, nf := pu r 10 2, dlDet := ps r 12 2, donorLossMs := pu r 14 2 }

def checkNpSetLimits (r : Request) (_ : State) : Verdict :=
  let kind := pu r 0 1
  let n := instOf r
  if kind = 0 then
    checks [(decide (128 ≤ n), badInst), (decide (2 ≤ pu r 1 1), bad 1),
      (decide (15 < pu r 2 1) && decide (pu r 2 1 ≠ 255), bad 2), reserved r 3 1,
      (outside (-9000) 0 (ps r 4 2), bad 4), reserved r 6 10]
  else if kind = 1 then
    checks [(decide (16 ≤ n), badInst), (decide (pu r 1 1 % 2 = 1) || decide (8 ≤ pu r 1 1), bad 1),
      (outside (-5000) 8000 (ps r 2 2), bad 2), (outside (-3000) 6000 (ps r 4 2), bad 4),
      (outside (-6000) 12000 (ps r 6 2), bad 6), (decide (3000 < pu r 8 2), bad 8), (decide (3000 < pu r 10 2), bad 10),
      (outside (-12000) (-2000) (ps r 12 2), bad 12), (outside 100 60000 (pu r 14 2), bad 14)]
  else if kind = 2 then
    checks [(decide (8 ≤ n), badInst), (decide (pu r 1 1 ≠ 0) && decide (pu r 1 1 ≠ 8), bad 1),
      (outside (-9000) 0 (ps r 2 2), bad 2), (outside 20 70 (pu r 4 1), bad 4), (decide (12 < pu r 5 1), bad 5),
      reserved r 6 10]
  else checks [(decide (128 ≤ n), badInst), (true, bad 0)]

def applyNpSetLimits (ref : CmdRef) (r : Request) (s : State) : State :=
  let kind := pu r 0 1
  let n := instOf r
  let s :=
    if kind = 0 then
      s.each (covered (flag r 1 0) n) (fun s g =>
        { s with
          set := { s.set with npSb := Table.modify {} s.set.npSb g (fun x => { x with outMax := ps r 4 2 }) }
          npWaitSb := Table.set none s.npWaitSb g (some (pu r 2 1)) })
    else if kind = 1 then { s with npWaitBand := Table.set none s.npWaitBand n (some (npBandOf r)) }
    else
      let k : NpChain := { regrowthEn := flag r 1 3, lNp := ps r 2 2, aclrLim := pu r 4 1, regrowthMax := pu r 5 1 }
      { s with
        set := { s.set with npChain := Table.modify {} s.set.npChain n (fun x => { x with lNp := k.lNp }) }
        npWaitChain := Table.set none s.npWaitChain n (some k) }
  s.complete ref stOk 0 0

def cmdNpSetLimits : CmdDef := ⟨0x0510, 16, false, checkNpSetLimits, applyNpSetLimits⟩
/-- R397, KIND 0. -/
def execNpSetLimitsSubband (dt : Nat) (r : Request) (s : State) : Host.Outcome State Fault Refusal :=
  .next ((s.advance dt).issue cmdNpSetLimits (withByte r 0 0))
/-- R397, KIND 1. -/
def execNpSetLimitsBand (dt : Nat) (r : Request) (s : State) : Host.Outcome State Fault Refusal :=
  .next ((s.advance dt).issue cmdNpSetLimits (withByte r 0 1))
/-- R397, KIND 2. -/
def execNpSetLimitsChain (dt : Nat) (r : Request) (s : State) : Host.Outcome State Fault Refusal :=
  .next ((s.advance dt).issue cmdNpSetLimits (withByte r 0 2))

/-! Evaluations (R382 to R388). -/

/-- A band's donor-loss mute releases (R385, R386). -/
def State.donorReleased (s : State) (b : Nat) : State :=
  (s.modBand b (fun x => { x with muted := false, undetectedFrom := none, aboveFrom := none })).judgeDonor b

/-- A sub-band's band that awaits an evaluation takes effect (R397). -/
def State.takeNpSb (s : State) (g : Nat) : State :=
  match Table.get none s.npWaitSb g with
  | some b => { s with set := { s.set with npSb := Table.modify {} s.set.npSb g (fun x => { x with band := b }) } }
  | none => s
/-- A band's settings that await an evaluation take effect. A band whose DONOR_EN becomes 0 is muted no longer. -/
def State.takeNpBand (s : State) (b : Nat) : State :=
  match Table.get none s.npWaitBand b with
  | some k =>
    let s := { s with set := { s.set with npBand := Table.set {} s.set.npBand b k } }
    if (s.bandOf b).muted && !k.donorEn then s.donorReleased b else s
  | none => s
/-- A chain's settings that await an evaluation take effect. -/
def State.takeNpChain (s : State) (c : Nat) : State :=
  match Table.get none s.npWaitChain c with
  | some k => { s with set := { s.set with npChain := Table.modify {} s.set.npChain c (fun x =>
      { k with lNp := x.lNp }) } }
  | none => s
/-- They take effect with the chain's own evaluation (R397). -/
def State.takeNpChainNow (s : State) (c : Nat) : State :=
  let s := s.takeNpChain c
  { s with npWaitChain := Table.set none s.npWaitChain c none }
/-- The settings that await an evaluation take effect (R397). -/
def State.takeLimits (s : State) : State :=
  let s := s.each (s.npWaitSb.map Prod.fst) State.takeNpSb
  let s := s.each (s.npWaitBand.map Prod.fst) State.takeNpBand
  let s := s.each (s.npWaitChain.map Prod.fst) State.takeNpChain
  { s with npWaitSb := [], npWaitBand := [], npWaitChain := [] }.judgeDonors

/-- The pages that hold a learned pattern are emptied: it is not kept (R71). -/
def State.dropLearned (s : State) (t : Nat) : State :=
  (s.tddOf t).learnedPages.foldl (fun s p => s.modTddSet t (fun k => setCount k p.1 p.2 0)) s
/-- The settings as a profile or a resume image takes them, with those that await an evaluation or a gating frame, and
without learned patterns (R71, R393, R397, R675). -/
def State.settingsNow (s : State) : Settings :=
  ((s.takeLimits).each (List.range 4) (fun s t => (match (s.tddOf t).pendSet with
    | some n => s.modTddSet t (fun k => k.take n)
    | none => s).dropLearned t)).set

/-- One band's evaluation (R382, R384, R385). -/
def State.evalBand (s : State) (b : Nat) (level : Option CentiDb) : State :=
  let k := s.npBand b
  let x := { s.bandOf b with evalAt := some s.now }
  let has := (List.range 64).any (fun g => s.enabled g && decide ((s.npSb g).band = b))
  let level := if has then level else none
  let x := { x with level := level }
  let x := match (if k.ulnEn then level else none) with
    | some l =>
      let lc := k.bsRef - (l + 100 - k.dlRxGain)
      let g := lc - k.ulNm - k.nf - k.ulSysOffset
      { x with lc := lc, uln := some (match x.uln with
          | none => g
          | some old => if g ≤ old then g else min g (old + 100)) }
    | none => x
  let atLeast := fun (t : CentiDb) => match level with
    | some l => decide (t ≤ l)
    | none => false
  s.modBand b (fun _ => { x with
    undetectedFrom := if atLeast k.dlDet then none else some (x.undetectedFrom.getD s.now)
    aboveFrom := if atLeast (k.dlDet + 300) then some (x.aboveFrom.getD s.now) else none })

/-- The mean stage-6 power of a sub-band since the last evaluation, referred to the RF-ADC; none where no output counted
(R382). -/
def State.donorPower (s : State) (g : Nat) : Option Rat :=
  let x := (s.sigOf g).donor
  meanPower x.1 x.2 (s.rxNetAt g s.window * 32752)
/-- The donor DL level of a band: the highest of the sums of chains 0 to 3 over its enabled downlink sub-bands (R382). -/
def State.donorLevel (s : State) (b : Nat) : Option CentiDb :=
  ((List.range 4).filterMap (fun c => match ((sbsOf c).filter (fun g =>
      s.enabled g && decide ((s.npSb g).band = b))).filterMap s.donorPower with
    | [] => none
    | l => some (centiDbOf l.sum))).max?
/-- 100 ms have passed since a time, if one is given. -/
def State.due100 (s : State) (t : Option Time) : Bool := match t with
  | some t => decide (t + 100 * perMs ≤ s.now)
  | none => true
/-- The powers of the donor DL levels are gathered afresh. -/
def State.clearDonor (s : State) : State := s.each allSbs (fun s g => s.modSig g (fun x => { x with donor := (0, 0) }))
/-- R382, R384, R385: every 100 ms, the donor DL levels and the uplink noise ceilings. -/
def execNpEvaluation (dt : Nat) (_levels : Measured) (s : State) : Host.Outcome State Fault Refusal :=
  let s := s.advance dt
  .next (
    if s.listening ∧ (List.range 16).all (fun b => s.due100 (s.bandOf b).evalAt) then
      ((s.takeLimits).each (List.range 16) (fun s b => s.evalBand b (s.donorLevel b))).clearDonor
    else s)

/-- R385, R386: donor DL has been undetected for DONOR_LOSS_MS. -/
def execDonorLossMute (dt band : Nat) (s : State) : Host.Outcome State Fault Refusal :=
  let s := s.advance dt
  let x := s.bandOf band
  let long : Bool := match x.undetectedFrom with
    | some t => decide (t + (s.npBand band).donorLossMs * perMs ≤ s.now)
    | none => false
  .next (
    if band < 16 ∧ s.listening ∧ (s.npBand band).donorEn ∧ !x.muted ∧ long then
      (s.modBand band (fun x => { x with muted := true, aboveFrom := none })).judgeDonor band
    else s)

/-- R385, R386: the level has stayed at or above DL_DET_DBFS + 3 dB for 200 ms. -/
def execDonorRelease (dt band : Nat) (s : State) : Host.Outcome State Fault Refusal :=
  let s := s.advance dt
  let x := s.bandOf band
  let long : Bool := match x.aboveFrom with
    | some t => decide (t + 200 * perMs ≤ s.now)
    | none => false
  .next (if band < 16 ∧ s.listening ∧ x.muted ∧ long then s.donorReleased band else s)

/-- A sub-band's adjacent channel, BW above or below its centre, overlaps the passband of another enabled sub-band of its
chain (R387). -/
def State.adjacentTaken (s : State) (g : Nat) (upper : Bool) : Bool :=
  let k := s.cfg g
  let at_ := fun (h : Nat) => s.rfCentre (chainOf h) (s.cfg h).winB (s.cfg h).fcwTx
  let off : Int := k.bw * 4294967296
  (sbsOf (chainOf g)).any (fun h => h != g && s.enabled h &&
    bandsMeet ((at_ g - at_ h) * 1966080000 + (if upper then off else -off)) k.bw (s.cfg h).bw)
/-- The ACLR of a sub-band; none where both adjacent channels are left out (R387) [94]. -/
def State.aclrOf (s : State) (m : AclrMeas) : Option CentiDb :=
  ((((if s.adjacentTaken m.g false then [] else [m.lower]) ++ (if s.adjacentTaken m.g true then [] else [m.upper])).max?)).map
    (fun a => m.inBand - a)
/-- The worst ACLR of a chain, the lowest over its enabled sub-bands (R387); none unless every one of them has been
measured. -/
def State.worstAclr (s : State) (c : Nat) (ms : List AclrMeas) : Option CentiDb :=
  let gs := (sbsOf c).filter (fun g => s.enabled g)
  if gs.all (fun g => ms.any (fun m => decide (m.g = g))) then ((ms.filter (fun m => gs.contains m.g)).filterMap s.aclrOf).min?
  else none
/-- 100 µs. -/
def hundredMicros : Time := 196608
/-- What a valid evaluation makes of a chain's worst ACLR: the reduction, and NET.REGROWTH (R387, R388). -/
def State.regrow (s : State) (c : Nat) (aclr : CentiDb) : State :=
  let k := s.npChain c
  let x := s.regrowthOf c
  let put := fun (s : State) (x : Regrowth) => { s with regrowth := Table.set {} s.regrowth c x }
  if aclr < (k.aclrLim * 100 : Nat) then
    let atMax := decide (k.regrowthMax * 10 ≤ x.db)
    let n := if atMax then x.overRun + 1 else 0
    let s := put s { x with db := max x.db (min (x.db + 10) (k.regrowthMax * 10)), clean := 0, overRun := n }
    if n = 10 then s.raise 26 c 0 true else s
  else
    let s := if 10 ≤ x.overRun then s.ends 26 c else s
    if ((k.aclrLim + 3) * 100 : Nat) ≤ aclr then
      if x.clean + 1 = 10 then put s { x with db := x.db - 5, clean := 0, overRun := 0 }
      else put s { x with clean := x.clean + 1, overRun := 0 }
    else put s { x with clean := 0, overRun := 0 }
/-- An evaluation begins: what NP_SET_LIMITS has set acts from now, and the next one lies 100 ms on (R387, R397). -/
def State.regrowthBegins (s : State) (c : Nat) : State :=
  let s := s.takeNpChainNow c
  { s with regrowth := Table.set {} s.regrowth c { s.regrowthOf c with evalAt := some s.now } }
/-- R387, R388: every 100 ms, an evaluation of a transmitting chain's worst ACLR, from what its observer has gathered in a
time; one that is not valid only passes the time. -/
def execRegrowthEvaluation (dt c gathered : Nat) (meas : List AclrMeas) (s : State) : Host.Outcome State Fault Refusal :=
  let s := s.advance dt
  .next (
    if 8 ≤ c ∨ !s.transmits c ∨ !s.due100 (s.regrowthOf c).evalAt then s else
    let s := s.regrowthBegins c
    match s.worstAclr c meas with
    | none => s
    | some aclr =>
      if hundredMicros ≤ gathered ∧ (s.npChain c).regrowthEn ∧ -671088640 ≤ (s.plausOf c).pComp then s.regrow c aclr else s)

/-! MUTE_N (R389 to R391). -/

/-- R389, R424: MUTE_N low. Every RF-DAC input and stage 8 are zero while `pins.muteN` is false; trip source 20 is
asserted. -/
def execMuteNFall (dt : Nat) (s : State) : Host.Outcome State Fault Refusal :=
  let s := s.advance dt
  .next (
    if s.pins.muteN then
      let s := { s with pins := { s.pins with muteN := false } }
      (s.modWm 20 (fun x => { x with
        asserted := true, sticky := true, count := satUp 0xFFFF x.count })).tripAll 20
    else s)

/-- A sub-band's TX side restarts from empty histories and with stage 8 at zero, and no reference from before this moment
enters it (R390). -/
def State.hush (s : State) (g : Nat) : State := s.modSig g (fun x => { x.resetTx with hush := s.window, gate := 0 })
/-- The time from stage 8 to the RF-DAC of a chain: that of the sub-band whose references arrive first (R164, R390). -/
def State.dacDelay (s : State) (c : Nat) : Nat :=
  ((((sbsOf c).filter (fun g => s.enabled g)).map (fun g => txDelay (s.cfg g).d)).min?).getD 0
/-- R390: MUTE_N high; open gates reopen through their ramp, and the force on each RF-DAC input ends when the first sample
of the ramp arrives there. What passed stage 8 before is gone from the TX path. -/
def execMuteNRise (dt : Nat) (s : State) : Host.Outcome State Fault Refusal :=
  let s := s.advance dt
  .next (
    if s.pins.muteN then s
    else
      let s := { s with pins := { s.pins with muteN := true } }
      let s := s.modWm 20 (fun x => { x with asserted := false })
      let s := (s.each (List.range 4) (fun s t => s.modTdd t (fun x =>
        (x.ramp false x.openDl (s.now + 394)).ramp true x.openUl (s.now + 394)))).restartWaiting
      let s := s.each (allSbs.filter (fun g => s.enabled g)) State.hush
      s.each chains (fun s c =>
        let s : State := { s with dac := Table.modify {} s.dac c (fun x => { x with a := [], b := [], line := [] }) }
        s.modFe c (fun x => { x with forceTill := s.now + s.dacDelay c })))

end Sys2Proof.Machine
end

