-- ==== Sys2Proof/Machine/Converters.lean ====
section
/-!
DEFINITION. RF converters (03_rf_converters.md): spare-slice rotation, slice faults, overrange, fast attenuator steps,
the transmit converter, and the objects WIN_CONFIG and CNV_ATT_CONFIG.
-/

namespace Sys2Proof.Machine

/-! Slices (R98 to R114, R42). -/

/-- Periods of a swap, 77 ms (R100). -/
def swapPeriod : Time := 77 * perMs

/-- The physical slice at a position (R705): an unlisted position p holds slice p. -/
def Cnv.sliceAt (x : Cnv) (p : Nat) : Nat :=
  match Table.get 0 x.slices p with
  | 0 => p
  | n + 1 => n
/-- A slice takes a position. -/
def Cnv.putSlice (x : Cnv) (p n : Nat) : Cnv := { x with slices := Table.set 0 x.slices p (if n = p then 0 else n + 1) }

/-! Trims (R102, R106, R109, R113). The values that calibrations find are free within the ranges of R102 [20]. -/

/-- A trim in a range from a free value. -/
def trimIn (range v : Nat) : Int := (v % (2 * range + 1) : Nat) - (range : Int)
/-- The stored set of a chain for a temperature band; one never written holds zeros [18]. -/
def State.storedSet (s : State) (c band : Nat) : TrimSet := (Table.get none s.store.sets (c * 5 + band)).getD {}
/-- Offset and gain measured afresh on all 33 slices; skew and bandwidth as given (R106). -/
def State.quickTrims (s : State) (t : TrimSet) : TrimSet :=
  { t with slices := (List.range 33).foldl (fun u n => Table.modify {} u n (fun x => { x with
      offset := trimIn 4096 (s.drawAt (2 * n)), gain := trimIn 4000 (s.drawAt (2 * n + 1)) })) t.slices }
/-- A full calibration: every trim of R102, and the RF-DAC's, the full scale within ±0.1 dB (R137, R660). -/
def State.fullTrims (s : State) : TrimSet :=
  { slices := (List.range 33).foldl (fun u n => Table.set {} u n {
      offset := trimIn 4096 (s.drawAt (3 * n)), gain := trimIn 4000 (s.drawAt (3 * n + 1)), bw := trimIn 2000 (s.drawAt (3 * n + 2)) }) []
    skews := (List.range 1056).foldl (fun u n => Table.set 0 u n (trimIn 1600 (s.drawAt (99 + n)))) []
    dacSeg := s.drawAt 1155, dacSkew := s.drawAt 1156, dacGain := ((s.drawAt 1157 % 201 : Nat) : Rat) / 1000 - 1 / 10 }
/-- The spare's trims after steps 3 and 4 of R100: its own, and its skew at the position it will take. -/
def State.spareTrims (s : State) (x : Cnv) : TrimSet :=
  { x.trims with
    slices := Table.set {} x.trims.slices x.spare {
      offset := trimIn 4096 (s.drawAt 0), gain := trimIn 4000 (s.drawAt 1), bw := trimIn 2000 (s.drawAt 2) }
    skews := Table.set 0 x.trims.skews (x.spare * 32 + x.nextPos) (trimIn 1600 (s.drawAt 3)) }
/-- Trims adjusted by the difference of two stored sets, as far as the ranges of R102 reach (R42, R113). -/
def TrimSet.adjusted (t now entry : TrimSet) : TrimSet :=
  { t with
    slices := (List.range 33).foldl (fun u n =>
      let a := Table.get {} now.slices n
      let b := Table.get {} entry.slices n
      Table.modify {} u n (fun x => {
        offset := clampInt (-4096) 4096 (x.offset + a.offset - b.offset)
        gain := clampInt (-4000) 4000 (x.gain + a.gain - b.gain), bw := clampInt (-2000) 2000 (x.bw + a.bw - b.bw) })) t.slices
    skews := (List.range 1056).foldl (fun u n =>
      Table.modify 0 u n (fun x => clampInt (-1600) 1600 (x + Table.get 0 now.skews n - Table.get 0 entry.skews n))) t.skews }
/-- A trim of a slice has reached the end of its range (R102, R111). -/
def TrimSet.atEnd (t : TrimSet) (n : Nat) : Bool :=
  let x := Table.get {} t.slices n
  decide (4096 ≤ x.offset.natAbs) || decide (4000 ≤ x.gain.natAbs) || decide (2000 ≤ x.bw.natAbs) ||
    (List.range 32).any (fun p => decide (1600 ≤ (Table.get 0 t.skews (n * 32 + p)).natAbs))
/-- The trims in force: those of the last calibrations; on a chain that has lost its spare, adjusted to the present
temperature band (R110, R113). -/
def State.trimsNow (s : State) (c : Nat) : TrimSet :=
  match (s.cnvOf c).lossBand with
  | some b => ((s.cnvOf c).trims).adjusted (s.storedSet c s.th.band) (s.storedSet c b)
  | none => (s.cnvOf c).trims
/-- New trims of a chain in a temperature band, which is the entry band from now on where the chain has no spare (R113). -/
def Cnv.rebase (x : Cnv) (t : TrimSet) (band : Nat) : Cnv :=
  { x with trims := t, lossBand := if x.spare = 63 then some band else none }
/-- The present trims enter the stored set of the present temperature band (R109, R660); on a chain without a spare they are
the trims from which the next difference counts. -/
def State.storeTrims (s : State) (c : Nat) : State :=
  let t := s.trimsNow c
  (s.modStore (fun u => { u with sets := Table.set none u.sets (c * 5 + s.th.band) (some t) })).modCnv c (fun x =>
    x.rebase t s.th.band)
/-- New trims of a calibration; RF-DAC trims that are held stay (R137, R138). -/
def Cnv.calibrated (x : Cnv) (t : TrimSet) (band : Nat) : Cnv :=
  x.rebase (if x.calStuck || x.calHold then { t with
      dacSeg := x.trims.dacSeg, dacSkew := x.trims.dacSkew, dacGain := x.trims.dacGain } else t) band

/-- The rotation runs from SYNTH upward while the chain has a spare and is not fenced (R105). -/
def State.refreshRotation (s : State) (c : Nat) : State :=
  let run := decide (2 ≤ s.radio.state)
  s.modCnv c (fun x =>
    let on := run && decide (x.spare ≠ 63) && !x.fenced
    { x with rotRun := on, swapDue := if on && !x.rotRun then s.now + swapPeriod else x.swapDue })

/-- An RX chain is fenced (R42): its enabled sub-bands carry tag 11, its outputs take their safe levels, and the TX
chain of the same index is muted. -/
def State.fenceChain (s : State) (c : Nat) : State :=
  if (s.cnvOf c).fenced then s
  else
    let s := s.modCnv c (fun x => { x with fenced := true, rotRun := false, steps := [], comps := [] })
    let s := s.each ((sbsOf c).filter (fun g => s.enabled g)) (fun s g =>
      s.addTag g 3 (holding s.window (s.cfg g).d) none)
    (s.driveLna c).driveAtt c

/-- Tag 11 on every sub-band of a chain from the output that holds a window sample, until N_u outputs after another
(R112, R116). -/
def State.tagChain (s : State) (c first : Nat) (last : Option Nat) : State :=
  s.each ((sbsOf c).filter (fun g => s.enabled g && s.listening)) (fun s g =>
    let k := s.cfg g
    s.addTag g 3 (holding first k.d) (last.map (fun m => holding m k.d + (k.nUnsettled + 1) * k.d)))

/-- A slice is lost (R42, R112, R113): it is fenced, the spare takes its position, and without a spare the chain is
fenced. The moment of the substitution, within 100 ns of detection, is a free value [4]. -/
def State.loseSlice (s : State) (c n : Nat) : State :=
  let x := s.cnvOf c
  if bit x.sliceFenced n then s
  else
    let mark := x.sliceFenced + 2 ^ n
    let s := { s with store := { s.store with fenceMap := Table.set 0 s.store.fenceMap c mark } }
    let s := s.modCnv c (fun x => { x with sliceFenced := mark, lossBand := some (x.lossBand.getD s.th.band) })
    if x.spare = n then s.modCnv c (fun x => { x with spare := 63, rotRun := false, verifyFails := 0 })
    else if x.spare = 63 then s.fenceChain c
    else
      let pos := ((List.range 32).find? (fun p => decide (x.sliceAt p = n))).getD 0
      let skew := Table.get 0 (s.storedSet c s.th.band).skews (x.spare * 32 + pos)
      let s := s.modCnv c (fun x => { x.putSlice pos x.spare with
        spare := 63, rotRun := false, verifyFails := 0
        trims := { x.trims with skews := Table.set 0 x.trims.skews (x.spare * 32 + pos) skew } })
      (s.tagChain c s.window (some (s.window + s.draw % 197))).drawn

/-- A faulty slice is lost and reported, for the alternative `kind` of R111 (R112, R113). -/
def State.sliceFails (s : State) (c n kind : Nat) : State := (s.loseSlice c n).raise 0 (c * 33 + n) kind true
/-- The slices of a chain that have a trim at the end of its range are faulty (R111). -/
def State.checkTrims (s : State) (c : Nat) : State :=
  s.each ((List.range 33).filter (fun n => (s.trimsNow c).atEnd n && !bit (s.cnvOf c).sliceFenced n && !(s.cnvOf c).fenced))
    (fun s n => s.sliceFails c n 2)

/-- The quick calibration of a chain: the stored set of the present band, with offset and gain afresh; a chain that could
not complete stays on the stored set (R106, R107). -/
def State.quickCal (s : State) (c : Nat) (failed : Bool) : State :=
  let t := s.storedSet c s.th.band
  let s := s.modCnv c (fun x => { x with quickFailed := failed })
  if failed then ((s.modCnv c (fun x => x.calibrated t s.th.band)).raise 1 c 0).checkTrims c
  else ((s.modCnv c (fun x => x.calibrated (s.quickTrims t) s.th.band)).drawnBy 66).checkTrims c
/-- The foreground calibration of a chain, written to the stored set (R660). -/
def State.fullCal (s : State) (c : Nat) : State :=
  ((((s.modCnv c (fun x => x.calibrated s.fullTrims s.th.band)).drawnBy 1158)).storeTrims c).checkTrims c

/-- R112, R113: a slice is found faulty, for the alternative `kind` of R111. -/
def execSliceFault (dt c slice kind : Nat) (s : State) : Host.Outcome State Fault Refusal :=
  let s := s.advance dt
  .next (
    if c < 8 ∧ slice < 33 ∧ 2 ≤ s.radio.state ∧ !(s.cnvOf c).fenced ∧ !bit (s.cnvOf c).sliceFenced slice then
      s.sliceFails c slice kind
    else s)

/-- A shadow verification passes: the mean-square difference lies below −74 dBFS, the mean square of a sine of peak code
2,047 being 0 dBFS (R99, R103). -/
def shadowPasses (x : Shadow) : Bool := moreThanDb (2047 ^ 2 * x.samples : Nat) (2 * x.sum : Nat) 74
/-- The verified spare hands over at position NEXT_POS, with the trims of its calibration; a spare that calibrated to the end
of a range is faulty instead, and is fenced as the spare that it still is (R100, R101, R111, R113). -/
def State.handOverSpare (s : State) (c : Nat) : State :=
  let x := s.cnvOf c
  let t := s.spareTrims x
  let s := (s.modCnv c (fun x => { x with trims := t })).drawnBy 4
  if t.atEnd x.spare then s.sliceFails c x.spare 2
  else s.modCnv c (fun x => { x.putSlice x.nextPos x.spare with
    spare := x.sliceAt x.nextPos, nextPos := (x.nextPos + 1) % 32, verifyFails := 0
    swapsSince := x.swapsSince + 1, swapDue := s.now + swapPeriod })

/-- R100 to R104: a swap falls due: the verified spare takes position NEXT_POS, the swap waits for a clean chain, or
it is skipped. -/
def execSliceSwap (dt c : Nat) (shadow : Shadow) (s : State) : Host.Outcome State Fault Refusal :=
  let s := s.advance dt
  let x := s.cnvOf c
  .next (
    if c < 8 ∧ x.rotRun ∧ x.swapDue ≤ s.now then
      if x.ovrActive then
        if x.swapDue + swapPeriod ≤ s.now then
          s.modCnv c (fun x => { x with skip := satUp 0xFF x.skip, swapDue := x.swapDue + swapPeriod })
        else s
      else if shadowPasses shadow then s.handOverSpare c
      else
        let s := s.modCnv c (fun x => { x with
          skip := satUp 0xFF x.skip, verifyFails := x.verifyFails + 1, swapDue := s.now + swapPeriod })
        if (s.cnvOf c).verifyFails = 3 then s.sliceFails c x.spare 4 else s
    else s)

/-- The interval of R109 by temperature band, in seconds. -/
def storeInterval (band : Nat) : Nat := if band = 1 ∨ band = 2 then 60 else 10
/-- R109: firmware writes each chain's present trims into the stored set of the present temperature band, at the band's
interval. R109 names no radio state: from SYNTH up, where the converters run, is the model's choice [97]. -/
def execTrimStore (dt : Nat) (s : State) : Host.Outcome State Fault Refusal :=
  let s := s.advance dt
  .next (
    if 2 ≤ s.radio.state ∧ s.firmwareRuns ∧ s.th.trimAt + storeInterval s.th.band * perSecond ≤ s.now then
      let s := s.each chains (fun s c => s.storeTrims c)
      { s with th := { s.th with trimAt := s.now } }
    else s)

/-! Overrange (R115 to R118). -/

/-- R115, R116: an episode begins; slices that clip while it lasts set their bits too. -/
def execOverrangeStart (dt c : Nat) (slices : BitVec 33) (s : State) : Host.Outcome State Fault Refusal :=
  let s := s.advance dt
  .next (
    if c < 8 ∧ 2 ≤ s.radio.state ∧ !(s.cnvOf c).ovrActive then
      let s := s.modCnv c (fun x => { x with
        ovrActive := true, ovrFirst := some s.window, ovrSticky := true, ovrCount := satUp 0xFFFF x.ovrCount
        sliceOvr := Nat.lor x.sliceOvr slices.toNat })
      ((s.modCnv c (fun x => { x with holdFrom := s.now })).tagChain c s.window none).trigger 0x02 c
    else if c < 8 ∧ (s.cnvOf c).ovrActive then
      s.modCnv c (fun x => { x with sliceOvr := Nat.lor x.sliceOvr slices.toNat, holdFrom := s.now })
    else s)

/-- R115, R116: 1,024 clean converter samples, 86 window samples, have passed. -/
def execOverrangeEnd (dt c : Nat) (slices : BitVec 33) (s : State) : Host.Outcome State Fault Refusal :=
  let s := s.advance dt
  .next (
    if c < 8 ∧ (s.cnvOf c).ovrActive then
      let s := s.modCnv c (fun x => { x with
        ovrActive := false, cleanAt := some s.now, sliceOvr := Nat.lor x.sliceOvr slices.toNat, holdFrom := s.now - 86 })
      let last := s.window - 86
      let fenced := (s.cnvOf c).fenced
      let s := s.each (sbsOf c) (fun s g =>
        let k := s.cfg g
        let stop := holding last k.d + (k.nUnsettled + 1) * k.d
        if (s.sbOf g).tags = [] ∨ fenced then s
        else s.modSb g (fun x => { x with tags := x.tags.map (fun p =>
          if p.tag = 3 ∧ p.stop.isNone then { p with stop := some stop } else p) }))
      s.trigger 0x03 c
    else s)

/-! Fast attenuator steps (R120 to R127, R706). -/

/-- The codes of a full step (R121). -/
def fullStep (attLsb : Nat) : Nat := if attLsb = 0 then 24 else if attLsb = 1 then 12 else 6
/-- A magnitude below FAST_THR × 10^(−(STEP_CAL + HYST_DB)/20), compared exactly (R125). -/
def belowRelease (peak thr stepCal hyst : Nat) : Bool := decide (peak ^ 2000 * 10 ^ (stepCal + 100 * hyst) < thr ^ 2000)

/-- A compensation that is still to apply or to be taken away. -/
def Comp.lasts (x : Comp) (m : Nat) : Bool := match x.stop with
  | some e => decide (m < e)
  | none => true
/-- The compensation of the newest step in force ends at a window sample. -/
def dropNewest (m : Nat) : List Comp → List Comp
  | [] => []
  | x :: rest => if x.stop.isNone ∧ rest.all (fun p => p.stop.isSome) then { x with stop := some m } :: rest
    else x :: dropNewest m rest
/-- One fast step is taken where the bus can add a code, its compensation at the window output ALIGN window samples after the
bus change (R121, R122, R124); where it can add none, the sample only starts the hold again (R125). The moment of the bus
change, within 40 ns, is a free value [4]. Whether a compensation between two hundredths of a dB is rounded up is a free choice, since
R121 does not say how it is rounded [87]. -/
def State.takeStep (s : State) (c : Nat) : State :=
  let k := s.attOf c
  let full := fullStep k.attLsb
  let sum := (s.feRx c).attBase + ((s.cnvOf c).steps.map FastStep.codes).sum
  let added := min full (63 - sum)
  if added = 0 then s.modCnv c (fun x => { x with holdFrom := s.now })
  else
    let q := k.stepCal * added / full
    let comp := if k.stepCal * added % full = 0 then q else if Config.roundsUp q s.draws then q + 1 else q
    let st : FastStep := { codes := added, comp := comp, stepCal := k.stepCal, align := k.align, thr := k.fastThr }
    let first := s.window + s.draw % 79 + k.align
    let s := s.modCnv c (fun x => { x with
      steps := x.steps ++ [st], stepAt := some s.now, holdFrom := s.now, startTest := none
      comps := x.comps.filter (fun p => p.lasts s.window) ++ [{ gain := comp, start := first, stop := none }] })
    ((s.settleChain c first).drawn).driveAtt c

/-- Fast steps act on a chain: LISTEN or REPEAT, FAST_EN, not fenced, fewer than FAST_MAX in force (R120). -/
def State.mayStep (s : State) (c : Nat) : Bool :=
  decide (c < 8) && s.listening && (s.attOf c).fastEn && !(s.cnvOf c).fenced &&
    decide ((s.cnvOf c).steps.length < (s.attOf c).fastMax)

/-- R120: a sample reaches FAST_THR, 200 ns or more after the previous step. One that can take no step starts the hold of
R125 again. -/
def execFastStepTake (dt c magnitude : Nat) (s : State) : Host.Outcome State Fault Refusal :=
  let s := s.advance dt
  let rested : Bool := match (s.cnvOf c).stepAt with
    | some t => decide (t + 394 ≤ s.now)
    | none => true
  .next (
    if s.mayStep c ∧ (s.attOf c).fastThr ≤ magnitude ∧ magnitude ≤ 2047 ∧ rested then
      (s.takeStep c).modCnv c (fun x => { x with startTest := none })
    else if c < 8 ∧ (s.cnvOf c).steps ≠ [] ∧ (s.attOf c).fastThr ≤ magnitude then
      s.modCnv c (fun x => { x with holdFrom := s.now })
    else s)

/-- R125: the test of the hold: a step is released, or the hold starts again. With two steps in force the newest is tested
and released first: the model's choice, since R125 says only one step [87]. The test reads the FAST_THR with which the
step was taken, as R706 lets a change apply from the next step only. -/
def execFastStepRelease (dt c peak : Nat) (s : State) : Host.Outcome State Fault Refusal :=
  let s := s.advance dt
  let k := s.attOf c
  let x := s.cnvOf c
  .next (
    match x.steps.getLast? with
    | none => s
    | some st =>
      if !(c < 8 ∧ s.listening) then s
      else if x.ovrActive ∨ !belowRelease peak st.thr st.stepCal k.hystDb then s.modCnv c (fun x => { x with holdFrom := s.now })
      else if x.holdFrom + k.holdMs * perMs ≤ s.now then
        let last := s.window + s.draw % 79 + st.align
        let s := s.modCnv c (fun x => { x with
          steps := x.steps.dropLast, holdFrom := s.now, comps := dropNewest last x.comps })
        ((s.settleChain c last).drawn).driveAtt c
      else s)

/-- R126: the first 10 µs after entry to LISTEN have been measured. -/
def execFastStepStartTest (dt c peak : Nat) (s : State) : Host.Outcome State Fault Refusal :=
  let s := s.advance dt
  let k := s.attOf c
  let ended : Bool := match (s.cnvOf c).startTest with
    | some t => decide (t ≤ s.now)
    | none => false
  .next (
    if c < 8 ∧ s.listening ∧ ended then
      let s := s.modCnv c (fun x => { x with startTest := none })
      if s.mayStep c ∧ peak < k.fastThr ∧ !belowRelease peak k.fastThr k.stepCal k.hystDb then s.takeStep c else s
    else s)

/-- The compensations in force end, each with the ALIGN of its own step, oldest first (R706). -/
def endComps (m : Nat) : List Comp → List FastStep → List Comp
  | x :: rest, st :: steps =>
    if x.stop.isNone then { x with stop := some (m + st.align) } :: endComps m rest steps else x :: endComps m rest (st :: steps)
  | xs, _ => xs
/-- Every step in force is released at once as one settling event (R127), each compensation with its own ALIGN (R706). The
event is dated by the ALIGN of the newest step: the model's choice, since R127 does not say which [87]. -/
def State.releaseSteps (s : State) (c : Nat) : State :=
  match (s.cnvOf c).steps.getLast? with
  | none => s
  | some st =>
    let last := s.window + s.draw % 79 + st.align
    let s := s.modCnv c (fun x => { x with
      steps := [], comps := endComps (s.window + s.draw % 79) x.comps x.steps })
    ((s.settleChain c last).drawn).driveAtt c

/-! The transmit converter (R136 to R138). -/

/-- R136: a clip episode that has begun at the RF-DAC is counted. -/
def execDacClipEpisode (dt c : Nat) (s : State) : Host.Outcome State Fault Refusal :=
  let s := s.advance dt
  .next (
    if c < 8 ∧ 0 < (s.dacOf c).begun then
      ({ s with dac := Table.modify {} s.dac c (fun x => { x with begun := x.begun - 1 }) } : State).modCnv c (fun x => { x with
        clipSticky := true, clipCount := satUp 0xFFFF x.clipCount })
    else s)
/-- A chain's traffic has stayed below −40 dBFS for more than 10 s, in the codes of its RF-DAC (R137). -/
def State.trafficQuiet (s : State) (c : Nat) : Bool := decide ((s.dacOf c).loudAt + 10 * perSecond < s.now)
/-- R137: traffic has stayed below −40 dBFS for more than 10 s. The hold begins only while the chain
transmits, and lasts until CAL_HOLD_END whether it goes on transmitting or not: the model's choice, since R137 does not
say [87]. -/
def execDacCalHold (dt c : Nat) (s : State) : Host.Outcome State Fault Refusal :=
  let s := s.advance dt
  .next (if c < 8 ∧ s.transmits c ∧ s.trafficQuiet c then s.modCnv c (fun x => { x with calHold := true }) else s)
/-- R137: traffic has risen above −40 dBFS. -/
def execCalHoldEnd (dt c : Nat) (s : State) : Host.Outcome State Fault Refusal :=
  let s := s.advance dt
  .next (if c < 8 ∧ !s.trafficQuiet c then s.modCnv c (fun x => { x with calHold := false }) else s)

/-! WIN_CONFIG and CNV_ATT_CONFIG (R133, R139, R141). -/

def winValue (s : State) (c : Nat) : Nat := (s.winOf c).fcwB.toNat * 4294967296 + (s.winOf c).fcwA.toNat
def checkWin (c v : Nat) (s : State) : Verdict :=
  let a := bitsAt v 31 0
  let b := bitsAt v 63 32
  let used := fun w => (sbsOf c).any (fun g => s.enabled g && ((s.cfg g).winB == w))
  checks [
    (outside 0x08AE38E4 0x4D4FAAAA a, badField 0), (outside 0x08AE38E4 0x4D4FAAAA b, badField 32),
    ((decide (a ≠ (s.winOf c).fcwA.toNat) && used false) || (decide (b ≠ (s.winOf c).fcwB.toNat) && used true), wrong 4)]
def writeWin (c v : Nat) (s : State) : State :=
  let w : WinConfig := { fcwA := BitVec.ofNat 32 (bitsAt v 31 0), fcwB := BitVec.ofNat 32 (bitsAt v 63 32) }
  { s with set := { s.set with win := Table.set {} s.set.win c w } }

def attValue (s : State) (c : Nat) : Nat :=
  let k := s.attOf c
  packFields [(1, ofBool k.fastEn), (2, k.fastMax), (2, k.attLsb), (11, 0), (10, k.align), (6, k.hystDb), (10, k.holdMs),
    (11, k.stepCal), (11, k.fastThr)]
def checkAtt (v : Nat) : Verdict :=
  checks [
    (outside 1024 2047 (bitsAt v 10 0), badField 0), (outside 500 700 (bitsAt v 21 11), badField 11),
    (outside 1 1000 (bitsAt v 31 22), badField 22), (outside 1 6 (bitsAt v 37 32), badField 32),
    (outside 0 511 (bitsAt v 47 38), badField 38), (decide (bitsAt v 60 59 = 3), badField 59),
    (outside 1 2 (bitsAt v 62 61), badField 61)]
def writeAtt (c v : Nat) (s : State) : State :=
  let k : AttConfig := {
    fastEn := bit v 63, fastMax := bitsAt v 62 61, attLsb := bitsAt v 60 59, align := bitsAt v 47 38
    hystDb := bitsAt v 37 32, holdMs := bitsAt v 31 22, stepCal := bitsAt v 21 11, fastThr := bitsAt v 10 0 }
  let s := { s with set := { s.set with att := Table.set {} s.set.att c k } }
  if k.fastEn then s else s.releaseSteps c

end Sys2Proof.Machine
end

