-- ==== Sys2Proof/Machine/BandOps.lean ====
section
/-!
DEFINITION. Shared operations of sub-bands: what ends with a disable, shedding, frequency checks, and the ends of
fades, switches, resets and retunes (R43, R146, R172, R180, R194 to R218).
-/

namespace Sys2Proof.Machine

/-! Changes of paths and sources (R224, R250, R264, R267). -/

/-- EFF becomes PHYS, and the ceiling follows within a control tick (R267, R270). -/
def State.effLost (s : State) (g : Nat) : State :=
  let s := s.effIsPhys g
  if s.listening ∧ s.enabled g then s.ceiling g 0 else s

/-- The paths of victim sub-bands are brought up to date; where R250 clears bins, EFF becomes PHYS (R267). -/
def State.pathsChanged (s : State) (gs : List Nat) : State :=
  let centres := fun (t : State) (g : Nat) => ((List.range 4).filter (fun i => ((t.canOf g).path i).centre.isSome)).length
  let t := s.refreshPaths gs
  t.each gs (fun u g => if centres t g < centres s g then u.effLost g else u)

/-- A sub-band's active paths meet a new centre (R250). -/
def State.recentreAll (s : State) (g : Nat) : State :=
  (List.range 4).foldl (fun (s : State) i =>
    if ((s.canOf g).path i).active then
      let t := s.recentre g i
      if ((s.canOf g).path i).centre.isSome && ((t.canOf g).path i).centre.isNone then t.effLost g else t
    else s) s

/-- The sources of victims change: MEASURED clears, and the ceiling follows within a control tick (R267, R270). -/
def State.sourcesChanged (s : State) (gs : List Nat) : State :=
  let t := s.refreshSources gs
  t.each gs (fun u g =>
    if (s.govOf g).srcs ≠ (t.govOf g).srcs ∧ t.listening ∧ t.enabled g then u.ceiling g 0 else u)

/-- Both, for the MIMO group of a sub-band. -/
def State.groupChanged (s : State) (g : Nat) : State := (s.pathsChanged (groupOf g)).sourcesChanged (groupOf g)

/-! Noise probes (R278, R296, R297). -/

/-- A governor value in 0.1 dB; its rounding is unstated [7]. -/
def tenth (v : Int) : Int := roundQ v 1000 (Config.roundsUp v 3)
/-- The result of CAN_PROBE (R296). -/
def probeResult (eff phys : Int) (floor suspended : Bool) : Nat :=
  bitsOf 12 (tenth eff) + 65536 * bitsOf 12 (tenth phys) + 4294967296 * ofBool floor + 8589934592 * ofBool suspended
/-- A command that several sub-bands' probes carry completes with the last of them, with the result of its instance. -/
def State.probeDone (s : State) (cmd : Option CmdRef) (g status sub : Nat) : State :=
  match cmd with
  | none => s
  | some c =>
    if allSbs.any (fun h => decide (((s.govOf h).probe.bind Probe.cmd) = some c)) then s
    else s.complete c status sub (s.govOf (((s.requestOf c).map instOf).getD g)).lastProbe
/-- PHYS, EFF and MEAS_FLOOR over the used blocks of a probe so far; the last values where none was used (R266, R278). -/
def State.probed (s : State) (g : Nat) (p : Probe) : Int × Int × Bool :=
  if p.used = 0 then ((s.govOf g).phys, (s.govOf g).eff, (s.govOf g).floor)
  else
    let q := s.govResult g p.powers p.spectra (s.cancelsNot g)
    (q.phys, q.eff, q.floor)
/-- The probe of a sub-band ends before its interval; its command completes with its last probe (R297). -/
def State.stopProbe (s : State) (g status sub : Nat) : State :=
  match (s.govOf g).probe with
  | none => s
  | some p =>
    let q := s.probed g p
    let res := probeResult q.2.1 q.1 (q.2.2 || decide (p.used < 16)) p.everSuspended
    (s.modGov g (fun x => { x with
      probe := none, floorSince := if x.floor then some s.now else none, lastProbe := res })).probeDone p.cmd g status sub

/-! Frequencies (R128, R146, R171, R172), in units of 1,966.08 MHz / 2^32. -/

/-- |offset| + BW/2 ≤ 800 MHz (R146). -/
def inWindow (fcw : Int) (bw : Nat) : Bool :=
  decide (2 * fcw.natAbs * 1966080000 + bw * 4294967296 ≤ 1600000000 * 4294967296)
/-- Two passbands around centres overlap; passbands that only touch do not. -/
def overlaps (c1 : Int) (bw1 : Nat) (c2 : Int) (bw2 : Nat) : Bool := bandsMeet ((c1 - c2) * 1966080000) bw1 bw2
/-- No TX passband of an enabled off-frequency sub-band of a MIMO group overlaps an RX passband of the group (R172),
were `cfgOf` the configurations in force. -/
def State.bandsClear (s : State) (base : Nat) (cfgOf : Nat → SbConfig) : Bool :=
  let gs := [base, base + 1, base + 2, base + 3].flatMap sbsOf
  gs.all (fun g =>
    let a := cfgOf g
    !(a.enable && a.offFreq) || gs.all (fun h =>
      let b := cfgOf h
      !b.enable || !overlaps (s.rfCentre (chainOf g) a.winB a.fcwTx) a.bw (s.rfCentre (chainOf h) b.winB b.fcwRx) b.bw))

/-- The configuration of a sub-band once the retunes accepted for it have taken effect: the words of the one accepted last
(R172, R184). -/
def State.cfgLater (s : State) (g : Nat) : SbConfig :=
  match lastRetune (s.retunesOf g) with
  | some q => { s.cfg g with fcwRx := q.fcwRx, fcwTx := q.fcwTx }
  | none => s.cfg g

/-- The configuration of a sub-band at a window sample, with the retunes due by then (R172, R184). -/
def State.cfgAt (s : State) (g m : Nat) : SbConfig := { s.cfg g with fcwRx := s.fcwAt g m false, fcwTx := s.fcwAt g m true }
/-- The window samples at which the words of a MIMO group take a new value: now, and those of its retunes. -/
def State.retuneTimes (s : State) (base : Nat) : List Nat :=
  s.window :: (([base, base + 1, base + 2, base + 3].flatMap sbsOf).flatMap (fun g => (s.sbOf g).retunes.map Retune.due))

/-! Ends of switches and retunes (R184, R194, R196, R201). -/

/-- A command that several sub-bands' fades carry completes with the last of them. -/
def State.fadeDone (s : State) (cmd : Option CmdRef) (g : Nat) : State :=
  if s.fadeHeld cmd then s
  else
    let h := ((cmd.bind s.requestOf).map instOf).getD g
    s.completeOpt cmd stOk 0 (switchResult (s.sbOf h).latency false)

/-! Outputs begin (R214, R237). -/

/-- A sub-band is about to deliver outputs: its counts, histories, meters and blocks start afresh, and its loop is at rest
(R214, R237, R302, R318). -/
def State.startOutput (s : State) (g : Nat) : State :=
  let due := s.boundary (s.cfg g).d
  let clipped : List TagPeriod :=
    if (s.cnvOf (chainOf g)).ovrActive then [{ tag := 3, start := 0, stop := none }] else []
  let s := s.modSb g (fun x => { x with tags := { tag := 3, start := 0, stop := some due } :: clipped, firstOut := due, drain := none })
  let s := s.modCan g (fun x => { x with block := 0, frozen := (s.canSet g).hostFreeze })
  let s := s.modSig g (fun x => { x with
    refs := [], resid := [], before := [], tags := [], shuts := [], ramp := {}, gate := 0, sched := 0, tag := 3, meter := {}, detect := {}, donor := (0, 0)
    output := due / max 1 (s.cfg g).d - 1 })
  let s := s.modGov g (fun x => { x with block := 0, skips := [] })
  (s.syncBins g).restLoop g
/-! Shedding (R42, R43). -/

/-- A sub-band has outputs to come: enabled in LISTEN, and not shed. -/
def State.outputsRun (s : State) (g : Nat) : Bool := s.listening && s.enabled g && !(s.sbOf g).shed
/-- The blocks of a sub-band that was shed count on from its first output after enable (R237, R265). -/
def State.resumeBlocks (s : State) (g : Nat) : State :=
  let n := (s.window - (s.sbOf g).firstOut) / max 1 (s.cfg g).d
  (s.modCan g (fun x => { x with block := n / max 1 x.nb })).modGov g (fun x => { x with block := n / binsOf (max 1 (s.cfg g).d) })
/-- A sub-band that was shed delivers outputs again, with a reset and the loop at rest (R43); one that was shed on the entry to
LISTEN delivers its first ones. -/
def State.resumeOutputs (s : State) (g : Nat) : State :=
  if (s.sbOf g).firstOut = 0 then ((s.startSync [g] none true).startOutput g).groupChanged g
  else ((s.resumeBlocks g).startSync [g] none false).restLoop g
/-- Shed sub-bands that fit again are unmuted, in ascending local index. -/
def State.unshed (s : State) (c : Nat) : State :=
  s.each (sbsOf c) (fun s g =>
    let k := s.cfg g
    if (s.sbOf g).shed ∧ k.enable ∧ s.rxLoad c + loadUnits k.l k.d ≤ s.rxCap c * 1024 then
      let s := s.modSb g (fun x => { x with shed := false })
      if s.listening then s.resumeOutputs g else s
    else s)

/-- Sub-bands are shed in descending local index until the rest fit RX_CAP (R42). -/
def State.shedDown (s : State) (c : Nat) : State :=
  s.each (sbsOf c).reverse (fun s g =>
    if s.enabled g ∧ !(s.sbOf g).shed ∧ s.rxCap c * 1024 < s.rxLoad c then s.modSb g (fun x => { x with shed := true })
    else s)

/-- The fades in progress on a sub-band end, with the new banks active (R194, R201); the load falls, and shed sub-bands
that fit return (R43). -/
def State.endFades (s : State) (g : Nat) : State :=
  let x := s.sbOf g
  let s := match x.fadeRx with
    | some f =>
      (((((s.exchange g true false).modSb g (fun x => { x with fadeRx := none })).switchedRx g).fadeDone f.cmd g).unshed
        (chainOf g))
    | none => s
  match x.fadeTx with
  | some f => ((((s.exchange g false true).modSb g (fun x => { x with fadeTx := none })).switchedTx g).fadeDone f.cmd g)
  | none => s

/-- Only those of them that meet a condition. -/
def State.endFadesThat (s : State) (g : Nat) (p : Fade → Bool) : State :=
  let x := s.sbOf g
  let rx := x.fadeRx.any p
  let tx := x.fadeTx.any p
  let t := (s.modSb g (fun x => { x with fadeRx := if rx then x.fadeRx else none, fadeTx := if tx then x.fadeTx else none })).endFades g
  t.modSb g (fun y => { y with fadeRx := if rx then y.fadeRx else x.fadeRx, fadeTx := if tx then y.fadeTx else x.fadeTx })

/-- The banks of a hard switch apply from its output (R196, R210). -/
def State.endHard (s : State) (g : Nat) : State :=
  match (s.sbOf g).hard with
  | none => s
  | some h =>
    let s := s.modSb g (fun x => { x with hard := none })
    let s := s.each h.members (fun s m =>
      let k := s.cfg m
      let s := s.exchange m h.rx h.tx
      let s := if h.rx then
          let s := s.switchedRx m
          if s.enabled m ∧ s.listening then s.addTag m 1 h.due (some (h.due + k.nUnsettled * k.d)) else s
        else s
      if h.tx then s.switchedTx m else s)
    let i := ((h.cmd.bind s.requestOf).map instOf).getD g
    s.completeOpt h.cmd stOk 0 (switchResult (s.sbOf i).latency true)

/-- New fine words take effect on sub-bands, from a window sample (R184, R210, R250, R267). -/
def State.retuneNow (s : State) (gs : List Nat) (rx tx : Int) (due : Nat) : State :=
  let was := fun (g : Nat) => (s.cfg g).fcwRx
  let t := s.each gs (fun s g => s.modSbSet g (fun x => { x with cfg := { x.cfg with fcwRx := rx, fcwTx := tx } }))
  let t := t.each (gs.filter (fun g => decide (was g ≠ rx))) (fun t g =>
    let k := t.cfg g
    let t := t.modGov g Gov.forget
    let t := if k.enable ∧ t.listening then t.addTag g 1 (holding due k.d) (some (holding due k.d + k.nUnsettled * k.d))
      else t
    if k.enable ∧ t.listening then t.ceiling g 0 else t)
  t.each gs (fun t g => (t.groupChanged g).recentreAll g)

/-- The first retune that waits on a sub-band takes effect. -/
def State.endRetune (s : State) (g : Nat) : State :=
  match (s.sbOf g).retunes with
  | [] => s
  | r :: rest =>
    let s := s.modSb g (fun x => { x with retunes := rest })
    ((s.retuneNow r.members r.fcwRx r.fcwTx r.due)).completeOpt r.cmd stOk 0 0

/-- A sub-band no longer waits for the retunes of its group. Their commands complete on their window samples. -/
def State.leaveRetunes (s : State) (g : Nat) : State :=
  s.each (groupOf g) (fun s h => s.modSb h (fun x => { x with
    retunes := x.retunes.map (fun r => { r with members := r.members.filter (fun m => m != g) }) }))
/-- A sub-band that has been disabled stores the words of the retunes that wait for it at once, as R184 has it for a disabled
one [73]. -/
def State.storeRetunes (s : State) (g : Nat) : State :=
  match lastRetune (s.retunesOf g) with
  | some r => (s.retuneNow [g] r.fcwRx r.fcwTx s.window).leaveRetunes g
  | none => s

/-- A sub-band no longer waits for the hard switch that another one leads: it takes place there at once, and with its last
member the switch ends. -/
def State.leaveHardOf (g : Nat) (s : State) (h : Nat) : State :=
  match (s.sbOf h).hard with
  | none => s
  | some x =>
    if !x.members.contains g then s
    else if x.members.all (fun m => m == g) then s.endHard h
    else
      let s := (s.exchange g x.rx x.tx).modSb h (fun y => { y with hard := some { x with members := x.members.filter (fun m => m != g) } })
      let s := if x.rx then s.switchedRx g else s
      if x.tx then s.switchedTx g else s
/-- A hard switch that waits takes effect at once on one sub-band, whose outputs cease (R199); the others of its group keep
their output. -/
def State.leaveHard (s : State) (g : Nat) : State := s.each (groupOf g) (State.leaveHardOf g)
/-- The fades and switches that wait on a sub-band take effect at once, as when its outputs cease (R199, R201). A retune keeps
its window sample (R184). -/
def State.endSwitches (s : State) (g : Nat) : State := (s.endFades g).leaveHard g
/-- The retunes that a sub-band leads take effect at once, where the radio leaves LISTEN before their sample [90]. -/
def State.endRetunes (s : State) (g : Nat) : State := (s.sbOf g).retunes.foldl (fun s _ => s.endRetune g) s

/-- The synchronising resets that wait for a sub-band end without a reset; their commands complete (R217). -/
def State.dropSyncs (s : State) (g status sub : Nat) : State :=
  s.each (groupOf g) (fun s h =>
    let dropped := (s.sbOf h).syncs.filter (fun r => r.members.contains g && r.cmd.isSome)
    let s := s.modSb h (fun x => { x with syncs := (x.syncs.filterMap (fun r =>
      if !r.members.contains g then some r
      else if r.cmd.isSome then none
      else match r.members.filter (fun m => m != g) with
        | [] => none
        | ms => some { r with members := ms })) })
    dropped.foldl (fun s r => s.completeOpt r.cmd status sub 0) s)

/-! Synchronising resets (R214 to R218) and their start. -/

/-- The tag period of a fade in progress ends at a window sample (R201). -/
def TagPeriod.cutFade (m : Nat) (p : TagPeriod) : TagPeriod :=
  if p.tag = 2 ∧ p.start ≤ m then { p with stop := some (match p.stop with
    | some e => min e m
    | none => m) } else p
/-- The histories of a sub-band restart at the reset sample, and a fade that has begun ends there with its tags (R201). -/
def State.resetAt (s : State) (g m : Nat) (fresh : Bool) : State :=
  let s := (s.endFadesThat g (fun f => decide (f.first ≤ m))).modSb g (fun x => { x with tags := x.tags.map (TagPeriod.cutFade m) })
  let k := s.cfg g
  let x := s.sbSet g
  let n := if x.dcbEn then max k.nUnsettled (2 ^ x.dcbK) else k.nUnsettled
  let s := s.addTag g 1 m (some (m + n * k.d))
  let s := s.modSbSet g (fun x => { x with dcbFrozen := false })
  let s := if (s.sigOf g).output * k.d < m then s.modSig g (fun x => x.resetRx.resetTxAt (m + txDelay k.d)) else s
  let s := if fresh then (s.modSb g (fun x => { x with firstOut := m })).modCan g (fun x => { x with block := 0 }) else s
  s.each (groupOf g) (fun s v =>
    if ((s.canOf v).path (chainOf g % 4)).active then s.skipPath v (chainOf g % 4) else s.skipSource v (chainOf g % 4))

/-- Sub-bands are about to deliver outputs, all of them before any path between them becomes active; the governor's first
ceilings on these and on shed ones (R224, R248, R269, R272). -/
def State.startOutputs (s : State) (gs shed : List Nat) : State :=
  let s := (s.each gs State.startOutput).firstCeilings (gs ++ shed)
  s.each (gs ++ shed) (fun s g => s.groupChanged g)
/-- Sub-bands that are enabled begin to deliver outputs, with a reset on one window sample (R178, R181). -/
def State.beginOutputs (s : State) (gs : List Nat) : State := ((s.startSync gs none true).startOutputs gs []).judgeDonors

/-! Disabling (R180, R201, R234, R291). -/

/-- The clamp, hold-off and restart cap of a sub-band that is clamped or in hold-off end when no sub-band tied to it remains
enabled; the collector's mute ends with the hold-off, since no restart is left to end it (R291) [97]. -/
def State.govDisabled (s : State) (g : Nat) : State :=
  if (s.tied g).any (fun h => s.enabled h) then s
  else
    let gone := (s.tied g).filter (fun h => decide ((s.govOf h).state = 1) || decide ((s.govOf h).state = 2))
    let s := s.unmute (fun m => m.bit == 22 && gone.contains m.addr)
    s.each gone (fun s h => s.modGov h (fun x => { x with
      state := 0, clamp := none, holdoff := none, restartWaits := false, cap := none, capRepeat := 0, capFrom := none }))

/-- Processing of a sub-band stops. -/
def State.disableNow (s : State) (g : Nat) : State :=
  let cmd := (s.sbOf g).ramp.bind Prod.snd
  let k := s.cfg g
  let last := if (s.sbOf g).ramp.isSome then some (s.window + txDelay k.d + (k.lTx + 7) * k.dcUsed) else none
  let s := (s.endSwitches g).dropSyncs g stAbortedHost 6
  let s := s.modSb g (fun x => { x with ramp := none, drain := last, shed := false, tags := [] })
  let s := s.modSbSet g (fun x => { x with cfg := { x.cfg with enable := false } })
  let s := s.storeRetunes g
  let s := (s.stopProbe g stAbortedHost 6).discardLoop g stAbortedHost 6
  let s := ((s.syncBins g).groupChanged g).govDisabled g
  let s := (s.each (s.tiedTo g) (fun s h => s.ceilMuteAt false h)).unshed (chainOf g)
  let s := s.judgeDonors
  match cmd with
  | none => s
  | some c =>
    if allSbs.any (fun h => decide (((s.sbOf h).ramp.bind Prod.snd) = some c)) then s
    else
      let h := ((s.requestOf c).map instOf).getD g
      let k := s.cfg h
      s.complete c stOk 0 ((s.sbOf h).latency + 65536 * k.dfUsed + 1048576 * k.dcUsed)

end Sys2Proof.Machine
end

