-- ==== Sys2Proof/Machine/Bands.lean ====
section
/-!
DEFINITION. SB_CONFIGURE and SB_RETUNE with their events (04_channelisation.md).
-/

namespace Sys2Proof.Machine

/-! SB_CONFIGURE (R176 to R183). -/

/-- The configuration a command gives. -/
def sbOfRequest (r : Request) : SbConfig :=
  { enable := flag r 0 0, winB := flag r 0 1, offFreq := flag r 0 2, forceDf := flag r 0 3, autoShift := flag r 0 4
    df := pu r 1 1, d := pu r 2 2, l := pu r 4 2, lTx := pu r 6 2, fcwRx := ps r 8 4, fcwTx := ps r 12 4
    bw := pu r 16 4, shCic := pu r 20 1, shFir := pu r 21 1, shDcb := pu r 22 1 }

/-- Taps from 16 to a limit, in multiples of 8 (R152, R167). -/
def tapsBad (limit n : Nat) : Bool := outside 16 limit n || decide (n % 8 ≠ 0)

/-- The parameter checks of SB_CONFIGURE. -/
def sbFieldChecks (r : Request) : List (Bool × Verdict) :=
  let k := sbOfRequest r
  let dcIsOne := if k.forceDf then decide (k.d = k.df) else decide (k.d ≤ 8)
  [(decide (64 ≤ pu r 0 1), bad 0),
   (if k.forceDf then outside 1 8 k.df else decide (k.df ≠ 0), bad 1),
   (outside 4 512 k.d, bad 2), (tapsBad 384 k.l, bad 4), (tapsBad 128 k.lTx, bad 6),
   (!k.offFreq && decide (k.fcwTx ≠ k.fcwRx), bad 12),
   (decide (k.bw < 1000) || decide (1966080000 < k.bw * k.d), bad 16),
   (decide (54 < k.shCic) || ((k.autoShift || dcIsOne) && decide (k.shCic ≠ 0)), bad 20),
   (decide (31 < k.shFir) || (k.autoShift && decide (k.shFir ≠ 0)), bad 21),
   (decide (7 < k.shDcb) || (k.autoShift && decide (k.shDcb ≠ 0)), bad 22), reserved r 23 1,
   (k.forceDf && decide (k.d % k.df ≠ 0), combo),
   (!inWindow k.fcwRx k.bw || (k.offFreq && !inWindow k.fcwTx k.bw), combo)]

/-- Sub-bands that SB_CONFIGURE enables. -/
def State.turnsOn (s : State) (gs : List Nat) (k : SbConfig) : List Nat := gs.filter (fun g => k.enable && !s.enabled g)

/-- The budgets of R160, R161 and R229 for sub-bands that start to count with a configuration: kept at once, only
once disable ramps have ended (R163), or broken. The hold of R163 is for the filter budgets of R160 and R161: bins, which a
disable releases at the end of its ramp (R234), are judged at once: the model's choice [73]. -/
def State.sbBudget (s : State) (gs : List Nat) (k : SbConfig) : List (Bool × Verdict) :=
  let rx := loadUnits k.l k.d
  let tx := loadUnits k.lTx k.d
  let cs := (gs.map chainOf).dedup
  let bins := fun g => if (s.canSet g).enable && !k.offFreq then binsOf k.d else 0
  [(cs.any (fun c => decide (s.rxCap c * 1024 < s.rxLoadLater c + s.fadesLater c false + rx)), overBudget 1),
   (cs.any (fun c => decide (131072 < s.txLoadLater c + s.fadesLater c true + tx)), overBudget 2),
   (gs.any (fun g => decide (65536 < s.binsWanted (chainOf g) + bins g)), overBudget 3),
   (cs.any (fun c => decide (s.rxCap c * 1024 < s.rxLoad c + s.fadesToCome c false + rx) ||
     decide (131072 < s.txLoad c + s.fadesToCome c true + tx)), .wait)]

def checkSbConfigure (r : Request) (s : State) : Verdict :=
  let g := instOf r
  let k := sbOfRequest r
  let gs := covered (flag r 0 5) g
  let on := s.turnsOn gs k
  checks ([(decide (128 ≤ g), badInst)] ++ sbFieldChecks r ++ [
    (k.offFreq && gs.any (fun h => (s.canSet h).enable), combo),
    (decide (on ≠ []) && (s.retuneTimes (groupBase (chainOf g))).any (fun m =>
      !s.bandsClear (groupBase (chainOf g)) (fun h => if on.contains h then k else s.cfgAt h m)), combo)] ++ needPll s ++ [
    (gs.any (fun h => (s.sbOf h).ramp.isSome), .wait),
    (gs.any (fun h => s.enabled h && decide ({ k with enable := true } ≠ s.cfg h)), wrong 4),
    (on.any (fun h =>
      let x := s.sbSet h
      decide (x.cfg.l ≠ k.l) || decide (x.cfg.lTx ≠ k.lTx) || !(x.rxBank x.rxAct).loaded || !(x.txBank x.txAct).loaded),
      wrong 6),
    (decide (on ≠ []) && gs.any (fun h => (s.cnvOf (chainOf h)).fenced), fenced 1)] ++
    (if on = [] then [] else s.sbBudget on k))

/-- A configuration is stored for a disabled sub-band: a bank whose tap count changes is not loaded (R188). A retune of its group that
still waits no longer reaches it: the configuration came later [73]. -/
def State.storeSb (s : State) (g : Nat) (k : SbConfig) : State :=
  ((s.leaveRetunes g).modSbSet g (fun x =>
    let x := if x.cfg.l = k.l then x else { x with rx0 := {}, rx1 := {} }
    let x := if x.cfg.lTx = k.lTx then x else { x with tx0 := {}, tx1 := {} }
    { x with cfg := k })).refreshLatency g

/-- The result of SB_CONFIGURE (R182). -/
def State.sbResult (s : State) (g : Nat) : Nat :=
  let k := s.cfg g
  (s.sbOf g).latency + 65536 * k.dfUsed + 1048576 * k.dcUsed

def applySbConfigure (ref : CmdRef) (r : Request) (s : State) : State :=
  let g := instOf r
  let k := sbOfRequest r
  let gs := covered (flag r 0 5) g
  let on := s.turnsOn gs k
  let off := gs.filter (fun h => !k.enable && s.enabled h)
  let s := s.each (gs.filter (fun h => !s.enabled h)) (fun s h => s.storeSb h k)
  let s := { s with rcd := { s.rcd with used := s.rcd.used ++ on.filter (fun h => !s.rcd.used.contains h) } }
  let s := if on = [] then s
    else if s.listening then s.beginOutputs on
    else on.foldl (fun s h => ((s.syncBins h).modLoop h (fun x => { x.atRest none with applied := none })).groupChanged h) s
  let ramped := off.filter (fun h => s.listening && !(s.sbOf h).shed)
  let s := s.each ramped (fun s h => s.modSb h (fun x => { x with ramp := some (s.now + 64 * (s.cfg h).d, some ref) }))
  let s := s.each (off.filter (fun h => !ramped.contains h)) State.disableNow
  if ramped = [] then s.complete ref stOk 0 (s.sbResult g) else s

def cmdSbConfigure : CmdDef := ⟨0x0201, 24, false, checkSbConfigure, applySbConfigure⟩
/-- R176 to R183: a sub-band, or with GROUP = 1 the four of its group, is configured, enabled or disabled. -/
def execSbConfigure (dt : Nat) (r : Request) (s : State) : Host.Outcome State Fault Refusal :=
  .next ((s.advance dt).issue cmdSbConfigure r)

/-- R180: the gain ramp to zero of a disabled sub-band has ended. -/
def execDisableRampEnd (dt g : Nat) (s : State) : Host.Outcome State Fault Refusal :=
  let s := s.advance dt
  let ended : Bool := match (s.sbOf g).ramp with
    | some (t, _) => decide (t ≤ s.now)
    | none => false
  .next (if g < 128 ∧ ended then s.disableNow g else s)

/-! SB_RETUNE (R184). -/

def checkSbRetune (r : Request) (s : State) : Verdict :=
  let g := instOf r
  let gs := covered (flag r 8 0) g
  let rx := ps r 0 4
  let tx := ps r 4 4
  let cfgOf := fun h => if gs.contains h then { s.cfg h with fcwRx := rx, fcwTx := tx } else s.cfgLater h
  checks ([
    (decide (128 ≤ g), badInst),
    (gs.any (fun h => !(s.cfg h).offFreq) && decide (rx ≠ tx), bad 4),
    (decide (2 ≤ pu r 8 1), bad 8), reserved r 9 3,
    (gs.any (fun h => !inWindow rx (s.cfg h).bw || ((s.cfg h).offFreq && !inWindow tx (s.cfg h).bw)), combo),
    (gs.any (fun h => s.enabled h) && !s.bandsClear (groupBase (chainOf g)) cfgOf, combo)] ++ needPll s ++ [
    (gs.any (fun h => s.enabled h) && gs.any (fun h => (s.cnvOf (chainOf h)).fenced), fenced 1)])

def applySbRetune (ref : CmdRef) (r : Request) (s : State) : State :=
  let g := instOf r
  let gs := covered (flag r 8 0) g
  if s.listening ∧ gs.any (fun h => s.enabled h) then
    let seq := ((groupOf g).flatMap (fun h => (s.sbOf h).retunes)).foldl (fun a r => max a (r.seq + 1)) 0
    let q : Retune := { due := s.window + 1967, seq := seq, cmd := some ref, members := gs, fcwRx := ps r 0 4, fcwTx := ps r 4 4 }
    s.modSb g (fun x => { x with retunes := x.retunes ++ [q] })
  else (s.retuneNow gs (ps r 0 4) (ps r 4 4) s.window).complete ref stOk 0 0

def cmdSbRetune : CmdDef := ⟨0x0204, 12, false, checkSbRetune, applySbRetune⟩
/-- R184: the fine words of a sub-band are changed. -/
def execSbRetune (dt : Nat) (r : Request) (s : State) : Host.Outcome State Fault Refusal :=
  .next ((s.advance dt).issue cmdSbRetune r)

/-- R184: the retune's window sample is reached. -/
def execRetuneApply (dt g : Nat) (s : State) : Host.Outcome State Fault Refusal :=
  let s := s.advance dt
  .next (
    match (s.sbOf g).retunes with
    | r :: _ => if r.due ≤ s.window then s.endRetune g else s
    | [] => s)

end Sys2Proof.Machine
end

