-- ==== Sys2Proof/Machine/Filters.lean ====
section
/-!
DEFINITION. SB_LOAD_COEF, SB_SWITCH_BANK, SB_SYNC_RESET, SB_DCB and their events (05_filters_settling.md).
-/

namespace Sys2Proof.Machine

/-! SB_LOAD_COEF (R187 to R193). -/

/-- The taps in a buffer (R190): real and imaginary part, 32 bit each. -/
def tapsIn (bs : List Byte) (n : Nat) : List (Int × Int) :=
  (List.range n).map (fun i => (leSigned bs (8 * i) 4, leSigned bs (8 * i + 4) 4))
/-- Σ h and Σ n h of a bank (R159, R175). -/
def bankOf (taps : List (Int × Int)) : Bank :=
  let idx := taps.zipIdx
  { loaded := true
    sumRe := (taps.map Prod.fst).sum, sumIm := (taps.map Prod.snd).sum
    momRe := (idx.map (fun e => (e.2 : Int) * e.1.1)).sum, momIm := (idx.map (fun e => (e.2 : Int) * e.1.2)).sum }

/-- A bank of the RX (tx = false) or TX filter. -/
def SbSet.bank (x : SbSet) (tx : Bool) (b : Nat) : Bank := if tx then x.txBank b else x.rxBank b
/-- The active bank's number. -/
def SbSet.act (x : SbSet) (tx : Bool) : Nat := if tx then x.txAct else x.rxAct
/-- A bank replaced. -/
def SbSet.setBank (x : SbSet) (tx : Bool) (b : Nat) (k : Bank) : SbSet :=
  if tx then (if b = 0 then { x with tx0 := k } else { x with tx1 := k })
  else if b = 0 then { x with rx0 := k } else { x with rx1 := k }
/-- Taps in force of the target. -/
def SbConfig.taps (k : SbConfig) (tx : Bool) : Nat := if tx then k.lTx else k.l
/-- A switch of the target is in progress on a sub-band: a fade, or a hard switch that waits for its output. -/
def State.switching (s : State) (g : Nat) (tx : Bool) : Bool :=
  (if tx then (s.sbOf g).fadeTx else (s.sbOf g).fadeRx).isSome ||
    (groupOf g).any (fun h => match (s.sbOf h).hard with
      | some x => x.members.contains g && (if tx then x.tx else x.rx)
      | none => false)

def checkSbLoadCoef (r : Request) (s : State) : Verdict :=
  let g := instOf r
  let tx := flag r 0 0
  let b := if flag r 0 1 then 1 else 0
  let gs := covered (flag r 0 2) g
  let n := pu r 2 2
  let len := pu r 16 4
  let taps := tapsIn (bufOf r) n
  let k := bankOf taps
  checks [
    (decide (128 ≤ g), badInst), (decide (8 ≤ pu r 0 1), bad 0), reserved r 1 1,
    (gs.any (fun h => decide ((s.cfg h).taps tx ≠ n)), bad 2), (decide (pu r 8 8 % 8 ≠ 0) || (!byPcie r && decide (pu r 8 8 ≠ 0)), bad 8),
    (decide (len ≠ n * 8), bad 16), reserved r 20 4,
    (gs.any (fun h => s.enabled h && s.switching h tx), wrong 7),
    (gs.any (fun h => s.enabled h && decide ((s.sbSet h).act tx = b) && ((s.sbSet h).bank tx b).loaded), wrong 4),
    (r.buf.isNone, unread), (decide (crc32c ((bufOf r).take len) ≠ pu r 4 4), .fail stIntegrity 1),
    (taps.any (fun t => outside (-131072) 131071 t.1 || outside (-131072) 131071 t.2), badContent),
    (decide (k.sumRe ^ 2 + k.sumIm ^ 2 < 4194304), badContent)]

/-- A bank of a sub-band takes its taps and becomes loaded. A mute for an uncorrectable error ends as the active bank is
loaded again, with a reset and the loop at rest (R46, R192). A tap count that has changed since leaves the bank not loaded (R188). -/
def State.takeTaps (s : State) (g : Nat) (l : CoefLoad) : State :=
  if (s.cfg g).taps l.tx ≠ l.taps.length then s
  else
    let s := if l.tx then
        { s with set := { s.set with txCoef := Table.setRange (0, 0) s.set.txCoef ((g * 2 + l.bank) * 128) l.taps } }
      else { s with set := { s.set with rxCoef := Table.setRange (0, 0) s.set.rxCoef ((g * 2 + l.bank) * 384) l.taps } }
    let s := s.modSbSet g (fun x => x.setBank l.tx l.bank (bankOf l.taps))
    let s := if (s.sbSet g).act l.tx = l.bank then s.refreshLatency g else s
    let whole := ((s.sbSet g).bank l.tx ((s.sbSet g).act l.tx)).loaded
    let flagged := if l.tx then (s.sbOf g).muteTx else (s.sbOf g).muteRx
    let s := if whole || !flagged then s.unmuteAt (if l.tx then 42 else 41) g else s
    let muted := flagged && whole
    if muted then
      let s := s.modSb g (fun x => if l.tx then { x with muteTx := false } else { x with muteRx := false })
      if s.enabled g ∧ s.listening then (s.startSync [g] none false).restLoop g else s
    else s

/-- Why a load ends without loading: its checks of R189 and R192 no longer hold, since a command that ran beside it has
changed the tap count, begun a fade, or put its bank in use (R188, R193). The statuses are the model's choice [90]. -/
def State.loadFails (s : State) (l : CoefLoad) : Option (Nat × Nat) :=
  if l.members.any (fun h => decide ((s.cfg h).taps l.tx ≠ l.taps.length)) then some (stIllegal, 3)
  else if l.members.any (fun h => s.enabled h && s.switching h l.tx) then some (stWrongState, 7)
  else if l.members.any (fun h => s.enabled h && decide ((s.sbSet h).act l.tx = l.bank) &&
      ((s.sbSet h).bank l.tx l.bank).loaded) then some (stWrongState, 4)
  else none
/-- A load ends: into every member, or into none (R193). -/
def State.finishLoad (s : State) (l : CoefLoad) : State :=
  match s.loadFails l with
  | some (status, sub) => s.completeOpt l.cmd status sub 0
  | none =>
    let s := s.each l.members (fun s h => s.takeTaps h l)
    (s.completeOpt l.cmd stOk 0 (bitsOf 32 (tau256 (bankOf l.taps) s.draws))).drawn

/-- With the filter engines off the load completes on execution (R91). -/
def applySbLoadCoef (ref : CmdRef) (r : Request) (s : State) : State :=
  let g := instOf r
  let l : CoefLoad := {
    cmd := some ref, startedAt := s.now, members := covered (flag r 0 2) g, tx := flag r 0 0
    bank := if flag r 0 1 then 1 else 0, taps := tapsIn (bufOf r) (pu r 2 2) }
  if s.radio.state < 2 then s.finishLoad l else s.modSb g (fun x => { x with loads := x.loads ++ [l] })

def cmdSbLoadCoef : CmdDef := ⟨0x0202, 24, false, checkSbLoadCoef, applySbLoadCoef⟩
/-- R189 to R193: a coefficient bank is loaded from a host buffer. -/
def execSbLoadCoef (dt : Nat) (r : Request) (s : State) : Host.Outcome State Fault Refusal :=
  .next ((s.advance dt).issue cmdSbLoadCoef r)

/-- R193: a coefficient load ends. -/
def execCoefLoadEnd (dt g : Nat) (s : State) : Host.Outcome State Fault Refusal :=
  let s := s.advance dt
  .next (
    match (s.sbOf g).loads with
    | [] => s
    | l :: rest => (s.modSb g (fun x => { x with loads := rest })).finishLoad l)

/-! SB_SWITCH_BANK (R194 to R202). -/

/-- A switch runs as a fade or a hard switch: enabled, and outputs are produced (R199). -/
def State.switchesLive (s : State) (g : Nat) : Bool := s.enabled g && s.listening

def checkSbSwitchBank (r : Request) (s : State) : Verdict :=
  let g := instOf r
  let rx := flag r 0 0
  let tx := flag r 0 1
  let hard := flag r 0 2
  let gs := covered (flag r 0 3) g
  let live := gs.filter (fun h => s.switchesLive h)
  let rxMore := fun h => if rx && !(s.sbOf h).shed then loadUnits (s.cfg h).l (s.cfg h).d else 0
  let txMore := fun h => if tx then loadUnits (s.cfg h).lTx (s.cfg h).d else 0
  checks ([
    (decide (128 ≤ g), badInst), (decide (16 ≤ pu r 0 1) || (!rx && !tx), bad 0),
    (if hard then decide (pu r 1 1 ≠ 0) else outside 4 12 (pu r 1 1), bad 1), reserved r 2 6] ++ needPll s ++ [
    (gs.any (fun h =>
      let x := s.sbSet h
      (rx && !(x.rxBank (1 - x.rxAct)).loaded) || (tx && !(x.txBank (1 - x.txAct)).loaded)), wrong 6),
    (live.any (fun h => (rx && s.switching h false) || (tx && s.switching h true)), wrong 7),
    (gs.any (fun h => s.enabled h) && gs.any (fun h => (s.cnvOf (chainOf h)).fenced), fenced 1)] ++
    (if hard then []
     else [
      (live.any (fun h => decide (s.rxCap (chainOf h) * 1024 < s.rxLoadLater (chainOf h) + s.fadesLater (chainOf h) false + rxMore h)),
        overBudget 1),
      (live.any (fun h => decide (131072 < s.txLoadLater (chainOf h) + s.fadesLater (chainOf h) true + txMore h)), overBudget 2),
      (live.any (fun h => decide (s.rxCap (chainOf h) * 1024 < s.rxLoad (chainOf h) + s.fadesToCome (chainOf h) false + rxMore h) ||
        decide (131072 < s.txLoad (chainOf h) + s.fadesToCome (chainOf h) true + txMore h)), .wait)]))

/-- With GROUP = 1 the switch starts on one window sample of all members (R194, R198): an output boundary of the commanded
instance. Where the members' D differ the spec does not say whose boundary it is: the model's choice [90]. -/
def applySbSwitchBank (ref : CmdRef) (r : Request) (s : State) : State :=
  let g := instOf r
  let rx := flag r 0 0
  let tx := flag r 0 1
  let gs := covered (flag r 0 3) g
  let live := gs.filter (fun h => s.switchesLive h)
  let s := s.each (gs.filter (fun h => !s.switchesLive h)) (fun s h =>
    let s := s.exchange h rx tx
    let s := if rx then s.switchedRx h else s
    if tx then s.switchedTx h else s)
  if live = [] then s.complete ref stOk 0 (switchResult (s.sbOf g).latency (flag r 0 2))
  else
    let due := s.boundary (s.cfg g).d
    if flag r 0 2 then
      s.modSb (live.headD g) (fun x => { x with hard := some { due := due, cmd := some ref, members := live, rx := rx, tx := tx } })
    else
      s.each live (fun s h =>
        let n := 2 ^ pu r 1 1
        let f : Fade := { cmd := some ref, first := due, outputs := n }
        let s := s.modSb h (fun x => { x with
          fadeRx := if rx then some f else x.fadeRx, fadeTx := if tx then some f else x.fadeTx })
        if rx then s.addTag h 2 due (some (due + n * (s.cfg h).d)) else s)

def cmdSbSwitchBank : CmdDef := ⟨0x0203, 8, false, checkSbSwitchBank, applySbSwitchBank⟩
/-- R197 to R200: a sub-band moves to its other bank by a cross-fade or a hard switch. -/
def execSbSwitchBank (dt : Nat) (r : Request) (s : State) : Host.Outcome State Fault Refusal :=
  .next ((s.advance dt).issue cmdSbSwitchBank r)

/-- The last faded output of a fade has been reached (R194). -/
def State.fadeOver (s : State) (g : Nat) (f : Fade) : Bool :=
  decide (holding f.first (max 1 (s.cfg g).d) + (f.outputs - 1) * (s.cfg g).d ≤ s.window)

/-- R194, R195, R43: the last faded output of every fade on the sub-band is reached. -/
def execCrossFadeEnd (dt g : Nat) (s : State) : Host.Outcome State Fault Refusal :=
  let s := s.advance dt
  let x := s.sbOf g
  let rxEnds := x.fadeRx.any (fun f => s.fadeOver g f)
  let txEnds := x.fadeTx.any (fun f => s.fadeOver g f)
  .next (
    if g < 128 ∧ (rxEnds || txEnds) then
      (s.endFadesThat g (s.fadeOver g)).unshed (chainOf g)
    else s)

/-- R196, R210: the output of a hard switch is reached. -/
def execHardSwitchOutput (dt g : Nat) (s : State) : Host.Outcome State Fault Refusal :=
  let s := s.advance dt
  .next (
    match (s.sbOf g).hard with
    | some h => if h.due ≤ s.window then s.endHard g else s
    | none => s)

/-! SB_SYNC_RESET (R214 to R218). -/

def checkSbSyncReset (r : Request) (s : State) : Verdict :=
  let g := instOf r
  let gs := covered (flag r 0 0) g
  checks ([(decide (128 ≤ g), badInst), (decide (2 ≤ pu r 0 1), bad 0), reserved r 1 3] ++ needListen s ++ [
    (gs.any (fun h => !s.enabled h), wrong 5), (gs.any (fun h => (s.cnvOf (chainOf h)).fenced), fenced 1)])
def applySbSyncReset (ref : CmdRef) (r : Request) (s : State) : State :=
  s.startSync (covered (flag r 0 0) (instOf r)) (some ref) false
def cmdSbSyncReset : CmdDef := ⟨0x0205, 4, false, checkSbSyncReset, applySbSyncReset⟩
/-- R217: the filters of a sub-band restart from empty history at a known sample. -/
def execSbSyncReset (dt : Nat) (r : Request) (s : State) : Host.Outcome State Fault Refusal :=
  .next ((s.advance dt).issue cmdSbSyncReset r)

/-- R214 to R216: a reset sample is reached. -/
def execSyncResetSample (dt g : Nat) (s : State) : Host.Outcome State Fault Refusal :=
  let s := s.advance dt
  .next (
    match (s.sbOf g).syncs with
    | [] => s
    | r :: rest =>
      if r.due ≤ s.window then
        let s := s.modSb g (fun x => { x with syncs := rest })
        let s := s.each r.members (fun s h => s.resetAt h r.due r.fresh)
        s.completeOpt r.cmd stOk 0 r.due
      else s)

/-! SB_DCB (R203 to R207). -/

def checkSbDcb (r : Request) (s : State) : Verdict :=
  let g := instOf r
  let gs := covered (flag r 0 2) g
  checks [(decide (128 ≤ g), badInst), (decide (8 ≤ pu r 0 1), bad 0), (outside 4 12 (pu r 1 1), bad 1), reserved r 2 2,
    (flag r 0 0 && flag r 0 1 && gs.any (fun h => !(s.sbSet h).dcbEn), combo)]

/-- SB_DCB on one sub-band (R206): an estimate that goes on is kept, and any other is zero (R204). The action output is the
first that has not been made. -/
def State.setDcb (s : State) (g : Nat) (en freeze : Bool) (k : Nat) : State :=
  let was := (s.sbSet g).dcbEn
  let frozen := en && freeze
  let s := s.modSbSet g (fun x => { x with dcbEn := en, dcbFrozen := frozen, dcbK := k })
  let s := if en && was then s else s.modSig g (fun x => { x with dcb := (0, 0) })
  if en && !was && s.enabled g && s.listening then
    let m := holding s.window (s.cfg g).d
    s.addTag g 1 m (some (m + 2 ^ k * (s.cfg g).d))
  else s

def applySbDcb (ref : CmdRef) (r : Request) (s : State) : State :=
  (s.each (covered (flag r 0 2) (instOf r)) (fun s h => s.setDcb h (flag r 0 0) (flag r 0 1) (pu r 1 1))).complete ref
    stOk 0 0
def cmdSbDcb : CmdDef := ⟨0x0206, 4, false, checkSbDcb, applySbDcb⟩
/-- R205, R206: the DC blocker is enabled, disabled, frozen or given another time constant. -/
def execSbDcb (dt : Nat) (r : Request) (s : State) : Host.Outcome State Fault Refusal :=
  .next ((s.advance dt).issue cmdSbDcb r)

/-! Values of the sub-band objects (R185, R186, R223). -/

/-- BW exceeds ρ_max × f_sb (R153, R154). -/
def SbConfig.specLimited (k : SbConfig) : Bool :=
  decide (1966080000 * (if k.dfUsed = 1 then 4 else 8) < 10 * (k.bw * k.d))

def sbStateValue (s : State) (g : Nat) : Nat :=
  let k := s.cfg g
  let x := s.sbOf g
  let df := if k.d = 0 then 0 else k.dfUsed
  let dc := if k.d = 0 then 0 else k.dcUsed
  packFields [(1, ofBool k.enable), (1, ofBool k.winB), (1, ofBool k.offFreq), (1, ofBool (k.d ≠ 0 && k.specLimited)),
    (1, ofBool (s.sigOf g).sat), (4, df), (10, dc), (9, k.l), (8, k.lTx), (1, ofBool x.shed), (11, 0), (16, x.latency)]
/-- The loads include fades in progress and disable ramps, and exclude shed sub-bands (R186, R195). -/
def chainBudgetValue (s : State) (c : Nat) : Nat :=
  let gs := (sbsOf c).filter (fun g => s.enabled g && !(s.sbOf g).shed)
  let load := fun (tx : Bool) (g : Nat) =>
    loadUnits ((s.cfg g).taps tx) (s.cfg g).d * (if s.fading g tx then 2 else 1)
  packFields [(19, (gs.map (load false)).sum), (18, (gs.map (load true)).sum), (12, (gs.map (fun g => (s.canOf g).nb)).sum / 128),
    (9, s.rxCap c), (6, 0)]
/-- Outputs that remain in the fades in progress; none before the first faded output (R223). -/
def State.fadeLeft (s : State) (g : Nat) : Nat :=
  let left := fun (f : Option Fade) => match f with
    | some f => if s.window < f.first then 0
      else min f.outputs ((f.first + f.outputs * (s.cfg g).d - s.window) / max 1 (s.cfg g).d)
    | none => 0
  max (left (s.sbOf g).fadeRx) (left (s.sbOf g).fadeTx)
def sbFilterValue (s : State) (g : Nat) : Nat :=
  let x := s.sbSet g
  let y := s.sbOf g
  packFields [(1, x.rxAct), (1, x.txAct), (2, ofBool x.rx0.loaded + 2 * ofBool x.rx1.loaded),
    (2, ofBool x.tx0.loaded + 2 * ofBool x.tx1.loaded), (1, ofBool (s.fading g false)), (1, ofBool (s.fading g true)),
    (1, ofBool x.dcbEn), (1, ofBool x.dcbFrozen), (4, x.dcbK), (2, s.tagNow g), (16, 0), (16, y.settle), (3, 0),
    (13, s.fadeLeft g)]

end Sys2Proof.Machine
end

