-- ==== Sys2Proof/Machine/Canceller.lean ====
section
/-!
DEFINITION. The coupling canceller's commands and events (06_coupling_canceller.md).
-/

namespace Sys2Proof.Machine

/-! CAN_CONFIGURE (R256, R257). -/

/-- The checks of CAN_CONFIGURE. A sub-band never configured has no D in force, and N_b of D = 0 bounds EXCL_FIRST there
[90]. -/
def checkCanConfigure (r : Request) (s : State) : Verdict :=
  let g := instOf r
  let en := flag r 0 0
  let gs := covered (flag r 0 2) g
  let mask := pu r 1 1
  let more := fun h => if en && s.enabled h && !(s.canSet h).enable then binsOf (s.cfg h).d else 0
  checks ([
    (decide (128 ≤ g), badInst), (decide (8 ≤ pu r 0 1), bad 0),
    (decide (16 ≤ mask) || (en && decide (mask = 0)), bad 1), (outside 2 12 (pu r 2 1), bad 2),
    (outside (pu r 2 1) 12 (pu r 3 1), bad 3), (outside 1 1000 (pu r 4 2), bad 4), (outside 40 130 (pu r 6 1), bad 6),
    reserved r 7 1, (gs.any (fun h => decide (binsOf (s.cfg h).d ≤ pu r 8 2)), bad 8), (decide (256 < pu r 10 2), bad 10),
    reserved r 12 4, (en && gs.any (fun h => (s.cfg h).offFreq), combo)] ++ needPll s ++ [
    (en && gs.any (fun h => (s.cnvOf (chainOf h)).fenced), fenced 1),
    (en && gs.any (fun h => (s.cnvOf (chainOf h)).canFenced), fenced 2),
    (gs.any (fun h => decide (65536 < s.binsWanted (chainOf h) + more h)), overBudget 3)])

/-- The bins of a sub-band are cleared on all its paths, and it enters acquisition (R252, R267). -/
def State.clearCan (s : State) (g : Nat) : State :=
  ((s.clearBins g).modCan g (fun x =>
    (x.mapPaths (fun _ p => { p with centre := none, scale := 0 })).acquire)).effLost g

/-- A sub-band muted for a map word restarts once its bins are reloaded (R253). A CAN_MAP_WRITE of some of its paths
counts as the reload [90]. -/
def State.mapReloaded (s : State) (g : Nat) : State :=
  let s := s.unmuteAt 40 g
  if (s.sbOf g).muteMap then
    let s := s.modSb g (fun x => { x with muteMap := false })
    if s.enabled g ∧ s.listening then s.restLoop g else s
  else s

/-- CAN_CONFIGURE on one sub-band. -/
def State.setCan (s : State) (g : Nat) (k : CanSet) (clear : Bool) : State :=
  let had := decide (0 < (s.canOf g).nb)
  let s := s.modCanSet g (fun x => { k with hostFreeze := x.hostFreeze })
  let s := s.syncBins g
  let has := decide (0 < (s.canOf g).nb)
  let s := if had && !has then s.effLost g else if clear && had && has then s.clearCan g else s
  if clear then s.mapReloaded g else s

def applyCanConfigure (ref : CmdRef) (r : Request) (s : State) : State :=
  let g := instOf r
  let gs := covered (flag r 0 2) g
  let k : CanSet := {
    enable := flag r 0 0, srcMask := BitVec.ofNat 4 (pu r 1 1), muAcq := pu r 2 1, muTrk := pu r 3 1, acqMs := pu r 4 2
    refFloor := pu r 6 1, exclFirst := pu r 8 2, exclCount := pu r 10 2 }
  let s := s.each gs (fun s h => s.setCan h k (flag r 0 1))
  (s.groupChanged g).complete ref stOk 0 0

def cmdCanConfigure : CmdDef := ⟨0x0301, 16, false, checkCanConfigure, applyCanConfigure⟩
/-- R256, R257: the canceller of a victim sub-band is set, enabled, disabled or cleared. -/
def execCanConfigure (dt : Nat) (r : Request) (s : State) : Host.Outcome State Fault Refusal :=
  .next ((s.advance dt).issue cmdCanConfigure r)

/-! CAN_FREEZE (R258). -/

def checkCanFreeze (r : Request) (_ : State) : Verdict :=
  let g := instOf r
  let limit := if flag r 0 1 && !flag r 0 2 then 8 else 128
  checks [(decide (limit ≤ g), badInst), (decide (16 ≤ pu r 0 1), bad 0), reserved r 1 3, (flag r 0 1 && flag r 0 2, combo)]
/-- No block of the sub-band has begun: its next block boundary is the start of block 0. With the canceller off a freeze or a
release holds at once, for the blocks after its enable: the model's choice [97]. -/
def State.beforeBlocks (s : State) (g : Nat) : Bool :=
  !(s.enabled g && s.listening) || decide (s.window ≤ (s.sbOf g).firstOut)
def applyCanFreeze (ref : CmdRef) (r : Request) (s : State) : State :=
  let g := instOf r
  let gs := if flag r 0 2 then allSbs
    else if flag r 0 1 then
      if flag r 0 3 then (let b := groupBase g; [b, b + 1, b + 2, b + 3]).flatMap sbsOf else sbsOf g
    else covered (flag r 0 3) g
  (s.each gs (fun s h =>
    let s := s.modCanSet h (fun x => { x with hostFreeze := flag r 0 0 })
    if s.beforeBlocks h || decide ((s.canOf h).nb = 0) then s.modCan h (fun x => { x with frozen := flag r 0 0 }) else s)).complete ref stOk 0 0
def cmdCanFreeze : CmdDef := ⟨0x0302, 4, false, checkCanFreeze, applyCanFreeze⟩
/-- R258: adaptation is frozen or released, at the next block boundary of each sub-band in scope. -/
def execCanFreeze (dt : Nat) (r : Request) (s : State) : Host.Outcome State Fault Refusal :=
  .next ((s.advance dt).issue cmdCanFreeze r)

/-! CAN_MAP_READ and CAN_MAP_WRITE (R259, R260). -/

/-- The paths of a SRC_MASK, ascending. -/
def pathsOf (mask : Nat) : List Nat := (List.range 4).filter (fun i => bit mask i)
/-- Bytes of one path in a map buffer. -/
def pathBytes (nb : Nat) : Nat := 16 + 8 * nb
/-- The checks that both map commands share, in the order of R538; a read has none but 0 in its CRC field. -/
def mapChecks (r : Request) (read : Bool) (s : State) : List (Bool × Verdict) :=
  let g := instOf r
  let mask := pu r 0 1
  let nb := (s.canOf g).nb
  [(decide (128 ≤ g), badInst), (decide (mask = 0) || decide (16 ≤ mask), bad 0), reserved r 1 3,
   (read && decide (pu r 4 4 ≠ 0), bad 4),
   (decide (pu r 8 8 % 8 ≠ 0) || (!byPcie r && decide (pu r 8 8 ≠ 0)), bad 8),
   (decide (0 < nb) && decide (pu r 16 4 ≠ (pathsOf mask).length * pathBytes nb), bad 16), reserved r 20 4,
   (decide (nb = 0), wrong 8)]

def checkCanMapRead (r : Request) (s : State) : Verdict := checks (mapChecks r true s)
def applyCanMapRead (ref : CmdRef) (r : Request) (s : State) : State :=
  let g := instOf r
  let ps := pathsOf (pu r 0 1)
  let m : MapRead := {
    cmd := ref, startedAt := s.now, paths := ps, addr := pu r 8 8
    data := if s.outputsRun g then none else some (s.pathsImage g ps) }
  s.modCan g (fun x => { x with reading := x.reading ++ [m] })
def cmdCanMapRead : CmdDef := ⟨0x0304, 24, false, checkCanMapRead, applyCanMapRead⟩
/-- R259: the bins of paths are copied to a host buffer, as they stand at the next partition boundary, or at once where the
sub-band has none. -/
def execCanMapRead (dt : Nat) (r : Request) (s : State) : Host.Outcome State Fault Refusal :=
  .next ((s.advance dt).issue cmdCanMapRead r)

/-- The block in progress is not used on these paths (R248, relocation and read). -/
def State.skipPresent (s : State) (g : Nat) (ps : List Nat) : State :=
  if s.midBlock g then
    s.each ps (fun s i => s.modCan g (fun x => x.setPath i { x.path i with skip := max 1 (x.path i).skip }))
  else s

/-- R259: a map read has finished its copy, which a partition boundary has begun where the sub-band has any. The 2 ms bound
the time of this event, which the one who sends it keeps [97]. -/
def execMapReadEnd (dt g : Nat) (s : State) : Host.Outcome State Fault Refusal :=
  let s := s.advance dt
  .next (
    match (s.canOf g).reading with
    | [] => s
    | m :: rest =>
      if m.data.isNone ∧ s.outputsRun g then s else
      let data := m.data.getD (s.pathsImage g m.paths)
      let s := (s.modCan g (fun x => { x with reading := rest })).skipPresent g m.paths
      (s.giveData m.cmd m.addr data).complete m.cmd stOk 0 (crc32c data))

/-- The codes of one path in a write buffer. -/
def pathCodes (bs : List Byte) (off nb : Nat) : List (Int × Int) := tapsIn (bs.drop (off + 16)) nb
/-- The offsets of the paths in a write buffer. -/
def pathOffsets (r : Request) (nb : Nat) : List Nat := (List.range (pathsOf (pu r 0 1)).length).map (fun n => n * pathBytes nb)

def checkCanMapWrite (r : Request) (s : State) : Verdict :=
  let g := instOf r
  let bs := bufOf r
  let nb := (s.canOf g).nb
  let offs := pathOffsets r nb
  checks (mapChecks r false s ++ [
    (r.buf.isNone, unread), (decide (crc32c (bs.take (pu r 16 4)) ≠ pu r 4 4), .fail stIntegrity 1),
    (offs.any (fun o => decide (byteAt bs o / 4 ≠ chainOf g) || decide (leAt bs (o + 2) 2 ≠ (s.cfg g).d) ||
      decide (leAt bs (o + 4) 4 ≠ nb)), badContent),
    (offs.any (fun o => decide (7 < byteAt bs (o + 1)) || (pathCodes bs o nb).any (fun v =>
      outside (-524287) 524287 v.1 || outside (-524287) 524287 v.2)), badContent)])

/-- One path of a write buffer is written, and meets the centre test of R250. It is the path of the header, which R260 ties
to the victim chain and not to SRC_MASK [97]. A write empties the window of the last 16 measurement blocks of R254, and a clear
of the bins does not: the model's choice [97]. -/
def State.writePath (s : State) (g : Nat) (bs : List Byte) (o : Nat) : State :=
  let i := byteAt bs o % 4
  let centre := (BitVec.ofNat 32 (leAt bs (o + 8) 4), leSigned bs (o + 12) 4)
  let nb := (s.canOf g).nb
  let s := s.clearPath g i
  let s := { s with map := Table.setRange (0, 0) s.map (mapKey g i) (pathCodes bs o nb) }
  let s := s.modCan g (fun x => { x.setPath i { x.path i with scale := byteAt bs (o + 1), centre := some centre } with
    mode := 2, converged := false, history := [], powers := [], spectra := [] })
  let t := (s.renewSet g i).recentre g i
  if ((t.canOf g).path i).centre.isNone then t.effLost g else t

def applyCanMapWrite (ref : CmdRef) (r : Request) (s : State) : State :=
  let g := instOf r
  let s := s.each (pathOffsets r (s.canOf g).nb) (fun s o => s.writePath g (bufOf r) o)
  (s.mapReloaded g).complete ref stOk 0 0
def cmdCanMapWrite : CmdDef := ⟨0x0305, 24, false, checkCanMapWrite, applyCanMapWrite⟩
/-- R259, R260: the bins of paths are written from a host buffer. -/
def execCanMapWrite (dt : Nat) (r : Request) (s : State) : Host.Outcome State Fault Refusal :=
  .next ((s.advance dt).issue cmdCanMapWrite r)

/-! Blocks (R242 to R249, R254, R255). -/

/-- The largest SCALE from a present one, for codes of largest magnitude `m` (R227): found from 7 downward. -/
def scaleFor (m old : Nat) : Nat → Nat
  | 0 => 0
  | n + 1 => if m * 2 ^ (n + 1) ≤ 262143 * 2 ^ old then n + 1 else scaleFor m old n
/-- A code at another SCALE, rounded to nearest; a tie, which the rule leaves open, is a free choice [7]. -/
def rescale (v : Int) (old new : Nat) : Int :=
  roundQ (v * (2 ^ new : Nat)) ((2 ^ old : Nat) : Int) (Config.roundsUp v new)

/-- mu_eff = 2^−LOG2_MU × D/D' (R243): the step of acquisition or of tracking. -/
def State.muEff (s : State) (g : Nat) : Rat :=
  let k := s.canSet g
  let d := (s.cfg g).d
  (d : Rat) / ((2 ^ Nat.log2 d * 2 ^ (if (s.canOf g).mode = 1 then k.muAcq else k.muTrk) : Nat) : Rat)
/-- The number of the first output of the present block (R242), and the references of a source that a block with its
predecessor convolves, delayed by d_p. -/
def State.blockOutput (s : State) (g : Nat) : Nat :=
  (s.sbOf g).firstOut / max 1 (s.cfg g).d + (s.canOf g).block * (s.canOf g).nb
def State.blockRefs (s : State) (g i : Nat) : List Cx :=
  let src := (groupBase (chainOf g) + i) * 16 + localOf g
  let x := s.sigOf src
  let nb := (s.canOf g).nb
  let p := (s.canOf g).path i
  (List.range (2 * nb)).map (fun n => Cx.scale (s.txNetAt src s.window)
    (x.refAt p.since ((s.blockOutput g : Int) - nb - p.delay + n)).toCx)
/-- The residual of the present block, in window words. -/
def State.blockResidual (s : State) (g : Nat) : List Cx :=
  let x := s.sigOf g
  (outputsOf (0, 0) x.resid x.output (s.blockOutput g) (s.canOf g).nb).map (fun v =>
    Cx.scale (1 / s.rxNetAt g s.window) (Iq.toCx v))
/-- The mask of R244: 0 in a bin of the 2 × nb points where the summed density of the used references lies below
REF_FLOOR dBFS/MHz, compared exactly. A bin is f_sb/(2 × nb) wide, and 0 dBFS is 32,752. -/
def State.refMask (s : State) (g : Nat) (power : Rat) : Rat :=
  let n : Rat := (2 * (s.canOf g).nb : Nat)
  let level := power / (n * n * 32752 * 32752)
  let width : Rat := (196608 : Rat) / 100 / ((max 1 (s.cfg g).d : Nat) * n)
  if atLeastMinusDb level width (s.canSet g).refFloor then 1 else 0
/-- The constrained gradient of R242 for one path: `x` its transform, `e` the residual's, `pw` the joint powers; what lies
past the span and the excluded taps are zero (R245). -/
def State.gradient (s : State) (g : Nat) (x e : List Cx) (pw : List (Rat × Rat)) : List Cx :=
  let k := s.canSet g
  let prod := List.zipWith Cx.times (x.map Cx.conj) e
  let step := List.zipWith (fun (v : Cx) (p : Rat × Rat) => Cx.scale (p.2 / p.1) v) prod pw
  (((ifft step).take (s.canOf g).nb).zipIdx).map (fun q =>
    if k.exclFirst ≤ q.2 ∧ q.2 < k.exclFirst + k.exclCount then (0, 0) else q.1)
/-- The change of the bins of one used path, before its rounding (R242 to R245). -/
def State.update (s : State) (g : Nat) (used : List Nat) (i : Nat) : List Cx :=
  let nb := (s.canOf g).nb
  let e := fft (List.replicate nb (0, 0) ++ s.blockResidual g)
  let xs := used.map (fun n => fft (s.blockRefs g n))
  let pw := (List.range (2 * nb)).map (fun n =>
    let p := (xs.map (fun x => Cx.power (x.getD n (0, 0)))).sum
    (p + Config.delta s.draws, s.refMask g p))
  (binsFrom (s.gradient g (fft (s.blockRefs g i)) e pw)).map (Cx.scale (s.muEff g))
/-- The codes of a path after an update, at its present SCALE (R226, R227). -/
def updatedCodes (old : List Iq) (change : List Cx) (scale : Nat) : List Iq :=
  List.zipWith (fun (v : Iq) (d : Cx) =>
    let w := Iq.ofCx (v.toCx + Cx.scale ((2 ^ (17 + scale) : Nat) : Rat) d)
    (clampInt (-524287) 524287 w.1, clampInt (-524287) 524287 w.2)) old change
/-- One path takes its new codes, saturated, at the largest SCALE that R227 allows; they take effect at the first
partition boundary at least 64 outputs later (R238). -/
def State.adaptPath (s : State) (g i : Nat) (change : List Cx) : State :=
  let x := s.canOf g
  let p := x.path i
  let key := mapKey g i
  let new := updatedCodes (Table.range (0, 0) s.map key x.nb) change p.scale
  let big := new.foldl (fun a v => max a (max v.1.natAbs v.2.natAbs)) 0
  let sc := scaleFor big p.scale 7
  let new := new.map (fun v => (clampInt (-524287) 524287 (rescale v.1 p.scale sc),
    clampInt (-524287) 524287 (rescale v.2 p.scale sc)))
  (({ s with map := Table.setRange (0, 0) s.map key new }).modCan g (fun x =>
    x.setPath i { p with
      scale := sc, centre := some (s.centreOf g), held := some (p.waits.getD 0, Table.range (0, 0) s.map key x.nb, p.scale) })).renewFrom g i (s.blockOutput g + x.nb + 64)

/-- The first window sample of the present block, and its length in window samples. -/
def State.blockStart (s : State) (g : Nat) : Nat :=
  (s.sbOf g).firstOut + (s.canOf g).block * (s.canOf g).nb * (s.cfg g).d
def State.blockLength (s : State) (g : Nat) : Nat := (s.canOf g).nb * (s.cfg g).d

/-- Overrange stops the block that started at a window sample, on blocks of a length (R117, R248). -/
def State.overranged (s : State) (g start len : Nat) : Bool :=
  let x := s.cnvOf (chainOf g)
  x.ovrActive ||
    (match x.cleanAt, s.divStart with
     | some t, some d => decide (d + start < t + 4 * len)
     | _, _ => false)

/-- The CHANGE row on a path: its own count, a fade of the source's TX bank, a relocation or a read (R248). -/
def State.pathChange (s : State) (g i : Nat) : Bool :=
  let x := s.canOf g
  let src := (groupBase (chainOf g) + i) * 16 + localOf g
  let begun := fun (f : Option Fade) => f.any (fun f => decide (f.first < s.window))
  decide (0 < (x.path i).skip) || begun (s.sbOf src).fadeTx || begun (s.sbOf g).fadeRx
/-- Relocation and reads. -/
def State.pathCopied (s : State) (g i : Nat) : Bool :=
  let x := s.canOf g
  x.moving.isSome || x.reading.any (fun m => m.paths.contains i)

/-- A victim output of the block carries a tag other than 00 (R248, TAG row). -/
def State.blockTagged (s : State) (g : Nat) : Bool :=
  let x := s.sigOf g
  (outputsOf 0 x.tags x.output (s.blockOutput g) (s.canOf g).nb).any (fun t => decide (t ≠ 0))
/-- The source's gate was closed or ramping, or the source muted or shed (R43), at a reference sample of the block or of the span before
it (R28, R248, GATE row). -/
def State.pathShut (s : State) (g i : Nat) : Bool :=
  let src := (groupBase (chainOf g) + i) * 16 + localOf g
  let x := s.sigOf src
  let nb := (s.canOf g).nb
  (s.sbOf src).shed ||
    (outputsOf false x.shuts x.output ((s.blockOutput g : Int) - nb - ((s.canOf g).path i).delay) (2 * nb)).any id

/-- The mean power of a list of samples within the passband: the bins of R228 within BW/2 of the centre (R254). -/
def State.passband (s : State) (g : Nat) (xs : List Cx) : Rat :=
  let nb := xs.length
  ((binsFrom xs).zipIdx.map (fun e =>
    if 2 * ((e.2 : Int) - (nb / 2 : Nat)).natAbs * 1966080000 ≤ (s.cfg g).bw * ((s.cfg g).d * nb) then Cx.power e.1 else 0)).sum / (max 1 (nb * nb) : Nat)
/-- The passband powers of a block: the mean of the active sources' references, and the estimate, which is what stage 5
has subtracted; in words of the windows (R254). -/
def State.blockPowers (s : State) (g : Nat) (act : List Nat) : Rat × Rat :=
  let x := s.sigOf g
  let nb := (s.canOf g).nb
  let est := (outputsOf (0, 0) (List.zipWith (fun (u r : Iq) => u - r) x.before x.resid) x.output (s.blockOutput g) nb).map
    (fun v => Cx.scale (1 / s.rxNetAt g s.window) (Iq.toCx v))
  let refs := act.map (fun i => s.passband g ((s.blockRefs g i).drop nb))
  (refs.sum / (max 1 act.length : Nat), s.passband g est)
/-- The residual of the block exceeds the power before subtraction by more than 3 dB (R255). -/
def State.blockWorse (s : State) (g : Nat) : Bool :=
  let x := s.sigOf g
  let sum := fun (h : List Iq) =>
    ((outputsOf (0, 0) h x.output (s.blockOutput g) (s.canOf g).nb).map Iq.power).sum
  moreThanDb (sum x.resid : Rat) (sum x.before : Rat) 3
/-- COUPLING_DB in 0.1 dB from the powers of the last 16 measurement blocks (R254). -/
def couplingOf (powers : List (Rat × Rat)) : Int := ratioDb (powers.map Prod.fst).sum (powers.map Prod.snd).sum 1
/-- ACHIEVED_DB in 0.1 dB from those powers and P_res, or its confidence floor (R254, R261). -/
def achievedOf (powers : List (Rat × Rat)) (spectra : List Spectra) : Nat :=
  (clampInt 0 1023 (ratioDb ((powers.map Prod.snd).sum / (max 1 powers.length : Nat)) (powerR spectra).1 1)).toNat

/-- What a measurement block leaves: the figures, CONVERGED, and the divergence run (R254, R255). CONVERGED moves the mode
to tracking whether or not a freeze of the host held adaptation [90]. -/
def Can.measured (x : Can) (powers : Rat × Rat) (spectra : Spectra) (worse : Bool) : Can :=
  let pws := (powers :: x.powers).take 16
  let sps := (spectra :: x.spectra).take 16
  let a := achievedOf pws sps
  let hist := (a :: x.history).take 32
  let steady := decide (hist.length = 32) && hist.all (fun p => hist.all (fun q => decide (p < q + 10)))
  let fell := (hist.take 16).any (fun p => decide (a + 60 < p))
  let conv := if fell then false else x.converged || (decide (100 ≤ a) && steady)
  { x with
    achieved := a, coupling := clampInt (-1024) 1023 (couplingOf pws), powers := pws, spectra := sps, measFloor := (powerR sps).2
    history := hist
    converged := conv, mode := if conv && !x.converged && x.mode = 1 then 2 else x.mode
    divRun := if worse then x.divRun + 1 else 0 }

/-- R242 to R249, R254, R255: the last output of a block of a victim sub-band has been made. -/
def execCancellerBlockEnd (dt g : Nat) (_m : Measured) (s : State) : Host.Outcome State Fault Refusal :=
  let s := s.advance dt
  let x := s.canOf g
  let start := s.blockStart g
  let len := s.blockLength g
  .next (
    if g < 128 ∧ 0 < x.nb ∧ s.outputsRun g ∧ start + len < s.window + (s.cfg g).d then
      let ovr := s.overranged g start len
      let tagged := s.blockTagged g
      let act := (List.range 4).filter (fun i => (x.path i).active)
      let measuring := act.filter (fun i => !ovr && !tagged && !s.pathShut g i && !s.pathChange g i && !s.pathCopied g i)
      let used := measuring.filter (fun _ => !x.frozen)
      let causes := 16 * ofBool x.frozen + 8 * ofBool ovr + 4 * ofBool (act.any (fun i => s.pathShut g i)) +
        2 * ofBool (act.any (fun i => s.pathChange g i || s.pathCopied g i)) + ofBool tagged
      let powers := s.blockPowers g act
      let spectra := s.blockSpectra g x.nb (s.blockOutput g) (act.map (fun i => (i, (x.path i).delay)))
      let worse := s.blockWorse g
      let t := (used.map (fun i => (i, s.update g used i))).foldl (fun t e => t.adaptPath g e.1 e.2) s
      let s := t.modCan g (fun y =>
        let y := if measuring = [] then y else y.measured powers spectra worse
        let y := y.mapPaths (fun _ p => { p with skip := p.skip - 1 })
        { y with
          frz := BitVec.ofNat 5 causes
          acqTime := if used = [] ∨ y.mode ≠ 1 then y.acqTime else y.acqTime + len
          frozen := (s.canSet g).hostFreeze, block := y.block + 1 })
      if (s.canOf g).divRun = 4 then
        let s := s.clearCan g
        (s.modCan g (fun y => { y with diverge := satUp 0xFF y.diverge })).raise 16 g 0
      else s
    else s)

/-- R243, R249: ACQ_MS of adapting time has passed. -/
def execAcqMsExpiry (dt g : Nat) (s : State) : Host.Outcome State Fault Refusal :=
  let s := s.advance dt
  let x := s.canOf g
  .next (
    if x.mode = 1 ∧ (s.canSet g).acqMs * perMs ≤ x.acqTime then s.modCan g (fun y => { y with mode := 2 }) else s)

/-- A fade that touches a path is in progress (R251). -/
def State.pathFades (s : State) (g i : Nat) : Bool := s.fading ((groupBase (chainOf g) + i) * 16 + localOf g) true || s.fading g false
/-- A path takes the map values that wait for it, once the output from which they may act has come. While an update waits, what
the map held before it is taken as it comes due; in between, and with none that wait, the set in force follows a fade (R238,
R251). -/
def State.takeDue (s : State) (g i : Nat) : State :=
  let p := (s.canOf g).path i
  let n := s.outputNow g
  match p.waits, p.held with
  | some k, some (m, codes, scale) =>
    if k ≤ n then s.takeSet g i
    else if m ≤ n ∧ (0 < m ∨ s.pathFades g i) then s.takeHeld g i codes scale
    else s
  | some k, none => if k ≤ n then s.takeSet g i else s
  | none, _ => if s.pathFades g i then s.takeSet g i else s
/-- R233, R237, R238: a partition begins, and its first output has not been made: head and tail take the new values together;
bins whose copy is complete are used at their new place. Below LISTEN no partition begins, and a move that completes there
is taken up at the first one in LISTEN [97]. -/
def execPartitionBoundary (dt g : Nat) (s : State) : Host.Outcome State Fault Refusal :=
  let s := s.advance dt
  let n := s.outputNow g
  .next (
    if g < 128 ∧ 0 < (s.canOf g).nb ∧ s.outputsRun g ∧ s.window = n * (s.cfg g).d ∧ s.partitionFrom g n = n then
      let s := (s.modCan g (fun y => { y with base := y.copied.getD y.base, copied := none })).copyReads g
      (List.range 4).foldl (fun s i => s.takeDue g i) s
    else s)

/-- R233: a relocated sub-band's copy is complete; the new place is used from the next partition boundary on. -/
def execMapMoveEnd (dt g : Nat) (s : State) : Host.Outcome State Fault Refusal :=
  let s := s.advance dt
  .next (
    match (s.canOf g).moving with
    | some (b, _) => (s.modCan g (fun x => { x with copied := some b, moving := none })).skipPresent g [0, 1, 2, 3]
    | none => s)

/-- R572 (CAN.MOVE): a relocation has not completed within 1 ms. -/
def execCanMove (dt g : Nat) (s : State) : Host.Outcome State Fault Refusal :=
  let s := s.advance dt
  .next (
    match (s.canOf g).moving with
    | some (b, t) =>
      if t + perMs ≤ s.now then
        ((s.modCan g (fun x => { x with base := b, moving := none })).clearCan g).raise 17 g 0
      else s
    | none => s)

/-- CAN_STATE (R261). -/
def canStateValue (s : State) (g : Nat) : Nat :=
  let x := s.canOf g
  let act := (List.range 4).foldl (fun a i => a + if (x.path i).active then 2 ^ i else 0) 0
  packFields [(1, ofBool (0 < x.nb)), (1, ofBool x.converged), (2, x.mode), (5, x.frz.toNat), (4, act),
    (4, Nat.log2 x.nb), (9, x.base / 128), (10, x.achieved), (11, bitsOf 11 x.coupling), (1, ofBool x.measFloor),
    (8, x.diverge), (1, ofBool (s.cnvOf (chainOf g)).canFenced), (7, 0)]

end Sys2Proof.Machine
end

