-- ==== Sys2Proof/Machine/Governor.lean ====
section
/-!
DEFINITION. The stability governor's commands and events (07_stability_governor.md).
-/

namespace Sys2Proof.Machine

/-! GOV_CONFIGURE (R294). -/

def govOfRequest (r : Request) : GovSet :=
  { groupTie := flag r 0 1, useStored := flag r 0 2, probeAuto := flag r 0 3, clampDb := pu r 1 1, margin := pu r 2 2
    isoInit := ps r 4 2, offCeil := ps r 6 2, holdoffS := pu r 8 2, restartStep := pu r 10 1, maxFail := pu r 11 1
    clampHoldMs := pu r 12 2, extInitNs := pu r 14 2, oscFloor := pu r 16 1, acThr := pu r 17 1, acContrast := pu r 18 1
    achMax := pu r 19 1 }
def checkGovConfigure (r : Request) (_ : State) : Verdict :=
  let k := govOfRequest r
  checks [
    (decide (128 ≤ instOf r), badInst), (decide (16 ≤ pu r 0 1), bad 0), (outside 10 40 k.clampDb, bad 1),
    (outside 60 300 k.margin, bad 2), (outside (-400) 1000 k.isoInit, bad 4), (outside (-400) 500 k.offCeil, bad 6),
    (outside 1 3600 k.holdoffS, bad 8), (outside 1 20 k.restartStep, bad 10), (outside 1 15 k.maxFail, bad 11),
    (outside 1 10000 k.clampHoldMs, bad 12), (outside 0 33000 k.extInitNs, bad 14), (outside 20 80 k.oscFloor, bad 16),
    (outside 50 99 k.acThr, bad 17), (outside 10 90 k.acContrast, bad 18), (outside 0 60 k.achMax, bad 19), reserved r 20 4]
def applyGovConfigure (ref : CmdRef) (r : Request) (s : State) : State :=
  let gs := covered (flag r 0 0) (instOf r)
  let s := s.each gs (fun s g => { s with set := { s.set with gov := Table.set {} s.set.gov g (govOfRequest r) } })
  (s.each gs (fun s g => if s.listening ∧ s.enabled g ∧ (s.cfg g).offFreq then s.ceiling g 0 else s)).complete ref stOk 0 0
def cmdGovConfigure : CmdDef := ⟨0x0310, 24, false, checkGovConfigure, applyGovConfigure⟩
/-- R274, R294: margin, clamp, restart and detector settings; they act from the governor's next update, which for the
ceiling of an off-frequency sub-band is at once. -/
def execGovConfigure (dt : Nat) (r : Request) (s : State) : Host.Outcome State Fault Refusal :=
  .next ((s.advance dt).issue cmdGovConfigure r)

/-! GOV_RESTART (R288, R291, R295). -/

def checkGovRestart (r : Request) (s : State) : Verdict :=
  checks ([(decide (128 ≤ instOf r), badInst), (decide (8 ≤ pu r 0 1), bad 0), reserved r 1 3] ++ needPll s)

/-- A hold-off or latch ends: the latch leaves the store, and the restart takes place or waits (R288, R291). On a sub-band
in neither, a mute of the collector from a forced NET.OSC ends, as no hold-off of its own ends it (R578, R594) [97]. -/
def State.endLatch (s : State) (g : Nat) : State :=
  if 2 ≤ (s.govOf g).state then
    let s := s.each (s.tied g) (fun s h =>
      ({ s with store := { s.store with latch := Table.set false s.store.latch h false } } : State).repaired (131 + h))
    let s := s.restart g
    s.each (s.tied g) (fun s h => s.modGov h (fun x => { x with state := min 2 x.state }))
  else s.unmute (fun m => m.bit == 22 && (s.tied g).contains m.addr)

def applyGovRestart (ref : CmdRef) (r : Request) (s : State) : State :=
  let gs := covered (flag r 0 0) (instOf r)
  let s := s.each gs State.endLatch
  let ts := (gs.flatMap s.tied).dedup
  let s := s.each ts (fun s h => s.modGov h (fun x => { x with
    cap := if flag r 0 1 then none else x.cap
    fails := if flag r 0 2 then [] else x.fails }))
  let s := s.each ts (fun s h => if s.listening ∧ s.enabled h then s.ceiling h 0 else s)
  s.complete ref stOk 0 0
def cmdGovRestart : CmdDef := ⟨0x0311, 4, false, checkGovRestart, applyGovRestart⟩
/-- R295: ends a hold-off or a latch, and may clear the cap and the failure history. -/
def execGovRestart (dt : Nat) (r : Request) (s : State) : Host.Outcome State Fault Refusal :=
  .next ((s.advance dt).issue cmdGovRestart r)

/-! Blocks (R263 to R270). -/

/-- The first output of the present governor block of a sub-band: blocks of N_g outputs, counted from the first output
after enable (R264, R265). -/
def State.govOutput (s : State) (g : Nat) : Nat :=
  (s.sbOf g).firstOut / max 1 (s.cfg g).d + (s.govOf g).block * binsOf (s.cfg g).d
/-- The sources correlated with a victim (R264), as places in its MIMO group, with the alignment delay of each: that of R225,
kept from the activation of its path. -/
def State.govSources (s : State) (g : Nat) : List (Nat × Nat) :=
  ((List.range 4).filter (fun i => s.correlates g i)).map (fun i =>
    let p := (s.canOf g).path i
    (i, if p.active then p.delay else s.alignDelay g ((groupBase (chainOf g) + i) * 16 + localOf g)))
/-- The CHANGE row of R248 on a source of a governor block, without relocations and reads (R265). -/
def State.govChange (s : State) (g i : Nat) : Bool :=
  let begun := fun (f : Option Fade) => f.any (fun f => decide (f.first < s.window))
  decide (0 < Table.get 0 (s.govOf g).skips i) || begun (s.sbOf ((groupBase (chainOf g) + i) * 16 + localOf g)).fadeTx ||
    begun (s.sbOf g).fadeRx
/-- What a governor block takes of a source's history `hist`, newest first: its block and the one before, delayed (R264). -/
def State.govSpan {α : Type} (s : State) (g : Nat) (d : α) (e : Nat × Nat) (hist : Sig → List α) : List α :=
  let x := s.sigOf ((groupBase (chainOf g) + e.1) * 16 + localOf g)
  let nb := binsOf (s.cfg g).d
  outputsOf d (hist x) x.output ((s.govOutput g : Int) - nb - e.2) (2 * nb)
/-- The conditions of R248 on a governor block, without those that R265 leaves out, for every source correlated: no tag but
00, no overrange, no source gated, muted or shed, no change; and some reference that is not zero [90]. -/
def State.govUsed (s : State) (g : Nat) : Bool :=
  let nb := binsOf (s.cfg g).d
  let d := (s.cfg g).d
  let first := s.govOutput g
  let x := s.sigOf g
  let srcs := s.govSources g
  !s.overranged g (first * d) (nb * d) &&
    !(outputsOf 0 x.tags x.output first nb).any (fun t => decide (t ≠ 0)) &&
    srcs.all (fun e => !(s.sbOf ((groupBase (chainOf g) + e.1) * 16 + localOf g)).shed && !s.govChange g e.1 && !(s.govSpan g false e Sig.shuts).any id) &&
    srcs.any (fun e => ((s.govSpan g (0, 0) e Sig.refs).drop nb).any (fun v => decide (v ≠ (0, 0))))
/-- The mean passband power of the references of a governor block, over the sources correlated, in window words (R263). -/
def State.govRefs (s : State) (g : Nat) : Rat :=
  let srcs := s.govSources g
  (srcs.map (fun e =>
    let src := (groupBase (chainOf g) + e.1) * 16 + localOf g
    s.passband g (((s.govSpan g (0, 0) e Sig.refs).drop (binsOf (s.cfg g).d)).map (fun v =>
      Cx.scale (s.txNetAt src s.window) (Iq.toCx v))))).sum / (max 1 srcs.length : Nat)
/-- What the block gives to P_u and P_r. -/
def State.govSpectra (s : State) (g : Nat) : Spectra := s.blockSpectra g (binsOf (s.cfg g).d) (s.govOutput g) (s.govSources g)
/-- PHYS is kept with the sub-band's centre (R268). -/
def State.keepPhys (s : State) (g : Nat) : State :=
  s.modGov g (fun x => { x with lastPhys := some (tenth x.phys, (s.centreOf g).1, (s.centreOf g).2) })
/-- A result on a sub-band that is measured: PHYS is kept, and EFF enters the statistics (R268, R293, R610). -/
def State.govCounted (s : State) (g : Nat) : State :=
  if (s.govOf g).measured then (s.keepPhys g).count g 3 (of10k (s.govOf g).eff) else s
/-- A used block's measurement on a sub-band, from the power of its references and its spectra: into the probe that runs, or
into PHYS, EFF and EXT, of which the first result since MEASURED was cleared has 16 used blocks (R263, R266, R278, R280). -/
def State.govMeasure (s : State) (g : Nat) (ref : Rat) (sp : Spectra) : State :=
  let s := s.modGov g (fun x => { x with
    refPowers := (ref :: x.refPowers).take 16, spectra := (sp :: x.spectra).take 16 })
  match (s.govOf g).probe with
  | some p =>
    s.modGov g (fun x => { x with probe := some { p with
      used := p.used + 1, powers := ref :: p.powers, spectra := sp :: p.spectra } })
  | none =>
    let q := s.govResult g (s.govOf g).refPowers (s.govOf g).spectra (s.cancelsNot g)
    let s := s.modGov g (fun x =>
      let n := min 16 (x.used + 1)
      if x.measured || n = 16 then
        { x with
          used := n, phys := q.phys, eff := q.eff, floor := q.floor, measured := true, ext := some q.ext
          floorSince := if q.floor then some (x.floorSince.getD s.now) else none }
      else { x with used := n })
    s.govCounted g

/-- R263 to R272: the last output of a governor block of an on-frequency sub-band has been made; the ceiling follows a used
one. -/
def execGovernorBlockEnd (dt g : Nat) (_m : Measured) (s : State) : Host.Outcome State Fault Refusal :=
  let s := s.advance dt
  .next (
    if g < 128 ∧ s.outputsRun g ∧ !(s.cfg g).offFreq ∧
        (s.govOutput g + binsOf (s.cfg g).d) * (s.cfg g).d < s.window + (s.cfg g).d then
      let used := s.govUsed g
      let ref := s.govRefs g
      let sp := s.govSpectra g
      let s := s.modGov g (fun x => { x with block := x.block + 1, skips := Table.modify 0 (Table.modify 0 (Table.modify 0
        (Table.modify 0 x.skips 0 (· - 1)) 1 (· - 1)) 2 (· - 1)) 3 (· - 1) })
      if used then (s.govMeasure g ref sp).ceiling g 1875 else s
    else s)

/-! Oscillation (R284 to R293). -/

/-- Ten seconds (R287) and 3,600 s (R289, R290). -/
def tenSeconds : Time := 10 * perSecond
def failWindow : Time := 3600 * perSecond

/-- The third trip within 10 s: mute, hold-off or latch, for every tied sub-band; a restart cap in force takes its new value,
and the ceiling follows at once (R270, R274, R287, R288, R290, R293). With GROUP_TIE = 1 each chain's G_osc is the gain that it
applied at the first trip itself, also where it was disabled or applied zero: the model's choice, since R287 does not say whose
gain a group's G_osc is [97]. What the detectors of a muted sub-band have gathered, or found and not yet told, is dropped: they do
not run there (R284). -/
def State.oscMute (s : State) (g : Nat) : State :=
  let k := s.govSet g
  let fails := s.now :: ((s.govOf g).fails.filter (fun t => decide (s.now ≤ t + failWindow)))
  let latch := decide (k.maxFail ≤ fails.length)
  let s := s.each (s.tied g) (fun s h =>
    let first := ((s.govOf h).trips.getLast?.map Prod.snd).getD (s.appliedGain h)
    let cap := first - ((s.govSet h).restartStep * 10000 : Nat)
    s.modGov h (fun x => { x with
      state := if latch then 3 else 2, fails := fails, trips := [], clamp := none, gOsc := first
      holdoff := if latch then none else some (s.now + k.holdoffS * perSecond), restartWaits := false
      lastMute := s.seconds, cap := x.cap.map (fun _ => cap), capRepeat := 0 }))
  let gain := (s.govOf g).gOsc
  let s := s.each (s.tied g) (fun s h =>
    (if s.listening ∧ s.enabled h then s.ceiling h 0 else s).modSig h (fun x => { x with detect := {} }))
  let s := s.govNote 1 g gain
  let s := if latch then
      (s.each (s.tied g) (fun s h =>
        ({ s with store := { s.store with latch := Table.set false s.store.latch h true } } : State).repaired (131 + h))).govNote 3 g gain
    else s
  s.raise 22 g (if latch then 2 else 1)

/-- R281 to R287: a detector has tripped on an enabled sub-band that is not muted; the detectors go on with what they have
gathered (R284). -/
def execOscillationTrip (dt g : Nat) (s : State) : Host.Outcome State Fault Refusal :=
  let s := s.advance dt
  .next (
    if g < 128 ∧ s.listening ∧ s.enabled g ∧ !s.muted g ∧ (s.sigOf g).detect.tripped then
      let s := s.modSig g (fun x => { x with detect := { x.detect with tripped := false } })
      let s := s.each (s.tied g) (fun s h =>
        let a := s.appliedGain h
        s.modGov h (fun x => { x with
          trips := (s.now, a) :: x.trips.filter (fun t => decide (s.now ≤ t.1 + tenSeconds))
          capRepeat := 0, capFrom := x.capFrom.map (fun _ => s.now) }))
      if 3 ≤ (s.govOf g).trips.length then s.oscMute g
      else
        let s := s.each (s.tied g) (fun s h =>
          let c := s.appliedGain h - ((s.govSet h).clampDb * 10000 : Nat)
          s.modGov h (fun x => { x with state := 1, clamp := some (c, s.now + (s.govSet h).clampHoldMs * perMs) }))
        s.govNote 0 g (((s.govOf g).clamp.map Prod.fst).getD 0)
    else s)

/-- R285: CLAMP_HOLD_MS has passed. -/
def execClampHoldEnd (dt g : Nat) (s : State) : Host.Outcome State Fault Refusal :=
  let s := s.advance dt
  let ended : Bool := match (s.govOf g).clamp with
    | some (_, t) => decide (t ≤ s.now)
    | none => false
  .next (
    if ended then s.modGov g (fun x => { x with clamp := none, state := if x.state = 1 then 0 else x.state }) else s)

/-- R25, R288: the hold-off, which firmware times, has ended; the sub-band restarts under a restart cap, at once or when it can. -/
def execHoldoffEnd (dt g : Nat) (s : State) : Host.Outcome State Fault Refusal :=
  let s := s.advance dt
  let ended : Bool := match (s.govOf g).holdoff with
    | some t => decide (t ≤ s.now)
    | none => false
  .next (if (s.govOf g).state = 2 ∧ ended ∧ s.firmwareRuns then s.restart g else s)

/-- R289: 3,600 s of REPEAT have passed without a trip. How C then rises R289 does not say: by the steps of R270, the model's
choice [97]. -/
def execRestartCapRemoval (dt g : Nat) (s : State) : Host.Outcome State Fault Refusal :=
  let s := s.advance dt
  let x := s.govOf g
  let counted := x.capRepeat + (match x.capFrom with
    | some t => s.now - t
    | none => 0)
  .next (
    if x.cap.isSome ∧ failWindow ≤ counted then
      let s := s.modGov g (fun x => { x with cap := none, capRepeat := 0, capFrom := none })
      if s.listening ∧ s.enabled g then s.ceiling g 0 else s
    else s)

/-! CAN_PROBE (R275 to R279, R296, R297). -/

def checkCanProbe (r : Request) (s : State) : Verdict :=
  let g := instOf r
  let start := flag r 0 0
  let gs := covered (flag r 0 1) g
  checks ([
    (decide (128 ≤ g), badInst), (decide (4 ≤ pu r 0 1), bad 0),
    (if start then outside 10 20 (pu r 1 1) else decide (pu r 1 1 ≠ 0), bad 1),
    (if start then outside 100 60000 (pu r 2 2) else decide (pu r 2 2 ≠ 0), bad 2)] ++ needPll s ++ [
    (start && !s.listening, wrong 1), (start && gs.any (fun h => !s.enabled h), wrong 5),
    (start && gs.any (fun h => (s.cfg h).offFreq), wrong 8)])
/-- A probe of a level and a length in ms, with nothing accumulated: until a block is used, the last values hold
(R266, R278). -/
def State.newProbe (s : State) (cmd : Option CmdRef) (level ms : Nat) : Probe :=
  { cmd := cmd, level := level, stop := s.now + ms * perMs, used := 0, powers := [], spectra := []
    suspended := false, everSuspended := false, lastAbove := 0 }
/-- A probe begins: its registers are seeded from the sub-band's index (R275). -/
def State.startProbe (s : State) (g : Nat) (p : Probe) : State :=
  (s.modGov g (fun x => { x with probe := some p, floorSince := none })).modSig g (fun x => { x with
    probeI := (Config.probeSeed g).1, probeQ := (Config.probeSeed g).2 })
def applyCanProbe (ref : CmdRef) (r : Request) (s : State) : State :=
  let gs := covered (flag r 0 1) (instOf r)
  if flag r 0 0 then
    let s := s.each gs (fun s h => s.stopProbe h stAbortedHost 1)
    s.each gs (fun s h =>
      s.startProbe h (s.newProbe (some ref) (pu r 1 1) (pu r 2 2)))
  else (s.each gs (fun s h => s.stopProbe h stAbortedHost 2)).complete ref stOk 0 0
def cmdCanProbe : CmdDef := ⟨0x0303, 4, false, checkCanProbe, applyCanProbe⟩
/-- R296 with START = 1. -/
def execCanProbeStart (dt : Nat) (r : Request) (s : State) : Host.Outcome State Fault Refusal :=
  .next ((s.advance dt).issue cmdCanProbe (withBit r 0 0 true))
/-- R296 with START = 0. -/
def execCanProbeStop (dt : Nat) (r : Request) (s : State) : Host.Outcome State Fault Refusal :=
  .next ((s.advance dt).issue cmdCanProbe (withBit r 0 0 false))

/-- R279: the governor starts a probe of 1,000 ms, at the level of 10 dB that R39 and R278 name. -/
def execProbeAutoStart (dt g : Nat) (s : State) : Host.Outcome State Fault Refusal :=
  let s := s.advance dt
  let x := s.govOf g
  let long : Bool := match x.floorSince with
    | some t => decide (t + 500 * perMs ≤ s.now)
    | none => false
  .next (
    if g < 128 ∧ (s.govSet g).probeAuto ∧ s.radio.state = 4 ∧ s.enabled g ∧ !(s.cfg g).offFreq ∧ !s.muted g ∧
        x.probe.isNone ∧ x.floor ∧ long then
      s.startProbe g (s.newProbe none 10 1000)
    else s)

/-- The accumulated results of a probe replace PHYS, EFF and EXT; without a used block the last values hold (R266, R278, R280,
R610). -/
def State.takeProbe (s : State) (g : Nat) (p : Probe) : State :=
  let q := s.probed g p
  let ext := (s.govResult g p.powers p.spectra (s.cancelsNot g)).ext
  let s := s.modGov g (fun x =>
    let n := min 16 (x.used + p.used)
    let known := x.measured || decide (n = 16)
    { x with
      probe := none, phys := q.1, eff := q.2.1, floor := q.2.2, used := n, measured := known
      ext := if known ∧ 0 < p.used then some ext else x.ext
      lastProbe := probeResult q.2.1 q.1 q.2.2 p.everSuspended
      floorSince := if q.2.2 then some s.now else none })
  if 0 < p.used then s.govCounted g else s
/-- R278, R296: the probe interval ends; its accumulated results replace PHYS and EFF. -/
def execProbeEnd (dt g : Nat) (s : State) : Host.Outcome State Fault Refusal :=
  let s := s.advance dt
  .next (
    match (s.govOf g).probe with
    | none => s
    | some p =>
      if p.stop ≤ s.now then
        let s := s.takeProbe g p
        let s := if s.listening ∧ s.enabled g then s.ceiling g 0 else s
        s.probeDone p.cmd g stOk 0
      else s)

/-- The latest stage-9 output without the probe lies more than 3 dB above the TX noise floor in BW, 0 dBFS being 32,752 in the
TX window; R277 names no averaging [97]. -/
def State.probeDrowned (s : State) (g : Nat) : Bool :=
  let u : Rat := s.txNetAt g s.window / 32752
  decide (linear (s.txFloor g + 300) < (Iq.power (s.sigOf g).bare : Rat) * u * u)
/-- R277: the stage-9 output without the probe lies more than 3 dB above the TX noise floor in BW. -/
def execProbeSuspend (dt g : Nat) (s : State) : Host.Outcome State Fault Refusal :=
  let s := s.advance dt
  .next (if s.probeDrowned g then
      s.modGov g (fun x => { x with probe := x.probe.map (fun p =>
        { p with suspended := true, everSuspended := true, lastAbove := s.now }) })
    else s)

/-- R277: 10 ms have passed since the output last exceeded the level. -/
def execProbeResume (dt g : Nat) (s : State) : Host.Outcome State Fault Refusal :=
  let s := s.advance dt
  .next (s.modGov g (fun x => { x with probe := x.probe.map (fun p =>
    if p.suspended ∧ p.lastAbove + 10 * perMs ≤ s.now then { p with suspended := false } else p) }))

/-- The kept PHYS of a sub-band with its centre enters the profiles partition (R268). -/
def State.keepIso (s : State) (g : Nat) : State :=
  match (s.govOf g).lastPhys with
  | some v => ({ s with store := { s.store with kept := Table.set none s.store.kept g (some v) } } : State).repaired (3 + g)
  | none => s
/-- The kept PHYS of every sub-band. -/
def State.storeIso (s : State) : State := s.each allSbs State.keepIso
/-- R268: firmware writes each sub-band's kept PHYS and centre, every 600 s. -/
def execIsoStore (dt : Nat) (s : State) : Host.Outcome State Fault Refusal :=
  let s := s.advance dt
  .next (if s.firmwareRuns ∧ s.th.isoAt + 600 * perSecond ≤ s.now then
      { s.storeIso with th := { s.th with isoAt := s.now } }
    else s)

/-! GOV_STATE and GOV_RESTART_STATE (R298, R299). -/

def govStateValue (s : State) (g : Nat) : Nat :=
  let x := s.govOf g
  let known := x.measured && !(s.cfg g).offFreq
  let fails := (x.fails.filter (fun t => decide (s.now ≤ t + failWindow))).length
  let trips := (x.trips.filter (fun t => decide (s.now ≤ t.1 + tenSeconds))).length
  packFields [(2, x.state), (1, ofBool x.measured), (1, ofBool x.floor), (1, ofBool x.probe.isSome),
    (1, ofBool x.cap.isSome), (1, ofBool s.boot.early), (1, ofBool x.ceilMute), (4, min 15 fails), (2, min 2 trips),
    (12, if known then bitsOf 12 (tenth x.eff) else 0x800), (12, if known then bitsOf 12 (tenth x.phys) else 0x800),
    (11, bitsOf 11 (clampInt (-400) 500 (tenth (s.ceilOf g)))), (15, s.loopOut g)]
def govRestartValue (s : State) (g : Nat) : Nat :=
  let x := s.govOf g
  let left := match x.holdoff with
    | some t => ceilDiv (t - s.now) perSecond
    | none => 0
  packFields [(16, left), (11, bitsOf 11 (match x.cap with
    | some c => tenth c
    | none => 0)), (5, 0), (32, x.lastMute)]

end Sys2Proof.Machine
end

