-- ==== Sys2Proof/Machine/Control.lean ====
section
/-!
DEFINITION. The control engine's commands and events (08_control_engine.md).
-/

namespace Sys2Proof.Machine

/-- The loops a command covers: its instance, or with GROUP = 1 those of the MIMO group (R300). -/
def coveredLoops (group : Bool) (l : Nat) : List Nat :=
  if l < 128 then covered group l
  else if group then (let b := groupBase (l - 128); [b, b + 1, b + 2, b + 3]).map (fun c => 128 + c) else [l]
/-- The loop has updates: its sub-band is enabled, and the engine is powered (R59, R301). -/
def State.loopRuns (s : State) (l : Nat) : Bool := s.listening && (decide (128 ≤ l) || s.enabled l)

/-! CONTROL_TICK (R301). -/

/-- What the statistics count of an inner update (R610). -/
def State.countLoop (s : State) (g : Nat) (m : LoopMeas) : State :=
  let x := s.loopOf g
  if m.missed then s
  else
    let s := if m.yIn.isSome then s.count g 0 x.yIn else s
    if m.yOut.isSome then
      let s := s.count g 1 x.yOut
      match x.applied with
      | some a => s.count g 2 (ofCenti a)
      | none => s
    else s

/-- An inner loop's update with the measurement of the tick that has ended; the next one is gathered afresh. -/
def State.loopTick (s : State) (g : Nat) (missed : Bool) : State :=
  let m := s.tickMeas g missed
  ((s.modSig g (fun x => { x with meter := {} })).innerTick g m).countLoop g m
/-- R13, R301: a control tick begins, which no row has taken before: every inner loop of an enabled sub-band updates in
ascending index, then the outer loops that are due. The row names the loops whose update is missed (R336). -/
def execControlTick (dt : Nat) (missed : List Nat) (s : State) : Host.Outcome State Fault Refusal :=
  let s := s.advance dt
  let n := s.window / perControl
  .next (
    if s.listening ∧ s.ctlTick ≠ some n then
      let s := ({ s with ctlTick := some n } : State).each (allSbs.filter (fun g => s.enabled g)) (fun s g =>
        s.loopTick g (missed.contains g))
      s.each (chains.filter (fun c => decide (n % max 1 (s.loopSet (128 + c)).outerDiv = 0))) (fun s c =>
        s.outerTick c (missed.contains (128 + c)))
    else s)

/-- R335: the mismatch timer has reached PLAUS_TIME_MS. -/
def execPlausTimerExpiry (dt c : Nat) (s : State) : Host.Outcome State Fault Refusal :=
  let s := s.advance dt
  let long : Bool := match (s.plausOf c).timer with
    | some t => decide (t + (s.plausSet c).timeMs * perMs ≤ s.now)
    | none => false
  .next (
    if c < 8 ∧ long ∧ !(s.plausOf c).raised then (s.modPlaus c (fun x => { x with raised := true })).raise 18 c 0 true
    else s)

/-! CTL_SET_MODE (R321, R322, R328, R343). -/

def checkCtlSetMode (r : Request) (_ : State) : Verdict :=
  checks [(decide (128 ≤ instOf r), badInst), (decide (3 < pu r 0 1), bad 0), (decide (2 ≤ pu r 1 1), bad 1), reserved r 2 2]

/-- CTL_SET_MODE on one loop: it waits for the hand-over update, or is stored. An injection ends (R342). -/
def State.setMode (s : State) (ref : CmdRef) (l mode : Nat) : State :=
  let s := s.endInjection l stAbortedHost 6
  let old := (s.loopOf l).handover.bind Prod.snd
  let s := s.modLoopSet l (fun k => { k with mode := mode })
  let s := if s.loopRuns l then s.modLoop l (fun x => { x with handover := some (mode, some ref) })
    else s.modLoop l (fun x => { x with mode := mode, handover := none, handed := modeResult mode x.v false true })
  s.completeOpt old stAbortedHost 1 0

def applyCtlSetMode (ref : CmdRef) (r : Request) (s : State) : State :=
  (s.each (covered (flag r 1 0) (instOf r)) (fun s l => s.setMode ref l (pu r 0 1))).completeMode (some ref)
def cmdCtlSetMode : CmdDef := ⟨0x0401, 4, false, checkCtlSetMode, applyCtlSetMode⟩
/-- R343: an inner loop's mode is changed. -/
def execCtlSetMode (dt : Nat) (r : Request) (s : State) : Host.Outcome State Fault Refusal :=
  .next ((s.advance dt).issue cmdCtlSetMode r)

/-! CTL_SET_POINT (R316, R317, R320, R344). -/

def checkCtlSetPoint (r : Request) (_ : State) : Verdict :=
  let w := pu r 0 1
  let v := ps r 2 2
  checks [(decide (128 ≤ instOf r), badInst), (decide (2 < w), bad 0), (decide (2 ≤ pu r 1 1), bad 1),
    ((if w = 0 then outside (-9000) 0 v else if w = 1 then outside (-4000) 5000 v else outside (-3000) 0 v), bad 2),
    (decide (10000 < pu r 4 2), bad 4), reserved r 6 2]

/-- The requests of R320 that complete on execution; a SHARE waits for the outer update of a loop that runs. -/
def State.pointAtOnce (s : State) (l which : Nat) (v : Int) : Bool :=
  let x := s.loopOf l
  !s.loopRuns l ||
    (decide (which ≠ 2) &&
     (x.rest || x.boundMute || decide ((if which = 0 then x.spRamp else x.gfixRamp) = ofCenti v) ||
       (if which = 0 then decide (x.mode ≠ 2) && decide (x.mode ≠ 3) else decide (x.mode ≠ 1) && decide (x.mode ≠ 3))))

/-- A value is requested of one loop. -/
def LoopSet.request (k : LoopSet) (which : Nat) (v : Int) (slew : Nat) : LoopSet :=
  let k := if slew = 0 then k else { k with slew := slew }
  if which = 0 then { k with sp := v } else if which = 1 then { k with gFix := v } else { k with share := v }

def State.setPoint (s : State) (ref : CmdRef) (l which : Nat) (v : Int) (slew : Nat) : State :=
  let s := s.endPoint l which stAbortedHost 1
  let s := s.modLoopSet l (fun k => k.request which v slew)
  if s.pointAtOnce l which v then
    if which = 2 then s.modLoop l (fun x => { x with share := v }) else s
  else s.modLoop l (fun x => x.setWait which (some { cmd := ref, startedAt := s.now }))

/-- CTL_SET_POINT completes OK, with its event (R320, R554), unless a loop still waits for it. -/
def State.pointDone (s : State) (ref : CmdRef) (l which : Nat) (startedAt : Time) : State :=
  if (groupOf l).any (fun h => decide (((s.loopOf h).wait which).map SetPointWait.cmd = some ref)) then s
  else
    (s.complete ref stOk 0 (s.pointResult l which startedAt)).post 0x0013
      (leBytes 2 l ++ [BitVec.ofNat 8 which, 0] ++ leBytes 2 (bitsOf 16 (s.rampedCenti l which)))

def applyCtlSetPoint (ref : CmdRef) (r : Request) (s : State) : State :=
  let s := s.each (covered (flag r 1 0) (instOf r)) (fun s l => s.setPoint ref l (pu r 0 1) (ps r 2 2) (pu r 4 2))
  s.pointDone ref (instOf r) (pu r 0 1) s.now
def cmdCtlSetPoint : CmdDef := ⟨0x0402, 8, false, checkCtlSetPoint, applyCtlSetPoint⟩
/-- R344: a set-point, a fixed gain or a share is requested. -/
def execCtlSetPoint (dt : Nat) (r : Request) (s : State) : Host.Outcome State Fault Refusal :=
  .next ((s.advance dt).issue cmdCtlSetPoint r)

/-- R320: a ramped value has arrived at its request. -/
def execSetPointArrived (dt loop which : Nat) (s : State) : Host.Outcome State Fault Refusal :=
  let s := s.advance dt
  let x := s.loopOf loop
  let k := s.loopSet loop
  let there := if which = 0 then decide (x.spRamp = ofCenti k.sp) else decide (x.gfixRamp = ofCenti k.gFix)
  .next (
    match x.wait which with
    | none => s
    | some w =>
      if loop < 128 ∧ which < 2 ∧ there then
        let s := s.modLoop loop (fun x => x.setWait which none)
        s.pointDone w.cmd (((s.requestOf w.cmd).map instOf).getD loop) which w.startedAt
      else s)

/-! CTL_SET_SCHEDULE (R324, R345). -/

/-- The region of a command. -/
def regionOf (r : Request) : Region :=
  { kp := pu r 4 4, ki := pu r 8 4, kaw := pu r 12 4, shKp := pu r 16 1, shKi := pu r 17 1, shAw := pu r 18 1, bp := ps r 2 2 }
/-- The breakpoints stay in order (R324). -/
def inOrder (k : LoopSet) (nreg : Nat) : Bool :=
  (List.range nreg).all (fun n => decide (n < 2) || decide ((k.region (n - 1)).bp + 200 ≤ (k.region n).bp))

def checkCtlSetSchedule (r : Request) (s : State) : Verdict :=
  let l := instOf r
  let n := pu r 0 1
  let q := regionOf r
  let inner := decide (l < 128)
  checks [
    (decide (136 ≤ l), badInst), (decide (7 < n), bad 0), (decide (2 ≤ pu r 1 1), bad 1),
    (outside (-12700) 0 q.bp || (decide (n = 0) && decide (q.bp ≠ 0)), bad 2),
    (decide (2147483647 < q.kp), bad 4), (decide (2147483647 < q.ki), bad 8), (decide (2147483647 < q.kaw), bad 12),
    (decide (31 < q.shKp), bad 16), (decide (31 < q.shKi), bad 17), (decide (31 < q.shAw), bad 18),
    (outside 1 8 (pu r 19 1), bad 19), (decide ((if inner then 8 else 0) < pu r 20 1), bad 20),
    ((if inner then decide (pu r 21 1 ≠ 0) else outside 1 64 (pu r 21 1)), bad 21), reserved r 22 2,
    ((coveredLoops (flag r 1 0) l).any (fun m => !inOrder ((s.loopSetLater m).setRegion n q) (pu r 19 1)), combo)]

def applyCtlSetSchedule (ref : CmdRef) (r : Request) (s : State) : State :=
  let q : Sched := { cmd := ref, number := pu r 0 1, nreg := pu r 19 1, region := regionOf r, avg := pu r 20 1, div := pu r 21 1 }
  let ls := coveredLoops (flag r 1 0) (instOf r)
  let s := s.each ls (fun s l => s.modLoop l (fun x => { x with sched := x.sched ++ [q] }))
  s.each (ls.filter (fun l => !s.loopRuns l)) (fun s l => s.takeSchedule l)
def cmdCtlSetSchedule : CmdDef := ⟨0x0403, 24, false, checkCtlSetSchedule, applyCtlSetSchedule⟩
/-- R345: one region of a loop is written. -/
def execCtlSetSchedule (dt : Nat) (r : Request) (s : State) : Host.Outcome State Fault Refusal :=
  .next ((s.advance dt).issue cmdCtlSetSchedule r)

/-! CTL_INJECT (R338 to R342, R347). -/

def checkCtlInject (r : Request) (s : State) : Verdict :=
  let l := instOf r
  let start := flag r 0 0
  let kind := pu r 1 1
  let inner := decide (l < 128)
  let top := 480000 / (if inner then 1 else max 1 (s.loopSet l).outerDiv)
  let f := fun (off : Nat) => if kind = 2 then outside 1 top (pu r off 4) else decide (pu r off 4 ≠ 0)
  let mode := (s.loopOf l).mode
  checks ([(decide (136 ≤ l), badInst), (decide (8 ≤ pu r 0 1), bad 0)] ++
    (if start then [
      (decide (2 < kind), bad 1), (decide (ps r 2 2 = 0) || outside (-2000) 2000 (ps r 2 2), bad 2),
      (outside 1 524288 (pu r 4 4), bad 4),
      (flag r 0 2 && decide (524288 < pu r 8 2 + pu r 4 4), bad 8),
      ((if kind = 1 then !([7, 9, 11, 15, 23].contains (pu r 10 1)) else decide (pu r 10 1 ≠ 0)), bad 10), reserved r 11 1,
      ((if kind = 1 then outside 1 1024 (pu r 12 2) else decide (pu r 12 2 ≠ 0)), bad 12), reserved r 14 2,
      (f 16, bad 16), (f 20, bad 20),
      (if flag r 0 1 then inner && decide (mode = 0) else !inner || decide (mode < 2), combo)]
     else [reserved r 1 23]) ++
    needListen s ++
    (if start then [
      (inner && !s.enabled l, wrong 5),
      ((s.loopOf l).inj.isSome || decide (16 ≤ ((List.range 136).filter (fun m => (s.loopOf m).inj.isSome)).length),
        busy 6 l),
      (flag r 0 2 && decide (s.cap.owner ≠ 0), busy 3 0)]
     else []))

def applyCtlInject (ref : CmdRef) (r : Request) (s : State) : State :=
  let l := instOf r
  if flag r 0 0 then
    let j : Injection := { cmd := ref, point := pu r 0 1 / 2 % 2, capture := flag r 0 2, kind := pu r 1 1, amp := ps r 2 2,
                           duration := pu r 4 4, pre := pu r 8 2, order := pu r 10 1, hold := pu r 12 2,
                           fStart := pu r 16 4, fEnd := pu r 20 4, done := 0, lfsr := 2 ^ pu r 10 1 - 1, limited := false }
    let s := s.modLoop l (fun x => { x with inj := some j })
    if j.capture then
      { s with cap := { s.cap with
        owner := 2, lastWriter := 2, state := 3, nsrcM1 := 0, sat := false, truncated := false, sizeLog2 := 5
        valid := 0, trigPos := j.pre, buf := [] } }
    else s
  else (s.endInjection l stAbortedHost 2).complete ref stOk 0 0
def cmdCtlInject : CmdDef := ⟨0x0404, 24, false, checkCtlInject, applyCtlInject⟩
/-- R338, R347 with START = 1. -/
def execCtlInjectStart (dt : Nat) (r : Request) (s : State) : Host.Outcome State Fault Refusal :=
  .next ((s.advance dt).issue cmdCtlInject (withBit r 0 0 true))
/-- R342, R347 with START = 0. -/
def execCtlInjectStop (dt : Nat) (r : Request) (s : State) : Host.Outcome State Fault Refusal :=
  .next ((s.advance dt).issue cmdCtlInject (withBit r 0 0 false))
/-- R342: DURATION has ended. -/
def execInjectionEnd (dt loop : Nat) (s : State) : Host.Outcome State Fault Refusal :=
  let s := s.advance dt
  .next (
    match (s.loopOf loop).inj with
    | some j => if j.pre + j.duration ≤ j.done then s.endInjection loop stOk 0 else s
    | none => s)

/-! CTL_REP_LEARN (R329 to R332, R348). -/

/-- The timing group of a loop's direction, where it has TDD timing (R331). -/
def State.timingOf (s : State) (l : Nat) : Option Nat :=
  (s.loopGroup l).bind (fun t => if (s.tddSet t).enable then some t else none)

def checkCtlRepLearn (r : Request) (s : State) : Verdict :=
  let l := instOf r
  let start := flag r 0 0
  let release := flag r 0 1
  let held := (s.loopOf l).slot
  let slot := held.map s.slotOf
  let period := pu r 2 2
  let align := flag r 0 4
  checks ([
    (decide (136 ≤ l), badInst), (decide (32 ≤ pu r 0 1) || (start && release), bad 0), (decide (63 < pu r 1 1), bad 1),
    (outside 16 9600 period, bad 2), (decide (2147483647 < pu r 4 4), bad 4), (decide (31 < pu r 8 1), bad 8),
    (decide (pu r 9 1 ≠ 0) && outside 4 16 (pu r 9 1), bad 9), (outside 1 12 (pu r 10 1), bad 10), reserved r 11 5,
    (align && (match s.timingOf l with
      | some t => decide (period * perControl ≠ framePeriod (s.tddSet t).period)
      | none => false), bad 2),
    (!start && !release && (match slot with
      | some q => decide (q.period ≠ period) || decide (q.frameAlign ≠ align)
      | none => false), combo)] ++ needListen s ++ [
    (align && (s.timingOf l).isNone, wrong 8), (!start && !release && held.isNone, wrong 8),
    (start && held.isNone && !((List.range 32).any (fun n => !(s.slotOf n).used)), busy 5 0)])

/-- The settings of a command over a slot. -/
def RepSlot.take (q : RepSlot) (r : Request) : RepSlot :=
  { q with learn := flag r 0 2, apply := flag r 0 3, lead := pu r 1 1, kr := pu r 4 4, shKr := pu r 8 1, forget := pu r 9 1
           repMax := pu r 10 1 }

def applyCtlRepLearn (ref : CmdRef) (r : Request) (s : State) : State :=
  let l := instOf r
  let held := (s.loopOf l).slot
  if flag r 0 0 then
    let n := held.getD (((List.range 32).find? (fun n => !(s.slotOf n).used)).getD 0)
    let keep := held.isSome && decide ((s.slotOf n).period = pu r 2 2)
    let s := s.modSlot n (fun q => { q.take r with
      used := true, frameAlign := flag r 0 4, period := pu r 2 2, j := 0, periodErr := false
      mem := if keep then q.mem else [] })
    (s.modLoop l (fun x => { x with slot := some n })).complete ref stOk 0 n
  else if flag r 0 1 then
    match held with
    | some n => ((s.modSlot n (fun _ => {})).modLoop l (fun x => { x with slot := none })).complete ref stOk 0 n
    | none => s.complete ref stOk 0 0
  else
    match held with
    | some n => (s.modSlot n (fun q => q.take r)).complete ref stOk 0 n
    | none => s.complete ref stOk 0 0
def cmdCtlRepLearn : CmdDef := ⟨0x0405, 16, false, checkCtlRepLearn, applyCtlRepLearn⟩
/-- R329, R331, R348 with START = 1. -/
def execCtlRepLearnStart (dt : Nat) (r : Request) (s : State) : Host.Outcome State Fault Refusal :=
  .next ((s.advance dt).issue cmdCtlRepLearn (withBit r 0 0 true))
/-- R332, R348 with RELEASE = 1. -/
def execCtlRepLearnRelease (dt : Nat) (r : Request) (s : State) : Host.Outcome State Fault Refusal :=
  .next ((s.advance dt).issue cmdCtlRepLearn (withBit (withBit r 0 0 false) 0 1 true))
/-- R348 with both 0. -/
def execCtlRepLearnModify (dt : Nat) (r : Request) (s : State) : Host.Outcome State Fault Refusal :=
  .next ((s.advance dt).issue cmdCtlRepLearn (withBit (withBit r 0 0 false) 0 1 false))

/-! CTL_PLAUS_CONFIG and CTL_LINEUP (R351, R352), and the loop objects (R349, R350). -/

def plausValue (s : State) (c : Nat) : Nat :=
  let k := s.plausSet c
  packFields [(1, ofBool k.en), (5, k.detSrc), (8, k.tol), (10, k.timeMs), (8, k.floor), (32, 0)]
def checkPlaus (v : Nat) (s : State) : Verdict :=
  let src := bitsAt v 62 58
  checks [
    (decide (60 < bitsAt v 39 32), badField 32), (outside 10 1000 (bitsAt v 49 40), badField 40),
    (outside 10 100 (bitsAt v 57 50), badField 50), (decide (23 < src), badField 58),
    (!(List.range 63).any (fun e => (s.hkEntry e).enable && decide ((s.hkEntry e).channel = src)), wrong 8)]
/-- A new DET_SRC has no result yet: the engine has discarded those of a channel that no DET_SRC named (R333, R451). -/
def writePlaus (c v : Nat) (s : State) : State :=
  let k : PlausSet := { en := bit v 63, detSrc := bitsAt v 62 58, tol := bitsAt v 57 50, timeMs := bitsAt v 49 40,
                        floor := bitsAt v 39 32 }
  let s := if k.detSrc = (s.plausSet c).detSrc then s else s.modPlaus c (fun x => { x with detAt := none })
  { s with set := { s.set with plaus := Table.set {} s.set.plaus c k } }

def lineupValue (s : State) (c : Nat) : Nat :=
  let l := Table.get ({} : Lineup) s.store.lineup c
  packFields ([4, 3, 2, 1, 0].map (fun n => (16, bitsOf 16 (l.b.getD n 0))) ++
    [(16, bitsOf 16 l.refDbm), (16, l.icpt), (16, bitsOf 16 l.slope)])
def writeLineup (c v : Nat) (s : State) : State :=
  let l : Lineup := { b := [signedAt v 63 48, signedAt v 79 64, signedAt v 95 80, signedAt v 111 96, signedAt v 127 112],
                      refDbm := signedAt v 47 32, icpt := bitsAt v 31 16, slope := signedAt v 15 0 }
  { s with store := { s.store with lineup := Table.set {} s.store.lineup c l } }

/-- A ramped value of an inner loop moves (R349 RAMP); none moves at rest, before the start update. -/
def State.ramping (s : State) (l : Nat) : Bool :=
  let x := s.loopOf l
  let k := s.loopSet l
  decide (l < 128) && !x.rest && decide (x.mode ≠ 0) &&
    (decide (x.spRamp ≠ ofCenti k.sp) || decide (x.gfixRamp ≠ ofCenti k.gFix))

def ctlStateValue (s : State) (l : Nat) : Nat :=
  let x := s.loopOf l
  let err := match x.slot with
    | some n => (s.slotOf n).periodErr
    | none => false
  let applied := if l < 128 then (match s.gainWanted l with
      | some a => bitsOf 16 a
      | none => 0x8000) else bitsOf 16 (toCenti x.v)
  packFields [(2, if l < 128 then x.mode else 2), (3, x.region), (3, x.limit), (1, ofBool x.hold), (1, ofBool x.rest),
    (1, ofBool (s.ramping l)), (1, ofBool x.boundMute), (1, ofBool x.inj.isSome), (1, ofBool x.slot.isSome),
    (5, x.slot.getD 0), (1, ofBool err), (1, ofBool x.missed), (16, x.missedCount), (11, 0), (16, applied)]

/-- A dB word in 0.1 dB. -/
def deci (v : DbWord) : Int := roundQ (v * 10) 16777216 (Config.roundsUp v 4)
/-- 0.01 dB in 0.1 dB. -/
def centiToDeci (v : Int) : Int := roundQ v 10 (Config.roundsUp v 5)

def outerStateValue (s : State) (c : Nat) : Nat :=
  let x := s.plausOf c
  let stale := match x.detAt with
    | some t => decide (t + 10 * perMs < s.now)
    | none => true
  packFields [(12, bitsOf 12 (centiToDeci (s.lcCenti c))), (12, bitsOf 12 (deci x.pComp)),
    (12, bitsOf 12 (deci (s.loopOf (128 + c)).v)), (8, s.th.throttle), (8, (s.regrowthOf c).db), (10, bitsOf 10 x.err),
    (1, ofBool x.timer.isSome), (1, ofBool stale)]

end Sys2Proof.Machine
end

