-- ==== Sys2Proof/Machine/TwoWire.lean ====
section
/-!
DEFINITION. The two-wire bus controllers (16_two_wire_bus.md): configuration, transfers and retries, bus clears, alerts
and Host Notify.
-/

namespace Sys2Proof.Machine

/-! The attention queue (R650). -/

/-- An entry of the attention queue: kind, address, data, operating seconds. -/
abbrev Attention := Nat × Nat × Nat × Nat
/-- The result of ATTENTION. -/
def attentionResult (a : Attention) : Nat := a.1 + 256 * (a.2.1 % 128) + 65536 * (a.2.2.1 % 65536) + 4294967296 * a.2.2.2
/-- A new entry: to the ATTENTION that waits, into the queue, or lost (R650). -/
def State.attend (s : State) (b kind addr data : Nat) : State :=
  let a : Attention := (kind, addr, data, s.seconds)
  match (s.twbOf b).wait with
  | some (c, _) => (s.modTwb b (fun x => { x with wait := none })).complete c stOk 0 (attentionResult a)
  | none =>
    if (s.twbOf b).attn.length < 16 then s.modTwb b (fun x => { x with attn := x.attn ++ [a] })
    else s.modTwb b (fun x => { x with attnLost := satUp 0xFF x.attnLost })

/-! Timing (R628, R629, R637). -/

/-- A time of R628, in 10 ns, as the controller counts it, in window-clock periods: in whole periods of the crystal, or of
the fallback oscillator after 5 % more (R629). -/
def State.busTime (s : State) (t : Nat) : Time :=
  if s.radio.fallback then ceilDiv (ceilDiv (t * 105) 100 * 196608) 10000
  else if s.radio.rootExt then ceilDiv (t * 196608) 10000
  else ceilDiv (t * 3072) 10000 * 64
/-- SCL low and high, start hold or stop setup, and bus free after STOP, in 10 ns, of a mode (R628). -/
def busTimes (mode : Nat) : Nat × Nat × Nat × Nat :=
  if mode = 0 then (500, 500, 470, 470) else if mode = 1 then (140, 110, 70, 130) else (56, 44, 30, 50)
/-- The time that the bus stays free after a STOP. -/
def State.busFree (s : State) (b : Nat) : Time := s.busTime (busTimes (s.twbOf b).inForce.mode).2.2.2
/-- The least time that whole bytes take on the bus, each with its acknowledge bit, between a START and a STOP, with further
STARTs between them (R628). That no longer least time is asked of a transfer is the model's choice [98]. -/
def State.busLength (s : State) (b bytes starts : Nat) : Time :=
  let m := busTimes (s.twbOf b).inForce.mode
  (9 * bytes + starts) * (s.busTime m.1 + s.busTime m.2.1) + 2 * s.busTime m.2.2.1
/-- An attempt has ended with no STOP: the bus is free after 50 µs with both lines high (R637, R639, R640). -/
def State.busHeld (s : State) (b : Nat) : State := s.modTwb b (fun x => { x with freeAt := s.now + ofMicros 50 })

/-! Bus clears and disabling (R643 to R645, R651). -/

/-- A bus clear begins. -/
def State.beginClear (s : State) (b : Nat) (cmd : Option CmdRef) (sda : Bool) : State :=
  (s.modTwb b (fun x => { x with busy := .clear cmd sda, clearDue := none, startAt := s.now })).emit (.busClear b)
/-- Whether nothing occupies the bus. -/
def Twb.idle (x : Twb) : Bool :=
  match x.busy with
  | .idle => true
  | _ => false
/-- A disabled bus has nothing left to do: what waits on it ends (R651). -/
def State.busDisabled (s : State) (b : Nat) : State :=
  let x := s.twbOf b
  let s := s.modTwb b (fun x => { x with
    busy := .idle, queue := [], wait := none, clearDue := none, disabling := false, araReads := 0 })
  let s : State := x.queue.foldl (fun (s : State) t => s.complete t.cmd stAbortedHost 6 0) s
  let s := s.completeOpt (x.wait.map Prod.fst) stAbortedHost 6 0
  s.completeOpt (x.clearDue.bind Prod.fst) stAbortedHost 6 0
/-- The bus is at rest: a disable takes effect, or a clear that is due begins. -/
def State.busRests (s : State) (b : Nat) : State :=
  let free := s.busFree b
  let s := s.modTwb b (fun x => { x with busy := .idle, waitFrom := s.now, freeAt := s.now + free, idleAt := s.now })
  let x := s.twbOf b
  if x.disabling then s.busDisabled b
  else
    match x.clearDue with
    | some (c, sda) => s.beginClear b c sda
    | none => s
/-- ENABLE = 0 (R651): the transfer on the bus ends first. -/
def State.busOff (s : State) (b : Nat) : State :=
  let s : State := { s with set := { s.set with twb := Table.modify {} s.set.twb b (fun k => { k with enable := false }) } }
  if (s.twbOf b).idle then s.busDisabled b else s.modTwb b (fun x => { x with disabling := true })
/-- Entry to SLEEP acts on each bus as ENABLE = 0 does (R651). -/
def State.busesOff (s : State) : State :=
  s.each ((List.range 2).filter (fun b => (s.twbSet b).enable)) State.busOff

/-! Ends of transfers (R641, R642). -/

/-- BUS_ERROR completions are counted and raise TWB.PROTO (R642). -/
def State.busFailed (s : State) (b : Nat) (cmd : CmdRef) (sub : Nat) : State :=
  (((s.modTwb b (fun x => { x with busErrors := satUp 0xFF x.busErrors })).raise 55 b 0).complete cmd stBusError sub 0)
/-- The first transfer of the queue leaves it. -/
def State.popTransfer (s : State) (b : Nat) : State := s.modTwb b (fun x => { x with queue := x.queue.drop 1 })
/-- An attempt ends for a retry; without retries left the transfer ends as given (R639 to R641). -/
def State.retry (s : State) (b : Nat) (fail : State → CmdRef → State) : State :=
  match (s.twbOf b).queue with
  | [] => s
  | t :: rest =>
    if t.retries < (s.twbOf b).inForce.retries then
      ((s.modTwb b (fun x => { x with
        queue := { t with retries := t.retries + 1 } :: rest, retriesUsed := satUp 0xFF x.retriesUsed })).busRests b).busHeld b
    else fail (((s.popTransfer b).busRests b).busHeld b) t.cmd

/-! TWB_CONFIGURE (R651). -/

def twbOfRequest (r : Request) : TwbSet :=
  { enable := flag r 0 0, alertEn := flag r 0 1, notifyEn := flag r 0 2, mode := pu r 1 1, retries := pu r 2 1
    sclTo := pu r 3 1, sdaTo := pu r 4 1, araMax := pu r 5 1 }

def checkTwbConfigure (r : Request) (s : State) : Verdict :=
  let b := instOf r
  let k := twbOfRequest r
  let on := (s.twbSet b).enable && !(s.twbOf b).disabling
  checks [
    (decide (2 ≤ b), badInst), (decide (16 ≤ pu r 0 1), bad 0), (decide (2 < k.mode), bad 1), (decide (7 < k.retries), bad 2),
    (decide (k.sclTo = 0) || decide (100 < k.sclTo), bad 3), (decide (k.sdaTo = 0) || decide (100 < k.sdaTo), bad 4),
    (decide (k.araMax = 0) || decide (16 < k.araMax), bad 5), reserved r 6 2,
    (flag r 0 3 && (!on || !k.enable), wrong 5), (flag r 0 3 && (s.twbOf b).clearDue.isSome, wrong 7)]

/-- The level of SDA when a bus is enabled is the board's: a free value [17]. -/
def applyTwbConfigure (ref : CmdRef) (r : Request) (s : State) : State :=
  let b := instOf r
  let k := twbOfRequest r
  let was := (s.twbSet b).enable
  let s : State := { s with set := { s.set with twb := Table.set {} s.set.twb b k } }
  if !k.enable then (if was then s.busOff b else s).complete ref stOk 0 0
  else
    let s := if was && !(s.twbOf b).disabling then s
      else
        let low := decide (s.draw % 2 = 1)
        let s := s.drawn.modTwb b (fun x => { x with
          disabling := false, inForce := k, waitFrom := s.now, idleAt := s.now, clearDue := if low then some (none, false) else none })
        if low && (s.twbOf b).idle then s.beginClear b none false else s
    if flag r 0 3 then
      if (s.twbOf b).idle then s.beginClear b (some ref) false
      else s.modTwb b (fun x => { x with clearDue := some (some ref, false) })
    else s.complete ref stOk 0 0

def cmdTwbConfigure : CmdDef := ⟨0x0B01, 8, false, checkTwbConfigure, applyTwbConfigure⟩
/-- R651. -/
def execTwbConfigure (dt : Nat) (r : Request) (s : State) : Host.Outcome State Fault Refusal :=
  .next ((s.advance dt).issue cmdTwbConfigure r)
/-- R651 with CLEAR = 1. -/
def execTwbClear (dt : Nat) (r : Request) (s : State) : Host.Outcome State Fault Refusal :=
  .next ((s.advance dt).issue cmdTwbConfigure (withBit r 0 3 true))

/-! TWB_TRANSFER (R632 to R635, R650, R652). -/

/-- The write bytes of a transfer: in the packet, WDATA before WDATA2, or in the buffer. -/
def writeBytes (r : Request) : List Byte :=
  let n := pu r 4 2
  if flag r 1 2 then (bufOf r ++ List.replicate n 0).take n
  else ((List.range 28).map (fun i => BitVec.ofNat 8 (byteAt r.params (20 + i))) ++
    (List.range 4).map (fun i => BitVec.ofNat 8 (byteAt r.params (12 + i)))).take n

/-- Bytes of WDATA or WDATA2 at or beyond WLEN that are not 0, by their offset in the parameters; as all of them where
the data is in a buffer. -/
def strayByte (r : Request) : Option Nat :=
  let n := if flag r 1 2 then 0 else pu r 4 2
  let ks := (if flag r 1 2 then [] else (List.range 4).map (fun i => (28 + i, 12 + i))) ++
    (List.range 28).map (fun i => (i, 20 + i))
  ((ks.find? (fun e => decide (n ≤ e.1) && decide (byteAt r.params e.2 ≠ 0)))).map Prod.snd

def checkTwbTransfer (r : Request) (s : State) : Verdict :=
  let b := instOf r
  let op := pu r 0 1
  let buf := flag r 1 2
  let wlen := pu r 4 2
  let rlen := pu r 6 2
  let target := pu r 2 2
  let attention := decide (op = 3)
  let k := s.twbSet b
  let targetBad : Bool :=
    if attention then decide (target ≠ 0)
    else if flag r 1 0 then decide (1023 < target)
    else decide (127 < target) || (decide (target = 0) && decide (op ≠ 0)) || (decide (target = 12) && k.alertEn)
  let wMin := if op = 2 then 1 else 0
  let wMax := if op = 1 ∨ op = 3 then 0 else if buf then 4096 else 32
  let rMin := if op = 1 ∨ op = 2 then 1 else 0
  let rMax := if op = 0 ∨ op = 3 then 0 else if buf then 4096 else 8
  let usb := !byPcie r
  checks [
    (decide (2 ≤ b), badInst), (decide (3 < op), bad 0), (decide (8 ≤ pu r 1 1) || (attention && decide (pu r 1 1 ≠ 0)), bad 1),
    (targetBad, bad 2), (decide (wlen < wMin) || decide (wMax < wlen), bad 4),
    (decide (rlen < rMin) || decide (rMax < rlen), bad 6),
    (if buf then decide (pu r 8 8 % 8 ≠ 0) || (usb && decide (pu r 8 8 ≠ 0)) else decide (pu r 8 4 ≠ 0), bad 8),
    (decide (strayByte r = some 12) || decide (strayByte r = some 13) || decide (strayByte r = some 14) ||
      decide (strayByte r = some 15), bad ((strayByte r).getD 0)),
    (if attention then decide (600000 < pu r 16 4) else decide (pu r 16 4 ≠ 0), bad 16),
    ((strayByte r).isSome, bad ((strayByte r).getD 0)),
    (!k.enable || (s.twbOf b).disabling, wrong 5), (!attention && (s.twbOf b).fenced, fenced 3),
    (buf && decide (0 < wlen) && r.buf.isNone, unread),
    (!attention && decide (32 ≤ (s.twbOf b).queue.length), busy 9 b),
    (attention && (s.twbOf b).attn.isEmpty && (s.twbOf b).wait.isSome, busy 9 (0x80 + b))]

def applyTwbTransfer (ref : CmdRef) (r : Request) (s : State) : State :=
  let b := instOf r
  if pu r 0 1 = 3 then
    match (s.twbOf b).attn with
    | a :: rest => (s.modTwb b (fun x => { x with attn := rest })).complete ref stOk 0 (attentionResult a)
    | [] =>
      let ms := pu r 16 4
      s.modTwb b (fun x => { x with wait := some (ref, if ms = 0 then none else some (s.now + ms * perMs)) })
  else
    let t : Transfer := {
      cmd := ref, op := pu r 0 1, addr10 := flag r 1 0, pec := flag r 1 1, buf := flag r 1 2, target := pu r 2 2
      wdata := writeBytes r, rlen := pu r 6 2, hostAddr := pu r 8 8, retries := 0 }
    s.modTwb b (fun x => { x with queue := x.queue ++ [t], waitFrom := if x.queue = [] then s.now else x.waitFrom })

def cmdTwbTransfer : CmdDef := ⟨0x0B02, 48, false, checkTwbTransfer, applyTwbTransfer⟩
/-- R652: OP WRITE, READ or WRITE_READ as the packet gives it. -/
def execTwbTransfer (dt : Nat) (r : Request) (s : State) : Host.Outcome State Fault Refusal :=
  .next ((s.advance dt).issue cmdTwbTransfer r)
/-- R650, R652 with OP ATTENTION. -/
def execTwbAttention (dt : Nat) (r : Request) (s : State) : Host.Outcome State Fault Refusal :=
  .next ((s.advance dt).issue cmdTwbTransfer (withByte r 0 3))
/-- R650: WAIT_MS passes with no entry. -/
def execAttentionWaitExpiry (dt bus : Nat) (s : State) : Host.Outcome State Fault Refusal :=
  let s := s.advance dt
  .next (
    match (s.twbOf bus).wait with
    | some (c, some t) =>
      if t ≤ s.now then (s.modTwb bus (fun x => { x with wait := none })).complete c stOk 0 0 else s
    | _ => s)

/-! Transfers on the bus (R635 to R642). -/

/-- The controllers run from STANDBY upward (R628, R630). -/
def State.busOn (s : State) (b : Nat) : Bool := decide (b < 2) && decide (1 ≤ s.radio.state) && (s.twbSet b).enable
/-- An alert that the controller still has to answer (R646, R647). -/
def State.alertWaits (s : State) (b : Nat) : Bool :=
  (s.twbOf b).alertIn && (s.twbSet b).alertEn && !(s.twbOf b).alertSusp && !(s.twbOf b).fenced

/-- R637, R646: the bus is free; a transfer starts after the alerts and clears that come before it. -/
def execBusTransferStart (dt bus : Nat) (s : State) : Host.Outcome State Fault Refusal :=
  let s := s.advance dt
  let x := s.twbOf bus
  .next (
    match x.queue with
    | t :: _ =>
      if s.busOn bus ∧ x.idle ∧ x.clearDue.isNone ∧ !x.disabling ∧ x.freeAt ≤ s.now ∧ !s.alertWaits bus then
        if x.fenced then (s.popTransfer bus).complete t.cmd stFenced 3 0
        else
          let k := s.twbSet bus
          (s.modTwb bus (fun x => { x with
            busy := .transfer, startAt := s.now, inForce := if t.retries = 0 then k else x.inForce })).emit (.busStart bus t.op t.target t.wdata)
      else s
    | [] => s)

/-- A transfer is on the bus. -/
def Twb.transfers (x : Twb) : Option Transfer :=
  match x.busy, x.queue with
  | .transfer, t :: _ => some t
  | _, _ => none

/-- The result and data of a transfer that ends well (R652). -/
def State.transferDone (s : State) (t : Transfer) (read : List Byte) : State :=
  let data := (read ++ List.replicate t.rlen 0).take t.rlen
  if t.buf then
    let s := if t.rlen = 0 then s else s.giveData t.cmd (t.hostAddr + 8 * ceilDiv t.wdata.length 8) data
    s.complete t.cmd stOk 0 (if t.op = 0 then crc32c t.wdata else crc32c data + 4294967296 * t.rlen)
  else s.complete t.cmd stOk 0 (leAt data 0 data.length)

/-- Address bytes before the data (R627), written bytes with the PEC of a WRITE (R634), and bytes in all: a read follows its
own START and address byte, but in a READ with a 7-bit address (R633). -/
def Transfer.addrBytes (t : Transfer) : Nat := if t.addr10 then 2 else 1
def Transfer.sentBytes (t : Transfer) : Nat := if t.op = 1 then 0 else t.wdata.length + if t.op = 0 then ofBool t.pec else 0
def Transfer.restarts (t : Transfer) : Nat := if t.op = 2 ∨ t.op = 1 ∧ t.addr10 then 1 else 0
def Transfer.allBytes (t : Transfer) : Nat :=
  t.addrBytes + t.sentBytes + t.restarts + if t.op = 0 then 0 else t.rlen + ofBool t.pec
/-- An end that a transfer can have: a PEC is checked in the reads of one that asks for it (R634), and only written bytes are
not acknowledged by number, counted over the transfer from its first address byte (R635, R641). -/
def Transfer.canEnd (t : Transfer) : BusResult → Bool
  | .ok _ => true
  | .addressNack => true
  | .dataNack n => decide (t.addrBytes ≤ n) && decide (n < t.addrBytes + t.sentBytes)
  | .pecMismatch => t.pec && decide (t.op ≠ 0)
/-- Bytes on the bus before that end, and STARTs among them. -/
def Transfer.bytesTo (t : Transfer) : BusResult → Nat × Nat
  | .addressNack => (1, 0)
  | .dataNack n => (n + 1, 0)
  | _ => (t.allBytes, t.restarts)
/-- The transfer on a bus has lasted long enough for an end (R628). -/
def State.busLasted (s : State) (b : Nat) (t : Transfer) (res : BusResult) : Bool :=
  let n := t.bytesTo res
  decide ((s.twbOf b).startAt + s.busLength b n.1 n.2 ≤ s.now)
/-- R635, R641: STOP, or an error that is not retried. -/
def execBusTransferEnd (dt bus : Nat) (res : BusResult) (s : State) : Host.Outcome State Fault Refusal :=
  let s := s.advance dt
  .next (
    match (s.twbOf bus).transfers with
    | none => s
    | some t =>
      if !t.canEnd res || !s.busLasted bus t res then s
      else
      let s := (s.popTransfer bus).busRests bus
      match res with
      | .ok read => s.transferDone t read
      | .addressNack =>
        (s.modTwb bus (fun x => { x with nacks := satUp 0xFF x.nacks })).complete t.cmd stBusNack 1 0
      | .dataNack n =>
        (s.modTwb bus (fun x => { x with nacks := satUp 0xFF x.nacks })).complete t.cmd stBusNack (0x100 + n) 0
      | .pecMismatch => s.complete t.cmd stIntegrity 1 0)

/-- R639: a START in an acknowledge slot. -/
def execAckSlotStart (dt bus : Nat) (s : State) : Host.Outcome State Fault Refusal :=
  let s := s.advance dt
  .next (if (s.twbOf bus).transfers.isSome then s.retry bus (fun s c => s.busFailed bus c 1) else s)

/-- R640: arbitration lost at byte `n`. -/
def execArbitrationLost (dt bus n : Nat) (s : State) : Host.Outcome State Fault Refusal :=
  let s := s.advance dt
  .next (
    if (s.twbOf bus).transfers.any (fun t => decide (n < t.allBytes)) then
      (s.modTwb bus (fun x => { x with arbLost := satUp 0xFF x.arbLost })).retry bus
        (fun s c => s.complete c stBusArbLost (0x100 + n) 0)
    else s)

/-- R636: SCL has stayed low; a clear follows where SDA is low. -/
def execSclLowTimeout (dt bus : Nat) (sdaLow : Bool) (s : State) : Host.Outcome State Fault Refusal :=
  let s := s.advance dt
  .next (
    match (s.twbOf bus).transfers with
    | none => s
    | some t =>
      if s.now < (s.twbOf bus).startAt + (s.twbOf bus).inForce.sclTo * perMs then s
      else
      let s := s.popTransfer bus
      let s := s.modTwb bus (fun x => { x with
        clearDue := if sdaLow then some ((x.clearDue.bind Prod.fst), false) else x.clearDue })
      ((s.busRests bus).busHeld bus).busFailed bus t.cmd 2)

/-- R637: SDA has stayed low. -/
def execSdaLowTimeout (dt bus : Nat) (s : State) : Host.Outcome State Fault Refusal :=
  let s := s.advance dt
  .next (
    if s.busOn bus ∧ (s.twbOf bus).idle ∧ (s.twbOf bus).idleAt + (s.twbSet bus).sdaTo * perMs ≤ s.now then
      (s.modTwb bus (fun x => { x with sdaStuck := true })).beginClear bus ((s.twbOf bus).clearDue.bind Prod.fst) true
    else s)

/-- R638: a transfer has waited for a free bus beyond both timeouts. -/
def execBusFreeTimeout (dt bus : Nat) (s : State) : Host.Outcome State Fault Refusal :=
  let s := s.advance dt
  let x := s.twbOf bus
  let k := s.twbSet bus
  .next (
    match x.queue with
    | t :: _ =>
      if s.busOn bus ∧ x.idle ∧ x.waitFrom + (k.sclTo + k.sdaTo) * perMs < s.now then
        (s.popTransfer bus).busFailed bus t.cmd 2
      else s
    | [] => s)

/-! Bus clears (R644, R645). -/

/-- A clear has failed: the bus is fenced, and what waits on it ends (R637, R644). -/
def State.clearFailed (s : State) (b : Nat) (sda : Bool) : State :=
  let q := (s.twbOf b).queue
  let s := (s.modTwb b (fun x => { x with fenced := true, queue := [] })).raise 54 b 0
  match sda, q with
  | true, t :: rest => rest.foldl (fun (s : State) t => s.complete t.cmd stAbortedRecovery 3 0) (s.busFailed b t.cmd 3)
  | _, q => q.foldl (fun (s : State) t => s.complete t.cmd stAbortedRecovery 3 0) s

/-- A bus clear can end so: after one to nine pulses at 100 kHz, in failure after the ninth (R644). -/
def State.clearLasted (s : State) (b pulses : Nat) (ok : Bool) : Bool :=
  decide (1 ≤ pulses) && decide (pulses ≤ 9) && (ok || decide (pulses = 9)) &&
    decide ((s.twbOf b).startAt + ofMicros (10 * pulses) ≤ s.now)
/-- R644, R645. -/
def execBusClearEnd (dt bus pulses : Nat) (ok : Bool) (s : State) : Host.Outcome State Fault Refusal :=
  let s := s.advance dt
  .next (
    match (s.twbOf bus).busy with
    | .clear cmd sda =>
      if !s.clearLasted bus pulses ok then s
      else
      let s := s.busRests bus
      if ok then
        match cmd with
        | some c => (s.modTwb bus (fun x => { x with fenced := false })).complete c stOk 0 (pulses % 16)
        | none => s
      else
        let s := s.clearFailed bus sda
        match cmd with
        | some c => s.busFailed bus c 4
        | none => s
    | _ => s)

/-! Alerts and Host Notify (R646 to R648). -/

/-- R646: the ball has been low for 1 µs. -/
def execAlert (dt bus : Nat) (s : State) : Host.Outcome State Fault Refusal :=
  let s := s.advance dt
  .next (
    if bus < 2 ∧ 1 ≤ s.radio.state ∧ !(s.twbOf bus).alertIn then
      s.modTwb bus (fun x => { x with alertIn := true, araReads := 0, alertAt := s.now })
    else s)

/-- The bus is between transfers and an alert waits: a read of the Alert Response Address is on the bus from the time that it is
free (R646, R647). -/
def State.alertReads (s : State) (b : Nat) : Bool :=
  let x := s.twbOf b
  s.busOn b && s.alertWaits b && x.idle && x.clearDue.isNone && !x.disabling && decide (x.freeAt ≤ s.now)
/-- R646, R647: a read of the Alert Response Address, of two bytes, ends; `released` where the ball is high after it. -/
def execAlertResponseRead (dt bus : Nat) (resp : Option Byte) (released : Bool) (s : State) :
    Host.Outcome State Fault Refusal :=
  let s := s.advance dt
  let x := s.twbOf bus
  .next (
    if s.alertReads bus ∧ max x.freeAt x.alertAt + s.busLength bus 2 0 ≤ s.now then
      let free := s.busFree bus
      let s := s.modTwb bus (fun x => { x with freeAt := s.now + free })
      let s := match resp with
        | some v => s.attend bus 1 (v.toNat / 2) 0
        | none => s
      if released then s.modTwb bus (fun x => { x with alertIn := false, araReads := 0 })
      else
        let s := s.modTwb bus (fun x => { x with araReads := x.araReads + 1 })
        if (s.twbSet bus).araMax ≤ (s.twbOf bus).araReads then
          (s.modTwb bus (fun x => { x with alertSusp := true })).raise 56 bus 0 true
        else s
    else s)

/-- R647: the ball has been high for 1 ms. -/
def execAlertSuspendEnd (dt bus : Nat) (s : State) : Host.Outcome State Fault Refusal :=
  let s := s.advance dt
  .next (
    if bus < 2 then (s.modTwb bus (fun x => { x with alertIn := false, alertSusp := false, araReads := 0 })).ends 56 bus
    else s)

/-- R648: a write to 0x08 ends; the fourth byte and those after it are not acknowledged. -/
def execHostNotify (dt bus : Nat) (bytes : List Byte) (s : State) : Host.Outcome State Fault Refusal :=
  let s := s.advance dt
  .next (
    if s.busOn bus ∧ (s.twbSet bus).notifyEn then
      if bytes.length < 3 then s.modTwb bus (fun x => { x with notifyBad := satUp 0x1F x.notifyBad })
      else s.attend bus 2 (byteAt bytes 0 / 2) (leAt bytes 1 2)
    else s)

/-- TWBn_SCL and TWBn_SDA take part in their bus: in reset, in SLEEP and until TWB_CONFIGURE enables it they are high-impedance
(R630, R683, R684). -/
def State.busConnected (s : State) (b : Nat) : Bool := s.busOn b && !s.radio.inReset && !scanTakes s.pins.tap

/-! TWB_STATE (R653). -/

def twbStateValue (s : State) (b : Nat) : Nat :=
  let x := s.twbOf b
  packFields [(1, ofBool (s.twbSet b).enable), (1, ofBool x.fenced), (1, ofBool (!x.idle || s.alertReads b)), (1, ofBool x.sdaStuck),
    (1, ofBool x.alertIn), (1, ofBool x.alertSusp), (2, x.inForce.mode), (6, x.queue.length), (5, x.attn.length),
    (5, x.notifyBad), (8, x.attnLost), (8, x.busErrors), (8, x.nacks), (8, x.arbLost), (8, x.retriesUsed)]
/-- The RC fields (R653). -/
def Twb.cleared (x : Twb) : Twb :=
  { x with notifyBad := 0, attnLost := 0, busErrors := 0, nacks := 0, arbLost := 0, retriesUsed := 0 }

end Sys2Proof.Machine
end

