-- ==== Sys2Proof/Machine/RadioOps.lean ====
section
/-!
DEFINITION. Shared operations of the radio states (02_clocks_power_states.md): what each transition does, walks
(R74 to R86), falls (R61, R78, R576), and what the front end does with them (R403 to R420).
-/

namespace Sys2Proof.Machine

/-! Window monitors and pulse generators as the radio moves (R412, R417, R419, R420). -/

/-- The asserting condition of R419. -/
def WmSet.asserts (k : WmSet) (v : Nat) : Bool :=
  if k.mode = 0 then decide (k.hi < v)
  else if k.mode = 1 then decide (v < k.lo)
  else if k.mode = 2 then decide (k.hi < v) || decide (v < k.lo)
  else decide (k.lo < v) && decide (v < k.hi)
/-- The release condition of R419. -/
def WmSet.releases (k : WmSet) (v : Nat) : Bool :=
  if k.mode = 0 then decide (v + k.hyst < k.hi)
  else if k.mode = 1 then decide (k.lo + k.hyst < v)
  else if k.mode = 2 then decide (v + k.hyst < k.hi) && decide (k.lo + k.hyst < v)
  else decide (v + k.hyst ≤ k.lo) || decide (k.hi + k.hyst ≤ v)

/-- A trip source becomes asserted: STICKY, the count, and its destinations (R419, R424, R439). -/
def State.assertSource (s : State) (m : Nat) : State :=
  (s.modWm m (fun x => { x with asserted := true, sticky := true, count := satUp 0xFFFF x.count })).tripAll m

/-- A monitor's first evaluation (R420): asserted unless its input meets the release condition. The input at that
moment is a free value [4]. A failed monitor's condition stays asserted (R423). -/
def State.startMonitor (s : State) (m : Nat) : State :=
  if (s.wmSet m).enable ∧ m < 16 then
    let v := s.draw % 1024
    let s := s.drawn.modWm m (fun x => { x with input := v, asserted := x.failed, blank := none })
    if (s.wmOf m).failed then s.tripAll m else if (s.wmSet m).releases v then s else s.assertSource m
  else s

/-- A failed monitor's condition is held asserted (R423); the others are off below SYNTH (R59). -/
def State.stopMonitors (s : State) : State :=
  s.each (List.range 16) (fun s m => s.modWm m (fun x => { x with asserted := x.failed, blank := none }))

/-- The settings of a pulse-generator channel come into force; with PAIR the odd channel becomes its complement
(R415, R417, R434, R436). A LEVEL channel takes its level at once, or where its pair's other one was asserted, after
DEADTIME. -/
def State.putPg (s : State) (ch : Nat) (k : PgSet) : State :=
  let was := (s.pgSet ch).pair && (s.pgSet ch).enable
  let level := k.enable && (if k.src = 0 then bit k.sel 0 else (s.pgSet ch).enable && (s.pgOf ch).level)
  let gap := k.enable && k.pair && decide (k.src = 0) && decide (0 < k.deadtime) &&
    (if level then was && (s.pgOf (ch + 1)).level else (s.pgOf ch).level)
  let odd := if k.src = 0 then !level && !gap else was && (s.pgOf (ch + 1)).level
  let s := (s.modPgSet ch (fun _ => k)).modPg ch (fun x => { x with
    change := none, owned := k.enable, level := level && !gap
    quietTill := if gap then s.now + k.deadtime * perTick else 0 })
  if k.enable && k.pair then
    (s.modPgSet (ch + 1) (fun _ => {
      enable := true, pol := k.pol, latch := k.latch, safe := k.safe, chain := k.chain })).modPg (ch + 1) (fun x => { x with
      owned := true, paired := true, change := none, level := odd })
  else if was then
    (s.modPgSet (ch + 1) (fun _ => {})).modPg (ch + 1) (fun x => { x with
      owned := false, paired := false, change := none, level := false })
  else s
/-- A change that awaits its moment takes effect, and its command completes (R417). -/
def State.applyPg (s : State) (ch : Nat) : State :=
  match (s.pgOf ch).change with
  | none => s
  | some (k, ref) => (s.putPg ch k).complete ref stOk 0 0

/-! Sequences that a walk or a RADIO_SET_STATE starts (R75, R406, R408). -/

/-- A power-down of a chain that the movement in progress waits for. -/
def State.bringDown (s : State) (c : Nat) : State :=
  let s := s.askDown c
  s.modFe c (fun x => { x with mine := x.busy })
/-- A sequence that the movement in progress waits for has not ended; a PAEN trip counts as the end of a power-up
(R427). -/
def State.waitsSeq (s : State) : Bool := chains.any (fun c => (s.feOf c).mine && (s.feOf c).busyUp)
/-- Every chain powers down. -/
def State.allDown (s : State) : State := s.each chains State.bringDown

/-! Entries and exits (R59, R81, R403, R404). -/

/-- The restart caps count the time in REPEAT (R289). -/
def State.capsRun (s : State) : State :=
  s.each allSbs (fun s g =>
    if (s.govOf g).cap.isSome then s.modGov g (fun x => { x with capFrom := some s.now }) else s)
def State.capStop (s : State) (g : Nat) : State :=
  match (s.govOf g).capFrom with
  | some t => s.modGov g (fun x => { x with capRepeat := x.capRepeat + (s.now - t), capFrom := none })
  | none => s
def State.capsStop (s : State) : State := s.each allSbs State.capStop

/-- The radio is in another state: snapshot trigger RADIO (R606). -/
def State.toState (s : State) (n : Nat) : State :=
  ({ s with radio := { s.radio with state := n } }).trigger 0x20 (s.radio.state * 256 + n)

/-- SYNTH is reached from below (R105, R108, R404, R405, R420). -/
def State.enterSynth (s : State) : State :=
  let s := s.toState 2
  let s := { s with radio := { s.radio with quickDone := true } }
  let s := s.each chains (fun s c => (s.modCnv c (fun x => { x with swapsSince := 0 })).refreshRotation c)
  (s.driveFront).each (List.range 16) State.startMonitor

/-- A band on the entry to LISTEN: donor-loss muted with DONOR_EN = 1, no level yet; G_ULN keeps its last value (R384, R385). -/
def State.bandEnters (s : State) (b : Nat) : State :=
  s.modBand b (fun x => { x with
    muted := (s.npBand b).donorEn, level := none, undetectedFrom := none, aboveFrom := none
    evalAt := some s.now })
/-- A chain on the entry: its outer loop at rest, and the start test of R126 with FAST_EN = 1. -/
def State.chainEnters (s : State) (c : Nat) : State :=
  let s := s.restLoop (128 + c)
  if (s.attOf c).fastEn ∧ !(s.cnvOf c).fenced then
    s.modCnv c (fun x => { x with startTest := some (s.now + 19661) })
  else s
/-- An enabled sub-band on the entry (R252, R267, R272, R316). -/
def State.sbEnters (s : State) (g : Nat) : State :=
  ((s.modGov g Gov.forget).modCan g (fun x => { x with
    converged := false, achieved := 0, history := [], divRun := 0 })).modLoop g (fun x => { x with
    share := (s.loopSet g).share })
/-- The enabled sub-bands on the entry. -/
def State.sbsEnter (s : State) : State := s.each (allSbs.filter (fun g => s.enabled g)) State.sbEnters
/-- The outputs of sub-bands on a fenced chain are tagged 11 (R42). -/
def State.tagFenced (s : State) (gs : List Nat) : State :=
  s.each (gs.filter (fun g => (s.cnvOf (chainOf g)).fenced)) (fun s g => s.addTag g 3 0 none)
/-- The enabled sub-bands that are not shed. -/
def State.unshedSbs (s : State) : List Nat := allSbs.filter (fun g => s.enabled g && !(s.sbOf g).shed)
/-- They begin to deliver outputs, each with its own reset; C of every enabled sub-band is first computed (R214, R272). -/
def State.outputsBegin (s : State) : State :=
  let shed := allSbs.filter (fun g => s.enabled g && (s.sbOf g).shed)
  let s := s.each shed (fun s g => s.modSb g (fun x => { x with firstOut := 0 }))
  ((s.each s.unshedSbs (fun s g => s.startSync [g] none true)).startOutputs s.unshedSbs shed).tagFenced s.unshedSbs
/-- LISTEN is reached from below: sub-bands begin to deliver outputs, loops are at rest, and what the chapters reset
on the entry is reset (R126, R214, R224, R252, R267, R272, R288, R316, R318, R385, R388). -/
def State.enterListen (s : State) : State :=
  let s := { s.toState 3 with regrowth := [] }
  let s := ((s.each (List.range 16) State.bandEnters).judgeDonors).each chains State.chainEnters
  ((s.sbsEnter).outputsBegin).restartWaiting

/-- REPEAT is reached (R80). -/
def State.enterRepeat (s : State) : State := (s.toState 4).capsRun

/-- What runs on a sub-band ends with a status. -/
def State.sbLeaves (s : State) (g st sub : Nat) : State :=
  let s := ((s.endSwitches g).endRetunes g).dropSyncs g st sub
  let s := (s.stopProbe g st sub).discardLoop g st sub
  let s := s.modSb g (fun x => { x with tags := [], syncs := [] })
  if (s.sbOf g).ramp.isSome then s.disableNow g else s

/-- The weight of the thermal fade is 1 again (R468). -/
def State.endThermalFade (s : State) : State := { s with th := { s.th with fadeEnd := none, fadeDone := false } }
/-- A fade that has ended is over as the radio leaves LISTEN. -/
def State.fadeLeaves (s : State) : State := if s.th.fadeDone then s.endThermalFade else s
/-- The transmit converters are gated: their windows and lines empty (R403). -/
def State.gateDacs (s : State) : State := { s with dac := [] }
/-- What a chain of converters drops as the radio leaves LISTEN: its outer loop and its gain steps. -/
def State.chainLeaves (st sub : Nat) (s : State) (c : Nat) : State :=
  (s.discardLoop (128 + c) st sub).modCnv c (fun x => { x with steps := [], comps := [], startTest := none })
/-- The radio leaves LISTEN downward: what runs there ends (R127, R184, R201, R217, R224, R297, R328). -/
def State.leaveListen (s : State) (kind : WalkKind) : State :=
  let st := (causeStatus kind).1
  let sub := (causeStatus kind).2
  let s := (s.toState 2).each (allSbs.filter (fun g => s.enabled g)) (fun s g => s.sbLeaves g st sub)
  let s := s.each (allSbs.filter (fun g => (s.sbOf g).drain.isSome)) (fun s g => s.modSb g (fun x => { x with drain := none }))
  let s := s.each chains (State.chainLeaves st sub)
  (((s.pathsChanged allSbs).takeLimits.gateDacs).each chains State.driveAtt).fadeLeaves

/-- An overrange episode in progress ends when the chain's converters are gated (R115, R118). -/
def State.gateConverter (s : State) (c : Nat) : State :=
  if (s.cnvOf c).ovrActive then
    (s.modCnv c (fun x => { x with ovrActive := false, cleanAt := some s.now })).trigger 0x03 c
  else s
/-- Below SYNTH no schedule runs: no channel's schedule is asserted, and no edge of an HT timer's pin still has to fire (R416,
R445, R447). A static level stays. -/
def State.scheduleStops (s : State) : State :=
  let s := s.each (List.range 16) (fun s ch =>
    if (s.pgSchedule ch).src = 0 then s else s.modPg ch (fun x => { x with level := false }))
  { s with set := { s.set with hkTimer := s.set.hkTimer.map (fun e => (e.1, { e.2 with edges := [] })) } }
/-- The radio leaves SYNTH downward: the root PLL and what runs from it go off (R59, R403, R445). Timers of window
samples that still run end at once [25]. -/
def State.leaveSynth (s : State) : State :=
  let s := s.each allSbs State.endRetunes
  let s := s.toState 1
  let s := { s with
    radio := { s.radio with pllOn := false, pllLocked := false, quickDone := false }
    hk := { s.hk with delayed := s.hk.delayed.filter (fun q => q.cls == 1), waiting := s.hk.waiting.filter (fun q => q.cls == 1) } }
  let s := s.each chains (fun s c => (s.gateConverter c).refreshRotation c)
  let s := (s.driveFront).stopMonitors
  (s.each (List.range 16) State.applyPg).scheduleStops

/-- One transition downward. Every orderly entry to STANDBY stores the kept isolations (R268). -/
def State.downOne (s : State) (kind : WalkKind) : State :=
  if s.radio.state = 4 then (s.toState 3).capsStop
  else if s.radio.state = 3 then s.leaveListen kind
  else if s.radio.state = 2 then
    let s := s.leaveSynth
    if kind = .clock then s else s.storeIso
  else s

/-! Walks (R75, R76, R78, R80, R81, R85, R576). -/

/-- The result of RADIO_SET_STATE (R75). -/
def State.radioResult (s : State) (startedAt : Time) : Nat :=
  s.radio.state + 65536 * (microsUp (s.now - startedAt) % 4294967296)

def State.setRadio (s : State) (f : Radio → Radio) : State := { s with radio := f s.radio }

/-- The root PLL is enabled (R54). -/
def State.pllStart (s : State) : State :=
  s.setRadio (fun r => { r with pllOn := true, pllLocked := false, pllOnAt := s.now })
/-- The root PLL goes off in STANDBY where nothing needs it. -/
def State.pllRest (s : State) : State :=
  if s.radio.state ≤ 1 then s.setRadio (fun r => { r with pllOn := false, pllLocked := false }) else s

/-- A RADIO_SET_STATE completes OK: it replaces a resume target (R472) and the start state of the boot (R666). -/
def State.stateReached (s : State) (ref : CmdRef) (startedAt : Time) : State :=
  let r := s.radio
  let s := if s.th.stop then { s with th := { s.th with resume := (r.state, r.txEn, r.dirEn) } } else s
  let s := if s.boot.running ∧ s.boot.step < 11 then { s with boot := { s.boot with startReplaced := true } } else s
  s.complete ref stOk 0 (s.radioResult startedAt)

/-- The RADIO_SET_STATE that executes ends with a status; the movement itself is left to the caller. -/
def State.endRadio (s : State) (status sub : Nat) : State :=
  let s := match s.radio.walk.bind Walk.cmd, s.radio.walk with
    | some c, some w => s.complete c status sub (s.radioResult w.startedAt)
    | _, _ => s
  match s.radio.setting with
  | some (c, t) => (s.setRadio (fun r => { r with setting := none })).complete c status sub (s.radioResult t)
  | none => s

/-- A walk has ended, its command completed by the caller. -/
def State.dropWalk (s : State) : State :=
  s.setRadio (fun r => { r with walk := none, fall := none, relock := none })

/-- The walk is at an end: at its target, or back where it began after a failed step (R75, R76). -/
def State.finishWalk (s : State) (w : Walk) : State :=
  let s := (s.dropWalk).pllRest
  match w.failedStep with
  | some n => s.completeOpt w.cmd stTimeout (0x100 + n) (s.radioResult w.startedAt)
  | none =>
    match w.cmd with
    | some c => s.stateReached c w.startedAt
    | none => s

def State.setStep (s : State) (w : Walk) (n : Nat) : State :=
  s.setRadio (fun r => { r with walk := some { w with step := n, stepAt := s.now } })

/-- Step 8: the PA power-up sequences of the enabled chains start (R80, R406). -/
def State.stepEight (s : State) (w : Walk) : State :=
  let s := s.setStep w 8
  s.each (chains.filter (fun c => s.txWanted c)) State.bringUp

/-- A movement downward with no command behind it: a reaction, a thermal stop. Chains that are up, as in REPEAT and after a
part of step 8, power down first (R69, R403, R408). -/
def State.fallWalk (s : State) (kind : WalkKind) (target : Nat) : State :=
  if target < s.radio.state then
    let w : Walk := {
      kind := kind, cmd := none, origin := s.radio.state, target := target, asked := target, step := 0
      startedAt := s.now, stepAt := s.now, failedStep := none }
    let s := s.setRadio (fun r => { r with walk := some w, fall := none, relock := none })
    s.allDown
  else (s.dropWalk).pllRest

/-- A step boundary after step `n` (0: none): the walk ends where a reaction asks for it, is finished, or takes its
next step (R76, R81, R85, R576). -/
def State.boundaryAfter (s : State) (n : Nat) : State :=
  match s.radio.walk with
  | none => s
  | some w =>
    match s.radio.fall with
    | some (t, kind) =>
      let s := s.endRadio (causeStatus kind).1 (causeStatus kind).2
      s.fallWalk kind t
    | none =>
      if s.radio.state = w.target then s.finishWalk w
      else if s.radio.state < w.target then
        if n = 4 then s.setStep w 5
        else if s.radio.state = 1 then (s.setStep w 4).pllStart
        else if s.radio.state = 2 then s.setStep w 6
        else if n = 7 then s.stepEight w
        else s.setStep w 7
      else if s.radio.state = 1 then ((s.setStep w 9).pllRest).busesOff
      else s.setStep w 0

/-- The sequences that the movement waits for have ended: REPEAT is reached after step 8 (R80), a walk whose step failed is
back where it began (R76), or a RADIO_SET_STATE in REPEAT completes (R75, R83). -/
def State.seqCheck (s : State) : State :=
  if s.waitsSeq then s
  else
    match s.radio.walk, s.radio.setting with
    | some w, _ =>
      if w.step = 8 ∧ s.radio.state = 3 then
        if s.radio.fall.isSome ∨ w.target < 4 then s.boundaryAfter 8 else (s.enterRepeat).boundaryAfter 8
      else if w.step = 0 ∧ w.failedStep.isSome ∧ s.radio.state = w.target then s.finishWalk w
      else s
    | none, some (c, t) => (s.setRadio (fun r => { r with setting := none })).stateReached c t
    | none, none => s

/-- A walk begins (R76). From REPEAT downward the power-down sequences run first (R81). -/
def State.startWalk (s : State) (kind : WalkKind) (cmd : Option CmdRef) (target : Nat) : State :=
  let w : Walk := {
    kind := kind, cmd := cmd, origin := s.radio.state, target := target, asked := target, step := 0, startedAt := s.now
    stepAt := s.now, failedStep := none }
  let s := s.setRadio (fun r => { r with walk := some w, fall := none })
  if target < s.radio.state ∧ s.radio.state = 4 then s.allDown
  else (s.boundaryAfter 0).seqCheck

/-- A step fails: the chains that are up power down, and the device walks back to the state in which the command found it
(R69, R76). -/
def State.failStep (s : State) : State :=
  match s.radio.walk with
  | none => s
  | some w =>
    let w := { w with failedStep := some w.step, target := min w.origin s.radio.state, step := 0, stepAt := s.now }
    let s := if w.kind = .boot ∧ s.boot.step = 8 then { s with boot := { s.boot with earlyDue := true } } else s
    let s := (s.allDown).setRadio (fun r => { r with walk := some w })
    if s.radio.state = w.target ∧ !s.waitsSeq then s.finishWalk w else s

/-! Falls (R61, R62, R78, R409, R469, R576). -/

/-- PAEN and PABIAS go to their disabled levels at once, with no sequence (R61, R409, R469). -/
def State.forceOff (s : State) : State :=
  s.each chains (fun s c => s.modFe c (fun x => { x with
    seq := none, on := false, paen := false, pabias := false, txActive := false, dueUp := false, dueDown := false
    mine := false }))

/-- The radio falls to SYNTH, at the next step boundary of a walk (R576). -/
def State.fallSafe (s : State) : State :=
  match s.radio.walk with
  | some w =>
    if w.target ≤ 2 then s
    else s.setRadio (fun r => { r with fall := some (2, .fault) })
  | none =>
    if 2 < s.radio.state then (s.endRadio (causeStatus .fault).1 (causeStatus .fault).2).fallWalk .fault 2 else s
/-- The safe state S4 as it moves the radio (R574, R576). -/
def State.safeState (s : State) : State := (s.each chains (fun s c => s.askDown c)).fallSafe

/-- The divider's outputs stop during a walk below SYNTH: steps 4 and 5 fail, and the PLL rests. -/
def State.clockStops (s : State) (step : Nat) : State := if step = 4 ∨ step = 5 then (s.failStep).pllRest else s.pllRest
/-- The walk ends and the radio leaves its states one by one, as far as STANDBY. -/
def State.clockSteps (s : State) : State :=
  ((((s.endRadio (causeStatus .fault).1 (causeStatus .fault).2).dropWalk.downOne .clock).downOne .clock).downOne .clock)
/-- The clock is lost in SYNTH, LISTEN or REPEAT: everything that transmits is forced off, and the radio falls to
STANDBY, within the 100 µs of R81 [25] (R61). DESIGN CHOICE [97]: a foreground calibration that it cuts short leaves FG_CAL
at 1 until the event that ends the calibration (R92 does not say), as a thermal stop does. -/
def State.clockFall (s : State) : State :=
  match if 2 ≤ s.radio.state then none else s.radio.walk with
  | some w => s.forceOff.clockStops w.step
  | none => s.forceOff.clockSteps

/-- A thermal stop ends a walk that it moves (R78). -/
def State.stopWalk (s : State) : State :=
  let moves := decide (1 < s.radio.state) || (match s.radio.walk with
    | some w => decide (1 < w.target)
    | none => false)
  if moves then ((s.endRadio (causeStatus .thermal).1 (causeStatus .thermal).2).dropWalk).pllRest else s
/-- The radio goes to STANDBY for a thermal stop (R468, R469). In STANDBY it stays, and a walk to SLEEP goes on (R473). -/
def State.thermalFall (s : State) : State :=
  let s := s.stopWalk
  if 1 < s.radio.state then s.fallWalk .thermal 1 else s

/-- The relock of R62 makes an attempt. -/
def State.relockTry (s : State) (n : Nat) (first : Time) : State :=
  let s := s.startWalk .relock none 2
  s.setRadio (fun r => { r with relock := some (n, first) })
/-- R62 begins where AUTO_RELOCK is 1 and the root source is present. -/
def State.relockBegin (s : State) : State :=
  if s.set.radioCfg.autoRelock ∧ s.radio.srcPresent ∧ s.radio.state = 1 ∧ s.radio.walk.isNone then s.relockTry 1 s.now
  else s
/-- An attempt of the relock has failed: up to three are made in 1 s, and CLK.LOCKFAIL follows the third (R60, R62). -/
def State.relockFailed (s : State) : State :=
  match s.radio.relock with
  | none => s
  | some (n, first) =>
    let s := (s.dropWalk).pllRest
    if n < 3 ∧ s.now ≤ first + perSecond then s.relockTry (n + 1) first else s.raise 6 0 0

end Sys2Proof.Machine
end

