-- ==== Sys2Proof/Machine/Housekeep.lean ====
section
/-!
DEFINITION. The housekeeping converter (R442 to R458): HK_CONFIGURE, HT timers, requests, conversions, HK_DATA.
-/

namespace Sys2Proof.Machine

/-! HK_CONFIGURE (R446, R447, R454, R455). -/

/-- A GPIO holds a function. -/
def State.pinOf (s : State) (func : Nat) : Option Nat := (List.range 16).find? (fun g => decide (s.gpio g = func))

def hkEntryOf (r : Request) : HkEntry :=
  { enable := flag r 1 0, urgent := flag r 1 1, engine := flag r 1 2, trig := byteAt r.params 1 / 8 % 4
    channel := pu r 2 1, trigIdx := pu r 3 1, delay := pu r 4 2 }
def hkTimerOf (r : Request) : HkTimer :=
  { enable := flag r 1 0, edge := flag r 1 1, period := pu r 4 4, phase := pu r 8 4 }

def checkHkConfigure (r : Request) (s : State) : Verdict :=
  let kind := pu r 0 1
  let n := instOf r
  if kind = 0 then
    let e := hkEntryOf r
    checks ([
      (decide (32 ≤ n), badInst), (decide (32 ≤ pu r 1 1) || decide (e.trig = 3), bad 1),
      (decide (31 < e.channel) || decide (e.channel = 29), bad 2),
      (decide ((if e.trig = 0 then 7 else 15) < e.trigIdx), bad 3), reserved r 6 10] ++ needLock s ++ [
      (e.enable && decide (e.trig = 0) && !(s.hkTimer e.trigIdx).enable, wrong 8)])
  else if kind = 1 then
    let t := hkTimerOf r
    checks ([
      (decide (8 ≤ n), badInst), (decide (4 ≤ pu r 1 1), bad 1), reserved r 2 2,
      (if t.edge then decide (t.period ≠ 0) else decide (t.period < 2), bad 4),
      (if t.edge then decide (t.phase ≠ 0) else decide (t.period ≤ t.phase), bad 8), reserved r 12 4] ++ needLock s ++ [
      (t.enable && t.edge && (s.pinOf (0x20 + n)).isNone, wrong 8),
      (!t.enable && (s.hkTimer n).enable &&
        (List.range 32).any (fun e =>
          let k := s.hkEntry e
          k.enable && decide (k.trig = 0) && decide (k.trigIdx = n)), wrong 4)])
  else if kind = 2 then
    checks [(decide (n ≠ 0), badInst), reserved r 1 1, (decide (4095 < pu r 2 2), bad 2), reserved r 4 12]
  else bad 0

/-- New settings of a timer act from its next trigger: an edge that it has taken still fires, and a boundary that has fired does
not fire again (R455). A timer that is released drops its edges. -/
def HkTimer.take (old new : HkTimer) : HkTimer :=
  { new with last := old.last, edges := if old.enable && new.enable && !old.pinLost then old.edges else [] }

def applyHkConfigure (ref : CmdRef) (r : Request) (s : State) : State :=
  let kind := pu r 0 1
  let n := instOf r
  let s :=
    if kind = 0 then { s with set := { s.set with hkEntry := Table.set {} s.set.hkEntry n (hkEntryOf r) } }
    else if kind = 1 then { s with set := { s.set with hkTimer := Table.set {} s.set.hkTimer n ((s.hkTimer n).take (hkTimerOf r)) } }
    else { s with set := { s.set with hkDac := pu r 2 2 } }
  s.complete ref stOk 0 0

def cmdHkConfigure : CmdDef := ⟨0x0701, 16, false, checkHkConfigure, applyHkConfigure⟩
/-- R446, R454, KIND 0. -/
def execHkConfigureEntry (dt : Nat) (r : Request) (s : State) : Host.Outcome State Fault Refusal :=
  .next ((s.advance dt).issue cmdHkConfigure (withByte r 0 0))
/-- R447, R454, KIND 1. -/
def execHkConfigureTimer (dt : Nat) (r : Request) (s : State) : Host.Outcome State Fault Refusal :=
  .next ((s.advance dt).issue cmdHkConfigure (withByte r 0 1))
/-- R444, R454, KIND 2. -/
def execHkConfigureDac (dt : Nat) (r : Request) (s : State) : Host.Outcome State Fault Refusal :=
  .next ((s.advance dt).issue cmdHkConfigure (withByte r 0 2))

/-! Requests and conversions (R446 to R452). -/

/-- A conversion lasts 500 ns (R442). -/
def convTime : Time := 984

def State.modTh (s : State) (f : Th → Th) : State := { s with th := f s.th }
/-- The round counter of STANDBY begins with the root source that clocks it (R461). -/
def State.roundsBegin (s : State) : State := s.modTh (fun t => { t with roundBase := s.now })
def State.modHk (s : State) (f : Hk → Hk) : State := { s with hk := f s.hk }

/-- The request to start next: the highest class, the earliest requested, the lower entry (R448). -/
def HkReq.before (a b : HkReq) : Bool :=
  decide (a.cls < b.cls) ||
    (decide (a.cls = b.cls) && (decide (a.due < b.due) || (decide (a.due = b.due) && decide (a.entry ≤ b.entry))))
def firstReq : List HkReq → Option HkReq
  | [] => none
  | q :: rest => match firstReq rest with
    | none => some q
    | some p => if q.before p then some q else some p

/-- The TX chains that transmit with at least one gate open (R334). -/
def State.sendingChains (s : State) : List Nat :=
  chains.filter (fun c => s.transmits c && (sbsOf c).any (fun g => s.enabled g && s.gateOpen g))
/-- A request at its requested tick: it starts on an idle converter, waits, or is dropped (R448, R449). A fenced
converter takes none. -/
def State.hkAsk (s : State) (q : HkReq) : State :=
  let sends := s.sendingChains
  s.modHk (fun h =>
    if h.fenced then h
    else if h.busy.isNone then { h with busy := some (q, s.now + convTime), sends := sends, dacAt := s.set.hkDac }
    else if q.cls = 2 ∧ 8 ≤ (h.waiting.filter (fun w => decide (w.cls = 2))).length then
      { h with dropCount := satUp 0xFFFF h.dropCount }
    else { h with waiting := h.waiting ++ [q] })

/-- The entries with a trigger make their requests after their delays (R446). Below SYNTH triggers are ignored
(R445). -/
def State.hkTrigger (s : State) (kind idx : Nat) : State :=
  if s.radio.state < 2 then s
  else s.each (List.range 32) (fun s e =>
    let k := s.hkEntry e
    if !(k.enable ∧ k.trig = kind ∧ k.trigIdx = idx) then s
    else if (s.hk.delayed ++ s.hk.waiting).any (fun q => decide (q.entry = e)) then
      s.modHk (fun h => { h with trigMiss := satUp 0xFFFF h.trigMiss })
    else
      let q : HkReq := { cls := if k.urgent then 0 else 2, due := s.now + k.delay * perTick, entry := e
                         channel := k.channel, engine := k.engine }
      if k.delay = 0 then s.hkAsk q else s.modHk (fun h => { h with delayed := h.delayed ++ [q] }))

/-- R447: an HT timer fires at a tick with n mod PERIOD = PHASE, or 3 ticks after an edge. -/
def execHtTimerFire (dt n : Nat) (s : State) : Host.Outcome State Fault Refusal :=
  let s := s.advance dt
  let k := s.hkTimer n
  let put := fun (s : State) (k : HkTimer) => { s with set := { s.set with hkTimer := Table.set {} s.set.hkTimer n k } }
  .next (
    if !(n < 8 ∧ k.enable ∧ 2 ≤ s.radio.state) then s
    else if k.edge ∨ k.edges ≠ [] then
      match k.edges with
      | t :: rest => if t + 3 * perTick ≤ s.now then (put s { k with edges := rest }).hkTrigger 0 n else s
      | [] => s
    else if s.tick % k.period = k.phase ∧ k.last ≠ some s.tick then (put s { k with last := some s.tick }).hkTrigger 0 n
    else s)

/-- R447: a rising edge on the pin of a MODE 1 timer. -/
def execHtTriggerEdge (dt n : Nat) (s : State) : Host.Outcome State Fault Refusal :=
  let s := s.advance dt
  let k := s.hkTimer n
  .next (
    if n < 8 ∧ k.enable ∧ k.edge ∧ !k.pinLost ∧ (s.pinOf (0x20 + n)).isSome ∧ 2 ≤ s.radio.state then
      { s with set := { s.set with hkTimer := Table.set {} s.set.hkTimer n { k with edges := k.edges ++ [s.now] } } }
    else s)

/-- R446, R448: the delay of an entry's request, or the place of a request of the round (entry 63), has come. -/
def execHkRequest (dt e : Nat) (s : State) : Host.Outcome State Fault Refusal :=
  let s := s.advance dt
  .next (
    match s.hk.delayed.find? (fun q => decide (q.entry = e) && decide (q.due ≤ s.now)) with
    | some q => (s.modHk (fun h => { h with delayed := h.delayed.erase q })).hkAsk q
    | none => s)

/-- HK_DATA holds a result that its consumer has not taken (R451, R456). -/
def State.hkHeld (s : State) : Bool := s.hk.data.valid && (s.hk.stalled || decide (s.now < s.hk.takenAt))

/-- The control engine takes a result for a chain's plausibility supervisor, where the conversion sampled its input while the
chain transmitted (R333, R334, R442, R451). -/
def State.detector (s : State) (channel code : Nat) : State :=
  s.each chains (fun s c =>
    if (s.plausSet c).detSrc = channel ∧ s.hk.sends.contains c then
      s.modPlaus c (fun x => { x with detAt := some s.now, detCode := code })
    else s)

/-- The code of a voltage in nV (R443): 1.5 V is 65,536, saturated. A tie is a free choice [7]. -/
def hkCode (nv : Nat) : Nat := min 65535 (roundQ ((nv : Int) * 65536) 1500000000 (Config.roundsUp nv 7)).toNat

/-- The voltage, in nV, that the 12-bit DAC gives for a code: the code's share of 1.5 V, counted of 4,096 steps or of 4,095,
which R444 leaves open; where between the two is free [97]. -/
def loopVoltage (code : Nat) : Nat :=
  max (1500000000 * code / 4096) (min (Config.loopVoltage code) (ceilDiv (1500000000 * code) 4095))
/-- The voltage at a channel: the code of the DAC at the start of the conversion drives channel 31 (R442, R444); else the
input's then, with the converter's own errors in it (R443). -/
def State.hkInput (s : State) (channel nv : Nat) : Nat := if channel = 31 then loopVoltage s.hk.dacAt else nv
/-- The sample tick of an instant that is not later than now (R456). -/
def State.tickAt (s : State) (t : Time) : Nat := (s.window - (s.now - t)) / perTick
/-- The result that is held is one of the round's, for firmware (R450, R461). -/
def State.roundHeld (s : State) : Bool := s.hkHeld && !s.hk.byEngine && decide (s.hk.data.entry = 63)
/-- The result that is overwritten never reaches firmware (R452): one of the round's leaves it with the code it had before,
which the spec does not say [97]. -/
def State.loseRound (s : State) : State :=
  if !s.hk.byEngine ∧ s.hk.data.entry = 63 then s.modTh (fun t => { t with codes := Table.set 0 t.codes t.prior.1 t.prior.2 })
  else s
/-- The result of a conversion that ends at t: HK_LAST, and HK_DATA, whose overwritten result is counted. A consumer takes it
after a time of its bound. -/
def State.putResult (s : State) (q : HkReq) (t : Time) (code : Nat) : State :=
  let res : HkResult := {
    valid := true, urgent := decide (q.cls = 0), entry := if q.cls = 1 then 63 else q.entry
    channel := q.channel, time := s.tickAt (t - convTime) % 4294967296, code := code }
  let s := if s.hkHeld then (s.modHk (fun h => { h with
      ovr := true, ovrCount := satUp 0xFFFF h.ovrCount, ovrLastCh := h.data.channel })).loseRound else s
  let wait := s.draw % (if q.engine then 17 else 3933)
  let s : State := { s.drawn with hkLast := Table.set {} s.hkLast q.channel res }
  s.modHk (fun h => { h with
    data := res, takenAt := s.now + wait, busy := none, byEngine := q.engine, stalled := !q.engine && !s.firmwareRuns })
/-- The engine's comparison takes a detector's code (R333), and a round its own codes (R460), which a later result may still
overwrite before firmware has them (R452). -/
def State.useCode (s : State) (q : HkReq) (code : Nat) : State :=
  let s := if q.engine then s.detector q.channel code else s
  if q.cls = 1 then s.modTh (fun t => { t with
      codes := Table.set 0 t.codes q.channel (code + 1), prior := (q.channel, Table.get 0 t.codes q.channel) })
  else s
/-- The housekeeping converter is fenced, and the plausibility results are stale (R477). -/
def State.fenceHk (s : State) : State :=
  (s.modHk (fun h => { h with fenced := true, waiting := [], delayed := [] })).each chains (fun s c =>
    s.modPlaus c (fun x => { x with detAt := none }))
/-- The next request that waits is converted (R448). -/
def State.nextConversion (s : State) : State :=
  match firstReq s.hk.waiting with
  | some n => s.modHk (fun h => { h with
      waiting := h.waiting.erase n, busy := some (n, s.now + convTime), sends := s.sendingChains, dacAt := s.set.hkDac })
  | none => s
/-- R443, R450 to R452: a conversion of the input's voltage, in nV, ends: HK_DATA, HK_LAST, the overwrite of a result not yet consumed, and the next
request. A converter that has been fenced gives none (R477). When the consumer takes the result, within the times of R451, is a free value [4]. -/
def execHkConversionEnd (dt nv : Nat) (s : State) : Host.Outcome State Fault Refusal :=
  let s := s.advance dt
  .next (
    match s.hk.busy with
    | none => s
    | some (q, t) =>
      if s.now < t then s
      else if s.hk.fenced then s.modHk (fun h => { h with busy := none })
      else
        let code := hkCode (s.hkInput q.channel nv)
        ((s.putResult q t code).useCode q code).nextConversion)

/-! HK_DATA, HK_LAST, HK_STATUS (R456 to R458). -/

def HkResult.value (x : HkResult) (valid : Bool) : Nat :=
  packFields [(1, ofBool valid), (1, ofBool x.urgent), (6, x.entry), (5, x.channel), (3, 0), (32, x.time), (16, x.code)]
def hkDataValue (s : State) : Nat := s.hk.data.value s.hkHeld
def hkLastValue (s : State) (ch : Nat) : Nat :=
  let x : HkResult := Table.get {} s.hkLast ch
  x.value x.valid
def hkStatusValue (s : State) : Nat :=
  let h := s.hk
  packFields [(1, ofBool h.ovr), (1, ofBool h.busy.isSome), (1, ofBool h.fenced), (5, h.ovrLastCh), (8, 0),
    (16, h.ovrCount), (16, h.trigMiss), (16, h.dropCount)]

end Sys2Proof.Machine
end

