-- ==== Sys2Proof/Machine/Thermal.lean ====
section
/-!
DEFINITION. Temperature sensing and thermal management (R459 to R477): TH_CONFIGURE, the slow round, throttling,
thermal stops and their release. Temperatures are in 0.1 °C.
-/

namespace Sys2Proof.Machine

/-! TH_CONFIGURE (R474). -/

def checkThConfigure (r : Request) (_ : State) : Verdict :=
  let kind := pu r 0 1
  let n := instOf r
  if kind = 0 then checks [(decide (n ≠ 0), badInst), (decide (2 ≤ pu r 1 1), bad 1), reserved r 2 14]
  else if kind = 1 then
    checks [(decide (8 ≤ n), badInst), (decide (2 ≤ pu r 1 1), bad 1), (decide (23 < pu r 2 1), bad 2),
      (outside 4 7 (pu r 3 1), bad 3), (outside (-600) 1750 (ps r 4 2), bad 4), (decide (ps r 8 4 = 0), bad 8),
      reserved r 12 4]
  else if kind = 2 then
    checks [(outside 4 7 n, badInst), reserved r 1 1, (outside (-60) 20 (ps r 2 1), bad 2), reserved r 3 13]
  else checks [(decide (8 ≤ n), badInst), (true, bad 0)]

def applyThConfigure (ref : CmdRef) (r : Request) (s : State) : State :=
  let kind := pu r 0 1
  let n := instOf r
  let s :=
    if kind = 0 then { s with set := { s.set with autoResume := flag r 1 0 } }
    else if kind = 1 then
      let x : XsSet := {
        enable := flag r 1 0, channel := pu r 2 1, zone := pu r 3 1, t0 := ps r 4 2, c0 := pu r 6 2, slope := ps r 8 4 }
      { s with set := { s.set with xs := Table.set {} s.set.xs n x } }
    else { s with set := { s.set with ofs := Table.set 0 s.set.ofs n (ps r 2 1) } }
  s.complete ref stOk 0 0

def cmdThConfigure : CmdDef := ⟨0x0710, 16, false, checkThConfigure, applyThConfigure⟩
/-- R474, KIND 0. -/
def execThConfigureGlobal (dt : Nat) (r : Request) (s : State) : Host.Outcome State Fault Refusal :=
  .next ((s.advance dt).issue cmdThConfigure (withByte r 0 0))
/-- R474, KIND 1. -/
def execThConfigureSensor (dt : Nat) (r : Request) (s : State) : Host.Outcome State Fault Refusal :=
  .next ((s.advance dt).issue cmdThConfigure (withByte r 0 1))
/-- R474, KIND 2. -/
def execThConfigureZone (dt : Nat) (r : Request) (s : State) : Host.Outcome State Fault Refusal :=
  .next ((s.advance dt).issue cmdThConfigure (withByte r 0 2))

/-! Sensors and zones (R459, R460, R462, R463). -/

/-- The zone of an on-die sensor (R459). -/
def zoneOfTs (n : Nat) : Nat := if n < 4 then 0 else if n < 8 then 1 else if n < 10 then 2 else 3
/-- A sensor's bit in the broken mask: TS in bits 0 to 11, XS in bits 16 to 23. -/
def State.sensorBroken (s : State) (n : Nat) : Bool := s.hk.fenced || bit s.th.broken.toNat n
/-- The sensors of a zone, by their bits. -/
def State.zoneSensors (s : State) (z : Nat) : List Nat :=
  if z < 4 then (List.range 12).filter (fun n => decide (zoneOfTs n = z))
  else ((List.range 8).filter (fun n => (s.xsOf n).enable && decide ((s.xsOf n).zone = z))).map (16 + ·)
/-- The enabled external sensors, which a round converts after the 12 on-die ones (R461). -/
def State.externals (s : State) : List Nat := (List.range 8).filter (fun n => (s.xsOf n).enable)
/-- The code of a round for an external sensor (R460, R461). -/
def State.externalCode (s : State) (n : Nat) : Nat := Table.get 0 s.th.codes (s.xsOf n).channel - 1
/-- A sensor's reading of a round (R460); the rounding of an external one is unstated [7]. -/
def State.sensorReading (s : State) (m : RoundMeas) (n : Nat) : Int :=
  if n < 16 then m.onDie.getD n 0
  else
    let x := s.xsOf (n - 16)
    let d := ((s.externalCode (n - 16) : Int) - (x.c0 : Int)) * x.slope * 10
    x.t0 + roundQ d 65536 (Config.roundsUp d n)
/-- The value used: 123 °C for a broken sensor (R462). -/
def State.sensorValue (s : State) (m : RoundMeas) (n : Nat) : Int :=
  if s.sensorBroken n then 1230 else s.sensorReading m n
/-- The hottest of a list of values. -/
def hottest : List Int → Option Int
  | [] => none
  | v :: rest => some (match hottest rest with
    | some w => max v w
    | none => v)
/-- OFS of a zone in 0.1 °C (R460). -/
def State.ofs10 (s : State) (z : Nat) : Int := if z < 4 then 0 else Table.get 0 s.th.ofs z * 10
/-- A zone's temperature (R459), and the same without broken sensors. -/
def State.zoneTemp (s : State) (m : RoundMeas) (z : Nat) : Option Int := hottest ((s.zoneSensors z).map (s.sensorValue m))
def State.zoneHealthy (s : State) (m : RoundMeas) (z : Nat) : Option Int :=
  hottest (((s.zoneSensors z).filter (fun n => !s.sensorBroken n)).map (s.sensorReading m))

/-- A reading 10 °C or more away from both on-die neighbours in its zone (R463): the sensors with two neighbours are
TS1, TS2, TS5 and TS6. -/
def oddReading (m : RoundMeas) (n : Nat) : Bool :=
  [1, 2, 5, 6].contains n &&
    (let v := m.onDie.getD n 0
     decide (100 ≤ (v - m.onDie.getD (n - 1) 0).natAbs) && decide (100 ≤ (v - m.onDie.getD (n + 1) 0).natAbs))

/-- The sensors of a round are checked (R462, R463): a broken one raises THM.SENSOR, kind 1 for the check and kind 2
for the range; it is whole again when it passes a check. A fenced converter reads none. -/
def State.checkSensors (s : State) (m : RoundMeas) : State :=
  let due := decide (s.th.rounds % 100 = 0)
  if s.hk.fenced then s else s.each (List.range 12 ++ (List.range 8).map (16 + ·)) (fun s n =>
    if 16 ≤ n ∧ !(s.xsOf (n - 16)).enable then s
    else
      let v := s.sensorReading m n
      let out_ := outside (-600) 1750 v
      let odd := if n < 12 ∧ oddReading m n then Table.get 0 s.th.odd n + 1 else 0
      let s := s.modTh (fun t => { t with odd := Table.set 0 t.odd n odd })
      let failed := (due && m.failed.contains n) || decide (3 ≤ odd)
      let was := bit s.th.broken.toNat n
      let mask : BitVec 24 := BitVec.ofNat 24 (2 ^ n)
      if (out_ || failed) && !was then
        (s.modTh (fun t => { t with broken := t.broken ||| mask })).raise 31 n (if failed then 1 else 2) true
      else if was && due && !failed && !out_ then
        (s.modTh (fun t => { t with broken := t.broken &&& ~~~mask })).ends 31 n
      else s)

/-! The temperature band and the throttle (R464, R465). -/

/-- The lower boundary of a band, in 0.1 °C. -/
def bandFloor : Nat → Int
  | 1 => 0
  | 2 => 400
  | 3 => 800
  | 4 => 1100
  | _ => -100000
/-- The band that contains a temperature. -/
def bandAt (t : Int) : Nat := if 1100 ≤ t then 4 else if 800 ≤ t then 3 else if 400 ≤ t then 2 else if 0 ≤ t then 1 else 0
/-- A fall from a band: the temperature is 2 °C or more below its lower boundary. -/
def bandDown (t : Int) : Nat → Nat
  | 0 => 0
  | b + 1 => if t ≤ bandFloor (b + 1) - 20 then bandDown t b else b + 1
/-- The next band (R464). -/
def bandNext (first : Bool) (band : Nat) (t : Int) : Nat :=
  if first then bandAt (t + 20) else if band < bandAt t then bandAt t else bandDown t band

/-- The next T_eff (R465). -/
def tEffNext (first : Bool) (e t : Int) : Int :=
  if first then t + 20 else if e < t then t else if t < e - 20 then t + 20 else e
/-- THROTTLE in 0.1 dB (R465). -/
def throttleOf (e : Int) : Nat := (min 120 (max 0 (e - 1100))).toNat

/-! Stops (R467 to R470). -/

/-- 6 Σ (2i − (n − 1)) y_i and n (n² − 1), whose ratio is the least-squares slope per round (R467). -/
def slopeOf (ys : List Int) : Int × Int :=
  let n : Int := ys.length
  (6 * ((ys.zipIdx).map (fun p => (2 * (p.2 : Int) - (n - 1)) * p.1)).sum, n * (n * n - 1))
/-- A zone's prediction exceeds 5 ms, or there is no limit (R467). -/
def slowEnough (ys : List Int) (t : Int) : Bool :=
  let q := slopeOf ys
  decide (q.1 ≤ 0) || decide (q.1 < 2 * (1350 - t) * q.2)
/-- The prediction in 0.1 ms, 0xFFFF for no limit; its rounding is unstated [7]. -/
def predictionOf (ys : List Int) (t : Int) : Nat :=
  let q := slopeOf ys
  if q.1 ≤ 0 then 65535
  else (clampInt 0 65534 (roundQ ((1350 - t) * 100 * q.2) q.1 (Config.roundsUp t 6))).toNat

/-- A stop comes into force: the flag, the count, the resume target, and the injections end (R342, R467, R472, R475). -/
def State.stopBegins (s : State) (resume : Nat × BitVec 8 × BitVec 2) : State :=
  (s.modTh (fun t => { t with
    stop := true, stopCount := satUp 0xFF t.stopCount, resume := resume, cool := 0, snapDone := false, orderly := false
    })).endInjections (fun _ => true) stAbortedRecovery 4
/-- The radio state and enables in force. -/
def State.standing (s : State) : Nat × BitVec 8 × BitVec 2 := (s.radio.state, s.radio.txEn, s.radio.dirEn)

/-- Firmware carries an immediate stop on: the snapshot, and the way to STANDBY (R469). -/
def State.stopGoesOn (s : State) : State :=
  ((s.modTh (fun t => { t with tripWaits := false })).trigger 0x21 (s.th.stopZone + 256)).thermalFall
/-- An immediate stop in a zone (R469, R470): the forced levels, the pulse generators' following from the stop; what is
firmware's waits for it. -/
def State.immediateStop (s : State) (z : Nat) : State :=
  let s := (s.modTh (fun t => { t with fadeEnd := none, fadeDone := false, orderly := false, snapDone := true, stopZone := z })).forceOff
  if s.firmwareRuns then s.stopGoesOn else s.modTh (fun t => { t with tripWaits := true })

/-- A power-up in progress or due gives way to a power-down. -/
def State.dropRise (s : State) (c : Nat) : State :=
  match (s.feOf c).seq with
  | some q => if q.up then s.askDown c else s
  | none => if (s.feOf c).dueUp then s.askDown c else s
/-- An orderly stop in a zone (R468, R473): the fade, where the radio is in LISTEN or REPEAT; else the fall at once.
The fade begins within 0.1 ms: when is a free value [4]. -/
def State.orderlyStop (s : State) (z : Nat) : State :=
  let s := s.stopWalk
  let s := s.each chains State.dropRise
  if s.listening then
    let t := s.now + 2 * perMs + s.draw % 196609
    s.drawn.modTh (fun h => { h with fadeEnd := some t, fadeDone := false, orderly := true, stopZone := z })
  else
    ((s.modTh (fun h => { h with orderly := true, snapDone := true })).trigger 0x21 z).thermalFall

/-! The slow round (R461). -/

/-- The start of a round lies on its timebase: from SYNTH up a tick that is a multiple of 1,228,800; in STANDBY every 10 ms of
the round counter, whose start at the reset release, a wake and the return of the root source is the model's choice [97]; on the
fallback oscillator, whose phase nothing gives, any (R461). -/
def State.roundDue (s : State) : Bool :=
  s.radio.fallback || (if 2 ≤ s.radio.state then decide (s.tick % 1228800 = 0)
    else decide ((s.now - s.th.roundBase) % (10 * perMs) < perTick))
/-- R461, R474: a round starts: what TH_CONFIGURE has set takes effect, and the requests of the conversions, 5 µs apart, of
class round. -/
def execThermalRound (dt : Nat) (s : State) : Host.Outcome State Fault Refusal :=
  let s := s.advance dt
  let gap := if s.radio.fallback ∧ s.th.lastFallback then 19 * perMs / 2 else 10 * perMs
  let rested : Bool := match s.th.lastRound with
    | some t => decide (t + gap ≤ s.now)
    | none => true
  .next (
    if s.firmwareRuns ∧ !s.th.inRound ∧ rested ∧ s.roundDue then
      let s := s.modTh (fun t => { t with
        inRound := true, lastRound := some s.now, lastFallback := s.radio.fallback, auto := s.set.autoResume, xs := s.set.xs, ofs := s.set.ofs })
      let chs := List.replicate 12 29 ++ s.externals.map (fun n => (s.xsOf n).channel) ++
        [24, 25, 26, 27, 28, 30]
      let reqs := chs.zipIdx.map (fun p => ({
        cls := 1, due := s.now + p.2 * ofMicros 5, entry := 63, channel := p.1, engine := false } : HkReq))
      s.modHk (fun h => { h with delayed := h.delayed ++ reqs })
    else s)

/-- Readings of a rail or of the converter's self-test outside their limits (R442, R477): (value, denominator)
comparisons of the code in exact integers. -/
def bandgapBad (code : Nat) : Bool := decide (786432 < ((code : Int) * 15 - 786432).natAbs * 100)
def groundBad (code : Nat) : Bool := decide (131072 < code * 1500)
/-- A rail's nominal code × 65,536 / 1.5 V in units of 0.1 V × 65,536, its tolerance in percent (R64, R442). -/
def railBadCode (ch code : Nat) : Bool :=
  let q := if ch = 25 then (9, 3) else if ch = 26 then (10, 3) else if ch = 27 then (12, 3) else (9, 5)
  decide ((q.1 * 65536 * q.2 : Nat) < ((code : Int) * 15 - (q.1 * 65536 : Nat)).natAbs * 100)

/-- One supply's code of a round: bad three rounds running raises its fault, a good one ends it. -/
def State.checkRail (s : State) (ch : Nat) : State :=
  match Table.get 0 s.th.codes ch with
  | 0 => s
  | code + 1 =>
    if railBadCode ch code then
      let k := Table.get 0 s.th.railBad ch + 1
      let s := s.modTh (fun t => { t with railBad := Table.set 0 t.railBad ch k })
      if k = 3 then s.raise 36 ch 0 true else s
    else (s.modTh (fun t => { t with railBad := Table.set 0 t.railBad ch 0 })).ends 36 ch
/-- The supplies of a round (R477), channels 24 to 28 and 30. A fenced converter gives no codes. -/
def State.checkSupplies (s : State) : State :=
  if s.hk.fenced then s else
  let has := fun (ch : Nat) => decide (Table.get 0 s.th.codes ch ≠ 0)
  let bg := has 24 && bandgapBad (Table.get 0 s.th.codes 24 - 1)
  let gnd := has 30 && groundBad (Table.get 0 s.th.codes 30 - 1)
  let n := if bg || gnd then s.th.adcBad + 1 else 0
  let s := s.modTh (fun t => { t with adcBad := n })
  let s := if n = 3 then (s.fenceHk).raise 35 0
      (if bg then 1 else 2) true else s
  s.each [25, 26, 27, 28] State.checkRail

/-- The self-test of the monitors in a round (R423): the second failure in a row fails the monitor for good. -/
def State.checkMonitors (s : State) (failed : List Nat) : State :=
  if s.radio.state < 2 then s
  else s.each (List.range 16) (fun s m =>
    if failed.contains m then
      let n := (s.wmOf m).failRun + 1
      let s := s.modWm m (fun x => { x with failRun := n })
      if n = 2 ∧ !(s.wmOf m).failed then
        let s := s.modWm m (fun x => { x with failed := true })
        let s := if (s.wmOf m).asserted then s.tripAll m else s.assertSource m
        s.raise 29 m 0 true
      else s
    else s.modWm m (fun x => { x with failRun := 0 }))

/-- One zone's temperature of a round and its peak; the last eight values that the prediction takes leave broken sensors
out (R463). -/
def State.noteZone (m : RoundMeas) (s : State) (z : Nat) : State :=
  let past := match s.zoneHealthy m z with
    | none => []
    | some v => ((Table.get [] s.th.past z ++ [v + s.ofs10 z]).reverse.take 8).reverse
  let s := s.modTh (fun t => { t with past := Table.set [] t.past z past })
  match s.zoneTemp m z with
  | none => s.modTh (fun t => { t with zone := Table.set 0 t.zone z 0 })
  | some v => s.modTh (fun t => { t with
      zone := Table.set 0 t.zone z (v + 100000)
      peak := Table.set 0 t.peak z (max (Table.get 0 t.peak z) (v + 100000)) })
/-- The zones' values after a round (R476), and their last eight (R467). -/
def State.noteZones (s : State) (m : RoundMeas) : State :=
  s.each (List.range 8) (State.noteZone m)

/-- What a round's temperatures decide: the stop in force goes on toward its release, a zone at 125 °C begins an orderly
or an immediate stop, and a first round above 105 °C, or with a comparator at 130 °C, begins one without a fault (R467,
R468, R469, R471). -/
def State.takeStop (s : State) (target : Nat × BitVec 8 × BitVec 2) (z : Nat) (hot slow cool first : Bool) : State :=
  if s.th.stop then s.modTh (fun t => { t with cool := if cool then t.cool + 1 else 0 })
  else if hot then
    if slow then ((s.stopBegins target).orderlyStop z).raise 33 z 0 true
    else ((s.stopBegins target).immediateStop z).raise 34 z 1 true
  else if first && decide (s.th.hot ≠ 0) then (s.stopBegins target).immediateStop z
  else if first && !cool then
    if 1 < (s.stopBegins target).radio.state then (s.stopBegins target).orderlyStop z else (s.stopBegins target).stopWalk
  else s
/-- The stop decision at the end of a round (R467, R471). -/
def State.decideStop (s : State) (m : RoundMeas) (first : Bool) : State :=
  let temps := (List.range 8).filterMap (fun z => (s.zoneHealthy m z).map (fun t => (z, t + s.ofs10 z)))
  let hot := temps.filter (fun p => decide (1250 ≤ p.2))
  let cool := temps.all (fun p => decide (p.2 < 1050))
  let past := fun z => Table.get [] s.th.past z
  let target := if first then
      (s.store.bootConfig.startState, s.store.bootConfig.startTxEn, s.store.bootConfig.startDirEn)
    else s.standing
  let z := ((hot.head?).map Prod.fst).getD (((temps.find? (fun p => decide (1050 ≤ p.2))).map Prod.fst).getD
    (zoneOfTs (((List.range 12).find? (fun n => bit s.th.hot.toNat n)).getD 0)))
  (if hot = [] then s
    else s.modTh (fun t => { t with pred := (hot.map (fun p => predictionOf (past p.1) p.2)).foldl min 65535 })).takeStop
    target z (hot ≠ []) (hot.all (fun p => slowEnough (past p.1) p.2)) cool first

/-- At a first round a comparator between its release at 130 °C and its trip at 135 °C starts asserted (R33, R34, R471). -/
def State.warmStart (s : State) (m : RoundMeas) : State :=
  let on := (m.warm.filter (fun n => decide (n < 12))).foldl (fun a n => a ||| BitVec.ofNat 12 (2 ^ n)) 0
  if on = 0 then s else s.modTh (fun t => { t with tripAnalog := true, hot := t.hot ||| on })
/-- Conversions of the round are still to be made, or firmware has not taken the last result (R449, R451, R461). -/
def State.roundWaits (s : State) : Bool :=
  s.roundHeld || (s.hk.delayed ++ s.hk.waiting).any (fun q => q.cls == 1) || (match s.hk.busy with
    | some (q, _) => q.cls == 1
    | none => false)
/-- The temperature band follows the hottest healthy zone; a new one stops the timers of the plausibility comparison and
brings the band's trims into force (R464, R335, R110). -/
def State.takeBand (s : State) (m : RoundMeas) (first : Bool) : State :=
  let healthy := ((List.range 4).map (fun z => (s.zoneHealthy m z).getD 1230))
  let band := bandNext first s.th.band ((hottest healthy).getD 0)
  if band = s.th.band then s
  else (s.modTh (fun t => { t with band := band })).each chains (fun s c =>
    (s.modPlaus c (fun x => { x with timer := none, raised := false })).checkTrims c)
/-- The throttle follows the hottest zone with its offset; THM.THROTTLE comes with its begin (R465, R466). -/
def State.takeThrottle (s : State) (m : RoundMeas) (first : Bool) : State :=
  let temps := (List.range 8).filterMap (fun z => (s.zoneTemp m z).map (fun t => (z, t + s.ofs10 z)))
  let t := (hottest (temps.map Prod.snd)).getD 0
  let hz := ((temps.find? (fun p => decide (p.2 = t))).map Prod.fst).getD 0
  let e := tEffNext first s.th.tEff t
  let was := s.th.throttle
  let s := s.modTh (fun h => { h with tEff := e, hotZone := hz, throttle := throttleOf e })
  if was = 0 ∧ 0 < throttleOf e then s.raise 32 hz 0 else s
/-- R24, R25, R461 to R467, R471: the round's conversions have ended, and thermal decisions are taken. -/
def execThermalRoundEnd (dt : Nat) (m : RoundMeas) (s : State) : Host.Outcome State Fault Refusal :=
  let s := s.advance dt
  .next (
    if !s.th.inRound ∨ !s.firmwareRuns ∨ s.roundWaits then s
    else
      let s := (if s.th.tripWaits then s.stopGoesOn else s).modTh (fun t => { t with inRound := false, rounds := t.rounds + 1 })
      let first := decide (s.th.rounds = 1)
      let s := ((s.checkSensors m).checkSupplies).checkMonitors m.monitorsFailed
      let s := s.noteZones m
      let s := (s.takeBand m first).takeThrottle m first
      (if first then s.warmStart m else s).decideStop m first)

/-- R468: the fade has ended; the power-down sequences start, beneath a weight that stays 0 until LISTEN is left. -/
def execThermalFadeEnd (dt : Nat) (s : State) : Host.Outcome State Fault Refusal :=
  let s := s.advance dt
  .next (
    match s.th.fadeEnd with
    | some t =>
      if t ≤ s.now ∧ !s.th.fadeDone then
        (if s.listening then s.modTh (fun h => { h with fadeDone := true }) else s.endThermalFade).thermalFall
      else s
    | none => s)

/-- R470: an on-die sensor crosses 135 °C. -/
def execAnalogueTrip (dt sensor : Nat) (s : State) : Host.Outcome State Fault Refusal :=
  let s := s.advance dt
  .next (
    if sensor < 12 ∧ s.radio.state ≠ 0 ∧ !s.radio.inReset then
      let z := zoneOfTs sensor
      let was := s.th.tripAnalog
      let s := s.modTh (fun t => { t with tripAnalog := true, hot := t.hot ||| BitVec.ofNat 12 (2 ^ sensor) })
      if was then s
      else
        let s := if s.th.stop then s else s.stopBegins s.standing
        (s.immediateStop z).raise 34 z 2 true
    else s)

/-- R470: every comparator reads below 130 °C. -/
def execAnalogueTripRelease (dt : Nat) (s : State) : Host.Outcome State Fault Refusal :=
  let s := s.advance dt
  .next (s.modTh (fun t => { t with tripAnalog := false, hot := 0 }))

/-- R471, R472: 1,000 rounds below 105 °C have passed with no analogue trip latched. -/
def execThermalStopRelease (dt : Nat) (s : State) : Host.Outcome State Fault Refusal :=
  let s := s.advance dt
  .next (
    if s.th.stop ∧ 1000 ≤ s.th.cool ∧ !s.th.tripAnalog ∧ s.firmwareRuns then
      let s := s.modTh (fun t => { t with stop := false, cool := 0 })
      let live := s.flt.lasting.filter (fun d => d.bit == 33 || d.bit == 34)
      let s : State := live.foldl (fun (s : State) d => s.ends d.bit d.addr) s
      let s := s.unmute (fun m => m.bit == 33 || m.bit == 34)
      let busy := (s.radio.walk.bind Walk.cmd).isSome || s.radio.setting.isSome
      let target := s.th.resume.1
      let walks : Bool := s.th.auto && !busy && s.radio.walk.isNone && decide (s.radio.state < target) &&
        !(s.s4Held && decide (2 < target))
      if walks then
        let s := s.setRadio (fun r => { r with txEn := s.th.resume.2.1, dirEn := s.th.resume.2.2 })
        (s.post 0x0012 [1]).startWalk .resume none target
      else s.post 0x0012 [0]
    else s)

/-! TH_STATUS and TH_ZONE (R475, R476). -/

def thStatusValue (s : State) : Nat :=
  let t := s.th
  packFields [(3, t.band), (1, ofBool t.stop), (1, ofBool t.tripAnalog), (1, ofBool (t.stop && decide (0 < t.cool))),
    (1, ofBool t.auto), (1, 0), (8, t.stopCount), (8, t.throttle), (5, 0), (3, t.hotZone),
    (16, bitsOf 16 t.tEff), (16, t.pred)]
/-- A zone's value as TH_ZONE gives it: 0x8000 for none. The tables hold a reading with 100,000 added, 0 for none. -/
def zoneWord (v : Int) : Nat := if v = 0 then 0x8000 else bitsOf 16 (v - 100000)
/-- TH_ZONE. VALID is 0 as at reset until the first round has looked at the zone's sensors [97]. -/
def thZoneValue (s : State) (z : Nat) : Nat :=
  let sensors := s.zoneSensors z
  packFields [(1, ofBool (!sensors.isEmpty && decide (0 < s.th.rounds))), (1, ofBool (sensors.any s.sensorBroken)), (14, 0),
    (16, zoneWord (Table.get 0 s.th.zone z)), (16, zoneWord (Table.get 0 s.th.peak z)),
    (8, bitsOf 8 (if z < 4 then 0 else Table.get 0 s.th.ofs z)), (8, 0)]

end Sys2Proof.Machine
end

