-- ==== Sys2Proof/Machine/FrontEnd.lean ====
section
/-!
DEFINITION. The front end (10_front_end_control.md): PA sequences, pulse generators, window monitors and trips, GPIO
functions.
-/

namespace Sys2Proof.Machine

/-! FE_SEQ_CONFIGURE (R404, R405, R410, R411). -/

def fePaOf (r : Request) : FePa :=
  { paenPol := flag r 1 0, pabiasPol := flag r 1 1, usePabias := flag r 1 2
    upBias := pu r 2 2, upPaen := pu r 4 2, upRf := pu r 6 2, dnPaen := pu r 8 2, dnBias := pu r 10 2 }

def checkFeSeq (r : Request) (s : State) : Verdict :=
  let c := instOf r
  if pu r 0 1 = 0 then
    let k := fePaOf r
    let old := s.fePa c
    let moved := k.paenPol != old.paenPol || k.pabiasPol != old.pabiasPol || k.usePabias != old.usePabias
    checks [(decide (8 ≤ c), badInst), (decide (8 ≤ pu r 1 1), bad 1), (decide (k.upPaen < k.upBias), bad 4),
      (decide (k.upRf < k.upPaen), bad 6), (decide (k.dnPaen < 25), bad 8), (decide (k.dnBias < k.dnPaen), bad 10),
      reserved r 12 12, (moved && (s.feOf c).txActive, wrong 4), (moved && (s.feOf c).seq.isSome, wrong 7)]
  else if pu r 0 1 = 1 then
    checks [(decide (8 ≤ c), badInst), (decide (4 ≤ pu r 1 1), bad 1), (decide (63 < pu r 2 1), bad 2),
      (decide (63 < pu r 3 1), bad 3), reserved r 4 20]
  else bad 0

def applyFeSeq (ref : CmdRef) (r : Request) (s : State) : State :=
  let c := instOf r
  let s :=
    if pu r 0 1 = 0 then { s with set := { s.set with fePa := Table.set {} s.set.fePa c (fePaOf r) } }
    else
      let k : FeRx := { lnaenPol := flag r 1 0, useLna := flag r 1 1, attBase := pu r 2 1, attSafe := pu r 3 1 }
      let was := s.attCode c
      let s := { s with set := { s.set with feRx := Table.set {} s.set.feRx c k } }
      let s := (s.driveLna c).driveAtt c
      if was ≠ s.attCode c ∧ s.listening ∧ !(s.cnvOf c).fenced then
        (s.settleChain c (s.window + s.draw % 79 + (s.attOf c).align)).drawn
      else s
  s.complete ref stOk 0 0

def cmdFeSeq : CmdDef := ⟨0x0601, 24, false, checkFeSeq, applyFeSeq⟩
/-- R410, R411, KIND 0. -/
def execFeSeqConfigurePa (dt : Nat) (r : Request) (s : State) : Host.Outcome State Fault Refusal :=
  .next ((s.advance dt).issue cmdFeSeq (withByte r 0 0))
/-- R404, R405, R411, KIND 1. -/
def execFeSeqConfigureRx (dt : Nat) (r : Request) (s : State) : Host.Outcome State Fault Refusal :=
  .next ((s.advance dt).issue cmdFeSeq (withByte r 0 1))

/-! PA sequences (R406 to R408, R410, R425, R427). -/

/-- A sequence that is due may start: none of the chain runs, or a power-up, which the release of a PAEN trip starts
anew (R427). -/
def Fe.free (x : Fe) : Bool := match x.seq with
  | some q => q.up
  | none => true
/-- R406: a power-up sequence that is due starts, once no power-down of the chain runs. -/
def execPaPowerUpStart (dt c : Nat) (s : State) : Host.Outcome State Fault Refusal :=
  let s := s.advance dt
  .next (if c < 8 ∧ (s.feOf c).dueUp ∧ (s.feOf c).free then s.startUp c else s)

/-- The outputs whose offsets the sequence's clock has reached change (R406, R407). A tripped PAEN stays disabled
(R428). -/
def Fe.reached (x : Fe) (q : Seq) (ticks : Nat) : Fe :=
  let bias := q.bias && decide ((if q.up then q.cfg.upBias else q.cfg.dnBias) ≤ ticks)
  let paen := q.paen && decide ((if q.up then q.cfg.upPaen else q.cfg.dnPaen) ≤ ticks)
  { x with
    pabias := if bias then q.up else x.pabias
    paen := if paen then q.up && !x.trip else x.paen
    seq := some { q with bias := q.bias && !bias, paen := q.paen && !paen } }

/-- R406, R407: a programmed offset is reached. -/
def execPaSequenceOffset (dt c : Nat) (s : State) : Host.Outcome State Fault Refusal :=
  let s := s.advance dt
  .next (
    match (s.feOf c).seq with
    | some q => if c < 8 then s.modFe c (fun x => x.reached q (s.seqTicks q)) else s
    | none => s)

/-- R406, R704: the sequence reaches UP_RF. The chain's residual gain error after its ramp is a free value [4]. -/
def execPaPowerUpEnd (dt c : Nat) (s : State) : Host.Outcome State Fault Refusal :=
  let s := s.advance dt
  .next (
    match (s.feOf c).seq with
    | some q =>
      if c < 8 ∧ q.up ∧ q.length ≤ s.seqTicks q then
        let s := s.modFe c (fun x => { x.reached q (s.seqTicks q) with
          seq := none, on := true, mine := false, txActive := (x.reached q (s.seqTicks q)).paen && !x.trip && !(s.cnvOf c).txFenced })
        s.seqCheck
      else s
    | none => s)

/-- R407, R408: a power-down sequence that is due starts, also from the present point of a power-up. -/
def execPaPowerDownStart (dt c : Nat) (s : State) : Host.Outcome State Fault Refusal :=
  let s := s.advance dt
  .next (
    if c < 8 ∧ (s.feOf c).dueDown then
      let s := s.startDown c
      if (s.feOf c).seq.isNone then (s.modFe c (fun x => { x with mine := false })).seqCheck else s
    else s)

/-- R407: the last deassertion. -/
def execPaPowerDownEnd (dt c : Nat) (s : State) : Host.Outcome State Fault Refusal :=
  let s := s.advance dt
  .next (
    match (s.feOf c).seq with
    | some q =>
      if c < 8 ∧ !q.up ∧ q.length ≤ s.seqTicks q then
        (s.modFe c (fun x => { x.reached q (s.seqTicks q) with seq := none, on := false, mine := x.dueUp })).seqCheck
      else s
    | none => s)

/-- FE_STATE (R437); a ball the device does not drive reads a free level [17]. -/
def State.ball (s : State) (driven level : Bool) (n : Nat) : Nat :=
  if driven then ofBool level else Config.free (s.draws + n) % 2
def feStateValue (s : State) (c : Nat) : Nat :=
  let x := s.feOf c
  let k := s.fePa c
  let on := s.drives
  let seq := match x.seq with
    | some q => if q.up then 1 else 3
    | none => if x.on then 2 else 0
  let left := match x.seq with
    | some q => q.length - s.seqTicks q
    | none => 0
  packFields [(2, seq), (1, s.ball on (x.paen != k.paenPol) 0), (1, s.ball on (x.pabias != k.pabiasPol) 1),
    (1, s.ball on (x.lnaen != (s.feRx c).lnaenPol) 2), (1, ofBool x.trip), (6, x.att), (20, 0), (16, left), (16, x.trips)]

/-! Pulse generators (R412 to R418, R434). -/

def pgOf (r : Request) : PgSet :=
  { enable := flag r 0 0, pol := flag r 0 1, pair := flag r 0 2, latch := flag r 0 3, safe := byteAt r.params 0 / 16 % 4
    src := pu r 1 1, chain := pu r 2 1, sel := pu r 3 1, p0 := pu r 4 4, p1 := pu r 8 4, p2 := pu r 12 4, p3 := pu r 16 4
    deadtime := pu r 20 1 }

/-- The gating frame length, in ticks, of a GATE or FRAME channel. -/
def State.pgFrame (s : State) (k : PgSet) : Nat := framePeriod (s.tddSet k.group).period / perTick

/-- Two FRAME pulses overlap, or one does not fit the gating frame (R417). -/
def PgSet.frameBad (k : PgSet) (len : Nat) : Bool :=
  decide (len < k.p0 + k.p1) ||
    (decide (0 < k.p3) && (decide (len < k.p2 + k.p3) || (decide (k.p0 < k.p2 + k.p3) && decide (k.p2 < k.p0 + k.p1))))

/-- A PAIR = 1 change that waits has claimed the odd channel of its pair (R418, R434). -/
def State.pgClaimed (s : State) (ch : Nat) : Bool :=
  decide (ch % 2 = 1) && (match (s.pgOf (ch - 1)).change with
    | some (k, _) => k.enable && k.pair
    | none => false)

def checkPgConfigure (r : Request) (s : State) : Verdict :=
  let ch := instOf r
  let k := pgOf r
  let odd := decide (ch % 2 = 1)
  checks ([
    (decide (16 ≤ ch), badInst), (decide (64 ≤ pu r 0 1) || (k.pair && odd) || decide (k.safe = 3), bad 0),
    (decide (3 < k.src), bad 1), (decide (7 < k.chain) && decide (k.chain ≠ 255), bad 2),
    (if k.src = 0 then decide (1 < k.sel)
      else if k.src = 1 then bit k.sel 3
      else if k.src = 2 then decide (7 < k.sel)
      else decide (k.sel ≠ 0), bad 3),
    (if k.src = 0 then decide (k.p0 ≠ 0)
      else if k.src = 1 then decide (65535 < k.p0)
      else if k.src = 2 then false
      else outside 2 16777215 k.p0, bad 4),
    (if k.src = 0 then decide (k.p1 ≠ 0)
      else if k.src = 1 then decide (65535 < k.p1)
      else if k.src = 2 then decide (k.p1 = 0)
      else outside 1 (k.p0 - 1 : Nat) k.p1, bad 8),
    (if k.src = 2 then false else if k.src = 3 then decide (k.p0 ≤ k.p2) else decide (k.p2 ≠ 0), bad 12),
    (if k.src = 2 then false else decide (k.p3 ≠ 0), bad 16), (!k.pair && decide (k.deadtime ≠ 0), bad 20),
    reserved r 21 3, (decide (k.src = 2) && k.frameBad (s.pgFrame k), combo)] ++ needLock s ++ [
    ((s.pgOf ch).paired || s.pgClaimed ch, busy 4 ch),
    (k.enable && k.pair && (s.pgOf (ch + 1)).owned && !(s.pgOf (ch + 1)).paired, busy 4 (ch + 1))])

/-- An edge of a channel: blanking starts at an asserting one, a trip with LATCH = 1 of a channel that has periods
releases, the sequencer is triggered (R422, R426, R446). -/
def State.pgEdge (s : State) (ch : Nat) (asserting : Bool) : State :=
  let s := s.modPg ch (fun x => { x with level := asserting })
  let s := if asserting then
      let s := s.each (List.range 16) (fun s m =>
        if (s.wmSet m).blankPg = ch ∧ (s.wmSet m).enable then
          s.modWm m (fun x => { x with blank := some (s.now + (s.wmSet m).blankTicks * perTick) })
        else s)
      if (s.pgOf ch).tripped ∧ (s.pgSet ch).latch ∧ (s.pgSchedule ch).src ≠ 0 ∧ !s.routed ch then s.untrip ch else s
    else s
  s.hkTrigger (if asserting then 1 else 2) ch
/-- The edge that settings of a LEVEL channel make at once on a channel whose level was `was` (R417, R418). -/
def State.levelEdge (s : State) (ch : Nat) (was : Bool) : State :=
  if (s.pgSet ch).enable ∧ (s.pgSchedule ch).src = 0 ∧ 2 ≤ s.radio.state ∧ (s.pgOf ch).level ≠ was then
    s.pgEdge ch (s.pgOf ch).level
  else s
/-- The settings of a channel come into force, with the edges of a LEVEL channel and of its complement. -/
def State.usePg (s : State) (ch : Nat) (k : PgSet) : State :=
  let t := (s.putPg ch k).levelEdge ch (s.pgOf ch).level
  if k.pair then t.levelEdge (ch + 1) (s.pgOf (ch + 1)).level else t

def applyPgConfigure (ref : CmdRef) (r : Request) (s : State) : State :=
  let ch := instOf r
  let k := pgOf r
  let old := s.pgSet ch
  let s := match (s.pgOf ch).change with
    | some (_, c) => (s.modPg ch (fun x => { x with change := none })).complete c stAbortedHost 1 0
    | none => s
  let sync := (s.tddOf old.group).sync
  let waits := old.enable && decide (2 ≤ s.radio.state) &&
    (decide (old.src = 3) || ((decide (old.src = 1) || decide (old.src = 2)) && (decide (sync = 2) || decide (sync = 3))))
  if waits then s.modPg ch (fun x => { x with change := some (k, ref) })
  else (s.usePg ch k).complete ref stOk 0 0

def cmdPgConfigure : CmdDef := ⟨0x0610, 24, false, checkPgConfigure, applyPgConfigure⟩
/-- R417, R418. -/
def execPgConfigure (dt : Nat) (r : Request) (s : State) : Host.Outcome State Fault Refusal :=
  .next ((s.advance dt).issue cmdPgConfigure r)

/-- R417: the gating frame of the old group, or the period, starts. -/
def execPgConfigApply (dt ch : Nat) (s : State) : Host.Outcome State Fault Refusal :=
  let s := s.advance dt
  let k := s.pgSet ch
  let x := s.tddOf k.group
  let frame := framePeriod (s.tddSet k.group).period
  let now : Bool :=
    if k.src = 3 then decide (s.tick % k.p0 = k.p2)
    else if x.sync = 2 ∨ x.sync = 3 then decide (((s.window : Int) - x.frame) % frame < perTick)
    else true
  .next (match (s.pgOf ch).change with
    | some (q, ref) => if ch < 16 ∧ now then (s.usePg ch q).complete ref stOk 0 0 else s
    | none => s)

/-- An instant lies in an interval, wider by `grow` at each side, of those that repeat with a period. -/
def inPulse (now start stop grow period : Int) : Bool :=
  [-4, -3, -2, -1, 0, 1, 2, 3, 4].any (fun n =>
    decide (start - grow + n * period ≤ now) && decide (now < stop + grow + n * period))
/-- Start and end of the pulse a gate schedule entry asks of a GATE channel, in window periods from the gating frame
start on the downlink timeline (R412). -/
def PgSet.gatePulse (k : PgSet) (t : TddSet) (up : Bool) (e : BitVec 64) : Int × Int :=
  let lead := if up then t.leadUl else t.leadDl
  let lag := if up then t.lagUl else t.lagDl
  let shift : Int := if up then t.ulAdvance else 0
  let a : Int := symStart t.scs (entStart e)
  let b : Int := symStart t.scs (entStart e + entLen e)
  ((a - lead - shift - k.p0) * 16, (b + lag - shift + k.p1) * 16)
/-- The channel's schedule has a pulse at the present instant, each pulse wider by `grow` ticks at both sides (R412).
Pulses that touch are one. A GATE channel takes each gating frame from the page and the settings that are active for it: those
of the frames that have ended, or those that a frame to come brings in (R413). -/
def State.pulseNow (s : State) (k : PgSet) (grow : Nat) : Bool :=
  let t := s.tddSet k.group
  let x := s.tddOf k.group
  let up := bit k.sel 2
  let p : Int := framePeriod t.period
  let now : Int := (s.window : Int) - (x.frame + x.gf * p)
  let g : Int := grow * perTick
  if k.src = 1 then
    [-4, -3, -2, -1, 0, 1, 2, 3, 4].any (fun n =>
      let f := s.frameOf k.group up n
      ((f.2.filter (fun e => bit (entMask e) (k.sel / 16))).map (k.gatePulse f.1 up)).any (fun a => decide (a.1 - g + n * p ≤ now) && decide (now < a.2 + g + n * p)))
  else if k.src = 2 then
    let shift : Int := if up then t.ulAdvance * 16 else 0
    let pulse := fun (a w : Nat) => inPulse now (a * 16 - shift) ((a + w) * 16 - shift) g p
    pulse k.p0 k.p1 || (decide (0 < k.p3) && pulse k.p2 k.p3)
  else if k.src = 3 then
    let phase : Int := ((s.tick : Int) - k.p2) % k.p0
    inPulse phase 0 k.p1 grow k.p0
  else false

/-- A channel follows its schedule: FREE always, GATE and FRAME while their group is LOCKED or in HOLDOVER (R414). -/
def State.pgFollows (s : State) (k : PgSet) : Bool :=
  let sync := (s.tddOf k.group).sync
  decide (k.src = 3) || decide (sync = 2) || decide (sync = 3)
/-- What a channel's schedule asks for now (R412, R414). The complement is asserted where no pulse of its even channel is
within DEADTIME ticks, or that channel holds its deasserted level; after an edge that the schedule did not foretell the other
of the two waits for DEADTIME (R415). -/
def State.pgLevel (s : State) (ch : Nat) : Bool :=
  let odd := (s.pgOf ch).paired
  let k := s.pgSchedule ch
  let quiet := decide (s.now < (s.pgOf (if odd then ch - 1 else ch)).quietTill)
  let wanted := if k.src = 0 then bit k.sel 0 else s.pgFollows k && s.pulseNow k 0
  if !odd then wanted && !quiet
  else if k.src ≠ 0 && s.pgFollows k then !s.pulseNow k k.deadtime
  else !wanted && !quiet

/-- R412, R422, R426, R446: an edge that the schedule makes, or that waited for DEADTIME (R415): blanking starts, a trip
with LATCH = 1 releases, the sequencer is triggered. -/
def execPgEdge (dt ch : Nat) (asserting : Bool) (s : State) : Host.Outcome State Fault Refusal :=
  let s := s.advance dt
  .next (
    if ch < 16 ∧ (s.pgSet ch).enable ∧ 2 ≤ s.radio.state ∧ s.pgLevel ch = asserting ∧ (s.pgOf ch).level ≠ asserting then
      s.pgEdge ch asserting
    else s)

/-- The forced levels of R469 are in force: the analogue trip is latched (R470), or an immediate stop takes the radio to
STANDBY. -/
def State.thermalForced (s : State) : Bool :=
  s.th.tripAnalog || s.th.tripWaits || (s.th.stop && !s.th.orderly && s.th.snapDone && (match s.radio.walk with
    | some w => decide (w.kind = .thermal)
    | none => false))
/-- The row of R416 in force on a channel, counted from 0 (R438). -/
def State.pgRow (s : State) (ch : Nat) : Nat :=
  let k := s.pgSet ch
  if !k.enable then 0
  else if s.radio.state < 2 ∨ s.s4Held ∨ (s.pgOf ch).tripped ∨ s.thermalForced then 1
  else if k.chain < 8 ∧ !(s.feOf k.chain).txActive then 2
  else 3
/-- The level a channel drives (R416), none where it is high-impedance (R402). -/
def State.pgDrives (s : State) (ch : Nat) : Option Bool :=
  let k := s.pgSet ch
  let row := s.pgRow ch
  if !s.drives ∨ row = 0 ∨ (row = 1 ∧ k.safe = 2) then none
  else some (if row = 1 then decide (k.safe = 1) else if row = 2 then k.pol else s.pgLevel ch != k.pol)
def pgStateValue (s : State) (ch : Nat) : Nat :=
  let x := s.pgOf ch
  let level := s.pgDrives ch
  packFields [(1, ofBool (s.pgSet ch).enable), (1, s.ball level.isSome (level.getD false) 3), (2, s.pgRow ch),
    (1, ofBool x.tripped), (5, x.tripSrc), (38, 0), (16, x.tripCount)]

/-! Window monitors, trip inputs, WM_CLEAR (R419 to R430). -/

def wmOf (r : Request) : WmSet :=
  { enable := flag r 0 0, mode := byteAt r.params 0 / 2 % 4, hyst := pu r 1 1, lo := pu r 2 2, hi := pu r 4 2
    dest := BitVec.ofNat 24 (pu r 6 3), blankPg := if instOf r < 16 then pu r 9 1 else 255, blankTicks := pu r 10 2
    tripGpio := pu r 12 1 }

def checkWmConfigure (r : Request) (s : State) : Verdict :=
  let m := instOf r
  let k := wmOf r
  let ext := decide (16 ≤ m)
  checks ([
    (decide (20 < m), badInst), (decide (8 ≤ pu r 0 1) || (ext && decide (k.mode ≠ 0)), bad 0),
    (decide (63 < k.hyst) || (ext && decide (k.hyst ≠ 0)), bad 1),
    (decide (1023 < k.lo) || (ext && decide (k.lo ≠ 0)), bad 2),
    (decide (1023 < k.hi) || (ext && decide (k.hi ≠ 0)), bad 4),
    (if ext then decide (pu r 9 1 ≠ 0) else decide (15 < k.blankPg) && decide (k.blankPg ≠ 255), bad 9),
    (decide (4095 < k.blankTicks) || (ext && decide (k.blankTicks ≠ 0)), bad 10),
    (decide (15 < k.tripGpio) && decide (k.tripGpio ≠ 255), bad 12), reserved r 13 3,
    (!ext && decide (2 ≤ k.mode) && decide (k.hi ≤ k.lo + 2 * k.hyst), combo)] ++ needLock s ++ [
    (decide (16 ≤ m) && decide (m < 20) && (s.pinOf (0x30 + (m - 16))).isNone, wrong 8),
    (decide (k.tripGpio < 16) && decide ((s.wmSet m).tripGpio ≠ k.tripGpio) && s.gpioBusy k.tripGpio 0x52,
      busy 1 k.tripGpio)])

/-- The condition of a source under new settings (R419, R420, R424). -/
def State.judgeSource (s : State) (m : Nat) (fresh : Bool) : State :=
  let k := s.wmSet m
  let x := s.wmOf m
  let put := fun (on : Bool) =>
    if on then (if x.asserted then s.tripAll m else s.assertSource m)
    else s.modWm m (fun x => { x with asserted := false })
  if !k.enable then s.modWm m (fun x => { x with asserted := false, blank := none })
  else if m = 20 then put (!s.pins.muteN)
  else if 16 ≤ m then put (bit s.pins.xtrip.toNat (m - 16))
  else if s.radio.state < 2 then s
  else if fresh then s.startMonitor m
  else put (k.asserts x.input || (x.asserted && !k.releases x.input) || x.failed)

def applyWmConfigure (ref : CmdRef) (r : Request) (s : State) : State :=
  let m := instOf r
  let k := wmOf r
  let old := s.wmSet m
  let s := if old.tripGpio < 16 ∧ old.tripGpio ≠ k.tripGpio then s.setGpio old.tripGpio 0 else s
  let s := if k.tripGpio < 16 ∧ old.tripGpio ≠ k.tripGpio then s.claimGpio k.tripGpio 0x52 else s
  let s := { s with set := { s.set with wm := Table.set {} s.set.wm m k } }
  ((s.judgeSource m (!old.enable)).seqCheck).complete ref stOk 0 0

def cmdWmConfigure : CmdDef := ⟨0x0620, 16, false, checkWmConfigure, applyWmConfigure⟩
/-- R429. -/
def execWmConfigure (dt : Nat) (r : Request) (s : State) : Host.Outcome State Fault Refusal :=
  .next ((s.advance dt).issue cmdWmConfigure r)

/-- The destinations still latched. -/
def State.latched (s : State) : Nat :=
  ((List.range 16).map (fun n => ofBool (s.pgOf n).tripped * 2 ^ n)).sum +
    (chains.map (fun c => ofBool (s.feOf c).trip * 2 ^ (16 + c))).sum

def checkWmClear (r : Request) (_ : State) : Verdict := checks [(decide (instOf r ≠ 0), badInst), reserved r 3 1]
/-- DESIGN CHOICE [97]: it releases a latch of either kind, also one of LATCH = 1 that the next period would release. -/
def applyWmClear (ref : CmdRef) (r : Request) (s : State) : State :=
  let mask := pu r 0 3
  let s := s.each ((List.range 24).filter (bit mask)) (fun s d =>
    let latched := if d < 16 then (s.pgOf d).tripped else (s.feOf (d - 16)).trip
    if latched && !s.routed d then s.untrip d else s)
  s.complete ref stOk 0 s.latched
def cmdWmClear : CmdDef := ⟨0x0621, 4, false, checkWmClear, applyWmClear⟩
/-- R426, R427, R430. -/
def execWmClear (dt : Nat) (r : Request) (s : State) : Host.Outcome State Fault Refusal :=
  .next ((s.advance dt).issue cmdWmClear r)

/-- R419: the input crosses the asserting threshold. -/
def execMonitorAssert (dt m input : Nat) (s : State) : Host.Outcome State Fault Refusal :=
  let s := s.advance dt
  .next (
    if m < 16 ∧ (s.wmSet m).enable ∧ 2 ≤ s.radio.state ∧ (s.wmSet m).asserts input then
      let s := s.modWm m (fun x => { x with input := input })
      if (s.wmOf m).asserted then s else (s.assertSource m).seqCheck
    else s)

/-- R419: the input crosses the release threshold. A failed monitor stays asserted (R423). -/
def execMonitorRelease (dt m input : Nat) (s : State) : Host.Outcome State Fault Refusal :=
  let s := s.advance dt
  .next (
    if m < 16 ∧ (s.wmSet m).enable ∧ 2 ≤ s.radio.state ∧ (s.wmSet m).releases input then
      s.modWm m (fun x => { x with input := input, asserted := x.failed })
    else s)

/-- R424: an external trip input falls. -/
def execXtripFall (dt n : Nat) (s : State) : Host.Outcome State Fault Refusal :=
  let s := s.advance dt
  .next (
    if n < 4 ∧ (s.pinOf (0x30 + n)).isSome ∧ !bit s.pins.xtrip.toNat n then
      let s := { s with pins := { s.pins with xtrip := s.pins.xtrip ||| BitVec.ofNat 4 (2 ^ n) } }
      if (s.wmSet (16 + n)).enable then (s.assertSource (16 + n)).seqCheck else s
    else s)

/-- R429: an external trip input returns high; the source and its TRIP_GPIO deassert. -/
def execXtripRise (dt n : Nat) (s : State) : Host.Outcome State Fault Refusal :=
  let s := s.advance dt
  .next (
    if n < 4 then
      ({ s with pins := { s.pins with xtrip := s.pins.xtrip &&& ~~~BitVec.ofNat 4 (2 ^ n) } }).modWm (16 + n) (fun x => {
        x with asserted := false })
    else s)

/-- R422: a monitor's blanking ends. -/
def execBlankingEnd (dt m : Nat) (s : State) : Host.Outcome State Fault Refusal :=
  let s := s.advance dt
  .next (
    match (s.wmOf m).blank with
    | some t => if t ≤ s.now then ((s.modWm m (fun x => { x with blank := none })).tripAll m).seqCheck else s
    | none => s)

/-- R441, R701: a control ball reads back opposite to its driven level. Balls are numbered as FE.PINCHK addresses them. -/
def execPinCheckMismatch (dt ball : Nat) (s : State) : Host.Outcome State Fault Refusal :=
  let s := s.advance dt
  .next (if s.drives ∧ (ball < 24 ∨ 32 ≤ ball ∧ ball < 48 ∧ (s.pgDrives (ball - 32)).isSome) then s.raise 30 ball 0 else s)

def wmStateValue (s : State) (m : Nat) : Nat :=
  let x := s.wmOf m
  let blanked := match x.blank with
    | some t => decide (s.now < t)
    | none => false
  packFields [(1, ofBool (s.wmSet m).enable), (1, ofBool x.asserted), (1, ofBool blanked), (1, ofBool x.failed),
    (1, ofBool x.sticky), (43, 0), (16, x.count)]

/-! PIN_ASSIGN (R431, R432). -/

/-- The codes that PIN_ASSIGN writes. Each is one function, which one pin holds at a time: R432 exempts none, so that a second
static low output is RESOURCE_BUSY. -/
def assignable (f : Nat) : Bool :=
  decide (f ≤ 2) || (decide (0x10 ≤ f) && decide (f < 0x28)) || (decide (0x30 ≤ f) && decide (f < 0x34)) ||
    (decide (0x40 ≤ f) && decide (f < 0x46)) || decide (f = 0x48)

def checkPinAssign (r : Request) (s : State) : Verdict :=
  let g := instOf r
  let f := pu r 0 1
  let h := s.gpio g
  let elsewhere := if f = 0 then none else (List.range 16).find? (fun o => decide (o ≠ g) && decide (s.gpio o = f))
  checks [(decide (16 ≤ g), badInst), (!assignable f, bad 0), reserved r 1 3, (decide (h = f), .ok),
    (decide (0x50 ≤ h) && !isSafety f || isSafety f && isSafety h, busy 1 g),
    (elsewhere.isSome, busy 1 (elsewhere.getD 0))]

def applyPinAssign (ref : CmdRef) (r : Request) (s : State) : State :=
  let g := instOf r
  let f := pu r 0 1
  let s := if s.gpio g = f then s
    else if isSafety f && decide (s.gpio g ≠ 0) && !isSafety (s.gpio g) then s.claimGpio g f
    else
      let h := s.gpio g
      let s := s.setGpio g f
      if 0x30 ≤ h ∧ h < 0x34 then s.modWm (16 + (h - 0x30)) (fun x => { x with asserted := false }) else s
  s.complete ref stOk 0 0
def cmdPinAssign : CmdDef := ⟨0x0630, 4, false, checkPinAssign, applyPinAssign⟩
/-- R431, R432, R435. -/
def execPinAssign (dt : Nat) (r : Request) (s : State) : Host.Outcome State Fault Refusal :=
  .next ((s.advance dt).issue cmdPinAssign r)

/-- The level a GPIO drives (R402, R431, R436), none where it is an input or high-impedance, as for a tick after its function
has changed (R433). The trip output is low while its source is asserted (R429). -/
def State.gpioDrives (s : State) (g : Nat) : Option Bool :=
  let f := s.gpio g
  if !s.drives ∨ s.now < Table.get 0 s.pins.gpioAt g + perTick then none
  else if f = 1 ∨ f = 2 then some (decide (f = 2))
  else if 0x10 ≤ f ∧ f < 0x20 then s.pgDrives (f - 0x10)
  else if 0x40 ≤ f ∧ f < 0x46 then some (bit s.beam (f - 0x40))
  else if f = 0x48 then
    some (decide (s.now < s.fsync) && ((s.tddOf s.set.tddOut.fsyncGroup).sync == 2 || (s.tddOf s.set.tddOut.fsyncGroup).sync == 3))
  else if f = 0x52 then
    some !((List.range 21).any (fun m => decide ((s.wmSet m).tripGpio = g) && (s.wmSet m).enable && (s.wmOf m).asserted))
  else none
/-- The level of ALIVE (R589), none where the ball is high-impedance in reset (R683, R684) or the boundary-scan register sets it
(R701). -/
def State.aliveDrives (s : State) : Option Bool := if s.radio.inReset || scanTakes s.pins.tap then none else some s.flt.alive
/-- PIN_STATE (R440). -/
def pinStateValue (s : State) : Nat :=
  (List.range 16).foldl (fun a g => a + s.gpio g % 256 * 256 ^ g) 0

end Sys2Proof.Machine
end

