-- ==== Sys2Proof/Machine/HostOps.lean ====
section
/-!
DEFINITION. Shared operations of the command protocol and the host link (12_host_link_capture.md,
13_command_protocol.md): rings as the link comes and goes, setup words, recovery barriers, ends of streams.
-/

namespace Sys2Proof.Machine

def State.modLink (s : State) (f : Link → Link) : State := { s with link := f s.link }
def State.modJcp (s : State) (f : Jcp → Jcp) : State := { s with jcp := f s.jcp }
/-- The rings that are not at their reset context. -/
def State.ringNos (s : State) : List Nat := s.jcp.rings.map Prod.fst

/-! Merge phases (R582). -/

/-- The merge phase in force, as PHASE of R586: 0 normal service, 1 start-up, 2 test, 3 recovery. -/
def State.phaseNow (s : State) : Nat :=
  if s.flt.startup then 1 else if s.flt.test.isSome then 2 else if s.jcp.barriers ≠ [] ∨ s.flt.mgmt then 3 else 0
/-- A merge phase begins: the first detection of it is still to come. -/
def State.phaseBegins (s : State) : State :=
  if s.phaseNow = 0 then { s with flt := { s.flt with firstActed := false } } else s

/-! Ends of streams (R505, R507). -/

/-- The ACTIVE capture stream ring that names a slot (R528, R557). -/
def State.ringOfSlot (s : State) (slot : Nat) : Option Nat :=
  (s.jcp.rings.find? (fun e => decide (e.2.type = 4) && decide (e.2.peer = slot) && decide (e.2.state = 1))).map Prod.fst
/-- The device can fill a buffer of a capture stream ring (R487, R505). -/
def State.bufferFree (s : State) (slot : Nat) : Bool :=
  match s.ringOfSlot slot with
  | some n => decide ((s.ring n).head ≠ (s.ring n).tail) && s.masters
  | none => false
/-- One descriptor filled: NBYTES, STATUS with PHASE and END, and HEAD (R557). -/
def State.fillBuffer (s : State) (slot nbytes : Nat) (last : Bool) : State :=
  match s.ringOfSlot slot with
  | none => s
  | some n =>
    let r := s.ring n
    let h := (r.head + 1) % 2 ^ r.log2size
    let s := s.emit (.hostWrite (r.base + 16 * r.head + 12)
      (leBytes 2 nbytes ++ [0, BitVec.ofNat 8 (128 * ofBool r.phase + ofBool last)]))
    (s.modRing n (fun r => { r with head := h, phase := if h = 0 then !r.phase else r.phase })).moderate n

/-- A stream is over: its CAP_START completes with the blocks delivered and abandoned (R507). -/
def State.endStream (s : State) (slot status sub : Nat) : State :=
  let x := s.stream slot
  if x.run then
    (s.modStream slot (fun x => { x with run := false, cmd := none, ending := none })).completeOpt x.cmd
      status sub (x.blocks % 4294967296 + 4294967296 * (x.abandoned % 4294967296))
  else s
/-- A stream ends with its transport: the completion is discarded and recorded (R505). -/
def State.dropStream (s : State) (slot : Nat) : State :=
  let x := s.stream slot
  if x.run then
    (match x.cmd with
     | some c => (s.setQueue c.src ((s.queue c.src).filter (fun e => e.id != c.id))).trigger 0x23 1
     | none => s).modStream slot (fun x => { x with run := false, cmd := none, ending := none })
  else s
/-- The running streams of a transport. -/
def State.runningOn (s : State) (usb3 : Bool) : List Nat :=
  (List.range 17).filter (fun n => (s.stream n).run && (s.stream n).usb3 == usb3)

/-- A stream ends with no block after the last one delivered (R493, R557). -/
def State.cutStream (s : State) (slot status sub : Nat) : State :=
  let x := s.stream slot
  let s := if x.run && !x.usb3 && s.bufferFree slot then s.fillBuffer slot 0 true else s
  s.endStream slot status sub

/-- The capture limits of R481, in 0.1 Gbit/s. -/
def capLimit (mode : Nat) (usb3 : Bool) : Nat :=
  if mode = 4 then (if usb3 then 160 else 600)
  else if mode = 3 then (if usb3 then 160 else 280)
  else if mode = 0 then 0
  else if usb3 then 120 else 140
/-- Rates of the running streams of a transport, in bit/s (R504). -/
def State.rates (s : State) (usb3 : Bool) : Nat := ((s.runningOn usb3).map (fun n => (s.stream n).rate)).sum
/-- A transport's streams, or both together, exceed what the link mode admits (R481). -/
def State.overRate (s : State) (usb3 : Bool) (more : Nat) : Bool :=
  decide (capLimit s.link.mode usb3 * 100000000 < s.rates usb3 + more) ||
    decide (capLimit s.link.mode false * 100000000 < s.rates false + s.rates true + more)
/-- Streams end in descending slot until the rest fit (R493). -/
def State.fitStreams (s : State) : State :=
  s.each (List.range 17).reverse (fun s n =>
    if (s.stream n).run && s.overRate (s.stream n).usb3 0 then s.cutStream n stAbortedRecovery 5 else s)

/-! The link is lost (R491, R547, R550). -/

/-- Every ring that is not UNUSED is SUSPENDED; telemetry entries are not kept (R547). -/
def State.suspendRings (s : State) : State :=
  s.each s.ringNos (fun s n =>
    let r := s.ring n
    if r.state = 0 ∨ r.state = 4 then s
    else (s.modRing n (fun r => { r with before := r.state, state := 4 })).setItems n
      ((s.items n).filter (fun it => decide (it.kind = 1) || decide (it.kind = 2) || decide (it.kind = 5))))

/-- A USB function is gone: its undelivered items are discarded and their number recorded (R550); its streams end. -/
def State.usbLost (s : State) (usb2 : Bool) : State :=
  let ks := if usb2 then [20008] else (List.range 8).map (20000 + ·)
  let count := (ks.map (fun k => (s.items k).length)).sum
  let up := if usb2 then s.link.usb2Up else s.link.usb3Up
  let s := s.modLink (fun l => { l with usb2Up := l.usb2Up && !usb2, usb3Up := l.usb3Up && usb2 })
  let s := s.each ks (fun s k => s.setItems k [])
  let s := if up then s.trigger 0x23 (16777216 + count % 16777216) else s
  if usb2 then s else (s.each (s.runningOn true) State.dropStream).modLink (fun l => { l with epBlocks := [] })

/-- The USB4 link is lost (R491, R547, R606). -/
def State.linkLost (s : State) : State :=
  if s.link.mode = 0 then s
  else
    let s := s.modLink (fun l => { l with
      mode := 0, pcieUp := false, downCount := satUp 0xFF l.downCount, lostAt := some (s.seconds, s.subsec)
      lostTime := s.now })
    (((s.raise 51 0 0 true).trigger 0x22 0).suspendRings).usbLost false

/-- A lane is excluded (R42, R482): the link retrains without it, and is lost with the second one. -/
def State.excludeLane (s : State) (lane : Nat) : State :=
  if bit s.link.lanesOk.toNat lane then
    let s := s.modLink (fun l => { l with lanesOk := l.lanesOk &&& ~~~(BitVec.ofNat 2 (2 ^ lane)) })
    if s.link.mode = 0 then s
    else if s.link.lanesOk = 0 then s.linkLost
    else (s.modLink (fun l => { l with mode := 2, retrain := satUp 0xFF l.retrain })).fitStreams
  else s

/-- The LINK events that wait are posted, one for each loss and return (R492, R548). -/
def State.postLink (s : State) : State :=
  s.link.linkEvent.foldl (fun (s : State) e =>
    s.post 0x0006 (leBytes 4 e.1 ++ leBytes 2 e.2.1 ++ leBytes 4 e.2.2.1 ++ leBytes 2 e.2.2.2))
    (s.modLink (fun l => { l with linkEvent := [] }))

/-- A command that executes as its ring is discarded goes on to its end; every other one goes with the ring (R549). -/
def Entry.discard (e : Entry) : List Entry :=
  match e.phase with
  | .running _ => [{ e with discarded := true }]
  | _ => []
/-- Suspended contexts of rings 3 to 16,383 are discarded with their kept entries and the commands open on them (R549);
the kept entries of rings 0 to 2 go with them. A RING_DELETE of a discarded ring completes, for the ring is UNUSED (R529). -/
def State.discardRings (s : State) : State :=
  let gone := s.ringNos.filter (fun n => decide ((s.ring n).state = 4))
  let far := gone.filter (fun n => decide (3 ≤ n))
  let counts := far.map (fun n => (n, (s.entries n).length))
  let total := (gone.map (fun n => (s.entries n).length)).sum
  let s := s.each (s.runningOn false) State.dropStream
  let drains := far.filterMap (fun n => (s.ring n).drain)
  let s := s.each gone (fun s n => (s.setItems n []).setQueue n ((s.queue n).flatMap Entry.discard))
  let s := s.each far (fun s n => ((s.modRing n (fun _ => {})).modTlm n (fun _ => {})))
  let s := s.modJcp (fun j => { j with cause := 2, discarded := j.discarded ++ counts.filter (fun e => decide (0 < e.2)) })
  let s : State := drains.foldl (fun (s : State) d => s.complete d.2.1 stOk 0 0) s
  s.trigger 0x23 (total % 16777216)

/-! Rings stop (R524, R525). -/

/-- An error of ERR 1 to 3 stops an ACTIVE ring. -/
def State.stopRing (s : State) (n e : Nat) : State :=
  if (s.ring n).state = 1 then
    ((s.modRing n (fun r => { r with state := 2, err := e })).drain n).post 0x0005 (leBytes 2 n ++ leBytes 1 e)
  else s

/-! Recovery barriers (R545, R546). -/

/-- The sources that hold commands. -/
def State.sources (s : State) : List Nat := s.jcp.queues.map Prod.fst
/-- A barrier opens: RECOVERY_BEGIN, and the commands that have not started end, in ring order; so do the injections that
commands of its rings have started (R342) [93]. -/
def State.openBarrier (s : State) (cause ring : Nat) : State :=
  let s := s.phaseBegins
  let owed := (s.jcp.rings.filter (fun e => decide (e.2.type = 1) && s.inBarrier ring e.1)).foldl
    (fun (t : Table Nat) e => Table.set 0 t e.1 ((e.2.tail + 2 ^ e.2.log2size - e.2.head) % 2 ^ e.2.log2size)) []
  let waiting := (s.sources.filter (fun k => s.inBarrier ring k)).flatMap (fun k =>
    ((s.queue k).filter (fun e => !e.phase.begun)).map (fun e => ({ src := k, id := e.id } : CmdRef)))
  let b : Barrier := {
    number := s.jcp.barrierNo, cause := cause, ring := ring, aborted := waiting.length, upTo := s.jcp.nextId, owed := owed }
  let s := s.post 0x0002 (leBytes 2 b.number ++ leBytes 1 cause ++ leBytes 1 0 ++ leBytes 2 ring)
  let s := s.modJcp (fun j => { j with barriers := j.barriers ++ [b], barrierNo := (j.barrierNo + 1) % 65536 })
  let s := waiting.foldl (fun (s : State) c => s.complete c stAbortedRecovery 1 0) s
  s.endInjections (fun l => match (s.loopOf l).inj with
    | some j => s.inBarrier ring j.cmd.src
    | none => false) stAbortedRecovery 2

/-- Every completion of steps 2 and 3 has been posted (R545): no ended command of an affected source waits behind
another, and the entries submitted before RECOVERY_BEGIN have been fetched where their ring still fetches. -/
def State.barrierDone (s : State) (b : Barrier) : Bool :=
  decide (s.boot.pairFenced ≠ 3) && !s.boot.takeover &&
    b.owed.all (fun e => decide ((s.ring e.1).state = 0) || decide ((s.ring e.1).state = 2)) &&
    (s.sources.filter (fun k => s.inBarrier b.ring k)).all (fun k =>
      (s.queue k).all (fun e => decide (b.upTo ≤ e.id) || (match e.phase with
        | .running _ => true
        | _ => false)))

/-! Setup words (R526, R527, R548). -/

def State.setupOf (s : State) (sel : Nat) : Setup :=
  if sel = 0 then s.jcp.setup0 else if sel = 1 then s.jcp.setup1 else s.jcp.setup2
def State.modSetup (s : State) (sel : Nat) (f : Setup → Setup) : State :=
  s.modJcp (fun j =>
    if sel = 0 then { j with setup0 := f j.setup0 }
    else if sel = 1 then { j with setup1 := f j.setup1 }
    else { j with setup2 := f j.setup2 })
def State.clearSetup (s : State) : State := s.modJcp (fun j => { j with setup0 := {}, setup1 := {}, setup2 := {} })

/-- A SHAPE whose LOG2SIZE is outside 4 to 12 or whose bits 25:17 are not zero is not a legal word. -/
def shapeLegal (v : Nat) : Bool := decide (4 ≤ v % 32) && decide (v % 32 ≤ 12) && decide (v < 131072)
/-- The ring that the values of a SEL describe; none until base and shape have been written. -/
def Setup.ring (x : Setup) (type peer : Nat) : Option Ring :=
  match x.lo, x.hi, x.shape with
  | some lo, some hi, some sh =>
    let v := sh.toNat
    some {
      base := (hi.toNat * 67108864 + lo.toNat) * 4096, peer := peer, irqEn := bit v 16, vector := v / 32 % 2048
      type := type, log2size := v % 32, state := 1 }
  | _, _, _ => none
/-- Bytes of a ring's area, the shadow included (R520). -/
def Ring.area (r : Ring) : Nat :=
  2 ^ r.log2size * (if r.type = 1 then 64 else if r.type = 2 then 16 else 32) + if r.type = 1 then 64 else 0
def Ring.overlaps (a b : Ring) : Bool := decide (a.base < b.base + b.area) && decide (b.base < a.base + a.area)

/-- ADMIN_READY and what follows it (R527, R549, R554). -/
def State.adminReady (s : State) : State :=
  let gone := s.jcp.discarded
  let s := s.post 0x0001 (leBytes 2 s.jcp.session ++ leBytes 1 s.jcp.cause ++ leBytes 1 s.link.mode)
  let s := s.modJcp (fun j => { j with cause := 0, discarded := [] })
  let s : State := gone.foldl (fun (s : State) e => s.post 0x0007 (leBytes 2 e.1 ++ leBytes 2 0 ++ leBytes 4 e.2)) s
  s.postLink

/-- GO (R527). SESSION changes at every GO; its value is otherwise free [4]. -/
def State.setupGo (s : State) : State :=
  match s.jcp.setup0.ring 1 1, s.jcp.setup1.ring 2 65535, s.jcp.setup2.ring 3 65535 with
  | some a, some b, some c =>
    let s := s.clearSetup
    if a.overlaps b ∨ a.overlaps c ∨ b.overlaps c ∨ !s.masters then s
    else
      let s := if (s.ring 0).state = 4 ∧ s.jcp.cause ≠ 2 then s.discardRings else s
      let v := (s.jcp.session + 1 + s.draw % 65535) % 65536
      let s := s.drawn.modJcp (fun j => { j with session := v, sinkRing := {} })
      let s := ((s.modRing 0 (fun _ => a)).modRing 1 (fun _ => b)).modRing 2 (fun _ => c)
      ((s.setItems 1 []).setItems 2 []).adminReady
  | _, _, _ => s.clearSetup

/-- A number and a ring, put among others in rising order of the numbers. -/
def placeItem (x : Nat × Nat) : List (Nat × Nat) → List (Nat × Nat)
  | [] => [x]
  | y :: rest => if x.1 < y.1 then x :: y :: rest else y :: placeItem x rest
/-- The rings of the waiting items of rings that can be written, in the order in which the items arose (R548). -/
def State.itemOrder (s : State) (ns : List Nat) : List Nat :=
  (((ns.filter (fun n => decide ((s.ring n).state = 1) || decide ((s.ring n).state = 3))).flatMap (fun n =>
    (s.items n).map (fun it => (it.no, n)))).foldr placeItem []).map Prod.snd
/-- What waits in rings is written in the order in which it arose (R548), as far as `drain` lets it. -/
def State.drainRings (s : State) (ns : List Nat) : State :=
  let s := if s.masters then s.each (s.itemOrder ns) State.drainOne else s
  s.each ns State.drain

/-- RESUME (R527, R548): within KEEP_S of the loss and with the present SESSION, every ring returns to its state before
the loss, what was kept is delivered, and the LINK event follows. -/
def State.setupResume (s : State) (session : Nat) : State :=
  if (s.ring 0).state = 4 ∧ s.jcp.cause ≠ 2 ∧ session = s.jcp.session ∧ s.now ≤ s.link.lostTime + s.set.keepS * perSecond then
    let ns := s.ringNos.filter (fun n => decide ((s.ring n).state = 4))
    let s := s.each ns (fun s n => s.modRing n (fun r => { r with state := r.before, before := 0 }))
    ((s.drainRings ns).owedEvents).postLink
  else s

/-- A setup word on doorbell 0 (R526). Words that break the layout are ignored, as those with an undefined CODE. -/
def State.setupWord (s : State) (code sel value : Nat) : State :=
  if sel = 3 then s
  else if code = 1 then s.modSetup sel (fun x => { x with lo := some (BitVec.ofNat 26 value) })
  else if code = 2 then s.modSetup sel (fun x => { x with hi := some (BitVec.ofNat 26 value) })
  else if code = 3 then
    if shapeLegal value then s.modSetup sel (fun x => { x with shape := some (BitVec.ofNat 26 value) }) else s
  else if code = 10 then if sel = 0 ∧ value = 0 then s.setupGo else s
  else if code = 11 then if sel = 0 ∧ value < 65536 then s.setupResume value else s
  else s

/-- A write to BAR0 (R484, R519, R526). A doorbell reaches the device while the PCIe tunnel is up. -/
def State.doorbell (s : State) (off size v : Nat) : State :=
  let drop : State := s.modLink (fun l => { l with dbDrop := satUp 0x7F l.dbDrop })
  if !s.link.pcieUp then s
  else if size ≠ 4 ∨ off % 4 ≠ 0 ∨ 65536 ≤ off then drop
  else
    let n := off / 4
    let r := s.ring n
    if n = 0 ∧ r.state ≠ 1 then s.setupWord (v / 268435456) (v / 67108864 % 4) (v % 67108864)
    else if r.state ≠ 1 ∨ 65536 ≤ v then drop
    else if 2 ^ r.log2size ≤ v then s.stopRing n 1
    else if r.type = 1 ∨ r.type = 4 then s.modRing n (fun r => { r with tail := v })
    else ((s.modRing n (fun r => { r with head := v })).drain n).owedEvents

/-! A management reset, as it reaches the rings (R551). -/

/-- Every ring is UNUSED, and the commands open at that moment are recorded. A stream ends with its ring; one on USB3,
which needs none (R506), runs on without its command. -/
def State.resetRings (s : State) : State :=
  let count := s.outstanding
  let s := s.modJcp (fun j => { j with
    rings := [], tlm := [], queues := [], items := [], setup0 := {}, setup1 := {}, setup2 := {}, cause := 1
    discarded := [], sinkRing := {}, sinkUsb3 := {}, sinkUsb2 := {}, barriers := [] })
  let s := s.modLink (fun l => { l with usb2Up := false, linkEvent := [] })
  let s := s.each (s.runningOn true) (fun s n => s.modStream n (fun x => { x with cmd := none }))
  let s := s.each (s.runningOn false) (fun s n =>
    s.modStream n (fun x => { x with run := false, cmd := none, ending := none }))
  s.trigger 0x23 (33554432 + count % 16777216)

end Sys2Proof.Machine
end

