-- ==== Sys2Proof/Machine/RecOps.lean ====
section
/-!
DEFINITION. Shared operations of the recorder (15_event_recorder.md): settings, waiting snapshots, repeats, statistics,
freezes, and the bytes of what the store holds.
-/

namespace Sys2Proof.Machine

def State.modRec (s : State) (f : Rec → Rec) : State := { s with rcd := f s.rcd }

/-! Triggers and sets (R606, R623, R624). -/

/-- The trigger codes of R606. -/
def trigCodes : List Nat := [1, 2, 3, 0x10, 0x11, 0x12, 0x13, 0x20, 0x21, 0x22, 0x23, 0x30, 0x31, 0x32, 0x33, 0x40]
/-- "Always" triggers (R606). -/
def trigAlways (t : Nat) : Bool := [1, 0x21, 0x23, 0x30, 0x31, 0x32, 0x33].contains t
/-- Triggers that coalesce (R606). -/
def trigCoalesces (t : Nat) : Bool := [1, 2, 3, 0x10, 0x11, 0x12, 0x13, 0x20, 0x22, 0x40].contains t
/-- REC_TRIG_CONFIG of a trigger: as written, or its reset (R606, R623). -/
def State.trigOf (s : State) (t : Nat) : TrigSet :=
  match Table.get none s.store.trig t with
  | some x => x
  | none => {
      en := decide (t ≠ 2) && decide (t ≠ 3), set := if 0x10 ≤ t ∧ t ≤ 0x13 then 1 else if t = 0x21 then 2 else 0
      coalesceMs := 1000 }

/-- The default sets of R606, as pairs of object and instance. -/
def defaultSet : Nat → List (Nat × Nat)
  | 0 => [(0x0900, 0), (0x0901, 0), (0x0100, 0), (0x0711, 0), (0x0012, 0)]
  | 1 => [(0x0330, 65535), (0x0331, 65535), (0x0320, 65535), (0x0420, 65535), (0x0521, 65535)]
  | 2 => (0x0711, 0) :: (List.range 8).map (fun z => (0x0712, z))
  | _ => []
/-- REC_SNAP_LIST of an entry: as written, or its reset (R606, R624). -/
def State.snapItem (s : State) (n : Nat) : SnapItem :=
  match Table.get none s.store.snapList n with
  | some x => x
  | none =>
    match (defaultSet (n / 32))[n % 32]? with
    | some (o, i) => { valid := true, obj := o, inst := i }
    | none => { valid := false, obj := 0, inst := 0 }

/-! Host time (R602). -/

/-- Host time at this moment; none with HOST_VALID 0, or outside 0 to 2^32 − 1 (R602, R604). -/
def State.hostTime (s : State) : Option Nat :=
  let v := (s.seconds : Int) + s.store.hostOfs
  if s.store.hostValid ∧ 0 ≤ v ∧ v < 4294967296 then some v.toNat else none

/-! Waiting snapshots and records (R604, R605, R609). -/

/-- A snapshot taken now. -/
def State.snapNow (s : State) (trigger source : Nat) (injected : Bool) (payload : List Byte) (nobj : Nat)
    (trunc noSubj : Bool) : Snap :=
  { trigger := trigger, source := source, seconds := s.seconds, subsec := s.subsec, powerCycles := s.store.powerCycles
    injected := injected, hostValid := s.hostTime.isSome, hostSeconds := s.hostTime.getD 0, trunc := trunc
    noSubj := noSubj, nobj := nobj, payload := payload, repeats := 0, last := s.seconds, lastAt := s.now }

/-- A trigger that a freeze withholds (R614, R621). -/
def Rec.missFreeze (x : Rec) (sec : Nat) : Rec :=
  { x with
    missed := satUp 0xFFF x.missed, missedFreeze := x.missedFreeze + 1
    missedFirst := if x.missedFreeze = 0 then sec else x.missedFirst, missedLast := sec }
/-- A trigger that finds 64 waiting (R605, R621). -/
def Rec.missQueue (x : Rec) (sec : Nat) : Rec :=
  { x with
    missed := satUp 0xFFF x.missed, queueMissed := x.queueMissed + 1
    queueFirst := if x.queueMissed = 0 then sec else x.queueFirst, queueLast := sec }

/-- A snapshot joins those that wait for writing (R605, R614). -/
def State.putSnap (s : State) (x : Snap) : State :=
  if s.rcd.frozen.isSome then s.modRec (fun r => r.missFreeze x.seconds)
  else if 64 ≤ s.rcd.waiting.length then s.modRec (fun r => r.missQueue x.seconds)
  else s.modRec (fun r => { r with waiting := r.waiting ++ [x] })
/-- A snapshot with a fixed payload (R606). -/
def State.putFixed (s : State) (trigger source : Nat) (payload : List Byte) : State :=
  s.putSnap (s.snapNow trigger source false payload 0 false false)
/-- RECORDS_MISSED (R606). -/
def missedPayload (count first last : Nat) : List Byte := leBytes 4 count ++ leBytes 4 first ++ leBytes 4 last

/-- A record enters the log with the next SEQ; in a full partition it replaces the one with the lowest SEQ (R609). -/
def State.writeRecord (s : State) (x : Snap) : State :=
  s.modStore (fun t => { t with
    records := (if 131072 ≤ t.records.length then t.records.drop 1 else t.records) ++ [{ seq := t.nextSeq, snap := x }]
    nextSeq := (t.nextSeq + 1) % 4294967296 })

/-- The last `n` distinct pairs of trigger and source among snapshots, newest first (R608). -/
def lastPairs : List Snap → Nat → List (Nat × Nat) → List (Nat × Nat)
  | [], _, seen => seen
  | _, 0, seen => seen
  | x :: rest, n + 1, seen =>
    if seen.contains (x.trigger, x.source) then lastPairs rest (n + 1) seen
    else lastPairs rest n (seen ++ [(x.trigger, x.source)])

/-- Repeats not yet written reach the store (R608). -/
def State.flushRepeats (s : State) : State :=
  let put := fun (r : Record) =>
    match s.rcd.dirty.find? (fun e => e.1 == r.seq) with
    | some (_, n, last, at_) => { r with snap := { r.snap with repeats := n, last := last, lastAt := at_ } }
    | none => r
  if s.rcd.dirty = [] then s
  else (s.modStore (fun t => { t with records := t.records.map put })).modRec (fun r => { r with
    dirty := [], coalesceAt := s.now })

/-! Statistics (R610 to R614). -/

/-- Two values of minimum and maximum become one. -/
def mergeExt (a b : Int × Int × Nat × Nat) : Int × Int × Nat × Nat :=
  (min a.1 b.1, max a.2.1 b.2.1, if b.1 < a.1 then b.2.2.1 else a.2.2.1, if a.2.1 < b.2.1 then b.2.2.2 else a.2.2.2)
/-- Two histogram sets are added. -/
def Hist.merge (a b : Hist) : Hist :=
  { counts := b.counts.foldl (fun (t : Table Nat) e => Table.modify 0 t e.1 (· + e.2)) a.counts
    ext := b.ext.foldl (fun (t : Table (Int × Int × Nat × Nat)) e =>
      match t.find? (fun x => x.1 == e.1) with
      | some (_, x) => Table.insert (Table.erase t e.1) e.1 (mergeExt x e.2)
      | none => Table.insert t e.1 e.2) a.ext }
/-- Counts of one quantity. -/
def Hist.total (h : Hist) (q : Nat) : Nat := (Table.range 0 h.counts (q * 64) 64).sum

/-- The newer copy of a lifetime record (R611). -/
def Store.life (t : Store) (g : Nat) : Life :=
  let a := Table.get {} t.lives (g * 2)
  let b := Table.get {} t.lives (g * 2 + 1)
  if b.generation ≤ a.generation then a else b
/-- A lifetime record is written to its other copy. -/
def Store.putLife (t : Store) (g : Nat) (h : Hist) (hours : Nat) : Store :=
  let x := t.life g
  let n := x.generation + 1
  { t with lives := Table.set {} t.lives (g * 2 + n % 2) { generation := n, hours := x.hours + hours, hist := x.hist.merge h } }

/-- The counts of an hour of a sub-band with those that its PARTIAL bucket holds. -/
def Store.continued (t : Store) (k hour : Nat) (e : Nat × Hist) : Hist :=
  match Table.get none t.buckets k with
  | some b => if b.partial_ ∧ b.subband = e.1 ∧ b.hour = hour then b.hist.merge e.2 else e.2
  | none => e.2
/-- An hour of one sub-band reaches the store: its bucket and its lifetime record, where the sub-band has a slot (R611).
A partial hour adds its counts to the lifetime record without counting an hour [63], and the bucket of the whole hour continues that
of its part [98]. -/
def State.storeHour (s : State) (hour : Nat) (partial_ : Bool) (e : Nat × Hist) : State :=
  let slot := (s.statsOf e.1).slot
  if slot < 32 then
    let h := s.store.continued (slot * 720 + hour % 720) hour e
    let b : Bucket := { subband := e.1, partial_ := partial_, hour := hour, powerCycles := s.store.powerCycles, hist := h }
    s.modStore (fun t =>
      { t with buckets := Table.set none t.buckets (slot * 720 + hour % 720) (some b) }.putLife e.1 e.2 (if partial_ then 0 else 1))
  else s

/-- The sub-bands enabled during the hour in progress, with their histograms, the shadow set included. -/
def State.hourSet (s : State) : List (Nat × Hist) :=
  let gs := allSbs.filter (fun g => s.rcd.used.contains g || s.enabled g)
  gs.map (fun g => (g, (Table.get {} s.rcd.hour g).merge (Table.get {} s.rcd.shadow g)))
/-- A new hour begins. -/
def State.newHour (s : State) : State :=
  s.modRec (fun r => { r with
    hour := [], shadow := [], used := allSbs.filter (fun g => s.enabled g), hourNo := s.seconds / 3600 })

/-- The hour in progress closes: it is stored, or kept until a freeze is released (R611, R614). -/
def State.closeHour (s : State) (partial_ : Bool) : State :=
  let es := s.hourSet
  if s.rcd.frozen.isSome then
    (s.modRec (fun r => { r with closed := r.closed ++ [(r.hourNo, es)] })).newHour
  else (es.foldl (fun (s : State) e => s.storeHour s.rcd.hourNo partial_ e) s).newHour

/-- A freeze ends: what it withheld is written (R614). -/
def State.releaseFreeze (s : State) : State :=
  let hours := s.rcd.closed
  let missed := s.rcd.missedFreeze
  let payload := missedPayload missed s.rcd.missedFirst s.rcd.missedLast
  let s := s.modRec (fun r => { r with
    frozen := none, closed := [], missedFreeze := 0
    hour := r.shadow.foldl (fun (t : Table Hist) e => Table.modify {} t e.1 (fun h => h.merge e.2)) r.hour, shadow := [] })
  let s : State := hours.foldl (fun (s : State) e => e.2.foldl (fun (s : State) x => s.storeHour e.1 false x) s) s
  if 0 < missed then s.putFixed 0x33 0 payload else s

/-- What the recorder writes before SLEEP and before a device reset (R608, R611); a freeze in force ends first (R614). -/
def State.recorderRest (s : State) : State :=
  let s := if s.rcd.frozen.isSome then s.releaseFreeze else s
  ((s.flushRepeats).closeHour true).modRec (fun r => { r with arm := none, armed := false })

/-! Bytes of the store (R604, R612). -/

/-- Words of 8 bytes that read as zero (R598). -/
def blankWords (bs : List Byte) (bad : List Nat) : List Byte := bs.mapIdx (fun i b => if bad.contains (i / 8) then 0 else b)
/-- A snapshot record (R604). -/
def Record.bytes (r : Record) : List Byte :=
  let x := r.snap
  let flags := ofBool x.injected + 2 * ofBool x.hostValid + 4 * ofBool x.trunc + 8 * ofBool x.noSubj
  let body := leBytes 4 r.seq ++ leBytes 4 x.seconds ++ leBytes 2 x.subsec ++ leBytes 2 (min 65535 x.repeats) ++
    leBytes 4 x.powerCycles ++ leBytes 4 x.last ++ leBytes 1 x.trigger ++ leBytes 1 flags ++ leBytes 1 x.nobj ++
    leBytes 1 0 ++ leBytes 4 x.source ++ leBytes 4 (if x.hostValid then x.hostSeconds else 0) ++
    (x.payload ++ List.replicate 220 0).take 220
  blankWords (body ++ leBytes 4 (crc32c body)) r.bad

/-- The extremes of one quantity: 0 where nothing was counted. -/
def Hist.extOf (h : Hist) (q : Nat) : Int × Int × Nat × Nat :=
  match h.ext.find? (fun e => e.1 == q) with
  | some e => e.2
  | none => (0, 0, 0, 0)
/-- An hourly bucket (R612). -/
def Bucket.bytes (b : Bucket) (slot : Nat) : List Byte :=
  let code := fun (q i : Nat) => ceilDiv (255 * Table.get 0 b.hist.counts (q * 64 + i)) (b.hist.total q)
  let ext := fun (q : Nat) =>
    let e := b.hist.extOf q
    leBytes 2 (bitsOf 16 e.1) ++ leBytes 2 (bitsOf 16 e.2.1) ++ leBytes 2 (e.2.2.1 % 3600) ++ leBytes 2 (e.2.2.2 % 3600)
  let body := leBytes 1 b.subband ++ leBytes 1 slot ++ leBytes 2 (ofBool b.partial_) ++ leBytes 4 b.hour ++
    leBytes 4 b.powerCycles ++ (List.range 4).flatMap (fun q => leBytes 4 (b.hist.total q)) ++
    (List.range 4).flatMap (fun q => (List.range 64).flatMap (fun i => leBytes 1 (code q i))) ++
    (List.range 4).flatMap ext
  body ++ leBytes 4 (crc32c body)
/-- A lifetime record (R612). -/
def Life.bytes (x : Life) (g : Nat) : List Byte :=
  let ext := fun (q : Nat) =>
    let e := x.hist.extOf q
    leBytes 2 (bitsOf 16 e.1) ++ leBytes 2 (bitsOf 16 e.2.1) ++ leBytes 4 e.2.2.1 ++ leBytes 4 e.2.2.2
  let body := leBytes 1 g ++ leBytes 1 0 ++ leBytes 2 0 ++ leBytes 4 x.generation ++ leBytes 4 x.hours ++ leBytes 4 0 ++
    (Table.range 0 x.hist.counts 0 256).flatMap (leBytes 8) ++ (List.range 4).flatMap ext ++ List.replicate 60 0
  body ++ leBytes 4 (crc32c body)

/-! The recorder's objects (R621, R622, R623 to R626). -/

def State.oldestSeq (s : State) : Nat :=
  match s.store.records.head? with
  | some r => r.seq
  | none => s.store.nextSeq
def State.newestSeq (s : State) : Nat :=
  match s.store.records.getLast? with
  | some r => r.seq
  | none => (s.store.nextSeq + 4294967295) % 4294967296
def recStatusValue (s : State) : Nat :=
  packFields [(32, s.newestSeq), (32, s.oldestSeq), (32, s.store.powerCycles), (1, ofBool s.rcd.frozen.isSome),
    (1, ofBool s.rcd.armed), (1, ofBool s.store.hostValid), (1, ofBool s.rcd.zeroing.isSome), (12, s.rcd.missed),
    (16, s.store.clearCount)]
def recTimeValue (s : State) : Nat :=
  packFields [(32, s.seconds), (16, s.subsec), (16, 0), (64, bitsOf 64 s.store.hostOfs)]
def recTrigValue (s : State) (t : Nat) : Nat :=
  let x := s.trigOf t
  packFields [(1, ofBool x.en), (3, x.set), (12, 0), (16, x.coalesceMs), (32, 0)]
def checkRecTrig (t v : Nat) : Verdict :=
  checks [(decide (60000 < bitsAt v 47 32), badField 32), (trigAlways t && !bit v 63, badField 63)]
def writeRecTrig (t v : Nat) (s : State) : State :=
  s.modStore (fun x => { x with
    trig := Table.set none x.trig t (some { en := bit v 63, set := bitsAt v 62 60, coalesceMs := bitsAt v 47 32 }) }) |>.repaired (305 + t)
def recSnapValue (s : State) (n : Nat) : Nat :=
  let x := s.snapItem n
  packFields [(1, ofBool x.valid), (15, 0), (16, x.obj), (16, x.inst), (16, 0)]
def writeRecSnap (n v : Nat) (s : State) : State :=
  s.modStore (fun x => { x with
    snapList := Table.set none x.snapList n (some { valid := bit v 63, obj := bitsAt v 47 32, inst := bitsAt v 31 16 }) }) |>.repaired (400 + n)
def writeRecCmdSel (g v : Nat) (s : State) : State :=
  (s.modStore (fun x => { x with cmdSel := Table.set none x.cmdSel g (some (BitVec.ofNat 64 v)) })).repaired (660 + g)

/-- PENDING of R626, in the order of R610 from bit 23. -/
def StatsSet.pendingBits (x : StatsSet) : Nat :=
  ((List.range 4).map (fun q => if x.pending.any (fun e => e.1 == q) then 2 ^ (3 - q) else 0)).sum
def recStatsValue (s : State) (g : Nat) : Nat :=
  let x := s.statsOf g
  packFields [(8, x.slot), (8, bitsOf 8 x.inLow), (8, bitsOf 8 x.outLow), (8, bitsOf 8 x.gainLow), (8, bitsOf 8 x.isoLow),
    (4, x.pendingBits), (20, 0)]
def checkRecStats (g v : Nat) (s : State) : Verdict :=
  let slot := bitsAt v 63 56
  checks [
    (outside (-40) 100 (signedAt v 31 24), badField 24), (outside (-80) 100 (signedAt v 39 32), badField 32),
    (outside (-127) 0 (signedAt v 47 40), badField 40), (outside (-127) 0 (signedAt v 55 48), badField 48),
    (decide (31 < slot) && decide (slot ≠ 255), badField 56),
    (decide (slot ≠ 255) && allSbs.any (fun h => decide (h ≠ g) && decide ((s.statsOf h).slot = slot)), badField 56)]
/-- One LOW value of a set. -/
def StatsSet.setLow (x : StatsSet) (q : Nat) (v : Int) : StatsSet :=
  if q = 0 then { x with inLow := v }
  else if q = 1 then { x with outLow := v }
  else if q = 2 then { x with gainLow := v }
  else { x with isoLow := v }
/-- A LOW value takes effect at once where the lifetime count of the quantity is zero; else it is PENDING (R613). -/
def StatsSet.putLow (x : StatsSet) (empty : Bool) (q : Nat) (v : Int) : StatsSet :=
  if v = x.low q then { x with pending := Table.erase x.pending q }
  else if empty then { x.setLow q v with pending := Table.erase x.pending q }
  else { x with pending := Table.insert (Table.erase x.pending q) q v }
def writeRecStats (g v : Nat) (s : State) : State :=
  let life := (s.store.life g).hist
  let empty := fun q => decide (life.total q = 0)
  let x := { s.statsOf g with slot := bitsAt v 63 56 }
  let x := x.putLow (empty 0) 0 (signedAt v 55 48)
  let x := x.putLow (empty 1) 1 (signedAt v 47 40)
  let x := x.putLow (empty 2) 2 (signedAt v 39 32)
  let x := x.putLow (empty 3) 3 (signedAt v 31 24)
  (s.modStore (fun t => { t with stats := Table.set none t.stats g (some x) })).repaired (680 + g)
/-- PENDING LOW values take effect (R613, R620). -/
def StatsSet.applyPending (x : StatsSet) : StatsSet :=
  { x.pending.foldl (fun (x : StatsSet) e => x.setLow e.1 e.2) x with pending := [] }

end Sys2Proof.Machine
end

