-- ==== Sys2Proof/Machine/FltOps.lean ====
section
/-!
DEFINITION. The fault collector (14_faults.md): sources, detections, levels, merging and shadows, reactions, fences and
acknowledgement.
-/

namespace Sys2Proof.Machine

def State.modFlt (s : State) (f : Flt → Flt) : State := { s with flt := f s.flt }

/-! ALIVE (R589). -/

/-- ALIVE runs (R589). -/
def State.aliveRuns (s : State) : Bool :=
  s.collects && !(s.flt.held.any (fun e => decide (s.set.flt.aliveThr ≤ e.2))) &&
    (match s.flt.fed with
     | some t => decide (s.now ≤ t + 100 * perMs)
     | none => false)
/-- Where both conditions of ALIVE hold that did not, ALIVE goes on at the boundaries from now on. -/
def State.aliveFrom (s old : State) : State := if s.aliveRuns && !old.aliveRuns then s.modFlt (fun f => { f with aliveOk := s.now }) else s

/-! Sources (R572, R573). -/

/-- The class codes of R573. -/
def classOf (b : Nat) : Nat :=
  if b ≤ 3 then 0 else if b ≤ 7 then 1 else if b ≤ 13 then 2 else if b ≤ 17 then 3 else if b ≤ 21 then 4
  else if b ≤ 27 then 5 else if b ≤ 30 then 6 else if b ≤ 36 then 7 else if b ≤ 49 then 8 else if b ≤ 53 then 9
  else if b ≤ 56 then 10 else 11
/-- The default severities of R572, by bit. -/
def defaultSeverity (b : Nat) : Nat :=
  [2, 1, 1, 3, 3, 4, 3, 4, 2, 0, 3, 1, 1, 3, 2, 2, 1, 1, 3, 0, 3, 0, 3, 1, 3, 1, 3, 1, 0, 2, 3, 1,
   0, 3, 3, 2, 1, 1, 1, 1, 3, 3, 3, 3, 1, 3, 1, 2, 2, 1, 2, 1, 1, 1, 2, 0, 1, 2, 2, 1, 1, 1, 1, 1].getD b 0
/-- The severity in force of a source (R591). -/
def State.levelOf (s : State) (b : Nat) : Nat := s.severity (defaultSeverity b) b
/-- An address names an existing unit of a source (R572, R593). -/
def addrOk (b a kind : Nat) : Bool :=
  if b = 0 then decide (a < 264)
  else if b = 8 then decide (a / 32 < 8) && decide (a % 32 < 13)
  else if b = 14 then decide (a / 32 < 8) && decide (a % 32 < 17)
  else if [1, 2, 3, 10, 15, 18, 26].contains b then decide (a < 8)
  else if [9, 11, 12, 16, 17, 22, 40, 41, 42].contains b then decide (a < 128)
  else if b = 13 then decide (a < 128) || (decide (0x800 ≤ a) && decide (a < 0x810))
  else if [19, 20, 21, 43, 44].contains b then decide (a < 136)
  else if [23, 24, 27].contains b then decide (a < 4)
  else if b = 25 then decide (a < 16)
  else if b = 28 then decide (a < 24)
  else if b = 29 then decide (a < 16)
  else if b = 30 then decide (a < 24) || (decide (32 ≤ a) && decide (a < 48))
  else if b = 31 then decide (a < 12) || (decide (16 ≤ a) && decide (a < 24))
  else if [32, 33, 34].contains b then decide (a < 8)
  else if b = 36 then decide (25 ≤ a) && decide (a ≤ 28)
  else if b = 37 ∨ b = 63 then decide (a < 10)
  else if b = 38 ∨ b = 45 then decide (a < 8)
  else if b = 39 then decide (a < 6)
  else if b = 47 then decide (a < 4096) && decide (kind < 4)
  else if b = 49 then decide (a < 256)
  else if [48, 50, 54, 55, 56, 57, 58, 59, 62].contains b then decide (a < 2)
  else if b = 60 then decide (a < 13)
  else if b = 61 then decide (a < 4096)
  else decide (a = 0)
/-- The coded message of R573. -/
def Due.message (d : Due) (forced : Bool) : Nat :=
  classOf d.bit * 268435456 + d.bit * 1048576 + (d.kind % 128 + 128 * ofBool forced) * 4096 + d.addr % 4096

/-! Fences (R572, R575, R577). -/

/-- Sources whose failed unit is removed by a fixed action (R575). -/
def fixedFence (b : Nat) : Bool := [0, 8, 14, 15, 29, 35, 47, 48, 50, 54, 57, 58].contains b
/-- Sources that fence a management pair (R577). -/
def pairSource (b : Nat) : Bool := [48, 57, 58].contains b

/-- A TX chain is fenced (R704): its power-down sequence runs at once, with the ramp of its RF-DAC input to zero (R407), and
no sequence releases the input again. -/
def State.fenceTx (s : State) (c : Nat) : State :=
  if (s.cnvOf c).txFenced then s
  else
    let s := (s.modCnv c (fun x => { x with txFenced := true })).askDown c
    if (s.feOf c).dueDown then s.startDown c else s
/-- The canceller of a victim chain is fenced (R241): the governor counts physical isolation only. -/
def State.fenceCan (s : State) (c : Nat) : State :=
  if (s.cnvOf c).canFenced then s
  else
    let s := s.modCnv c (fun x => { x with canFenced := true })
    let s := s.each ((sbsOf c).filter (fun g => s.enabled g)) State.effLost
    s.pathsChanged (sbsOf c)
/-- A filter lane is lost (R42, R43): a spare, then budget, and with the last one the chain. -/
def State.loseLane (s : State) (c lane : Nat) : State :=
  if bit (s.cnvOf c).lanes lane then s
  else
    let s := s.modCnv c (fun x => { x with lanes := x.lanes + 2 ^ lane, lanesLost := x.lanesLost + 1 })
    if 13 ≤ (s.cnvOf c).lanesLost then s.fenceChain c else s.shedDown c
/-- A canceller lane of a victim chain is lost (R42). -/
def State.loseCanLane (s : State) (c lane : Nat) : State :=
  if bit (s.cnvOf c).canLanes lane then s
  else
    let s := s.modCnv c (fun x => { x with canLanes := x.canLanes + 2 ^ lane, canLanesLost := x.canLanesLost + 1, canSpared := some (x.canSpared.getD lane) })
    if 2 ≤ (s.cnvOf c).canLanesLost then s.fenceCan c else s
/-- A monitor is held asserted (R423). -/
def State.fenceMonitor (s : State) (m : Nat) : State :=
  if (s.wmOf m).failed then s else (s.modWm m (fun x => { x with failed := true })).tripAll m
/-- A ring stops for an uncorrectable error of its context, after its barrier (R47, R524, R545). -/
def State.fenceRing (s : State) (n : Nat) : State :=
  if (s.ring n).state = 1 ∨ (s.ring n).state = 2 then
    ((s.openBarrier 1 n).modRing n (fun r => { r with state := 2, err := 4 })).drain n
  else s
/-- 250 µs. -/
def shadowTime : Time := 491520
/-- A management pair is fenced (R48, R703). The fence of the active pair stops firmware (R24) and opens a shadow for
class CTL (R49). -/
def State.fencePair (s : State) (p : Nat) : State :=
  if bit s.boot.pairFenced.toNat p then s
  else
    let s : State := if p = s.boot.pair then
        { s.hkStall with flt := { s.flt with shadows := s.flt.shadows ++ [(4, s.now + shadowTime)] } }
      else s
    let s : State := { s with boot := { s.boot with pairFenced := s.boot.pairFenced ||| BitVec.ofNat 2 (2 ^ p) } }
    if s.boot.pairFenced = 3 then { s.openBarrier 0 0xFFFF with boot := { s.boot with takeover := false } }
    else if p = s.boot.pair then { s.openBarrier 0 0xFFFF with boot := { s.boot with takeover := true } }
    else s
/-- A bus is fenced: the transfers that wait on it end (R644). -/
def State.fenceBus (s : State) (b : Nat) : State :=
  let x := s.twbOf b
  if x.fenced then s
  else
    let keep := match x.busy with
      | .transfer => 1
      | _ => 0
    let s := s.modTwb b (fun x => { x with
      fenced := true, queue := x.queue.take keep
      clearDue := if keep = 1 then some (none, false) else x.clearDue })
    (x.queue.drop keep).foldl (fun (s : State) t => s.complete t.cmd stAbortedRecovery 3 0) s

/-- The unit that a source's address names is fenced (R572). -/
def State.fenceUnit (s : State) (d : Due) : State :=
  if d.bit = 0 then s.loseSlice (d.addr / 33) (d.addr % 33)
  else if d.bit = 3 ∨ d.bit = 10 then s.fenceTx d.addr
  else if d.bit = 8 then s.loseLane (d.addr / 32) (d.addr % 32)
  else if d.bit = 14 then s.loseCanLane (d.addr / 32) (d.addr % 32)
  else if d.bit = 15 then s.fenceCan d.addr
  else if d.bit = 16 ∨ d.bit = 17 then s.fenceCan (chainOf d.addr)
  else if d.bit = 29 then s.fenceMonitor d.addr
  else if d.bit = 35 then s.fenceHk
  else if d.bit = 47 then s.fenceRing (d.addr + d.kind % 4 * 4096)
  else if pairSource d.bit then s.fencePair d.addr
  else if d.bit = 50 then s.excludeLane d.addr
  else if d.bit = 54 then s.fenceBus d.addr
  else s

/-! Levels, merging and shadows (R570, R581 to R584). -/

/-- A dependency list of R583. -/
def dependents (c : Nat) : List Nat :=
  if c = 2 then [3, 4, 5] else if c = 0 then [2, 3, 5] else if c = 3 then [5] else if c = 11 then [4] else []
/-- A shadow open for a class (R583). -/
def State.shadowed (s : State) (cls : Nat) : Bool := s.flt.shadows.any (fun e => decide (e.1 = cls) && decide (s.now < e.2))
/-- Classes THM and CLK are never merged (R582). -/
def neverMerged (cls : Nat) : Bool := decide (cls = 1) || decide (cls = 7)
/-- Some source of a class holds S1 or higher (R581). -/
def State.classHeld (s : State) (cls : Nat) : Bool :=
  s.flt.held.any (fun e => decide (classOf e.1 = cls) && decide (1 ≤ e.2))
/-- The detection is merged (R582, R583). -/
def State.merges (s : State) (cls : Nat) : Bool :=
  !neverMerged cls && (s.shadowed cls || (decide (s.phaseNow ≠ 0) && s.flt.firstActed))
/-- The level at which a detection that is not merged acts (R581, R582). -/
def State.actingLevel (s : State) (b : Nat) : Nat :=
  if s.phaseNow = 0 && s.classHeld (classOf b) then min 4 (s.levelOf b + 1) else s.levelOf b
/-- The fence of a pair when the other one is already fenced acts at S4 (R577); a forced one fences only by a reaction of
S2 or above (R594). -/
def State.lastPair (s : State) (d : Due) (forced : Bool) (level : Option Nat) : Bool :=
  pairSource d.bit && bit s.boot.pairFenced.toNat (1 - d.addr) &&
    (!forced || (match level with
      | some l => decide (2 ≤ l)
      | none => false))
/-- The level acted; none where the detection is merged. -/
def State.reaction (s : State) (d : Due) (forced : Bool) : Option Nat :=
  let l := if s.merges (classOf d.bit) then none else some (s.actingLevel d.bit)
  if s.lastPair d forced l then some 4 else l

/-- FLT_FIRST after a detection (R586). -/
def First.note (f : First) (d : Due) (level : Option Nat) (forced : Bool) (phase seconds subsec : Nat) : First :=
  let f := { f with merged := if level.isNone then satUp 0xFF f.merged else f.merged }
  if f.valid then { f with ovf := true }
  else { f with
    seconds := seconds, subsec := subsec, message := d.message forced, valid := true, injected := forced
    level := level.getD 7, phase := phase, bit := d.bit }

/-- The status bit, FLT_FIRST and the message queue (R568, R586, R588). -/
def State.noteFault (s : State) (d : Due) (level : Option Nat) (forced : Bool) : State :=
  let full := decide (256 ≤ s.flt.queue.length)
  s.modFlt (fun f => { f with
    status := f.status ||| BitVec.ofNat 64 (2 ^ d.bit)
    recent := f.recent.filter (fun x => x.bit != d.bit) ++ [d]
    first := (let x := f.first.note d level forced s.phaseNow s.seconds s.subsec
      if full then { x with qovf := satUp 0xFF x.qovf } else x)
    queue := if full then f.queue else f.queue ++ [(d.message forced, level.getD 0xFF, forced)] })

/-- The reaction at a level (R574): each level includes those below it. -/
def State.react (s : State) (d : Due) (level : Nat) (forced : Bool) : State :=
  let s := if 1 ≤ level then
      (s.modFlt (fun f => { f with held := Table.modify 0 f.held d.bit (max level) })).trigger 1 (d.message forced) forced
    else s
  let s := if 2 ≤ level && (forced || !fixedFence d.bit) then s.fenceUnit d else s
  let s := if 3 ≤ level then
      s.modFlt (fun f => { f with
        mutes := if f.mutes.contains { bit := d.bit, addr := d.addr } then f.mutes
          else f.mutes ++ [{ bit := d.bit, addr := d.addr }] })
    else s
  let s := if 3 ≤ level then s.endInjections (fun l =>
      let m : Mute := { bit := d.bit, addr := d.addr }
      if l < 128 then s.muteCovers m l else s.muteCoversChain m (l - 128)) stAbortedRecovery 3
    else s
  let s := if 3 ≤ level ∧ s.boot.running ∧ (s.boot.early ∨ s.boot.step = 8) then
      { s with boot := { s.boot with earlyDue := true } }
    else s
  if 4 ≤ level then s.safeState else s

/-- A detection (R568 to R584): its level, or none where it is merged. -/
def State.detect (s : State) (d : Due) (forced : Bool) : State :=
  let level := s.reaction d forced
  let s := s.noteFault d level forced
  let s := s.modFlt (fun f => { f with seenAt := Table.set none f.seenAt d.bit (some s.now) })
  match level with
  | none => s.modFlt (fun f => { f with merged := if f.merged.contains d then f.merged else f.merged ++ [d] })
  | some l =>
    let s := s.modFlt (fun f => { f with
      merged := f.merged.filter (fun x => x.bit != d.bit)
      firstActed := f.firstActed || !neverMerged (classOf d.bit)
      shadows := f.shadows ++ (dependents (classOf d.bit)).map (fun c => (c, s.now + shadowTime)) })
    s.react d l forced

/-- The fixed action of a source whose condition the sample path or a pair reports, before the collector acts (R575). -/
def State.fixedAction (s : State) (d : Due) : State :=
  if [8, 14, 15, 57].contains d.bit then s.fenceUnit d else s

/-! Fresh detections and acknowledgement (R578, R580, R584). -/

/-- Whether a source's bit in FLT_LIVE stands for a forced hold alone. -/
def State.forcedOnly (s : State) (b : Nat) : Bool :=
  bit s.flt.force.toNat b && !s.flt.lasting.any (fun d => d.bit == b)
/-- The conditions of a source that FLT_LIVE shows: those that last, else the forced hold, else the latest detection. -/
def State.liveConditions (s : State) (b : Nat) : List Due :=
  match s.flt.lasting.filter (fun d => d.bit == b) with
  | [] => if bit s.flt.force.toNat b then
      let h := Table.get (0, 0) s.flt.heldForce b
      [{ bit := b, addr := h.1, kind := h.2 }]
    else (s.flt.recent.filter (fun d => d.bit == b)).take 1
  | l => l
/-- A fresh detection of each of a list of sources that is live. -/
def State.detectAfresh (s : State) (bs : List Nat) : State :=
  s.each (bs.filter (fun b => s.live b)) (fun s b =>
    let forced := s.forcedOnly b
    (s.liveConditions b).foldl (fun (s : State) d => s.detect d forced) s)
/-- The merged sources that a list of classes names are due for the check of R584, unless another shadow covers them. -/
def State.refreshMerged (s : State) (cls : Nat → Bool) : State :=
  let out := s.flt.merged.filter (fun d => cls (classOf d.bit) && !s.shadowed (classOf d.bit))
  let s := s.modFlt (fun f => { f with merged := f.merged.filter (fun d => !out.contains d) })
  s.detectAfresh ((out.map Due.bit).dedup)

/-- Sources whose owning chapter names the release of the mute (R578). -/
def ownerReleased (b : Nat) : Bool := [22, 24, 33, 34, 40, 41, 42, 43, 45].contains b
/-- Acknowledgement of the sources of a mask (R578, R580, R592). -/
def State.acknowledge (s : State) (mask : BitVec 64) (rearm : Bool) : State :=
  let m := mask &&& s.flt.status
  let named := fun b => bit m.toNat b
  let held4 := s.s4Held
  let old := s
  let s := s.modFlt (fun f => { f with
    status := f.status &&& ~~~m
    held := f.held.filter (fun e => !named e.1)
    first := if rearm then {} else f.first })
  let s := s.unmute (fun x => named x.bit && !ownerReleased x.bit)
  let s := (s.detectAfresh ((List.range 64).filter named)).aliveFrom old
  if held4 && !s.s4Held then s.restartWaiting else s

/-! Objects (R569, R586). -/

def fltLiveValue (s : State) : Nat := ((List.range 64).map (fun n => if s.live n then 2 ^ n else 0)).sum
def fltFirstValue (s : State) : Nat :=
  let f := s.flt.first
  packFields [(32, f.seconds), (16, f.subsec), (32, f.message), (8, f.merged), (8, f.qovf), (16, 0), (1, ofBool f.valid),
    (1, ofBool f.injected), (1, ofBool f.ovf), (3, f.level), (2, f.phase), (2, 0), (6, f.bit)]

end Sys2Proof.Machine
end

