-- ==== Sys2Proof/Machine/BootOps.lean ====
section
/-!
DEFINITION. Shared operations of resets, sleep and the boot (R66 to R73, R95 to R97, 17_boot.md): what each scope
resets, what is restored, the ledger, and how the steps follow each other.
-/

namespace Sys2Proof.Machine

def State.modBoot (s : State) (f : Boot → Boot) : State := { s with boot := f s.boot }

/-! What a reset leaves (R95, R114, R290, R571, R577, R705). -/

/-- An RX chain at the reset assignment of R705, with the slices its fence map holds fenced. -/
def cnvOfMap (m : Nat) : Cnv :=
  let x : Cnv := { sliceFenced := m }
  match (List.range 33).filter (fun n => bit m n) with
  | [] => x
  | [n] => if n = 32 then { x with spare := 63 } else { x.putSlice n 32 with spare := 63 }
  | _ => { x with spare := 63, fenced := true }
/-- Every chain at the reset assignment. -/
def State.resetCnv (s : State) : Table Cnv :=
  chains.foldl (fun (t : Table Cnv) c => Table.set {} t c (cnvOfMap (Table.get 0 s.store.fenceMap c))) []
/-- The governor as a reset or a wake leaves it: the latches of the store are kept, and a latched sub-band keeps its
failure history, its cap and the gain from which its restart takes one (R290) [92]. -/
def State.resetGov (s : State) (old : Table Gov) : Table Gov :=
  s.store.latch.foldl (fun (t : Table Gov) e =>
    let x := Table.get {} old e.1
    if e.2 then Table.set {} t e.1 { state := 3, gOsc := x.gOsc, cap := x.cap, fails := x.fails } else t) []

/-- A reset of whole-device scope, the always-on domain apart: time, the store and the levels at the input balls stay.
The radio is in STANDBY, and the boot has not begun. -/
def State.wholeReset (s : State) (src : Nat) : State :=
  let t : State := {
    now := s.now, opOfs := s.opOfs, draws := s.draws, out := s.out, pending := s.pending, store := s.store, pins := s.pins
    mem := { sramPass := s.now, mramPass := s.now } }
  { t with
    cnv := t.resetCnv
    gov := t.resetGov s.gov
    radio := { rootExt := s.pins.clksel, railsGood := s.radio.railsGood, resetN := s.radio.resetN }
    boot := { resetSrc := src, releasedAt := s.now }
    rcd := { hourNo := t.seconds / 3600, opsecAt := s.now } }

/-- The device is held in reset (R66, R95). -/
def State.holdReset (s : State) : State := s.setRadio (fun r => { r with inReset := true })
/-- Reset release: the level of CLKSEL selects the root source (R50), and the boot begins. -/
def State.releaseReset (s : State) (clksel : Bool) : State :=
  let s : State := { s with pins := { s.pins with clksel := clksel } }
  (s.setRadio (fun r => { r with inReset := false, rootExt := clksel })).roundsBegin.modBoot (fun b => { b with releasedAt := s.now })

/-- Waiting snapshots reach the store at once. -/
def State.writeWaiting (s : State) : State :=
  let xs := s.rcd.waiting
  xs.foldl (fun (s : State) x => s.writeRecord x) (s.modRec (fun r => { r with waiting := [] }))
/-- A freeze ends at a reset other than a power-on reset, and what it withheld is written (R614). -/
def State.endFreeze (s : State) : State := if s.rcd.frozen.isSome then (s.releaseFreeze).writeWaiting else s

/-! What settings bring with them when they are restored (R71, R72, R675). -/

/-- The settings of a profile or resume image come into force: loops at rest in their modes, timing groups without
timing, pulse generators at their levels, bins allocated and cleared, latencies known (R185), and the sub-bands that do not
fit the budget of a chain that has lost lanes shed (R43). A bus stays disabled until TWB_CONFIGURE (R630). -/
def State.restore (s : State) (k : Settings) : State :=
  let k : Settings := { k with
    twb := (k.twb.map (fun e => (e.1, { e.2 with enable := false }))).filter (fun e => decide (e.2 ≠ {}))
    hkTimer := (k.hkTimer.map (fun e => (e.1, { e.2 with last := none, edges := [] }))).filter (fun e => decide (e.2 ≠ {})) }
  let s : State := { s with
    set := k, loops := [], outers := [], tdd := s.tddKept, pg := [], can := [], sb := [], map := [], sig := [], txWin := []
    dac := [], taken := [], ctlTick := none, beam := if k.tddOut.beamEn then k.tddOut.beamDefault else 0 }
  let s := s.each (List.range 136) (fun s l =>
    s.modLoop l (fun x => { x with mode := (s.loopSet l).mode, share := (s.loopSet l).share }))
  let s := s.each (List.range 4) (fun s t =>
    let q := s.tddSet t
    if !q.enable then s
    else if q.source = 0 then (s.lock t).setFrame t (q.frameT0 * perTick : Nat) 0
    else s.modTdd t (fun x => { x with sync := 1 }))
  let s := s.each (List.range 16) (fun s n =>
    let p := s.pgSet n
    s.modPg n (fun x => { x with
      owned := p.enable, paired := decide (n % 2 = 1) && (s.pgSet (n - 1)).enable && (s.pgSet (n - 1)).pair
      level := p.enable && decide (p.src = 0) && bit p.sel 0 }))
  let s := s.each allSbs (fun s g => if s.enabled g then s.syncBins g else s)
  let s := s.each allSbs (fun s g => if (s.cfg g).d ≠ 0 then s.refreshLatency g else s)
  (s.each chains State.shedDown).refreshSources allSbs

/-- What SLEEP keeps of a bus: its fence, and the alert that the board still asserts (R630, R645, R647). -/
def Twb.asleep (x : Twb) : Twb := { fenced := x.fenced, alertIn := x.alertIn, alertSusp := x.alertSusp, alertAt := x.alertAt }
/-- SLEEP gates every block but the always-on domain (R59, R71). The fault words, the fences, the rings, the recorder
and the thermal stop in force outlast it (R547, R571, R577). -/
def State.powerGated (s : State) : State :=
  let keep := fun (x : Cnv) (c : Nat) =>
    { cnvOfMap (Table.get 0 s.store.fenceMap c) with
      fenced := x.fenced, txFenced := x.txFenced, lanesLost := x.lanesLost, lanes := x.lanes
      canLanesLost := x.canLanesLost, canLanes := x.canLanes, canSpared := x.canSpared, canFenced := x.canFenced, calStuck := x.calStuck
      trims := x.trims.dacOnly }
  { s with
    divStart := none
    cnv := chains.foldl (fun (t : Table Cnv) c => Table.set {} t c (keep (s.cnvOf c) c)) []
    sig := [], txWin := [], dac := [], taken := [], ctlTick := none
    sb := [], can := [], map := [], gov := s.resetGov s.gov, loops := [], outers := [], slots := [], plaus := [], tdd := s.tddKept
    beam := 0, beamTick := none, fsync := 0, band := [], regrowth := []
    npWaitSb := [], npWaitBand := [], npWaitChain := []
    fe := chains.foldl (fun (t : Table Fe) c => Table.set {} t c { att := (s.feOf c).att }) []
    pg := [], wm := (List.range 16).foldl (fun (t : Table Wm) m => Table.set {} t m (s.wmOf m).kept) []
    hk := { fenced := s.hk.fenced }, hkLast := []
    th := { s.th with rounds := 0, inRound := false, lastRound := none, cool := 0 }
    cap := {}, streams := [], twb := (List.range 2).foldl (fun (t : Table Twb) b =>
      Table.set {} t b (s.twbOf b).asleep) []
    radio := { s.radio with
      state := 0, walk := none, setting := none, relock := none, fall := none, pllOn := false, pllLocked := false
      srcPresent := false, quickDone := false, waking := none, fallback := false, xtalOnAt := none } }

/-! The ledger (R668 to R671). -/

/-- The entry of the present boot changed. -/
def State.modLedger (s : State) (f : Ledger → Ledger) : State :=
  s.modStore (fun t => { t with
    ledger := (match t.ledger with
    | [] => []
    | e :: rest => f e :: rest)
    half := t.half.filter (fun x => t.ledger.head?.all (fun e => x.1 != 1000 + e.bootNum % 1024)) })
/-- ms from reset release, rounded up (R668, R702). -/
def State.bootMs (s : State) : Nat := min 65534 (ceilDiv (s.now - s.boot.releasedAt) perMs)
/-- A step of the present boot has ended with an outcome. -/
def State.noteStep (s : State) (n code detail : Nat) : State :=
  s.modLedger (fun e => { e with
    outcome := e.outcome.set n code, detail := e.detail.set n detail, endMs := e.endMs.set n s.bootMs })
/-- A step of the present boot runs. -/
def State.runStep (s : State) (n : Nat) : State :=
  (s.modLedger (fun e => { e with outcome := e.outcome.set n 1 })).modBoot (fun b => { b with step := n })
/-- A step of the present boot is skipped. -/
def State.skipStep (s : State) (n : Nat) : State := s.noteStep n 4 0
def State.setResult (s : State) (v : Nat) : State := s.modLedger (fun e => { e with result := v })
/-- The present outcome of a step. -/
def State.outcomeOf (s : State) (n : Nat) : Nat :=
  match s.store.ledger with
  | [] => 0
  | e :: _ => e.outcome.getD n 0
/-- A step counts as failed on the previous boot (R670): `es` are the previous entries, newest first. -/
def failedBefore (es : List Ledger) (n : Nat) : Bool :=
  match es with
  | [] => false
  | [e] => decide (e.outcome.getD n 0 = 5)
  | e :: e' :: _ => decide (e.outcome.getD n 0 = 5) || (decide (e.outcome.getD n 0 = 6) && decide (e'.outcome.getD n 0 = 6))
/-- The same for the boot in progress, whose entry is the newest. -/
def State.failedLast (s : State) (n : Nat) : Bool := failedBefore (s.store.ledger.drop 1) n
/-- Steps that keep an alternate flag (R654). -/
def altSteps : List Nat := [6, 8, 9, 10]
/-- The alternate flags that a list of previous entries sets (R670). -/
def altFrom (es : List Ledger) : BitVec 13 :=
  BitVec.ofNat 13 ((altSteps.map (fun n => if failedBefore es n then 2 ^ n else 0)).sum)

/-- The previous entry: what was still running is marked interrupted (R669). -/
def Ledger.interrupted (e : Ledger) : Ledger := { e with outcome := e.outcome.map (fun v => if v = 1 then 6 else v) }
/-- The ledger gains the entry of a boot (R668 to R670). -/
def State.newEntry (s : State) (src result : Nat) : State :=
  let old := match s.store.ledger with
    | [] => []
    | e :: rest => e.interrupted :: rest
  let alt := s.store.alt ||| altFrom old
  let e : Ledger := {
    bootNum := match old with
      | [] => 0
      | e :: _ => (e.bootNum + 1) % 4294967296
    powerCycles := s.store.powerCycles, seconds := (s.opOfs + (s.boot.releasedAt / perSubsec : Nat)).toNat / 65536 % 4294967296
    resetSrc := src, image := 255, result := result, early := false, outcome := List.replicate 13 0
    detail := List.replicate 13 0, endMs := List.replicate 13 65535, alt := alt, clearCount := s.store.clearCount }
  (((s.modStore (fun t => { t with ledger := (e :: old).take 1024, alt := alt })).repaired 304).repaired
    (1000 + e.bootNum % 1024)).modBoot (fun b => { b with
    bootNum := e.bootNum, resetSrc := src, alt := alt })

/-! How the boot goes on (R654 to R667). -/

/-- The start configuration of this boot: that of the profile, or after PROFILE's alternate STANDBY without early service
(R654). -/
def State.startConfig (s : State) : BootConfig := if s.boot.profilePrimary then s.store.bootConfig else {}
/-- The boot ends in STANDBY (R656); with it ends the start-up phase. -/
def State.failBoot (s : State) (n : Nat) : State :=
  let s := (((s.noteStep n 5 0).setResult 2).raise 60 n 0).modFlt (fun f => { f with startup := false })
  let s := s.setRadio (fun r => { r with fgCal := false })
  if s.radio.walk.isSome ∨ 1 < s.radio.state then
    ((s.endRadio (causeStatus .fault).1 (causeStatus .fault).2).dropWalk).fallWalk .fault 1
  else s
/-- The boot walk to the start state, with the start enables, unless a RADIO_SET_STATE has replaced it (R666). -/
def State.startStateWalk (s : State) : State :=
  let k := s.startConfig
  if s.boot.startReplaced ∨ s.radio.walk.isSome ∨ s.radio.setting.isSome then s
  else
    let s := s.setRadio (fun r => { r with txEn := k.startTxEn, dirEn := k.startDirEn })
    if k.startState = s.radio.state then s else s.startWalk .boot none k.startState
/-- START: the walk to the start state, or early service until its end (R654, R659). -/
def State.beginStart (s : State) : State :=
  let s := s.runStep 11
  if s.boot.early then s else s.startStateWalk
/-- FG_CAL: in an early-service boot it is skipped; by its flag it is done by the stored sets; it runs with the radio in
SYNTH (R654, R659, R660, R670). -/
def State.beginFgCal (s : State) : State :=
  if s.boot.early then (s.skipStep 10).beginStart
  else if bit s.store.alt.toNat 10 then (s.noteStep 10 3 0).beginStart
  else if s.radio.state = 2 ∧ s.radio.walk.isNone then (s.runStep 10).setRadio (fun r => { r with fgCal := true })
  else (s.skipStep 10).beginStart
/-- The conditions of R661. -/
def State.earlyRuns (s : State) : Bool :=
  s.startConfig.earlyEn && !bit s.store.alt.toNat 8 && s.boot.profilePrimary &&
    chains.all (fun c => (List.range 5).any (fun b => (Table.get none s.store.sets (c * 5 + b)).isSome))
/-- EARLY: the walk to the start state, or skipped (R661). -/
def State.beginEarly (s : State) : State :=
  if s.earlyRuns then (s.runStep 8).startStateWalk else (s.skipStep 8).beginFgCal
/-- PROFILE, which runs from the end of USB2. -/
def State.beginProfile (s : State) : State := s.runStep 4
/-- USB2: skipped where it counts as failed on the previous boot (R670). -/
def State.beginUsb2 (s : State) : State :=
  if s.failedLast 3 then (s.skipStep 3).beginProfile else s.runStep 3

/-- LEDGER ends (R654, R669): both copies failed start a new ledger at BOOT_NUM 0. -/
def State.endLedger (s : State) (res : StepResult) : State :=
  let lost := match res with
    | .failed _ => true
    | _ => false
  let code := match res with
    | .primary => 2
    | _ => 3
  let s := if lost then s.modStore (fun t => { t with ledger := [], alt := 0 }) else s
  let src := if s.boot.resetSrc ≤ 1 then (if s.store.ledger = [] then 0 else 1) else s.boot.resetSrc
  let s := ((s.newEntry src 0).noteStep 0 code 0).runStep 1
  s.setRadio (fun r => { r with srcPresent := !s.flt.lasting.any (fun d => decide (d.bit = 4 ∨ d.bit = 5)) })
/-- Whether an image passes its verification. -/
def State.imageValid (s : State) (n : Nat) : Bool := if n = 0 then s.store.validA else s.store.validB
/-- IMAGE ends (R654, R657, R671, R672): MGT.IMAGE carries what failed, 1 the digest, 2 the signature (R572, R573). -/
def State.endImage (s : State) (res : StepResult) : State :=
  let skip := s.failedLast 1
  let a := s.store.bootConfig.activeImg
  let detail := 1 + s.draw % 2
  match res with
  | .primary =>
    if s.imageValid a then
      (((s.modLedger (fun e => { e with image := a })).modBoot (fun b => { b with image := a })).noteStep 1 2 0).runStep 2
    else s
  | .alternate =>
    if s.imageValid (1 - a) then
      let s := (if skip then s else s.drawn.raise 59 a detail).modStore (fun t => { t with bootConfig := { t.bootConfig with activeImg := 1 - a } })
      (((s.modLedger (fun e => { e with image := 1 - a })).modBoot (fun b => { b with image := 1 - a })).noteStep 1 3 (if skip then 0 else detail)).runStep 2
    else s
  | .failed d =>
    ((((((s.raise 59 a d).raise 59 (1 - a) d).raise 60 1 0).noteStep 1 5 d).setResult 3)).modBoot (fun b => { b with recovery := true })
/-- PAIR ends with the first keep-alive (R654, R658, R671). -/
def State.endPair (s : State) (res : StepResult) : State :=
  let fed := fun (s : State) => s.modFlt (fun f => { f with fed := some s.now, watch := some s.now, aliveAt := s.now, aliveOk := s.now })
  match res with
  | .primary => (fed (s.noteStep 2 2 0)).beginUsb2
  | .alternate => ((fed (s.noteStep 2 3 0)).modBoot (fun b => { b with pair := 1, pairFenced := 1 })).beginUsb2
  | .failed _ => s.failBoot 2
/-- USB4 begins to train, with its own ledger step (R654). -/
def State.usb4Begins (s : State) : State :=
  let s := s.modLedger (fun e => { e with outcome := e.outcome.set 9 1 })
  s.modLink (fun l => { l with startG3 := bit s.store.alt.toNat 9 })
/-- Step SYNTH begins: the walk to SYNTH, unless the radio is there or the host has taken over. -/
def State.beginSynth (s : State) : State :=
  let s := s.runStep 5
  if s.radio.state < 2 ∧ s.radio.walk.isNone ∧ !s.boot.startReplaced then s.startWalk .boot none 2 else s
/-- A step ran with its primary. -/
def endedPrimary : StepResult → Bool
  | .primary => true
  | _ => false
/-- The settings that the profile of a boot leaves: the stored ones, or those of reset (R402, R654). -/
def State.takeProfile (s : State) (primary : Bool) : State :=
  (s.restore (if primary then s.store.profile.getD {} else {})).modBoot (fun b => { b with
    driven := true, profilePrimary := primary })
/-- PROFILE ends: settings in force and outputs driven (R402, R654). USB4 runs beside the steps that follow (R654). -/
def State.endProfile (s : State) (res : StepResult) : State :=
  ((((s.takeProfile (endedPrimary res)).driveFront).noteStep 4 (if endedPrimary res then 2 else 3) 0).usb4Begins).beginSynth
/-- The slices of a chain that no test returns to service: those with a trim at the end of its range, and all of a chain whose
quick calibration did not complete (R114). -/
def State.stayFenced (s : State) (c : Nat) : Nat :=
  if !s.radio.quickDone || (s.cnvOf c).quickFailed then 2 ^ 33 - 1
  else ((List.range 33).filter (fun n => (s.trimsNow c).atEnd n)).foldl (fun m n => m + 2 ^ n) 0
/-- SLICE ends: fenced slices that pass the self-test and the quick calibration return to service (R114); which pass the
self-test is a free value [4]. -/
def State.endSlice (s : State) (res : StepResult) : State :=
  let alt := bit s.store.alt.toNat 6
  match res with
  | .primary =>
    if alt then (s.noteStep 6 3 0).runStep 7
    else
      let s := s.each (chains.filter (fun c => decide (Table.get 0 s.store.fenceMap c ≠ 0))) (fun s c =>
        let m := Nat.land (Table.get 0 s.store.fenceMap c) (Nat.lor s.draw (s.stayFenced c))
        let s := s.drawn.modStore (fun t => { t with fenceMap := Table.set 0 t.fenceMap c m })
        let k := cnvOfMap m
        (s.modCnv c (fun x => { x with
          sliceFenced := m, slices := k.slices, spare := k.spare, nextPos := 0, fenced := k.fenced
          lossBand := if k.spare = 63 then some (x.lossBand.getD s.th.band) else none })).refreshRotation c)
      ((s.driveFront).noteStep 6 2 0).runStep 7
  | .alternate => (s.noteStep 6 3 0).runStep 7
  | .failed _ => ((s.noteStep 6 5 0).raise 60 6 0).runStep 7
/-- EARLY has failed (R664): its outcome, its flag, MGT.BOOTSTEP. -/
def State.failEarly (s : State) : State :=
  let s := (s.modLedger (fun e => { e with outcome := e.outcome.set 8 5 })).raise 60 8 0
  ((s.modStore (fun t => { t with alt := t.alt ||| 0x100 })).repaired 304).modBoot (fun b => { b with earlyDue := false })
/-- EARLY ends, in success or not, and early service begins, with its EXTRA of 5 dB in the target (R269, R270, R662, R664). -/
def State.endEarly (s : State) : State :=
  let ok := s.boot.startReplaced || decide (s.radio.state = s.startConfig.startState)
  let s := (s.noteStep 8 2 0).modLedger (fun e => { e with early := true })
  let s := s.modBoot (fun b => { b with early := true })
  let s := s.each (allSbs.filter (fun g => s.enabled g && s.listening)) (fun s g => s.ceiling g 0)
  (if ok ∧ !s.boot.earlyDue then s else s.failEarly).beginFgCal
/-- Early service ends: the canceller settings come into force (R663). -/
def State.leaveEarly (s : State) : State :=
  if s.boot.early then
    let s := s.modBoot (fun b => { b with early := false, earlyDue := false })
    let s := s.each (allSbs.filter (fun g => s.enabled g)) (fun s g => (s.modCan g (fun x => { x with early := false })).syncBins g)
    s.pathsChanged allSbs
  else s
/-- CLOSE ends: the start-up phase is over, and the BOOT snapshot follows (R654, R669). A USB4 step that has not ended is
skipped. -/
def State.endClose (s : State) : State :=
  let s := if s.outcomeOf 9 = 1 then s.skipStep 9 else s
  let s := ((s.noteStep 12 2 0).setResult 1).modFlt (fun f => { f with startup := false })
  (s.modBoot (fun b => { b with running := false, step := 15 })).trigger 0x30 s.boot.resetSrc
/-- USB4 ends: trained, or failed (R654, R657). -/
def State.endUsb4 (s : State) (ok : Bool) : State :=
  if s.outcomeOf 9 ≠ 1 ∨ !s.boot.running then s
  else if ok then s.noteStep 9 (if s.link.startG3 then 3 else 2) 0
  else (s.noteStep 9 5 0).raise 60 9 0

/-- The walk of a step has ended: it has reached its state. -/
def State.walkOver (s : State) : Bool := s.radio.walk.isNone && s.radio.setting.isNone
/-- USB2 ends: connected, or not (R654, R657). -/
def State.endUsb2 (s : State) (res : StepResult) : State :=
  match res with
  | .failed _ => ((s.noteStep 3 5 0).raise 60 3 0).beginProfile
  | _ => (s.noteStep 3 2 0).beginProfile
/-- SYNTH ends with its walk. -/
def State.endSynth (s : State) : State :=
  if !s.walkOver then s
  else if 2 ≤ s.radio.state ∨ s.boot.startReplaced then (s.noteStep 5 2 0).runStep 6 else s.failBoot 5
/-- ENGINE ends (R655, R656). -/
def State.endEngine (s : State) (res : StepResult) : State :=
  match res with
  | .failed _ => s.failBoot 7
  | _ => (s.noteStep 7 2 0).beginEarly
/-- FG_CAL ends without a calibration: the stored sets stay (R654). -/
def State.endFgCal (s : State) (res : StepResult) : State :=
  match res with
  | .primary => s
  | _ => ((s.noteStep 10 3 0).setRadio (fun r => { r with fgCal := false })).beginStart
/-- START ends with its walk, or early service has lasted long enough (R662, R663). -/
def State.endStart (s : State) : State :=
  if s.boot.early then
    if s.boot.releasedAt + 2400 * perMs ≤ s.now then
      (((if s.boot.earlyDue then s.failEarly else s).leaveEarly).noteStep 11 2 0).runStep 12
    else s
  else if !s.walkOver then s
  else if s.boot.startReplaced ∨ s.radio.state = s.startConfig.startState then (s.noteStep 11 2 0).runStep 12
  else s.failBoot 11
/-- The method of a step that has an alternate and no flag: where the step counts as failed on the previous boot, the
alternate (R670). IMAGE keeps to the only image that is valid. -/
def State.methodOf (s : State) (n : Nat) (res : StepResult) : StepResult :=
  let other := decide (n ≠ 1) || s.imageValid (1 - s.store.bootConfig.activeImg)
  match res with
  | .primary => if [1, 2, 4].contains n && s.failedLast n && other then .alternate else .primary
  | res => res
/-- The step in progress ends (R654). The steps that walk end with their walks, whatever the row says. -/
def State.endStep (s : State) (res : StepResult) : State :=
  let n := s.boot.step
  let res := s.methodOf n res
  if n = 0 then s.endLedger res
  else if n = 1 then s.endImage res
  else if n = 2 then s.endPair res
  else if n = 3 then s.endUsb2 res
  else if n = 4 then s.endProfile res
  else if n = 5 then s.endSynth
  else if n = 6 then s.endSlice res
  else if n = 7 then s.endEngine res
  else if n = 8 then (if s.walkOver then s.endEarly else s)
  else if n = 10 then s.endFgCal res
  else if n = 11 then s.endStart
  else if n = 12 then s.endClose
  else s

/-- The boot goes on: it has not ended in STANDBY or in recovery mode, and a pair runs it (R25, R703). -/
def State.booting (s : State) : Bool :=
  s.boot.running && !s.boot.recovery && !s.radio.inReset && !s.flt.mgmt &&
    decide (s.boot.pairFenced ≠ 3) && !s.boot.takeover &&
    (decide (s.boot.step = 0) || (match s.store.ledger with
      | [] => false
      | e :: _ => decide (e.result = 0)))

/-- The foreground calibration has been cut short by a lowering request below SYNTH (R666). -/
def State.cutFgCal (s : State) : State :=
  if s.radio.fgCal then
    (((s.setRadio (fun r => { r with fgCal := false })).modBoot (fun b => { b with startReplaced := true })).skipStep 10).beginStart
  else s

end Sys2Proof.Machine
end

