-- ==== Sys2Proof/Machine/Radio.lean ====
section
/-!
DEFINITION. The radio's commands and events (02_clocks_power_states.md): RADIO_SET_STATE, the steps of a walk, the
root PLL and root source, SLEEP and wake, and the resets of whole-device scope.
-/

namespace Sys2Proof.Machine

/-! RADIO_SET_STATE (R74 to R86, R666). -/

/-- The TX enables and direction enables that a request brings (R74). -/
def State.reqTx (s : State) (r : Request) : BitVec 8 := if flag r 3 0 then s.radio.txEn else BitVec.ofNat 8 (pu r 1 1)
def State.reqDir (s : State) (r : Request) : BitVec 2 := if flag r 3 0 then s.radio.dirEn else BitVec.ofNat 2 (pu r 2 1)
/-- The target in force: that of the movement in progress, else the present state. -/
def State.targetNow (s : State) : Nat :=
  match s.radio.walk with
  | some w => w.target
  | none => s.radio.state
/-- A request is lowering: its target is not above the one in force, and its enables are a subset of those in force. -/
def State.lowers (s : State) (r : Request) : Bool :=
  decide (pu r 0 1 ≤ s.targetNow) && decide (s.reqTx r &&& ~~~s.radio.txEn = 0) &&
    decide (s.reqDir r &&& ~~~s.radio.dirEn = 0)
/-- The chains that a pair of enables lets transmit (R69). -/
def wantedBy (tx : BitVec 8) (dir : BitVec 2) (c : Nat) : Bool :=
  bit tx.toNat c && bit dir.toNat (if isUplink c then 1 else 0)
/-- A request equal to the raising one that executes (R86). -/
def State.equalsRaising (s : State) (r : Request) : Bool :=
  s.radio.raising && ((s.radio.walk.bind Walk.cmd).isSome || s.radio.setting.isSome) &&
    decide (pu r 0 1 = s.targetNow) && decide (s.reqTx r = s.radio.txEn) && decide (s.reqDir r = s.radio.dirEn)
/-- What holds a raising request (R84, R87): another request or a movement in progress, the relock of R62, the foreground
calibration, or a sequence of a chain that it enables. -/
def State.holdsRaise (s : State) (r : Request) : Bool :=
  s.radio.walk.isSome || s.radio.setting.isSome || s.radio.relock.isSome || s.radio.fgCal ||
    chains.any (fun c => wantedBy (s.reqTx r) (s.reqDir r) c && (s.feOf c).busyUp)
def checkRadio (r : Request) (s : State) : Verdict :=
  let target := pu r 0 1
  checks [
    (decide (4 < target), bad 0), (!flag r 3 0 && decide (3 < pu r 2 1), bad 2), (decide (1 < pu r 3 1), bad 3),
    (decide (2 < target) && s.s4Held, wrong 2), (decide (2 < target) && s.th.stop, wrong 3),
    (s.equalsRaising r || (!s.lowers r && s.holdsRaise r), .wait)]

/-- The movement of a request from where the radio stands, with no walk in progress. -/
def State.moveTo (s : State) (ref : CmdRef) (target : Nat) (tx : BitVec 8) (dir : BitVec 2) : State :=
  let old := s.txWanted
  let s := s.setRadio (fun r => { r with txEn := tx, dirEn := dir })
  if target = s.radio.state then
    let s := s.setRadio (fun r => { r with setting := some (ref, s.now) })
    if target = 4 then
      (s.each chains (fun s c =>
        if old c && !s.txWanted c then s.bringDown c else if !old c && s.txWanted c then s.bringUp c else s)).seqCheck
    else s.seqCheck
  else s.startWalk .host (some ref) target
/-- A lowering request takes over the walk in progress (R85): the step in progress ends first, and a power-up sequence is
followed by the power-down from its present point. -/
def State.redirect (s : State) (w : Walk) (ref : CmdRef) (target : Nat) (tx : BitVec 8) (dir : BitVec 2) : State :=
  let old := s.txWanted
  let w' : Walk := {
    kind := .host, cmd := some ref, origin := s.radio.state, target := target, asked := target, step := w.step
    startedAt := s.now, stepAt := w.stepAt, failedStep := none }
  let s := s.setRadio (fun r => { r with
    walk := some w', txEn := tx, dirEn := dir, relock := none
    fall := match r.fall with
      | some (t, k) => if target ≤ t then none else some (t, k)
      | none => none })
  if w.step = 8 then
    (if target < 4 then s.allDown
     else s.each (chains.filter (fun c => old c && !s.txWanted c)) State.bringDown).seqCheck
  else s
def applyRadio (ref : CmdRef) (r : Request) (s : State) : State :=
  let target := pu r 0 1
  let tx := s.reqTx r
  let dir := s.reqDir r
  let raising := !s.lowers r
  let s := if target < 2 then s.cutFgCal else s
  let s := (s.endRadio stAbortedHost 4).setRadio (fun r => { r with raising := raising })
  match s.radio.walk with
  | some w => s.redirect w ref target tx dir
  | none => s.moveTo ref target tx dir
def cmdRadio : CmdDef := ⟨0x0101, 4, false, checkRadio, applyRadio⟩
/-- R74: sets the target state and the enables. -/
def execRadioSetState (dt : Nat) (r : Request) (s : State) : Host.Outcome State Fault Refusal :=
  .next ((s.advance dt).issue cmdRadio r)

/-! SLEEP and wake (R59, R71 to R73, R81, R82). -/

/-- REFCLK is absent (R60). -/
def State.refAbsent (s : State) : Bool := s.radio.rootExt && s.flt.lasting.any (fun d => d.bit == 5)
/-- The root source is gone: the fallback oscillator takes over, both host paths drop, and the radio falls. -/
def State.sourceGone (s : State) : State :=
  let s := s.setRadio (fun r => { r with
    srcPresent := false, fallback := true, fallbackAt := s.now, xtalOnAt := if r.rootExt then none else some s.now, relock := none })
  let s := (s.linkLost).usbLost true
  let s := s.setRadio (fun r => { r with pllLocked := false })
  if 2 ≤ s.radio.state ∨ s.radio.walk.isSome then s.clockFall else s
/-- The radio is in STANDBY again, with its host paths, and with its source unless REFCLK is absent: then R63 applies from
STANDBY on. -/
def State.wakesUp (s : State) : State :=
  let gone := s.refAbsent
  let s := ((s.toState 1).ends 4 0).setRadio (fun r => { r with
    srcPresent := true, gated := false, gateAt := none, waking := none, xtalOnAt := none })
  if gone then s.sourceGone else s
/-- The operating seconds counted in SLEEP carry the oscillator's tolerance of ±10 %: the deviation is a free value (R600). -/
def State.sleptOn (s : State) : State :=
  let slept := match s.radio.gateAt with
    | some t => (s.now - t) / perSubsec
    | none => 0
  let dev : Int := (s.draw % (slept / 5 + 1) : Nat) - (slept / 10 : Nat)
  { s.drawn with opOfs := s.opOfs + dev }
/-- The wake has restored the resume image: STANDBY and the wake event (R72, R80). -/
def State.awake (s : State) (src : Nat) : State :=
  (((((s.sleptOn.restore (s.store.resume.getD {})).wakesUp.newHour).driveFront).roundsBegin).modFlt (fun f => { f with
    aliveOk := s.now })).post 0x0010 (leBytes 1 src)
/-- Steps 1 to 3 of R80 take 4 ms, with the external reference 1.1 ms. -/
def State.wakeTime (s : State) : Time := ofMicros (if s.radio.rootExt then 1100 else 4000)
def State.beginWake (s : State) (src : Nat) : State :=
  s.setRadio (fun r => { r with waking := some (src, s.now), xtalOnAt := some s.now })

/-- The device is power-gated; gate writes that wait end (R71, R375). -/
def State.fallsAsleep (s : State) : State := ((s.each (List.range 4) State.loseWrites).toState 0).powerGated
/-- R81: the resume image has been written, and the device enters the power-gated state. A transfer on a two-wire bus ends
first (R651). -/
def execSleepEntered (dt : Nat) (s : State) : Host.Outcome State Fault Refusal :=
  let s := s.advance dt
  .next (match s.radio.walk with
    | some w =>
      if w.step = 9 ∧ s.radio.state = 1 ∧ (List.range 2).all (fun b => decide ((s.twbOf b).busy = .idle)) then
        let s := (((s.modStore (fun t => { t with resume := some s.settingsNow })).repaired 1).recorderRest).writeWaiting
        let s := s.fallsAsleep.setRadio (fun r => { r with gateAt := some (s.now + perMs) })
        match w.cmd with
        | some c => s.stateReached c w.startedAt
        | none => s
      else s
    | none => s)
/-- R82: the host paths are gated 1 ms after the completion. -/
def execHostPathGating (dt : Nat) (s : State) : Host.Outcome State Fault Refusal :=
  let s := s.advance dt
  .next (match s.radio.gateAt with
    | some t =>
      if t ≤ s.now ∧ s.radio.state = 0 ∧ !s.radio.gated ∧ s.radio.waking = none then
        ((s.linkLost).usbLost true).setRadio (fun r => { r with gated := true })
      else s
    | none => s)
/-- R73: USB 2.0 resume signalling ends SLEEP where WAKE_USB is 1. -/
def execWakeUsbResume (dt : Nat) (s : State) : Host.Outcome State Fault Refusal :=
  let s := s.advance dt
  .next (if s.radio.state = 0 ∧ s.radio.waking = none ∧ s.set.radioCfg.wakeUsb then s.beginWake 0 else s)
/-- R73: a rising edge on the wake GPIO ends SLEEP. -/
def execWakeGpioEdge (dt gpio : Nat) (s : State) : Host.Outcome State Fault Refusal :=
  let s := s.advance dt
  .next (if s.radio.state = 0 ∧ s.radio.waking = none ∧ gpio < 16 ∧ s.set.radioCfg.wakeGpio = gpio then s.beginWake 1 else s)

/-! Steps of a walk (R76, R80, R81). -/

/-- A step of the walk in progress ends where its time has passed. -/
def State.stepEnds (s : State) (w : Walk) : State :=
  if w.step = 6 ∧ w.stepAt + ofMicros 60 ≤ s.now then (s.enterListen).boundaryAfter 6
  else if w.step = 7 ∧ w.stepAt + ofMicros 20 ≤ s.now then (s.boundaryAfter 7).seqCheck
  else if w.step = 8 then s.seqCheck
  else if w.step = 0 ∧ !s.waitsSeq ∧ w.target < s.radio.state then
    let s := if w.kind = .thermal ∧ !s.th.snapDone then
        (s.modTh (fun t => { t with snapDone := true })).trigger 0x21 s.th.stopZone
      else s
    (s.downOne w.kind).boundaryAfter 0
  else s
/-- A step fails: the relock counts an attempt, a walk goes back (R62, R76). -/
def State.stepFails (s : State) (w : Walk) : State :=
  if 4 ≤ w.step ∧ w.step ≤ 8 then (if s.radio.relock.isSome then s.relockFailed else s.failStep) else s
/-- R80: a step of a walk ends, or the wake's steps end. A thermal stop's walk is firmware's (R470). -/
def execWalkStepEnd (dt : Nat) (ok : Bool) (s : State) : Host.Outcome State Fault Refusal :=
  let s := s.advance dt
  .next (match s.radio.waking, s.radio.walk with
    | some (src, t), _ => if ok ∧ t + s.wakeTime ≤ s.now then s.awake src else s
    | none, some w => if w.kind = .thermal ∧ !s.firmwareRuns then s else if ok then s.stepEnds w else s.stepFails w
    | none, none => s.seqCheck)

/-! The root PLL (R54, R56, R60 to R62, R106, R107). -/

/-- The dividers start again: what the timing groups hold in window periods keeps its place in time, and a group with no
source takes FRAME_T0 from the new start (R56, R361). Control ticks are numbered anew (R13). -/
def State.dividerStart (s : State) : State :=
  let shift : Int := match s.divStart with
    | some t => (t : Int) - s.now
    | none => 0
  let move := fun (w : GateWrite) => { w with due := ((w.due : Int) + shift).toNat }
  let s : State := { s with divStart := some s.now, beamTick := none, ctlTick := none }
  let s := s.each (List.range 4) (fun s t =>
    let s := s.modTdd t (fun x => { x with
      frame := if x.sync = 0 then x.frame else x.frame + shift
      pendDl := x.pendDl.map move, pendUl := x.pendUl.map move })
    let k := s.tddSet t
    if k.enable ∧ k.source = 0 ∧ 2 ≤ (s.tddOf t).sync then s.setFrame t (k.frameT0 * perTick : Nat) 0 else s)
  { s with set := { s.set with hkTimer := s.set.hkTimer.map (fun e => (e.1, { e.2 with last := none })) } }
/-- R54: the lock detector declares lock, after at least the 50 µs of its window. -/
def execRootPllLock (dt : Nat) (s : State) : Host.Outcome State Fault Refusal :=
  let s := s.advance dt
  let r := s.radio
  .next (if r.pllOn ∧ !r.pllLocked ∧ r.srcPresent ∧ r.pllOnAt + ofMicros 50 ≤ s.now then
      let s := ((s.setRadio (fun r => { r with pllLocked := true })).ends 7 0).dividerStart
      match r.walk with
      | some w => if w.step = 4 then s.boundaryAfter 4 else s
      | none => s
    else s)
/-- R106, R107: the quick calibration ends: trims measured afresh, or left on the stored set where it could not complete. -/
def execQuickCalibrationEnd (dt : Nat) (failed : BitVec 8) (s : State) : Host.Outcome State Fault Refusal :=
  let s := s.advance dt
  .next (match s.radio.walk with
    | some w =>
      if w.step = 5 ∧ s.radio.pllLocked ∧ w.stepAt + ofMicros 800 ≤ s.now then
        let s := s.each chains (fun s c => s.quickCal c (bit failed.toNat c))
        (s.enterSynth).boundaryAfter 5
      else s
    | none => s)
/-- R60: the root PLL has not locked within 2 ms of being enabled. -/
def execClkLockfail (dt : Nat) (s : State) : Host.Outcome State Fault Refusal :=
  let s := s.advance dt
  let r := s.radio
  .next (if r.pllOn ∧ !r.pllLocked ∧ r.pllOnAt + ofMicros 2000 ≤ s.now then
      match r.walk with
      | some w =>
        if w.step = 4 then (if r.relock.isSome then s.relockFailed else ((s.raise 6 0 0).failStep).pllRest) else s
      | none => s
    else s)
/-- R61: the root PLL has lost lock; the relock follows unless the walk that enabled the PLL was still calibrating. -/
def execClkUnlock (dt : Nat) (s : State) : Host.Outcome State Fault Refusal :=
  let s := s.advance dt
  .next (if s.radio.pllLocked then
      let up := decide (2 ≤ s.radio.state)
      let relocking := s.radio.relock.isSome
      let s := (s.raise 7 0 0 true).setRadio (fun r => { r with pllLocked := false })
      if relocking && !up then s.relockFailed
      else
        let s := s.clockFall
        if up then s.relockBegin else s
    else s)

/-! The root source (R60, R61, R63). -/

/-- R60, R63: no REFCLK edge for 1 µs: from reset release on, and in a wake, where it is a fault alone until STANDBY. -/
def execClkRefloss (dt : Nat) (s : State) : Host.Outcome State Fault Refusal :=
  let s := s.advance dt
  .next (if s.radio.rootExt ∧ !s.radio.inReset ∧ !s.radio.fallback then
      if 1 ≤ s.radio.state then (s.raise 5 0 0 true).sourceGone
      else if s.radio.waking.isSome ∧ !s.refAbsent then s.raise 5 0 0 true
      else s
    else s)
/-- R60, R63: crystal oscillation is not detected within 5 ms of enabling, at the boot or a wake (kind 1), or is absent
while running (kind 2). -/
def execClkXtal (dt : Nat) (running : Bool) (s : State) : Host.Outcome State Fault Refusal :=
  let s := s.advance dt
  .next (if s.radio.rootExt ∨ s.radio.inReset ∨ s.radio.fallback then s
    else if running then
      if s.radio.srcPresent ∧ 1 ≤ s.radio.state then (s.raise 4 0 2 true).sourceGone else s
    else if s.radio.srcPresent ∨ (s.radio.state = 0 ∧ s.radio.waking.isNone) then s
    else
      let since := match s.radio.xtalOnAt with
        | some t => t
        | none => s.boot.releasedAt
      if since + 5 * perMs ≤ s.now then s.raise 4 0 1 true else s)
/-- R63: the crystal oscillator is restarted every 100 ms while it is absent. -/
def execCrystalRestart (dt : Nat) (s : State) : Host.Outcome State Fault Refusal :=
  let s := s.advance dt
  .next (match s.radio.xtalOnAt with
    | some t =>
      if s.radio.fallback ∧ !s.radio.rootExt ∧ t + 100 * perMs ≤ s.now then
        s.setRadio (fun r => { r with xtalOnAt := some s.now })
      else s
    | none => s)
/-- A crystal that did not start in time (R60) and has not started since. -/
def State.crystalLate (s : State) : Bool :=
  !s.radio.rootExt && !s.radio.srcPresent && !s.radio.inReset && s.flt.lasting.any (fun d => d.bit == 4)
/-- R63: the root source is back, the crystal after 5 ms of running; the relock of R62 applies. The operating seconds
counted from the fallback oscillator carry its ±5 %: the deviation is a free value (R600). A crystal that starts late
ends its CLK.XTAL in the same way. DESIGN CHOICE [97]: as it starts, the relock walk of R62 begins, which the spec states
after a loss alone (R61, R63). REFCLK that returns in a wake ends its fault and no more. -/
def execRootSourceReturn (dt : Nat) (s : State) : Host.Outcome State Fault Refusal :=
  let s := s.advance dt
  let ran : Bool := match s.radio.xtalOnAt with
    | some t => decide (t + 5 * perMs ≤ s.now)
    | none => s.radio.rootExt
  .next (if s.radio.fallback ∧ ran then
      let lasted := (s.now - s.radio.fallbackAt) / perSubsec
      let dev : Int := (s.draw % (lasted / 10 + 1) : Nat) - (lasted / 20 : Nat)
      let s : State := { s.drawn with opOfs := s.opOfs + dev }
      let s := s.setRadio (fun r => { r with srcPresent := true, fallback := false, xtalOnAt := none })
      (((s.ends 4 0).ends 5 0).roundsBegin).relockBegin
    else if s.crystalLate ∧ 1 ≤ s.radio.state then
      ((s.setRadio (fun r => { r with srcPresent := true, xtalOnAt := none })).ends 4 0).relockBegin
    else if s.radio.rootExt ∧ s.radio.waking.isSome ∧ s.refAbsent then s.ends 5 0
    else s)

/-! Resets of whole-device scope (R66, R67, R95 to R97, R600 to R602). -/

/-- R95: RESET_N is low: the whole device is reset, the always-on domain apart. -/
def execResetNAssert (dt : Nat) (s : State) : Host.Outcome State Fault Refusal :=
  let s := s.advance dt
  .next (if s.radio.resetN then s
    else
      let held := decide (s.radio.railsGood ≠ 31)
      let s := if held then s else (s.endFreeze).wholeReset 2
      (s.holdReset).setRadio (fun r => { r with resetN := true }))
/-- R95: RESET_N returns high, and the boot begins once no rail holds the reset. -/
def execResetNRelease (dt : Nat) (clksel : Bool) (s : State) : Host.Outcome State Fault Refusal :=
  let s := s.advance dt
  .next (if s.radio.resetN then
      let s := s.setRadio (fun r => { r with resetN := false })
      if s.radio.railsGood = 31 then s.releaseReset clksel else s
    else s)
/-- R67: a rail is no longer good: a power-on reset of the whole device at once. -/
def execRailFail (dt rail : Nat) (s : State) : Host.Outcome State Fault Refusal :=
  let s := s.advance dt
  .next (if rail < 5 then
      let s := (s.wholeReset 1).holdReset
      let s : State := { s with pins := { s.pins with tap := 1 } }
      s.setRadio (fun r => { r with railsGood := r.railsGood &&& ~~~(BitVec.ofNat 5 (2 ^ rail)), failedAt := s.now })
    else s)
/-- The operating seconds after a power-on reset (R600, R673): the stored count or that of the newest ledger entry, plus
10 s, or 0 where neither is held. -/
def Store.resumeSeconds (t : Store) : Nat :=
  match t.opsec, t.ledger with
  | some v, _ => v + 10
  | none, e :: _ => e.seconds + 10
  | none, [] => 0
/-- R66: a time after the last rail became good, and after the last failure of a rail, 2 ms have passed: internal reset
ends and the boot begins, unless RESET_N holds it. -/
def execRailsGood (dt : Nat) (m : RailsUp) (s : State) : Host.Outcome State Fault Refusal :=
  let s := s.advance dt
  .next (if s.radio.inReset ∧ s.radio.railsGood ≠ 31 ∧ ofMicros 2000 ≤ m.since ∧ s.radio.failedAt + m.since ≤ s.now then
      let s := s.setRadio (fun r => { r with railsGood := 31, goodAt := s.now - m.since })
      let s := ((s.modStore (fun t => { t with powerCycles := (t.powerCycles + 1) % 4294967296, hostValid := false })).repaired 301).repaired 303
      let s : State := { s with opOfs := ((s.store.resumeSeconds % 4294967296 * 65536 : Nat) : Int) - (s.now / perSubsec : Nat) }
      let s := s.modRec (fun r => { r with hourNo := s.seconds / 3600, opsecAt := s.now })
      if s.radio.resetN then s else s.releaseReset m.clksel
    else s)

/-! Boundary scan (R699, R701). -/

/-- A TAP instruction comes into force; as the balls return, every loop of a transmitting chain is at rest (R701). -/
def State.setTap (s : State) (code : BitVec 8) : State :=
  let back := scanTakes s.pins.tap && !scanTakes code
  let s : State := { s with pins := { s.pins with tap := code } }
  if back then
    s.each (chains.filter (fun c => s.transmits c)) (fun s c =>
      (s.each ((sbsOf c).filter (fun g => s.enabled g)) State.restLoop).restLoop (128 + c))
  else s
/-- The identification register (R700). -/
def idRegister : BitVec 32 := 0x176805AF
/-- The instructions that put the boundary-scan register between TDI and TDO (R697, IEEE 1149.1 and 1149.6). -/
def scanShifts (tap : BitVec 8) : Bool := [0x00, 0x02, 0x03, 0x04].contains tap.toNat
/-- What the TAP shifts out of the data register its instruction selects: the cells, the identification (R700) or the
one bit of BYPASS, which every other instruction selects (R699). -/
def Pins.dataOut (p : Pins) : Nat :=
  if scanShifts p.tap then p.boundary.toNat else if p.tap = 1 then idRegister.toNat else 0
/-- R698, R699, R701: a TAP instruction, after the cells that were shifted and updated under the one before it. -/
def execTapInstruction (dt : Nat) (m : TapLoad) (s : State) : Host.Outcome State Fault Refusal :=
  let s := s.advance dt
  let s : State := if scanShifts s.pins.tap then { s with pins := { s.pins with boundary := m.cells } } else s
  .next (s.setTap m.code)
/-- R95, R699: TRST_N low resets the TAP, which loads IDCODE. -/
def execTrstNReset (dt : Nat) (s : State) : Host.Outcome State Fault Refusal := .next ((s.advance dt).setTap 1)

/-! RADIO_STATUS and RADIO_CONFIG (R92 to R94). -/

def radioStatusValue (s : State) : Nat :=
  let r := s.radio
  let target := match r.walk, r.setting with
    | some w, _ => if w.cmd.isSome then w.asked else r.state
    | none, _ => r.state
  packFields [(1, ofBool (!s.pins.muteN)), (1, ofBool r.pllLocked), (1, ofBool r.srcPresent), (1, ofBool r.rootExt),
    (1, ofBool r.fallback), (3, 0), (8, (chains.map (fun c => if s.transmits c then 2 ^ c else 0)).sum), (4, 0),
    (2, r.dirEn.toNat), (1, ofBool (r.walk.isSome || s.seqRuns)), (1, ofBool r.fgCal), (4, target), (4, r.state)]
def radioConfigValue (s : State) : Nat :=
  let k := s.set.radioCfg
  packFields [(1, ofBool k.autoRelock), (1, ofBool k.wakeUsb), (6, k.wakeGpio), (7, 0), (17, k.deferLimitUs)]
def checkRadioConfig (v : Nat) (s : State) : Verdict :=
  let g := bitsAt v 29 24
  checks [
    (decide (bitsAt v 16 0 < 100) || decide (100000 < bitsAt v 16 0), badField 0),
    (decide (16 ≤ g) && decide (g ≠ 63), badField 24),
    (decide (g < 16) && decide (g ≠ s.set.radioCfg.wakeGpio) && s.gpioBusy g 0x51, busy 1 g)]
def writeRadioConfig (v : Nat) (s : State) : State :=
  let g := bitsAt v 29 24
  let old := s.set.radioCfg.wakeGpio
  let s := if g = old then s
    else
      let s := if old < 16 then s.setGpio old 0 else s
      if g < 16 then s.claimGpio g 0x51 else s
  { s with set := { s.set with radioCfg := {
    autoRelock := bit v 31, wakeUsb := bit v 30, wakeGpio := g, deferLimitUs := bitsAt v 16 0 } } }

end Sys2Proof.Machine
end

