-- ==== Sys2Proof/Machine/Boot.lean ====
section
/-!
DEFINITION. The boot's events and commands (17_boot.md): the ends of its steps, early service, the management restart,
the ledger read and the firmware update.
-/

namespace Sys2Proof.Machine

/-! Steps (R654 to R667). -/

/-- R654: a boot step ends by one of its methods, or fails, and the ledger is written. -/
def execBootStepEnd (dt : Nat) (res : StepResult) (s : State) : Host.Outcome State Fault Refusal :=
  let s := s.advance dt
  .next (if s.booting then s.endStep res else s)
/-- R664: a failure of EARLY before the end of START sets its flag. -/
def execEarlyFail (dt : Nat) (s : State) : Host.Outcome State Fault Refusal :=
  let s := s.advance dt
  .next (if s.booting ∧ s.boot.earlyDue ∧ s.boot.early then s.failEarly else s)
/-- R659, R660: the foreground calibration ends: it writes the stored set of the present band for every chain that it
could calibrate. -/
def execFgCalEnd (dt : Nat) (failed : BitVec 8) (s : State) : Host.Outcome State Fault Refusal :=
  let s := s.advance dt
  .next (if s.booting ∧ s.boot.step = 10 ∧ s.radio.fgCal then
      let s := s.each (chains.filter (fun c => !bit failed.toNat c)) (fun s c => s.fullCal c)
      ((s.setRadio (fun r => { r with fgCal := false })).noteStep 10 (if failed = 0 then 2 else 3) 0).beginStart
    else s)

/-- The image that a management restart runs (R667): ACTIVE_IMG, else the one that ran before. -/
def State.restartImage (s : State) : State :=
  let a := s.store.bootConfig.activeImg
  let detail := 1 + s.draw % 2
  if s.imageValid a then
    (((s.modLedger (fun e => { e with image := a })).modBoot (fun b => { b with image := a })).noteStep 1 2 0)
  else
    let s := s.drawn.raise 59 a detail
    let b := s.boot.image
    if b ≠ a ∧ s.imageValid b then
      ((s.modLedger (fun e => { e with image := b })).modStore (fun t => {
        t with bootConfig := { t.bootConfig with activeImg := b } })).noteStep 1 3 detail
    else ((((s.raise 60 1 0).noteStep 1 5 detail).setResult 3)).modBoot (fun b => { b with recovery := true })
/-- R667: the firmware restarts after a management reset: steps 0 to 3 and 12, with a ledger entry of their own; in recovery
mode nothing feeds the keep-alive, so ALIVE stays low (R672). -/
def execFirmwareRestart (dt : Nat) (s : State) : Host.Outcome State Fault Refusal :=
  let s := s.advance dt
  .next (if s.flt.mgmt ∧ !s.radio.inReset then
      let s := (((s.newEntry 4 4).noteStep 0 2 0).restartImage).leaveEarly
      let s := s.modBoot (fun b => { b with
        running := false, step := 15, earlyDue := false, pair := if bit b.pairFenced.toNat 0 then 1 else 0 })
      let s := if s.boot.recovery then s else ((s.noteStep 2 2 0).noteStep 3 2 0).noteStep 12 2 0
      ((s.modFlt (fun f => { f with mgmt := false, fed := if s.boot.recovery then none else some s.now, watch := if s.boot.recovery then none else some s.now, aliveOk := s.now, startup := false })).hkResume).trigger 0x30 4
    else s)

/-! The ledger read (R668, R676). -/

/-- The 128 bytes of an entry (R668). -/
def Ledger.bytes (e : Ledger) : List Byte :=
  let body := leBytes 4 e.bootNum ++ leBytes 4 e.powerCycles ++ leBytes 4 e.seconds ++ leBytes 1 e.resetSrc ++
    leBytes 1 e.image ++ leBytes 1 e.result ++ leBytes 1 (ofBool e.early) ++
    (List.range 13).flatMap (fun n => leBytes 1 (e.outcome.getD n 0 * 16 + e.detail.getD n 0 % 16)) ++ leBytes 3 0 ++
    (List.range 13).flatMap (fun n => leBytes 2 (e.endMs.getD n 65535)) ++ leBytes 2 e.alt.toNat ++
    leBytes 2 e.clearCount ++ List.replicate 62 0
  body ++ leBytes 4 (crc32c body)
def checkLedgerRead (r : Request) (_ : State) : Verdict :=
  let n := pu r 4 2
  let addr := pu r 8 8
  checks [
    (decide (1024 < n), bad 4), (decide (Nat.land (pu r 6 2) 0x740 ≠ pu r 6 2), bad 6),
    (decide (addr % 8 ≠ 0) || (decide (addr ≠ 0) && (decide (n = 0) || !byPcie r)), bad 8),
    (decide (pu r 16 4 < n * 128), bad 16), (decide (pu r 20 4 ≠ 0), bad 20)]
/-- Whole entries in ascending BOOT_NUM, from the later of FIRST and the oldest held; then the flags named are cleared. -/
def applyLedgerRead (ref : CmdRef) (r : Request) (s : State) : State :=
  let es := (s.store.ledger.reverse.filter (fun e => decide (pu r 0 4 ≤ e.bootNum))).take (pu r 4 2)
  let bytes := es.flatMap Ledger.bytes
  let first := match es with
    | [] => 0
    | e :: _ => e.bootNum
  let s := if bytes = [] then s else s.giveData ref (pu r 8 8) bytes
  ((s.modStore (fun t => { t with alt := t.alt &&& ~~~(BitVec.ofNat 13 (pu r 6 2)) })).repaired 304).complete ref stOk 0
    (es.length + 4294967296 * first)
def cmdLedgerRead : CmdDef := ⟨0x0C02, 24, false, checkLedgerRead, applyLedgerRead⟩
/-- R676: copies ledger entries and clears named alternate flags. -/
def execBootLedgerRead (dt : Nat) (r : Request) (s : State) : Host.Outcome State Fault Refusal :=
  .next ((s.advance dt).issue cmdLedgerRead r)

/-! The firmware update (R677 to R679). -/

def checkFwUpdate (r : Request) (s : State) : Verdict :=
  let image := pu r 1 1
  let len := pu r 16 4
  checks [
    (decide (1 < pu r 0 1), bad 0), (decide (1 < image), bad 1), (decide (pu r 2 2 ≠ 0), bad 2),
    (decide (pu r 8 8 % 8 ≠ 0) || (!byPcie r && decide (pu r 8 8 ≠ 0)), bad 8),
    (decide (len < 4096) || decide (8388608 < len) || decide (len % 8 ≠ 0), bad 16), (decide (pu r 20 4 ≠ 0), bad 20),
    (!s.boot.recovery && decide (image = s.boot.image), wrong 4),
    (s.boot.update.isSome, wrong 7), (r.buf.isNone, unread)]
/-- One of the images marked valid or not, with its contents. -/
def Store.putImage (t : Store) (n : Nat) (bytes : List Byte) (ok : Bool) : Store :=
  if n = 0 then { t with imageA := bytes, validA := ok } else { t with imageB := bytes, validB := ok }
def Store.image (t : Store) (n : Nat) : List Byte := if n = 0 then t.imageA else t.imageB
/-- The image is written over: until the update ends it is not valid. -/
def applyFwUpdate (ref : CmdRef) (r : Request) (s : State) : State :=
  let bytes := (bufOf r).take (pu r 16 4)
  (s.modStore (fun t => t.putImage (pu r 1 1) bytes false)).modBoot (fun b => { b with
    update := some (ref, pu r 1 1, flag r 0 0, bytes, s.now) })
def cmdFwUpdate : CmdDef := ⟨0x0C01, 24, false, checkFwUpdate, applyFwUpdate⟩
/-- R677: writes and verifies a firmware image and may activate it. -/
def execFwUpdate (dt : Nat) (r : Request) (s : State) : Host.Outcome State Fault Refusal :=
  .next ((s.advance dt).issue cmdFwUpdate r)
/-- The subcode of a failed verification; 0 for none (R678). -/
def updateFault (crc : Nat) (bytes : List Byte) : Nat :=
  if crc32c bytes ≠ crc then 1
  else if !Config.digestOk bytes then 2
  else if !Config.signatureOk bytes then 3
  else 0
/-- R677, R678: the update ends: verified, or refused with its image invalid; MGT.UPDATE carries what
failed (R573). Firmware carries it out (R25), in recovery mode the boot ROM (R672). -/
def execFwUpdateEnd (dt : Nat) (s : State) : Host.Outcome State Fault Refusal :=
  let s := s.advance dt
  .next (match (if s.firmwareRuns || (s.boot.recovery && s.collects && !s.flt.mgmt) then s.boot.update else none) with
    | none => s
    | some (ref, image, activate, bytes, _) =>
      let s := s.modBoot (fun b => { b with update := none })
      let crc := match s.requestOf ref with
        | some r => pu r 4 4
        | none => crc32c bytes
      let sub := updateFault crc bytes
      if sub = 0 then
        let s := s.modStore (fun t => { t.putImage image bytes true with
          bootConfig := if activate then { t.bootConfig with activeImg := image } else t.bootConfig })
        s.complete ref stOk 0 ((Config.imageVersion bytes).toNat + 4294967296 * image)
      else (s.raise 62 image sub).complete ref stIntegrity sub 0)

/-! BOOT_STATUS and BOOT_CONFIG (R674, R675). -/

def bootStatusValue (s : State) : Nat :=
  let b := s.boot
  packFields [(32, b.bootNum), (4, b.step), (1, ofBool b.running), (1, ofBool b.early), (1, ofBool b.recovery),
    (1, b.image), (3, b.resetSrc), (8, 0), (13, s.store.alt.toNat)]
def bootConfigValue (s : State) : Nat :=
  let k := s.store.bootConfig
  packFields [(1, ofBool k.earlyEn), (1, 0), (1, k.activeImg), (5, 0), (4, k.startState), (8, k.startTxEn.toNat),
    (2, k.startDirEn.toNat), (42, 0)]
def checkBootConfig (v : Nat) : Verdict :=
  let st := bitsAt v 55 52
  checks [(decide (st = 0) || decide (4 < st), badField 52), (bit v 63 && decide (st ≠ 4), combo)]
/-- The object is stored; with SAVE every setting of the resume image becomes the stored profile. -/
def writeBootConfig (v : Nat) (s : State) : State :=
  let s := if bit v 62 then (s.modStore (fun t => { t with profile := some s.settingsNow })).repaired 0 else s
  (s.repaired 2).modStore (fun t => { t with bootConfig := { t.bootConfig with
    earlyEn := bit v 63, startState := bitsAt v 55 52, startTxEn := BitVec.ofNat 8 (bitsAt v 51 44)
    startDirEn := BitVec.ofNat 2 (bitsAt v 43 42) } })

end Sys2Proof.Machine
end

