-- ==== Sys2Proof/Machine/Link.lean ====
section
/-!
DEFINITION. The host link's events (12_host_link_capture.md, R478 to R493): loss, return, lanes, modes, resets, the
endpoint's enables, and the host's reads of the USB endpoints.
-/

namespace Sys2Proof.Machine

/-- The host paths run: the device is out of reset, has its root source, and does not sleep (R57, R59, R63). -/
def State.pathsRun (s : State) : Bool :=
  !s.radio.inReset && s.radio.srcPresent && decide (1 ≤ s.radio.state) && !s.radio.gated
/-- A mode that the lanes allow (R478, R482). -/
def State.modeFits (s : State) (mode : Nat) : Bool :=
  decide (1 ≤ mode) && decide (mode ≤ 4) &&
    (if s.link.lanesOk = 3 then decide (mode ≠ 2) else decide (s.link.lanesOk ≠ 0) && decide (mode = 2))
/-- The device offers USB4: from PROFILE on, and in a boot from 100 ms after reset release (R654); a management reset leaves the
link as it is (R95). -/
def State.usb4Offered (s : State) : Bool :=
  s.boot.driven && (s.flt.mgmt || !s.boot.running || decide (s.boot.releasedAt + 100 * perMs ≤ s.now))
/-- The rings, as far as a change lets them be written. -/
def State.drainAll (s : State) : State := (s.drainRings s.ringNos).owedEvents

/-- R491: the USB4 link is lost. -/
def execLinkLoss (dt : Nat) (s : State) : Host.Outcome State Fault Refusal := .next (s.advance dt).linkLost
/-- R479, R492: the host has trained the link, from Gen 3 ×2 on where the ledger made it start there; the link event waits for suspended rings (R548). A first training ends the boot
step USB4 (R654). -/
def execLinkReturn (dt mode : Nat) (s : State) : Host.Outcome State Fault Refusal :=
  let s := s.advance dt
  .next (if s.link.mode = 0 ∧ s.pathsRun ∧ s.usb4Offered ∧ s.modeFits mode ∧ !(s.link.startG3 ∧ mode = 4) then
      let event := s.link.lostAt.map (fun e => (e.1, e.2, s.seconds, s.subsec))
      let s := s.modLink (fun l => { l with
        mode := mode, pcieUp := true, lostAt := none, linkEvent := l.linkEvent ++ event.toList })
      let s := ((s.ends 51 0).endUsb4 true).fitStreams
      if (s.ring 0).state = 4 then s else (s.postLink).drainAll
    else s)
/-- R549: KEEP_S has passed since the loss. -/
def execKeepSExpiry (dt : Nat) (s : State) : Host.Outcome State Fault Refusal :=
  let s := s.advance dt
  .next (if (s.ring 0).state = 4 ∧ s.jcp.cause ≠ 2 ∧ s.link.lostTime + s.set.keepS * perSecond < s.now then s.discardRings
    else s)
/-- R482: a lane is faulty, by two failed retrainings (kind 1) or by its rate of errored symbols (kind 2): LNK.LANE, and the
link retrains without it. -/
def execLaneFault (dt : Nat) (m : LaneFailure) (s : State) : Host.Outcome State Fault Refusal :=
  let s := s.advance dt
  .next (if m.lane < 2 ∧ bit s.link.lanesOk.toNat m.lane then
      (s.raise 50 m.lane (if m.errors then 2 else 1)).excludeLane m.lane
    else s)
/-- R479, R493: the link has retrained to another mode of those it offers. -/
def execLinkModeChange (dt mode : Nat) (s : State) : Host.Outcome State Fault Refusal :=
  let s := s.advance dt
  .next (if s.link.mode ≠ 0 ∧ mode ≠ s.link.mode ∧ s.modeFits mode ∧ !(s.link.startG3 ∧ mode = 4) then
      (s.modLink (fun l => { l with mode := mode, retrain := satUp 0xFF l.retrain })).fitStreams
    else s)
/-- R95: a USB4 link reset is a loss; a reset of the PCIe function suspends the rings as a loss does, and clears its
enables. That neither ends a freeze nor cancels an arm (R614, R619), since R95 limits its scope, is the model's reading [98]. -/
def execHostLinkReset (dt : Nat) (kind : LinkReset) (s : State) : Host.Outcome State Fault Refusal :=
  let s := s.advance dt
  .next (match kind with
    | .usb4 => s.linkLost
    | _ =>
      if s.link.pcieUp then
        let s := (s.suspendRings).modLink (fun l => { l with
          busMaster := false, config := {}, msixOn := false, msixMask := false, msixVec := [], msixPend := [], lostTime := s.now
          linkEvent := l.linkEvent ++ [(s.seconds, s.subsec, s.seconds, s.subsec)] })
        if (s.ring 0).state = 4 then s else s.postLink
      else s)
/-- R550: a bus reset or disconnect of a USB function. -/
def execUsbBusReset (dt : Nat) (usb2 : Bool) (s : State) : Host.Outcome State Fault Refusal :=
  let s := s.advance dt
  .next (if (if usb2 then s.link.usb2Up else s.link.usb3Up) then s.usbLost usb2 else s)
/-- R489, R553: the host configures a USB function, which becomes an event sink that is up; the USB 2.0 function runs at the
speed at which the host has enumerated it. -/
def execUsbFunctionConfigured (dt : Nat) (f : UsbConfigured) (s : State) : Host.Outcome State Fault Refusal :=
  let s := s.advance dt
  .next (if !s.pathsRun then s
    else match f with
      | .usb2 full =>
        if (3 < s.boot.step ∨ s.boot.recovery) ∧ !s.flt.mgmt then
          s.modLink (fun l => { l with usb2Up := true, usb2Fn := { l.usb2Fn with fullSpeed := full } })
        else s
      | .usb3 => if s.link.mode ≠ 0 then s.modLink (fun l => { l with usb3Up := true }) else s)
/-- The pending messages that can go out are sent (R486, R487). -/
def State.sendPending (s : State) : State :=
  (s.link.msixPend.map Prod.fst).foldl (fun (s : State) v =>
    if Table.get false s.link.msixPend v ∧ s.msixFree v then
      (s.modLink (fun l => { l with msixPend := Table.set false l.msixPend v false })).sendMsix v
    else s) s
/-- R487: the host sets or clears Bus Master Enable; what was held is written. -/
def execBusMasterEnableWrite (dt : Nat) (on : Bool) (s : State) : Host.Outcome State Fault Refusal :=
  let s := s.advance dt
  .next (if s.link.pcieUp then
      let s := s.modLink (fun l => { l with busMaster := on })
      if on then (s.drainAll).sendPending else s
    else s)
/-- R486: the host writes an entry of the MSI-X table, its mask with it, or enables and masks the function; a pending message
that this frees is sent. -/
def execMsixVectorUnmask (dt : Nat) (w : MsixWrite) (s : State) : Host.Outcome State Fault Refusal :=
  let s := s.advance dt
  .next (if !s.link.pcieUp then s
    else match w with
      | .entry v addr data masked =>
        if v < 2048 then
          (s.modLink (fun l => { l with msixVec := Table.set {} l.msixVec v { addr := addr, data := data, masked := masked } })).sendPending
        else s
      | .control on masked => (s.modLink (fun l => { l with msixOn := on, msixMask := masked })).sendPending)

/-- The oldest item of a queue pair leaves its IN endpoint, behind its prefix (R533). -/
def State.takeItem (s : State) (k : Nat) : State :=
  match s.items k with
  | [] => s
  | it :: rest =>
    let bytes := leBytes 1 it.kind ++ leBytes 3 0 ++ leBytes 4 it.bytes.length ++ it.bytes
    let o := if it.kind = 1 then Output.completion k bytes else if it.kind = 2 then Output.event k bytes else Output.data k bytes
    ((s.setItems k rest).emit o).owedEvents
/-- The blocks that wait on a USB3 stream endpoint (R506). -/
def State.epBlocks (s : State) (ep : Nat) : List (Nat × List Byte) := Table.get [] s.link.epBlocks ep
def State.setEpBlocks (s : State) (ep : Nat) (l : List (Nat × List Byte)) : State :=
  s.modLink (fun k => { k with epBlocks := Table.set [] k.epBlocks ep l })
/-- The oldest block of a stream endpoint (R506), of whatever stream. -/
def State.takeBlock (s : State) (ep : Nat) : State :=
  match s.epBlocks ep with
  | [] => s
  | b :: rest => (s.setEpBlocks ep rest).emit (.block b.1 b.2)
/-- R506, R533: the host reads a USB IN endpoint. -/
def execUsbInTransfer (dt : Nat) (ep : InEndpoint) (s : State) : Host.Outcome State Fault Refusal :=
  let s := s.advance dt
  .next (match ep with
    | .usb3 q => if s.link.usb3Up ∧ q < 8 then s.takeItem (20000 + q) else s
    | .usb2 => if s.link.usb2Up then s.takeItem 20008 else s
    | .stream n => if s.link.usb3Up ∧ 9 ≤ n ∧ n ≤ 12 then s.takeBlock n else s)

/-- LINK_STATUS (R514). -/
def linkStatusValue (s : State) : Nat :=
  let l := s.link
  packFields [(3, l.mode), (1, ofBool l.pcieUp), (1, ofBool l.usb3Up), (1, ofBool l.usb2Up), (2, l.lanesOk.toNat),
    (1, ofBool l.startG3), (7, l.dbDrop), (8, l.downCount), (8, l.retrain), (16, 0), (16, capLimit l.mode false)]
/-- Its RC fields (R559). -/
def clearLinkStatus (s : State) : State := s.modLink (fun l => { l with dbDrop := 0, downCount := 0, retrain := 0 })

end Sys2Proof.Machine
end

