-- ==== Sys2Proof/Machine/Capture.lean ====
section
/-!
DEFINITION. The capture engine (12_host_link_capture.md, R494 to R513): configuration, the buffer capture, streams.
-/

namespace Sys2Proof.Machine

/-- The sources of a capture share one sample rate (R497). -/
def State.oneRate (s : State) (k : CapSet) : Bool :=
  match k.srcs with
  | [] => true
  | a :: rest => rest.all (fun b => decide (s.capPeriod k.point b = s.capPeriod k.point a))

/-! CAP_CONFIGURE (R508). -/

def capOf (r : Request) : CapSet :=
  let n := pu r 2 1
  { configured := true, point := pu r 0 1, winB := flag r 1 0, compact := flag r 1 1, nsrc := n, shift := pu r 3 1
    srcs := (List.range n).map (fun i => pu r (4 + 2 * i) 2), trig := pu r 12 1, trigArg := pu r 13 1
    level := ps r 14 2, tAt := pu r 16 8, pre := pu r 24 4, blockKib := pu r 28 1 }
/-- A source index that its point has (R494). -/
def srcOk (point src : Nat) : Bool := decide (src < if point ≤ 1 then 8 else if point = 5 then 136 else 128)
/-- TRIG_ARG of R499. -/
def trigArgOk (trig arg : Nat) : Bool :=
  if trig = 2 then decide (arg < 8)
  else if trig = 4 then decide (arg < 64) || decide (arg = 255)
  else if trig = 5 then decide (arg < 4)
  else if trig = 6 then decide (arg < 128)
  else decide (arg = 0)
/-- The slot's capture or stream runs. -/
def State.slotRuns (s : State) (n : Nat) : Bool :=
  if n = 0 then decide (s.cap.owner = 1) else (s.stream n).run
def checkCapConfigure (r : Request) (s : State) : Verdict :=
  let n := instOf r
  let k := capOf r
  let buffer := decide (n = 0)
  checks ([
    (decide (16 < n), badInst), (decide (5 < k.point) || (!buffer && decide (k.point < 2)), bad 0),
    (decide (3 < pu r 1 1) || (k.winB && decide (1 < k.point)) || (k.compact && (decide (k.point < 2) || decide (4 < k.point))),
      bad 1),
    (decide (k.nsrc = 0) || decide ((if buffer then 4 else 1) < k.nsrc), bad 2),
    (decide ((if k.compact then 9 else 0) < k.shift), bad 3)] ++
    (List.range 4).map (fun i =>
      ((if i < k.nsrc then !srcOk k.point (pu r (4 + 2 * i) 2) else decide (pu r (4 + 2 * i) 2 ≠ 0)), bad (4 + 2 * i))) ++ [
    (decide (6 < k.trig) || (!buffer && !([0, 1, 5].contains k.trig)), bad 12), (!trigArgOk k.trig k.trigArg, bad 13),
    (if k.trig = 3 then outside (-12700) 0 k.level else decide (k.level ≠ 0), bad 14),
    (decide (k.trig ≠ 1) && decide (k.tAt ≠ 0), bad 16), (decide ((if buffer then k.samples else 0) < k.pre), bad 24),
    (if buffer then decide (k.blockKib ≠ 0) else !([4, 8, 16, 32].contains k.blockKib), bad 28), reserved r 29 3,
    (decide (k.trig = 3) && decide (k.point = 5), combo), (!s.oneRate k, combo), (s.slotRuns n, wrong 4)])
def applyCapConfigure (ref : CmdRef) (r : Request) (s : State) : State :=
  let s : State := { s with set := { s.set with cap := Table.set {} s.set.cap (instOf r) (capOf r) } }
  s.complete ref stOk 0 0
def cmdCapConfigure : CmdDef := ⟨0x0801, 32, false, checkCapConfigure, applyCapConfigure⟩
/-- R508: configures a capture slot. -/
def execCapConfigure (dt : Nat) (r : Request) (s : State) : Host.Outcome State Fault Refusal :=
  .next ((s.advance dt).issue cmdCapConfigure r)

/-! CAP_START (R497, R501, R504, R506, R509). -/

/-- The rate of a stream in bit/s, rounded up (R504). -/
def State.streamRate (s : State) (k : CapSet) : Nat :=
  ceilDiv (1966080000 * k.size * 8 * 1024 * k.blockKib) (s.capPeriod k.point (k.srcs.getD 0 0) * (1024 * k.blockKib - 32))
/-- A source has stopped, or cannot start (R500). -/
def State.sourceOff (s : State) (k : CapSet) : Bool :=
  if k.point ≤ 1 then decide (s.radio.state < 2)
  else
    decide (s.radio.state < 3) ||
      k.srcs.any (fun n => if k.point < 5 ∨ n < 128 then !s.enabled n else false)
/-- The lowest stream endpoint that no running stream holds (R506). -/
def State.freeEndpoint (s : State) : Option Nat :=
  [9, 10, 11, 12].find? (fun e => !((s.runningOn true).any (fun n => decide ((s.stream n).ep = e))))
def checkCapStart (r : Request) (s : State) : Verdict :=
  let n := instOf r
  let k := s.capSet n
  let usb3 := match r.src with
    | .usb3 _ => true
    | _ => false
  checks ([
    (decide (16 < n), badInst), reserved r 0 4, (!k.configured, wrong 8)] ++ (if k.point < 5 then needPll s else []) ++ [
    (decide (2 ≤ k.point) && decide (k.point < 5) && k.srcs.any (fun g => !s.enabled g), wrong 5), (s.sourceOff k, wrong 1),
    (!s.oneRate k, wrong 8), (decide (n ≠ 0) && s.slotRuns n, wrong 4),
    (decide (n ≠ 0) && decide (r.src = .usb2), wrong 9),
    (decide (n ≠ 0) && byPcie r && (s.ringOfSlot n).isNone, wrong 8),
    (decide (n = 0) && decide (s.cap.owner ≠ 0), busy 3 0),
    (decide (n ≠ 0) && usb3 && s.freeEndpoint.isNone, busy 8 255),
    (decide (n ≠ 0) && s.overRate usb3 (s.streamRate k), overBudget 4)])
def applyCapStart (ref : CmdRef) (r : Request) (s : State) : State :=
  let n := instOf r
  let k := s.capSet n
  if n = 0 then
    { s with taken := (List.range 4).foldl (fun t i => Table.set {} t i {}) s.taken, cap := { s.cap with
      lastWriter := 1, owner := 1, state := 1, nsrcM1 := k.nsrc - 1, sat := false, truncated := false
      sizeLog2 := Nat.log2 k.size, valid := 0, trigPos := 0, cmd := some ref, trigAt := 0
      started := holding s.window (s.capPeriod k.point (k.srcs.getD 0 0)) } }
  else
    let ep := if byPcie r then 0 else s.freeEndpoint.getD 0
    let rate := s.streamRate k
    let s : State := { s with taken := Table.set {} s.taken (n * 4) {} }
    s.modStream n (fun x => { x with
      started := if k.trig = 5 then none else some (max s.window (if k.trig = 1 then k.tAt * perTick else 0))
      run := true, usb3 := !byPcie r, cmd := some ref, rate := rate, blocks := 0, seq := 0, gapSince := 0, abandoned := 0
      ep := ep, ending := none })
def cmdCapStart : CmdDef := ⟨0x0802, 4, false, checkCapStart, applyCapStart⟩
/-- R509: starts a buffer capture or a stream. -/
def execCapStart (dt : Nat) (r : Request) (s : State) : Host.Outcome State Fault Refusal :=
  .next ((s.advance dt).issue cmdCapStart r)

/-! Levels of the capture points (R494, R496, R499). -/

/-- A sample that has been taken reaches LEVEL (R499). -/
def State.reaches (s : State) (x : Nat × Int × Captured) : Bool :=
  let k := s.capSet 0
  let src := k.srcs.getD 0 0
  match x.2.2 with
  | .word i q _ =>
    let v : Iq := ((capField k.field.1 k.field.2 i).1, (capField k.field.1 k.field.2 q).1)
    let a := s.refAmplitude k src x.1
    decide (linear k.level ≤ a * a * (v.power : Rat) / 268435456)
  | .record _ => false
/-- The instant at which the buffer capture is armed: it has filled PRE samples (R498). -/
def State.armedAt (s : State) : Nat :=
  let k := s.capSet 0
  s.cap.started + k.pre * s.capPeriod k.point (k.srcs.getD 0 0)
/-- The first sample of source 0 after arming that reaches LEVEL is that of an instant (R499). -/
def State.levelReached (s : State) (m : Nat) : Bool :=
  let xs := (Table.get ({} : Taken) s.taken 0).samples.filter (fun x => decide (s.armedAt ≤ x.1) && s.reaches x)
  decide ((xs.map Prod.fst).min? = some m)

/-! The buffer capture (R498 to R502, R510 to R512). -/

/-- The samples of source `i` of the buffer capture from an instant on, oldest first. -/
def State.takenFrom (s : State) (i first : Nat) : List Captured :=
  ((Table.get ({} : Taken) s.taken i).samples.reverse.filter (fun x => decide (first ≤ x.1))).map (fun x => x.2.2)
/-- The samples of the sources, interleaved in source order, as many of each as every source has (R498). -/
def interleave : Nat → List (List Captured) → List Captured
  | 0, _ => []
  | n + 1, xs => xs.filterMap List.head? ++ interleave n (xs.map List.tail)
/-- The number of samples that every source has. -/
def leastOf (xs : List (List Captured)) : Nat := (xs.map List.length).min?.getD 0
/-- A stage word's I, Q and tag; a loop record has none. -/
def stageWord : Captured → Int × Int × Nat
  | .word i q tag => (i, q, tag)
  | .record _ => (0, 0, 0)
/-- The dB words of a loop record; a stage word has none. -/
def recordWords : Captured → List Int
  | .word _ _ _ => []
  | .record ws => ws
/-- A sample in the format of its capture, and whether it saturated (R341, R495). -/
def CapSet.pack (k : CapSet) (x : Captured) : List Byte × Bool :=
  let put := fun (bits sh place : Nat) (low : Nat) =>
    let i := capField bits sh (stageWord x).1
    let q := capField bits sh (stageWord x).2.1
    (leBytes k.size (bitsOf bits i.1 * 2 ^ (place + bits) + bitsOf bits q.1 * 2 ^ place + low), i.2 || q.2)
  if k.point = 5 then (recordBytes ((recordWords x ++ List.replicate 8 0).take 8), false)
  else if k.point ≤ 1 then put 16 2 0 0
  else if k.compact then put 15 k.shift 2 ((stageWord x).2.2 % 4)
  else put 24 0 16 ((stageWord x).2.2 % 4 * 16384)
/-- The bytes of samples, and whether any saturated. -/
def CapSet.packAll (k : CapSet) (xs : List Captured) : List Byte × Bool :=
  (xs.flatMap (fun x => (k.pack x).1), xs.any (fun x => (k.pack x).2))
/-- Window samples between two samples of the buffer capture. -/
def State.capStep (s : State) : Nat := s.capPeriod (s.capSet 0).point ((s.capSet 0).srcs.getD 0 0)
/-- The buffer's contents, from an instant on: samples of each source, the bytes, and whether any sample that was taken
saturated (R495, R498). -/
def State.capContents (s : State) (first : Nat) : Nat × List Byte × Bool :=
  let k := s.capSet 0
  let xs := (List.range k.nsrc).map (fun i => s.takenFrom i first)
  let n := min k.samples (leastOf xs)
  (n, (k.packAll (interleave n xs)).1, (List.range 4).any (fun i => (Table.get ({} : Taken) s.taken i).sat))
/-- The first instant that the buffer keeps once the trigger sample is known (R498). -/
def State.capFirst (s : State) : Nat := s.cap.trigAt - (s.capSet 0).pre * s.capStep
/-- The capture ends early with its data kept (R500). -/
def State.cutCapture (s : State) (status sub : Nat) : State :=
  let after := decide (s.cap.state = 3)
  let y := s.capContents (if after then s.capFirst else 0)
  let ref := s.cap.cmd
  let at_ := s.cap.trigAt
  ({ s with cap := { s.cap with
      owner := 0, state := 5, truncated := after, sat := y.2.2, valid := y.1, cmd := none, buf := y.2.1
      trigPos := if after then min (s.capSet 0).pre y.1 else 0 } } : State).completeOpt ref status sub (if after then at_ else 0)

/-- R498: PRE samples are filled. -/
def execCaptureArmed (dt : Nat) (s : State) : Host.Outcome State Fault Refusal :=
  let s := s.advance dt
  .next (if s.cap.owner = 1 ∧ s.cap.state = 1 ∧ s.armedAt ≤ s.window then
      { s with cap := { s.cap with state := 2 } }
    else s)
/-- The trigger sample is recorded. -/
def State.capTriggered (s : State) (at_ : Nat) : State :=
  { s with cap := { s.cap with state := 3, trigAt := at_, trigPos := (s.capSet 0).pre } }
/-- Something happened at a time, after the capture was armed, and an instant lies within 1 µs of it (R498, R499). -/
def State.justThen (s : State) (at_ : Nat) (t : Time) : Bool :=
  decide (s.armedAt ≤ s.windowOf t) && decide (((s.windowOf t : Int) - at_).natAbs ≤ 1967)
/-- A trigger that the slot's TRIG and TRIG_ARG name (R499), at an instant: its cause and argument, and what it rests on. An
overrange is the window sample of its episode's first clipped one; a fault's detection or a trip lies within 1 µs. -/
def State.trigFits (s : State) (at_ cause arg : Nat) : Bool :=
  let k := s.capSet 0
  decide (cause = k.trig) && decide (s.armedAt ≤ at_) && decide (at_ ≤ s.window) &&
    (if cause = 0 then decide (at_ = s.armedAt)
     else if cause = 1 then decide (holding at_ s.capStep = holding (k.tAt * perTick) s.capStep)
     else if cause = 4 then (decide (k.trigArg = 255) || decide (arg = k.trigArg)) && decide (arg < 64) &&
       (match Table.get none s.flt.seenAt arg with
        | some t => s.justThen at_ t
        | none => false)
     else if cause = 5 then decide (arg = k.trigArg) && (decide ((s.tddOf arg).sync = 2) || decide ((s.tddOf arg).sync = 3)) &&
       decide (((at_ : Int) - (s.tddOf arg).frame) % framePeriod (s.tddSet arg).period = 0)
     else if cause = 2 then decide (arg = k.trigArg) && decide ((s.cnvOf arg).ovrFirst = some at_)
     else if cause = 3 then decide (k.point ≠ 5) && s.levelReached (holding at_ s.capStep)
     else decide (arg = k.trigArg) && (s.govOf arg).trips.any (fun t => s.justThen at_ t.1))
/-- R165, R499: the trigger of an armed capture arrives, and the first sample at or after it is the trigger's; one before
arming is ignored. -/
def execCaptureTrigger (dt : Nat) (tick : Time) (cause arg : Nat) (s : State) : Host.Outcome State Fault Refusal :=
  let s := s.advance dt
  .next (if s.cap.owner = 1 ∧ s.cap.state = 2 ∧ s.trigFits tick cause arg then
      s.capTriggered (holding tick s.capStep) else s)
/-- R495, R498: the samples from the trigger on are written, N − PRE with the trigger sample, and the capture is over. -/
def execCaptureDone (dt : Nat) (_data _sat : Measured) (s : State) : Host.Outcome State Fault Refusal :=
  let s := s.advance dt
  .next (if s.cap.owner = 1 ∧ s.cap.state = 3 ∧ s.capEnd ≤ s.window then
      let y := s.capContents s.capFirst
      let ref := s.cap.cmd
      let at_ := s.cap.trigAt
      ({ s with cap := { s.cap with
        owner := 0, state := 4, sat := y.2.2, valid := y.1, cmd := none, buf := y.2.1 } } : State).completeOpt ref stOk 0 at_
    else s)
/-- R500: a source stops producing samples. -/
def execCaptureSourceStop (dt slot : Nat) (byHost : Bool) (s : State) : Host.Outcome State Fault Refusal :=
  let s := s.advance dt
  let status := if byHost then stAbortedHost else stAbortedRecovery
  .next (if s.slotRuns slot ∧ s.sourceOff (s.capSet slot) then
      if slot = 0 then s.cutCapture status 6
      else s.modStream slot (fun x => { x with ending := some (x.ending.getD (status, 6)) })
    else s)

def checkCapStop (r : Request) (_ : State) : Verdict :=
  checks [(decide (16 < instOf r), badInst), (decide ((if instOf r = 0 then 1 else 0) < pu r 0 1), bad 0), reserved r 1 3]
def applyCapStop (ref : CmdRef) (r : Request) (s : State) : State :=
  let n := instOf r
  let s := if !s.slotRuns n then s
    else if n ≠ 0 then s.modStream n (fun x => { x with ending := some (x.ending.getD (stOk, 0)) })
    else if flag r 0 0 then
      if s.cap.state = 2 then s.capTriggered (holding s.window s.capStep)
      else s
    else if s.cap.state = 3 then s.cutCapture stOk 0
    else s.cutCapture stAbortedHost 2
  s.complete ref stOk 0 0
def cmdCapStop : CmdDef := ⟨0x0803, 4, false, checkCapStop, applyCapStop⟩
/-- R510: ends a capture or stream, or triggers an armed capture. -/
def execCapStop (dt : Nat) (r : Request) (s : State) : Host.Outcome State Fault Refusal :=
  .next ((s.advance dt).issue cmdCapStop r)

/-- Bytes of one sample of every source in the buffer. -/
def Cap.frame (c : Cap) : Nat := (c.nsrcM1 + 1) * 2 ^ c.sizeLog2
/-- VALID bounds a read of a buffer that nobody writes (R511); while an owner writes, the read is WRONG_STATE (R502). -/
def checkCapRead (r : Request) (s : State) : Verdict :=
  checks [
    (decide (pu r 8 8 % 8 ≠ 0) || (!byPcie r && decide (pu r 8 8 ≠ 0)), bad 8),
    (decide (pu r 16 4 ≠ pu r 4 4 * s.cap.frame), bad 16), reserved r 20 4,
    (decide (s.cap.owner = 0) && decide (s.cap.valid < pu r 0 4 + pu r 4 4), combo), (decide (s.cap.owner ≠ 0), wrong 7)]
def applyCapRead (ref : CmdRef) (r : Request) (s : State) : State :=
  let off := pu r 0 4 * s.cap.frame
  let bytes := ((List.range (pu r 16 4)).map (fun i => s.cap.buf.getD (off + i) 0))
  (if bytes = [] then s else s.giveData ref (pu r 8 8) bytes).complete ref stOk 0 (crc32c bytes)
def cmdCapRead : CmdDef := ⟨0x0804, 24, false, checkCapRead, applyCapRead⟩
/-- R511: copies samples of the capture buffer. -/
def execCapRead (dt : Nat) (r : Request) (s : State) : Host.Outcome State Fault Refusal :=
  .next ((s.advance dt).issue cmdCapRead r)

/-! Streams (R495, R496, R503 to R507). -/

/-- A block: its header of R503 and its payload, whose first sample gives T0 and REF_DB. -/
def State.blockBytes (s : State) (slot : Nat) (xs : List (Nat × Int × Captured)) (last : Bool) : List Byte :=
  let k := s.capSet slot
  let x := s.stream slot
  let p := k.packAll (xs.map (fun e => e.2.2))
  let t0 := (xs.head?.map Prod.fst).getD s.window
  let ref := if k.point = 5 then 0x8000 else bitsOf 16 ((xs.head?.map (fun e => e.2.1)).getD (s.refLevel k (k.srcs.getD 0 0) s.window))
  let flags := ofBool (decide (x.blocks = 0)) + 2 * ofBool last + 4 * ofBool (decide (0 < x.gapSince)) + 8 * ofBool p.2
  let head := leBytes 1 slot ++ leBytes 1 k.point ++ leBytes 2 flags ++ leBytes 4 x.seq ++ leBytes 8 t0 ++
    leBytes 4 xs.length ++ leBytes 4 x.gapSince ++ leBytes 2 ref ++
    leBytes 2 (if k.point = 5 then 0 else s.capPeriod k.point (k.srcs.getD 0 0))
  head ++ leBytes 4 (crc32c (head ++ p.1)) ++ p.1
/-- The transport takes a block now: a USB3 endpoint holds two that the host has not read, of whatever stream (R505, R506). -/
def State.takesBlock (s : State) (slot : Nat) : Bool :=
  let x := s.stream slot
  if x.usb3 then s.link.usb3Up && decide ((s.epBlocks x.ep).length < 2) else s.bufferFree slot
/-- A delivered block. -/
def State.giveBlock (s : State) (slot : Nat) (bytes : List Byte) (last : Bool) : State :=
  let s := if (s.stream slot).usb3 then s.setEpBlocks (s.stream slot).ep (s.epBlocks (s.stream slot).ep ++ [(slot, bytes)])
    else (s.emit (.block slot bytes)).fillBuffer slot bytes.length last
  s.modStream slot (fun x => { x with blocks := x.blocks + 1, seq := x.seq + 1, gapSince := 0 })
/-- An abandoned block (R505). -/
def State.dropBlock (s : State) (slot : Nat) : State :=
  s.modStream slot (fun x => { x with
    gap := satUp 0xFFFF x.gap, seq := x.seq + 1, gapSince := x.gapSince + 1, abandoned := x.abandoned + 1 })
/-- The samples that a block of a stream holds (R503). -/
def CapSet.blockRoom (k : CapSet) : Nat := (1024 * k.blockKib - 32) / k.size
/-- The samples of one REF_DB at the front of a list (R496). -/
def oneGain (xs : List (Nat × Int × Captured)) : List (Nat × Int × Captured) :=
  match xs with
  | [] => []
  | a :: _ => xs.takeWhile (fun e => decide (e.2.1 = a.2.1))
/-- The samples of the block that closes now: a full one, one that a change of REF_DB closes, or at the end what is left
(R496, R503, R507); none while the block gathers. -/
def State.closing (s : State) (slot : Nat) : Option (List (Nat × Int × Captured)) :=
  let xs := (Table.get ({} : Taken) s.taken (slot * 4)).samples.reverse
  let ys := (oneGain xs).take (s.capSet slot).blockRoom
  if ys.length = (s.capSet slot).blockRoom ∨ ys.length < xs.length ∨ (s.stream slot).ending.isSome then some ys else none
/-- R165, R495, R503: a block closes and is delivered or abandoned; the last one ends the stream. -/
def execStreamBlock (dt slot : Nat) (_payload _nsamp _t0 _sat : Measured) (accepted : Bool) (s : State) :
    Host.Outcome State Fault Refusal :=
  let s := s.advance dt
  .next (if slot ≠ 0 ∧ s.slotRuns slot then
      match s.closing slot with
      | none => s
      | some ys =>
        let left := (Table.get ({} : Taken) s.taken (slot * 4)).samples.length - ys.length
        let ending := if left = 0 then (s.stream slot).ending else none
        let s : State := { s with taken := Table.modify {} s.taken (slot * 4) (fun x => { x with samples := x.samples.take left }) }
        let s := if accepted ∧ s.takesBlock slot then s.giveBlock slot (s.blockBytes slot ys ending.isSome) ending.isSome
          else s.dropBlock slot
        match ending with
        | some (st, sub) => s.endStream slot st sub
        | none => s
    else s)

/-! CAP_STATUS and CAP_STREAM_STATE (R512, R513). -/

def capStatusValue (s : State) : Nat :=
  let c := s.cap
  packFields [(2, c.lastWriter), (3, c.state), (2, c.nsrcM1),
    (1, ofBool (c.sat || (decide (c.owner = 1) && (List.range 4).any (fun i => (Table.get ({} : Taken) s.taken i).sat)))), (1, ofBool c.truncated), (3, c.sizeLog2),
    (4, 0), (24, c.valid), (24, c.trigPos)]
def capStreamValue (s : State) (n : Nat) : Nat :=
  let x := s.stream n
  packFields [(1, ofBool x.run), (2, ofBool x.usb3), (13, ceilDiv x.rate 10000000), (16, x.gap), (32, x.blocks % 4294967296)]

end Sys2Proof.Machine
end

