-- ==== Sys2Proof/Machine/Brass.lean ====
section
/-!
DEFINITION. The events and commands of the fault collector (14_faults.md), the memory errors of R45 to R47, R596 and
R598, the keep-alive, and the management pairs (R48).
-/

namespace Sys2Proof.Machine

/-! Detections (R568, R575). -/

/-- Sources whose condition is found in the sample path, a bus or a pair, and comes to the collector from there. -/
def outerSources : List Nat := [2, 3, 8, 9, 10, 11, 12, 14, 15, 38, 43, 52, 53, 57, 61, 63]
/-- A region of a loop's coefficients is failed (R353). -/
def failRegion (failed : List Nat) (n : Nat) : List Nat := if failed.contains n then failed else failed ++ [n]
/-- What the owning rule does at such a condition, whatever the collector does: CNV.DACCAL holds the trims (R138), a
saturation of the sample path is taken (R158), DSP.RESIDUE tags one output, MEM.CTL mutes until the failed region is rewritten (R353; which region
it is, is a free value [4]), LNK.TRAIN ends the boot step USB4, MEM.ROW of a write that read back otherwise uses up a spare row
(R596), a lost unit is removed (R575). -/
def State.outerAction (s : State) (d : Due) : State :=
  if d.bit = 2 then s.modCnv d.addr (fun x => { x with calStuck := true })
  else if d.bit = 9 then s.modSig d.addr (fun x => { x with satDue := none })
  else if d.bit = 11 then
    let k := s.cfg d.addr
    if s.enabled d.addr ∧ s.listening then
      s.addTag d.addr 3 (holding s.window k.d) (some (holding s.window k.d + k.d))
    else s
  else if d.bit = 43 then s.drawn.modLoop d.addr (fun x => { x with memMute := failRegion x.memMute (s.draw % (s.loopSet d.addr).nreg) })
  else if d.bit = 52 then s.endUsb4 false
  else if d.bit = 38 then
    s.modStore (fun t => { t with spares := if d.kind = 1 then Table.modify 0 t.spares d.addr (· + 1) else t.spares })
  else s.fixedAction d
/-- The kind that a condition from outside this model carries: its place among the alternatives of R138 (a trim's end, the
self-test), of R572 (DSP.LANE: residue failures, the self-test; MEM.ROW: replaced, exhausted) and of R262 (CAN.XFORM: the
self-test, the checksum); 0 elsewhere (R573). -/
def outerKind (b kind : Nat) : Bool := if [2, 8, 15, 38].contains b then decide (kind = 1) || decide (kind = 2) else decide (kind = 0)
/-- A condition that the sample path can show now: CNV.DAC while the chain transmits at -30 dBFS or
more, LNK.PCIE with the PCIe tunnel up (R572), DSP.SAT after a stage output saturated (R158), DSP.RESIDUE and
DSP.ALIGN of an enabled sub-band in LISTEN or REPEAT, LNK.TRAIN while the link is
down, MEM.ROW as its bank has spare rows or has none (R596). -/
def State.canOccur (s : State) (d : Due) : Bool :=
  outerSources.contains d.bit && addrOk d.bit d.addr d.kind && outerKind d.bit d.kind &&
    (if d.bit = 3 then s.transmits d.addr && decide (-503316480 ≤ (s.plausOf d.addr).pComp) else if d.bit = 9 then (s.sigOf d.addr).satDue.isSome else if d.bit = 52 then decide (s.link.mode = 0) else if d.bit = 53 then s.link.pcieUp else if d.bit = 11 ∨ d.bit = 12 then s.enabled d.addr && s.listening else if d.bit = 38 then decide (d.kind = 1) == decide (Table.get 0 s.store.spares d.addr < 128) else true)
/-- R568: a source's condition is detected, and the collector reacts at its level. What a block of this model has found
waits in `due`; the other conditions come from outside it. CNV.DACCAL counts as an event, whose FLT_LIVE bit R568 holds for
1 µs, and not as a condition that lasts while the trims stay held: the model's choice [97]. -/
def execFaultDetection (dt src addr kind : Nat) (s : State) : Host.Outcome State Fault Refusal :=
  let s := s.advance dt
  let d : Due := { bit := src, addr := addr, kind := kind }
  .next (if !s.collects then s
    else if s.flt.due.contains d then (s.modFlt (fun f => { f with due := f.due.erase d })).detect d false
    else if s.canOccur d then
      let s := s.modFlt (fun f => { f with pulse := Table.set 0 f.pulse src (s.now + 1967) })
      (s.outerAction d).detect d false
    else s)

/-- At the end of a shadow of class CTL the mismatch timers and the counts of consecutive misses restart (R354). -/
def State.ctlRestarts (s : State) : State :=
  let s := s.each chains (fun s c => s.modPlaus c (fun x => { x with timer := x.timer.map (fun _ => s.now) }))
  s.each (List.range 136) (fun s l => s.modLoop l (fun x => { x with missRun := 0 }))
/-- R584: a shadow ends. -/
def execShadowEnd (dt : Nat) (s : State) : Host.Outcome State Fault Refusal :=
  let s := s.advance dt
  let gone := s.flt.shadows.filter (fun e => decide (e.2 ≤ s.now))
  let s := s.modFlt (fun f => { f with shadows := f.shadows.filter (fun e => decide (s.now < e.2)) })
  let s := if gone.any (fun e => decide (e.1 = 4)) && !s.shadowed 4 then s.ctlRestarts else s
  .next (if s.phaseNow = 0 ∧ s.collects then s.refreshMerged (fun c => gone.any (fun e => decide (e.1 = c))) else s)
/-- R584: a merge phase has ended. -/
def execMergePhaseEnd (dt : Nat) (s : State) : Host.Outcome State Fault Refusal :=
  let s := s.advance dt
  .next (if s.phaseNow = 0 ∧ s.collects then s.refreshMerged (fun _ => true) else s)
/-- R591: the test phase ends 600 s after it started. -/
def execTestPhaseTimeout (dt : Nat) (s : State) : Host.Outcome State Fault Refusal :=
  let s := s.advance dt
  .next (match s.flt.test with
    | some t => if t + 600 * perSecond ≤ s.now then s.modFlt (fun f => { f with test := none }) else s
    | none => s)
/-- R588: firmware takes a message from the queue and posts its FAULT event; a stall delays it (R24). -/
def execFault (dt : Nat) (s : State) : Host.Outcome State Fault Refusal :=
  let s := s.advance dt
  .next (match s.flt.queue with
    | [] => s
    | (msg, level, injected) :: rest =>
      if s.sinkUp ∧ s.firmwareRuns then
        (s.modFlt (fun f => { f with queue := rest })).post 0x0040
          (leBytes 1 (msg / 1048576 % 256) ++ leBytes 1 level ++ leBytes 1 (ofBool injected) ++ leBytes 1 0 ++ leBytes 4 msg)
      else s)

/-! FLT_CONFIGURE, FLT_ACK, FLT_FORCE (R591 to R594). -/

def checkFltConfigure (r : Request) (_ : State) : Verdict :=
  if pu r 0 1 = 0 then checks [(decide (64 ≤ instOf r), badInst), (decide (4 < pu r 1 1), bad 1), reserved r 2 6]
  else if pu r 0 1 = 1 then
    checks [(decide (instOf r ≠ 0), badInst), (decide (pu r 1 1 = 0) || decide (4 < pu r 1 1), bad 1),
      (decide (1 < pu r 2 1), bad 2), reserved r 3 5]
  else bad 0
def applyFltConfigure (ref : CmdRef) (r : Request) (s : State) : State :=
  let v := pu r 1 1
  if pu r 0 1 = 0 then
    let b := instOf r
    let old := s.levelOf b
    let s : State := { s with set := { s.set with flt := { s.set.flt with severity := Table.set 0 s.set.flt.severity b (v + 1) } } }
    s.complete ref stOk 0 (old + 256 * defaultSeverity b)
  else
    let old := s.set.flt.aliveThr + 256 * ofBool s.flt.test.isSome
    let s := ({ s with set := { s.set with flt := { s.set.flt with aliveThr := v } } } : State).aliveFrom s
    let s := if !flag r 2 0 then s.modFlt (fun f => { f with test := none })
      else if s.flt.test.isSome then s
      else (s.phaseBegins).modFlt (fun f => { f with test := some s.now })
    s.complete ref stOk 0 old
def cmdFltConfigure : CmdDef := ⟨0x0901, 8, false, checkFltConfigure, applyFltConfigure⟩
/-- R591, KIND 0: sets a source's severity. -/
def execFltConfigureSeverity (dt : Nat) (r : Request) (s : State) : Host.Outcome State Fault Refusal :=
  .next ((s.advance dt).issue cmdFltConfigure (withByte r 0 0))
/-- R591, KIND 1: sets ALIVE_THR and starts or ends the test phase. -/
def execFltConfigureGlobal (dt : Nat) (r : Request) (s : State) : Host.Outcome State Fault Refusal :=
  .next ((s.advance dt).issue cmdFltConfigure (withByte r 0 1))

def checkFltAck (r : Request) (_ : State) : Verdict := checks [(decide (1 < pu r 8 1), bad 8), reserved r 9 7]
def applyFltAck (ref : CmdRef) (r : Request) (s : State) : State :=
  let s := s.acknowledge (BitVec.ofNat 64 (pu r 0 8)) (flag r 8 0)
  s.complete ref stOk 0 s.flt.status.toNat
def cmdFltAck : CmdDef := ⟨0x0902, 16, false, checkFltAck, applyFltAck⟩
/-- R592: acknowledges sources and may re-arm FLT_FIRST. -/
def execFltAck (dt : Nat) (r : Request) (s : State) : Host.Outcome State Fault Refusal :=
  .next ((s.advance dt).issue cmdFltAck r)

def checkFltForce (r : Request) (_ : State) : Verdict :=
  checks [(decide (64 ≤ instOf r), badInst), (decide (2 < pu r 0 1), bad 0), (decide (127 < pu r 1 1), bad 1),
    (!addrOk (instOf r) (pu r 2 2) (pu r 1 1), bad 2), reserved r 4 4]
/-- A forced detection reaches the collector only (R594). -/
def applyFltForce (ref : CmdRef) (r : Request) (s : State) : State :=
  let b := instOf r
  let d : Due := { bit := b, addr := pu r 2 2, kind := pu r 1 1 }
  if pu r 0 1 = 2 then
    (s.modFlt (fun f => { f with
      force := f.force &&& ~~~(BitVec.ofNat 64 (2 ^ b)), heldForce := Table.erase f.heldForce b })).complete ref stOk 0 0
  else
    let s := s.modFlt (fun f => { f with pulse := Table.set 0 f.pulse b (s.now + 1967) })
    let s := if pu r 0 1 = 1 then
        s.modFlt (fun f => { f with
          force := f.force ||| BitVec.ofNat 64 (2 ^ b), heldForce := Table.insert (Table.erase f.heldForce b) b (d.addr, d.kind) })
      else s
    let level := s.reaction d true
    (s.detect d true).complete ref stOk 0 (level.getD 255)
def cmdFltForce : CmdDef := ⟨0x0903, 8, false, checkFltForce, applyFltForce⟩
/-- R593, MODE 0: one forced detection. -/
def execFltForcePulse (dt : Nat) (r : Request) (s : State) : Host.Outcome State Fault Refusal :=
  .next ((s.advance dt).issue cmdFltForce (withByte r 0 0))
/-- R593, MODE 1: a forced detection that is then held. -/
def execFltForceHold (dt : Nat) (r : Request) (s : State) : Host.Outcome State Fault Refusal :=
  .next ((s.advance dt).issue cmdFltForce (withByte r 0 1))
/-- R593, MODE 2: the hold ends. -/
def execFltForceRelease (dt : Nat) (r : Request) (s : State) : Host.Outcome State Fault Refusal :=
  .next ((s.advance dt).issue cmdFltForce (withByte r 0 2))

/-! Memory errors (R45 to R47, R253, R353, R376, R565, R572, R596, R598). -/

/-- A finding goes to the collector: left for it, or as a forced detection where the error was planted (R565). -/
def State.report (s : State) (injected : Bool) (b addr kind : Nat) : State :=
  if injected then s.detect { bit := b, addr := addr, kind := kind } true else s.raise b addr kind
/-- The victim sub-band whose bins hold a word of the coupling map (R231). -/
def State.binOwner (s : State) (word : Nat) : Option Nat :=
  let off := word % 65536
  (sbsOf (word / 65536 / 4)).find? (fun g =>
    decide ((s.canOf g).base ≤ off) && decide (off < (s.canOf g).base + (s.canOf g).nb))
/-- The group and direction whose pages hold an entry of the gate tables (R366). -/
def State.gateOwner (s : State) (word : Nat) : Option Nat :=
  let up := decide (4096 ≤ word)
  (List.range 4).find? (fun t =>
    let k := s.tddSet t
    let n := 2 * if up then k.lenUl else k.lenDl
    decide (pageAt k up 0 ≤ word) && decide (word < pageAt k up 0 + n))
/-- A row of the store is replaced by a spare of its bank, while there is one (R42, R596). -/
def State.replaceRow (s : State) (injected : Bool) (bank : Nat) : State :=
  if Table.get 0 s.store.spares bank < 128 then
    (s.modStore (fun t => { t with spares := Table.modify 0 t.spares bank (· + 1) })).report injected 38 bank 1
  else s.report injected 38 bank 2
/-- A correctable error in a word of the store: two in one row within a scrub period replace the row (R596). -/
def State.storeCorrected (s : State) (injected : Bool) (word : Nat) : State :=
  let row := word / 128
  let old := Table.get 0 s.store.rowErr row
  if old = 0 ∨ old = word + 1 then s.modStore (fun t => { t with rowErr := Table.set 0 t.rowErr row (word + 1) })
  else (s.modStore (fun t => { t with rowErr := Table.erase t.rowErr row })).replaceRow injected (word / 1048576)
/-- The partition of a word of the store (R595). -/
def partitionOf (word : Nat) : Nat :=
  let a := word * 8
  if a < 0x100000 then 0 else if a < 0x1100000 then 1 else if a < 0x1500000 then 2 else if a < 0x1800000 then 3
  else if a < 0x3800000 then 4 else 5
/-- Both copies of an object have failed (R598, R673). Of the profiles partition: 0 the stored profile, 1 the resume image, 2
BOOT_CONFIG, then a kept PHYS and a latch for each sub-band. Of partition 0: 300 to 302 the counters, which resume from the
newest ledger entry, 303 the host time, 304 the alternate flags, then the recorder's configuration and the ledger's entries, of
which the newest stays, as do ACTIVE_IMG and what a counter gains at the next power-on: the model's choices [98]. -/
def Store.dropObject (t : Store) (n : Nat) : Store :=
  let last := t.ledger.head?
  if n = 0 then { t with profile := none }
  else if n = 1 then { t with resume := none }
  else if n = 2 then { t with bootConfig := { activeImg := t.bootConfig.activeImg } }
  else if n < 131 then { t with kept := Table.erase t.kept (n - 3) }
  else if n < 259 then { t with latch := Table.set false t.latch (n - 131) true }
  else if n = 300 then { t with opsec := none }
  else if n = 301 then { t with powerCycles := (last.map Ledger.powerCycles).getD 0 }
  else if n = 302 then { t with clearCount := (last.map Ledger.clearCount).getD 0 }
  else if n = 303 then { t with hostOfs := 0, hostValid := false }
  else if n = 304 then { t with alt := 0 }
  else if n < 400 then { t with trig := Table.erase t.trig (n - 305) }
  else if n < 656 then { t with snapList := Table.erase t.snapList (n - 400) }
  else if 660 ≤ n ∧ n < 674 then { t with cmdSel := Table.erase t.cmdSel (n - 660) }
  else if 680 ≤ n ∧ n < 808 then { t with stats := Table.erase t.stats (n - 680) }
  else if 1000 ≤ n then { t with ledger := t.ledger.take 1 ++ (t.ledger.drop 1).filter (fun e => e.bootNum % 1024 != n - 1000) }
  else t
/-- One copy of an object fails; the intact copy is used while there is one (R598, R673). -/
def Store.failCopy (t : Store) (n copy : Nat) : Store :=
  if t.half.contains (n, 1 - copy) then { t.dropObject n with half := t.half.filter (fun e => e.1 != n) }
  else if t.half.contains (n, copy) then t
  else { t with half := t.half ++ [(n, copy)] }
/-- What an uncorrectable word of the store does (R598, R673). Which stored set or object a word of the calibration
partition belongs to, and which object and copy one of partitions 0 and 3, is not stated: a free value chooses it [4]. -/
def State.storeBroken (s : State) (word : Nat) : State :=
  let a := word * 8
  let p := partitionOf word
  if p = 0 then
    let n := 300 + s.draw % 1800
    let c := s.draw / 1800 % 2
    s.drawn.modStore (fun t => t.failCopy n c)
  else if p = 3 then
    let n := s.draw % 260
    let c := s.draw / 260 % 2
    s.drawn.modStore (fun t => t.failCopy n c)
  else if p = 1 then s.modStore (fun t => if a < 0x900000 then { t with validA := false } else { t with validB := false })
  else if p = 2 then
    let n := s.draw % 56
    s.drawn.modStore (fun t =>
      if n < 40 then { t with sets := Table.erase t.sets n }
      else if n < 48 then { t with fenceMap := Table.set 0 t.fenceMap (n - 40) 0 }
      else { t with lineup := Table.erase t.lineup (n - 48) })
  else if p = 4 then
    let slot := (a - 0x1800000) / 256
    let w := word % 32
    s.modStore (fun t => { t with records := t.records.map (fun x =>
      if x.seq % 131072 = slot ∧ !x.bad.contains w then { x with bad := x.bad ++ [w] } else x) })
  else if p = 5 then
    let off := a - 0x3800000
    s.modStore (fun t =>
      if off < 0x88000 then { t with lives := Table.erase t.lives (off / 2176) }
      else { t with buckets := Table.erase t.buckets ((off - 0x88000) / 320) })
  else s
/-- A coefficient bank is lost: it is not loaded (R188), and where the sub-band uses it, active or in a fade, the
sub-band is muted with its bins cleared until a load (R46, R192). -/
def State.loseBank (s : State) (g : Nat) (tx : Bool) (b : Nat) : State :=
  let used := decide ((s.sbSet g).act tx = b) || ((s.sbOf g).fade tx).any (fun f => decide (f.first ≤ s.window))
  let s := s.modSbSet g (fun x => x.setBank tx b { x.bank tx b with loaded := false })
  if used then
    (s.clearCan g).modSb g (fun x => if tx then { x with muteTx := true } else { x with muteRx := true })
  else s
/-- The pair that read a word of management SRAM (R47): the one that is not fenced; which of two is a free value [4]. -/
def State.sramReader (s : State) : Nat :=
  if s.boot.pairFenced = 0 then s.draw % 2
  else if s.boot.pairFenced = 3 then s.boot.pair
  else if bit s.boot.pairFenced.toNat 0 then 1 else 0
/-- An uncorrectable error, memory by memory in the order of R45. The address of a report for a word that nothing uses,
a map word outside every allocation, a store slot that no loop holds, a gate word outside every page, is the model's
choice [91]. -/
def State.uncorrectable (s : State) (injected : Bool) (mem word : Nat) : State :=
  if mem = 0 then
    match s.binOwner word with
    | some g => ((s.clearCan g).modSb g (fun x => { x with muteMap := true })).report injected 40 g 0
    | none => s.report injected 40 (word / 262144 * 16) 0
  else if mem = 1 then
    let g := word / 768
    (s.loseBank g false (word / 384 % 2)).report injected 41 g 0
  else if mem = 2 then
    let g := word / 256
    (s.loseBank g true (word / 128 % 2)).report injected 42 g 0
  else if mem = 3 then
    let n := word / 9600
    let s := s.modSlot n (fun x => { x with mem := [], j := 0 })
    s.report injected 44 (((List.range 136).find? (fun l => decide ((s.loopOf l).slot = some n))).getD n) 0
  else if mem = 4 then
    match s.gateOwner word with
    | some t =>
      let up := decide (4096 ≤ word)
      (s.modTdd t (fun x => if up then { x with muteUl := true } else { x with muteDl := true })).report injected 45
        (t * 2 + ofBool up) 0
    | none => s.report injected 45 (ofBool (decide (4096 ≤ word))) 0
  else if mem = 5 then
    ({ s with cap := { s.cap with buf := s.cap.buf.mapIdx (fun i b => if i / 8 = word then 0 else b) } } : State).report injected 46 0 0
  else if mem = 6 then (s.fenceRing word).report injected 47 (word % 4096) (word / 4096)
  else if mem = 7 then (s.modFlt (fun f => { f with queue := f.queue.eraseIdx word })).report injected 49 word 0
  else if mem = 8 then
    let p := s.sramReader
    ((s.drawn).fencePair p).report injected 48 p 0
  else (s.storeBroken word).report injected 39 (partitionOf word) 0
/-- Words of each memory (R45). -/
def memWords : List Nat := [2097152, 98304, 32768, 307200, 8192, 2097152, 16384, 256, 1048576, 8388608]
/-- An access or scrub finds an error. The message queue has parity alone: any error of it is not corrected (R45). -/
def State.memoryError (s : State) (mem word : Nat) (double injected : Bool) : State :=
  if double ∨ mem = 7 then s.uncorrectable injected mem word
  else
    let s := if mem = 9 then s.storeCorrected injected word else s
    s.report injected 37 mem 0
/-- R46: an error is found, one that was planted or one that has arisen. -/
def execMemoryError (dt mem word : Nat) (double : Bool) (s : State) : Host.Outcome State Fault Refusal :=
  let s := s.advance dt
  .next (if s.collects ∧ mem < 10 ∧ word < memWords.getD mem 0 then
      let planted := s.mem.planted.contains (mem, word, double)
      let s : State := { s with mem := { s.mem with planted := s.mem.planted.erase (mem, word, double) } }
      s.memoryError mem word double planted
    else s)
/-- A pass over some of the memories finds what is planted there (R565). -/
def State.scrub (s : State) (here : Nat → Bool) : State :=
  (s.mem.planted.filter (fun e => here e.1)).foldl (fun (s : State) e => s.memoryError e.1 e.2.1 e.2.2 true)
    { s with mem := { s.mem with planted := s.mem.planted.filter (fun e => !here e.1) } }
/-- R39: the scrub has passed every ECC-protected on-chip memory: all but the message queue and the store (R45). -/
def execSramScrubPass (dt : Nat) (s : State) : Host.Outcome State Fault Refusal :=
  let s := s.advance dt
  .next (if s.collects ∧ s.mem.sramPass + perSecond ≤ s.now then
      ({ s with mem := { s.mem with sramPass := s.now } } : State).scrub (fun m => decide (m ≠ 7 ∧ m ≠ 9))
    else s)
/-- R39, R597: the store's scrub has completed its 24 h pass. -/
def execMramScrubPass (dt : Nat) (s : State) : Host.Outcome State Fault Refusal :=
  let s := s.advance dt
  .next (if s.collects ∧ s.mem.mramPass + 86400 * perSecond ≤ s.now then
      (({ s with mem := { s.mem with mramPass := s.now } } : State).scrub (fun m => decide (m = 9))).modStore
        (fun t => { t with rowErr := [] })
    else s)
/-- The check of the NCO accumulators is made now; the next follows a second later. -/
def State.ncoChecked (s : State) : State := { s with mem := { s.mem with ncoAt := s.now } }
/-- R572: the check made once per second finds NCO accumulators that differ from global time. -/
def execNcoCheck (dt : Nat) (bad : List Nat) (s : State) : Host.Outcome State Fault Refusal :=
  let s := s.advance dt
  .next (if s.collects ∧ s.radio.pllLocked ∧ s.mem.ncoAt + perSecond ≤ s.now then
      s.ncoChecked.each (bad.filter (fun a => addrOk 13 a 0)) (fun s a => s.raise 13 a 0)
    else s)

/-! The keep-alive and the pairs (R48, R589, R590, R703). -/

/-- The latest boundary of 1.000 ms, counted from the start of ALIVE; on the fallback oscillator, whose phase nothing gives, any
moment may be one (R589): the model's choice [98]. -/
def State.aliveEdge (s : State) : Time :=
  if s.radio.fallback then s.now else s.flt.aliveAt + (s.now - s.flt.aliveAt) / perMs * perMs
/-- The least time between two boundaries: the fallback oscillator may run 5 % fast (R63, R589). -/
def State.aliveMs (s : State) : Time := if s.radio.fallback then perMs * 19 / 20 else perMs
/-- R589: ALIVE changes level at the boundaries of 1.000 ms, while it runs: after a stop from the first on at which both its
conditions hold again. -/
def execAliveToggle (dt : Nat) (s : State) : Host.Outcome State Fault Refusal :=
  let s := s.advance dt
  .next (if s.aliveRuns ∧ s.flt.aliveAt + s.aliveMs ≤ s.now ∧ s.flt.aliveOk ≤ s.aliveEdge then
      s.modFlt (fun f => { f with alive := !f.alive, aliveAt := s.aliveEdge })
    else s)
/-- R589: firmware feeds the keep-alive. -/
def execKeepaliveFeed (dt : Nat) (s : State) : Host.Outcome State Fault Refusal :=
  let s := s.advance dt
  .next (if s.firmwareRuns then (s.modFlt (fun f => { f with fed := some s.now, watch := some s.now })).aliveFrom s else s)
/-- R590: the keep-alive has not been fed for 100 ms: MGT.KEEPALIVE, whose fence is a fixed action (R575). -/
def execKeepaliveTimeout (dt : Nat) (s : State) : Host.Outcome State Fault Refusal :=
  let s := s.advance dt
  .next (match s.flt.watch with
    | some t =>
      if t + 100 * perMs < s.now ∧ s.collects then
        let p := s.boot.pair
        ((s.modFlt (fun f => { f with fed := none, watch := none })).fencePair p).raise 58 p 0
      else s
    | none => s)
/-- R48: the standby pair becomes active, and has 100 ms for its first keep-alive (R590). -/
def execPairTakeover (dt : Nat) (s : State) : Host.Outcome State Fault Refusal :=
  let s := s.advance dt
  .next (if s.boot.takeover ∧ s.boot.pairFenced ≠ 3 then
      ((s.modBoot (fun b => { b with takeover := false, pair := 1 - b.pair })).modFlt (fun f => { f with
        watch := some (f.watch.getD s.now) })).hkResume else s)
/-- R545: every completion of a barrier is posted and a pair is active. -/
def execRecoveryEnd (dt : Nat) (s : State) : Host.Outcome State Fault Refusal :=
  let s := s.advance dt
  .next (match s.jcp.barriers.find? (fun b => s.barrierDone b) with
    | some b =>
      (s.modJcp (fun j => { j with barriers := j.barriers.erase b })).post 0x0003
        (leBytes 2 b.number ++ leBytes 2 0 ++ leBytes 4 b.aborted)
    | none => s)

end Sys2Proof.Machine
end

