-- ==== Sys2Proof/Machine/Objects.lean ====
section
/-!
DEFINITION. The parameter objects of R567 and those of the groups 0x0A, 0x0B and 0x0C: their sizes, instances and
values, what a read clears and what a write changes (R16, R559, R560); IDENTIFY, OBJ_READ, OBJ_WRITE and the rows of
writes to one object; telemetry (R555, R556) and the BAR2 mirror (R485).
-/

namespace Sys2Proof.Machine

/-! The index (R567, R621 to R626, R653, R674, R675). -/

/-- Size in bytes, first instance, and number of instances; none where no object has the ID. -/
def objShape (o : Nat) : Option (Nat × Nat × Nat) :=
  match o with
  | 0x0010 => some (64, 0, 16384)
  | 0x0011 => some (8, 0, 1)
  | 0x0012 => some (8, 0, 1)
  | 0x0100 => some (4, 0, 1)
  | 0x0101 => some (4, 0, 1)
  | 0x0210 => some (8, 0, 8)
  | 0x0211 => some (8, 0, 8)
  | 0x0212 => some (8, 0, 8)
  | 0x0213 => some (8, 0, 8)
  | 0x0214 => some (8, 0, 8)
  | 0x0220 => some (8, 0, 128)
  | 0x0221 => some (8, 0, 8)
  | 0x0222 => some (8, 0, 128)
  | 0x0320 => some (8, 0, 128)
  | 0x0330 => some (8, 0, 128)
  | 0x0331 => some (8, 0, 128)
  | 0x0420 => some (8, 0, 136)
  | 0x0421 => some (8, 0, 8)
  | 0x0422 => some (8, 0, 8)
  | 0x0423 => some (16, 0, 8)
  | 0x0520 => some (8, 0, 4)
  | 0x0521 => some (8, 0, 128)
  | 0x0522 => some (8, 0, 1)
  | 0x0600 => some (8, 0, 8)
  | 0x0610 => some (8, 0, 16)
  | 0x0620 => some (8, 0, 21)
  | 0x0630 => some (16, 0, 1)
  | 0x0700 => some (8, 0, 1)
  | 0x0701 => some (8, 0, 1)
  | 0x0702 => some (8, 0, 32)
  | 0x0711 => some (8, 0, 1)
  | 0x0712 => some (8, 0, 8)
  | 0x0800 => some (8, 0, 1)
  | 0x0801 => some (8, 1, 16)
  | 0x0900 => some (8, 0, 1)
  | 0x0901 => some (8, 0, 1)
  | 0x0902 => some (16, 0, 1)
  | 0x0903 => some (8, 0, 1)
  | 0x0A00 => some (16, 0, 1)
  | 0x0A01 => some (16, 0, 1)
  | 0x0A10 => some (8, 0, 0x41)
  | 0x0A11 => some (8, 0, 256)
  | 0x0A12 => some (8, 0, 14)
  | 0x0A20 => some (8, 0, 128)
  | 0x0B00 => some (8, 0, 2)
  | 0x0C00 => some (8, 0, 1)
  | 0x0C01 => some (8, 0, 1)
  | _ => none
/-- Size of an object in bytes; 0 where there is none. -/
def objSize (o : Nat) : Nat := ((objShape o).map Prod.fst).getD 0
/-- The object has every instance of a range; REC_TRIG_CONFIG has the codes of R606 only (R623). -/
def objHas (o first count : Nat) : Bool :=
  match objShape o with
  | some (_, lo, n) =>
    decide (lo ≤ first) && decide (first + count ≤ lo + n) &&
      (decide (o ≠ 0x0A10) || (List.range count).all (fun i => trigCodes.contains (first + i)))
  | none => false

/-! Values that no chapter file of the model gives (R140, R142, R143, R398, R399, R523, R563). -/

def ovrValue (s : State) (c : Nat) : Nat :=
  let x := s.cnvOf c
  packFields [(16, x.ovrCount), (1, ofBool x.ovrSticky), (1, ofBool x.ovrActive), (2, x.steps.length), (11, 0),
    (33, x.sliceOvr)]
def sliceValue (s : State) (c : Nat) : Nat :=
  let x := s.cnvOf c
  packFields [(6, x.spare), (5, x.nextPos), (3, 0), (1, ofBool x.rotRun), (1, ofBool x.fenced), (8, x.skip), (7, 0),
    (33, x.sliceFenced)]
def txStatusValue (s : State) (c : Nat) : Nat :=
  let x := s.cnvOf c
  packFields [(16, x.clipCount), (1, ofBool x.clipSticky), (1, ofBool (x.calHold || x.calStuck)), (14, 0), (16, x.gainErr),
    (16, 0)]
/-- TDD_STATE (R398); the seconds that remain are rounded up (R702). -/
def tddStateValue (s : State) (t : Nat) : Nat :=
  let x := s.tddOf t
  let k := s.tddSet t
  packFields [(3, x.sync), (1, k.pageDl), (1, k.pageUl), (1, ofBool x.pendDl.isSome), (1, ofBool x.pendUl.isSome),
    (1, ofBool x.learning.isSome), (1, ofBool x.learned), (10, x.sfn), (5, x.gf),
    (8, if x.sync = 3 then min 255 (ceilDiv (x.holdEnd - s.now) perSecond) else 0), (16, bitsOf 16 x.timeErr),
    (8, x.clash), (8, x.mixed)]
/-- NP_STATE (R399). Fields that only a running sub-band has read as at reset while it is disabled. -/
def npStateValue (s : State) (g : Nat) : Nat :=
  let on := s.enabled g
  let b := (s.npSb g).band
  let x := s.bandOf b
  let has := decide (b < 16)
  let uln := on && has && isUplink (chainOf g) && (s.npBand b).ulnEn && x.uln.isSome && !s.donorMuted g
  let level := match (if has then x.level else none) with
    | some l => bitsOf 12 (centiToDeci l)
    | none => 0x800
  let bound := match (if on then s.protection g (s.loopOf g).yIn else none) with
    | some v => bitsOf 12 (deci v)
    | none => 0x800
  packFields [(1, ofBool (on && s.donorMuted g)), (1, ofBool uln), (1, ofBool (on && s.gateFull g)), (1, ofBool has),
    (4, if has then b else 0), (12, level), (12, if has then bitsOf 12 (centiToDeci x.lc) else 0),
    (12, if has then bitsOf 12 (centiToDeci (x.uln.getD 0)) else 0), (12, bound), (8, 0)]
/-- RING_CTX (R523). -/
def ringValue (s : State) (n : Nat) : Nat :=
  let r := s.ring n
  packFields [(64, r.base), (16, r.tail), (16, r.head), (16, r.peer), (1, ofBool r.irqEn), (11, r.vector), (4, r.type),
    (5, r.log2size), (3, r.state), (1, ofBool r.phase), (4, r.weight), (8, r.modCount), (16, r.modUs), (4, r.esz),
    (7, r.err), (32, r.started), (32, r.completed), (16, (s.queue n).length), (16, (s.entries n).length), (32, r.lost),
    (208, 0)]
def jcpConfigValue (s : State) : Nat :=
  packFields [(16, s.jcp.session), (12, s.set.keepS), (16, s.outstanding), (20, 0)]

/-- The value of an object's instance, RC fields as they stand (R16). -/
def State.objValue (s : State) (o i : Nat) : Nat :=
  match o with
  | 0x0010 => ringValue s i
  | 0x0011 => jcpConfigValue s
  | 0x0012 => linkStatusValue s
  | 0x0100 => radioStatusValue s
  | 0x0101 => radioConfigValue s
  | 0x0210 => winValue s i
  | 0x0211 => ovrValue s i
  | 0x0212 => attValue s i
  | 0x0213 => sliceValue s i
  | 0x0214 => txStatusValue s i
  | 0x0220 => sbStateValue s i
  | 0x0221 => chainBudgetValue s i
  | 0x0222 => sbFilterValue s i
  | 0x0320 => canStateValue s i
  | 0x0330 => govStateValue s i
  | 0x0331 => govRestartValue s i
  | 0x0420 => ctlStateValue s i
  | 0x0421 => outerStateValue s i
  | 0x0422 => plausValue s i
  | 0x0423 => lineupValue s i
  | 0x0520 => tddStateValue s i
  | 0x0521 => npStateValue s i
  | 0x0522 => tddOutValue s
  | 0x0600 => feStateValue s i
  | 0x0610 => pgStateValue s i
  | 0x0620 => wmStateValue s i
  | 0x0630 => pinStateValue s
  | 0x0700 => hkDataValue s
  | 0x0701 => hkStatusValue s
  | 0x0702 => hkLastValue s i
  | 0x0711 => thStatusValue s
  | 0x0712 => thZoneValue s i
  | 0x0800 => capStatusValue s
  | 0x0801 => capStreamValue s i
  | 0x0900 => s.flt.status.toNat
  | 0x0901 => fltLiveValue s
  | 0x0902 => fltFirstValue s
  | 0x0903 => s.flt.force.toNat
  | 0x0A00 => recStatusValue s
  | 0x0A01 => recTimeValue s
  | 0x0A10 => recTrigValue s i
  | 0x0A11 => recSnapValue s i
  | 0x0A12 => (s.cmdSel i).toNat
  | 0x0A20 => recStatsValue s i
  | 0x0B00 => twbStateValue s i
  | 0x0C00 => bootStatusValue s
  | 0x0C01 => bootConfigValue s
  | _ => 0

/-- A read clears the RC fields of an instance to their reset values (R16, R559). -/
def State.objClear (s : State) (o i : Nat) : State :=
  match o with
  | 0x0012 => clearLinkStatus s
  | 0x0211 => s.modCnv i (fun x => { x with ovrCount := 0 })
  | 0x0213 => s.modCnv i (fun x => { x with skip := 0 })
  | 0x0214 => s.modCnv i (fun x => { x with clipCount := 0 })
  | 0x0222 => s.modSb i (fun x => { x with settle := 0 })
  | 0x0320 => s.modCan i (fun x => { x with diverge := 0 })
  | 0x0420 => s.modLoop i (fun x => { x with missedCount := 0 })
  | 0x0520 => s.modTdd i (fun x => { x with clash := 0 })
  | 0x0600 => s.modFe i (fun x => { x with trips := 0 })
  | 0x0610 => s.modPg i (fun x => { x with tripCount := 0 })
  | 0x0620 => s.modWm i (fun x => { x with count := 0 })
  | 0x0701 => { s with hk := { s.hk with ovrCount := 0, trigMiss := 0, dropCount := 0 } }
  | 0x0711 => { s with th := { s.th with stopCount := 0 } }
  | 0x0712 => { s with th := { s.th with peak := Table.set 0 s.th.peak i 0 } }
  | 0x0801 => s.modStream i (fun x => { x with gap := 0 })
  | 0x0A00 => s.modRec (fun x => { x with missed := 0 })
  | 0x0B00 => s.modTwb i Twb.cleared
  | _ => s

/-! OBJ_READ (R559). -/

/-- Bytes of `count` instances, each read and then cleared. -/
def State.readObjects (s : State) (o first : Nat) : Nat → List Byte × State
  | 0 => ([], s)
  | n + 1 =>
    let v := leBytes (objSize o) (s.objValue o first)
    let rest := (s.objClear o first).readObjects o (first + 1) n
    (v ++ rest.1, rest.2)

/-- The checks of OBJ_READ. -/
def checkObjRead (r : Request) (_ : State) : Verdict :=
  let o := r.object.toNat
  let n := pu r 8 2
  checks [
    ((objShape o).isNone, .fail stBadObject 1), (!objHas o (instOf r) (if n = 0 ∨ 16384 < n then 1 else n), badInst),
    (!byPcie r && decide (pu r 0 8 ≠ 0), bad 0), (decide (n = 0) || decide (16384 < n), bad 8), reserved r 10 6,
    (decide (pu r 0 8 = 0) && (decide (n ≠ 1) || decide (8 < objSize o)), combo)]
/-- The effect of OBJ_READ: the value in the result, or the data and their CRC-32C. -/
def applyObjRead (ref : CmdRef) (r : Request) (s : State) : State :=
  let x := s.readObjects r.object.toNat (instOf r) (pu r 8 2)
  if pu r 0 8 = 0 then x.2.complete ref stOk 0 (leAt x.1 0 8)
  else (x.2.giveData ref (pu r 0 8) x.1).complete ref stOk 0 (crc32c x.1)
def cmdObjRead : CmdDef := ⟨0x0003, 16, false, checkObjRead, applyObjRead⟩
/-- R559. -/
def execObjRead (dt : Nat) (r : Request) (s : State) : Host.Outcome State Fault Refusal :=
  .next ((s.advance dt).issue cmdObjRead r)

/-! OBJ_WRITE (R560). -/

/-- RW bits of an object, as (high, low) pairs. -/
def objRw (o : Nat) : List (Nat × Nat) :=
  match o with
  | 0x0011 => [(47, 36)]
  | 0x0101 => [(31, 24), (16, 0)]
  | 0x0210 => [(63, 0)]
  | 0x0212 => [(63, 59), (47, 0)]
  | 0x0422 => [(63, 32)]
  | 0x0423 => [(127, 0)]
  | 0x0522 => [(63, 52), (47, 16)]
  | 0x0A10 => [(63, 60), (47, 32)]
  | 0x0A11 => [(63, 63), (47, 16)]
  | 0x0A12 => [(63, 0)]
  | 0x0A20 => [(63, 24)]
  | 0x0C01 => [(63, 62), (55, 42)]
  | _ => []
/-- W1C bits of an object. -/
def objW1c (o : Nat) : List (Nat × Nat) :=
  match o with
  | 0x0211 => [(47, 47), (32, 0)]
  | 0x0214 => [(47, 47)]
  | 0x0220 => [(59, 59)]
  | 0x0420 => [(43, 43)]
  | 0x0620 => [(59, 59)]
  | 0x0701 => [(63, 63)]
  | 0x0900 => [(63, 0)]
  | 0x0B00 => [(60, 60)]
  | _ => []
/-- The bits of a list of fields, as a mask. -/
def fieldMask (fs : List (Nat × Nat)) : BitVec 128 := BitVec.ofNat 128 ((fs.map (fun f => 2 ^ (f.1 + 1) - 2 ^ f.2)).sum)
/-- VALUE and MASK of an object write. -/
def writeValue (r : Request) : BitVec 128 := BitVec.ofNat 128 (pu r 0 16)
def writeMask (r : Request) : BitVec 128 := BitVec.ofNat 128 (pu r 16 16)
/-- What the RW bits hold after the write. -/
def State.merged (s : State) (r : Request) : Nat :=
  let old := BitVec.ofNat 128 (s.objValue r.object.toNat (instOf r))
  ((old &&& ~~~writeMask r) ||| (writeValue r &&& writeMask r)).toNat
/-- The W1C bits that the write clears. -/
def clearedBits (r : Request) : Nat := (writeValue r &&& writeMask r &&& fieldMask (objW1c r.object.toNat)).toNat

/-- KEEP_S is 0 to 3,600 (R563). -/
def checkJcpConfig (v : Nat) : Verdict := checks [(decide (3600 < bitsAt v 47 36), badField 36)]
/-- A VALID entry names an object of R567 or of the recorder, and an instance that exists or the subject (R624). -/
def checkRecSnap (v : Nat) : Verdict :=
  let o := bitsAt v 47 32
  let i := bitsAt v 31 16
  let known := (objShape o).isSome && !(decide (0x0B00 ≤ o))
  checks [(bit v 63 && known && decide (i ≠ 65535) && !objHas o i 1, badField 16), (bit v 63 && !known, badField 32)]

/-- The owning chapter's rules for the value that a write would leave (R560). -/
def State.objCheck (s : State) (o i v : Nat) : Verdict :=
  match o with
  | 0x0011 => checkJcpConfig v
  | 0x0101 => checkRadioConfig v s
  | 0x0210 => checkWin i v s
  | 0x0212 => checkAtt v
  | 0x0422 => checkPlaus v s
  | 0x0522 => checkTddOut v s
  | 0x0A10 => checkRecTrig i v
  | 0x0A11 => checkRecSnap v
  | 0x0A20 => checkRecStats i v s
  | 0x0C01 => checkBootConfig v
  | _ => .ok
/-- The checks of OBJ_WRITE. -/
def checkObjWrite (r : Request) (s : State) : Verdict :=
  let o := r.object.toNat
  checks [
    ((objShape o).isNone, .fail stBadObject 1), (!objHas o (instOf r) 1, badInst),
    ((objRw o).isEmpty && (objW1c o).isEmpty, .fail stBadObject 3),
    (decide (writeMask r &&& ~~~(fieldMask (objRw o) ||| fieldMask (objW1c o)) ≠ 0), combo),
    (true, s.objCheck o (instOf r) (s.merged r))]

/-- The RW bits of an instance take a value. -/
def State.objPut (s : State) (o i v : Nat) : State :=
  match o with
  | 0x0011 => { s with set := { s.set with keepS := bitsAt v 47 36 } }
  | 0x0101 => writeRadioConfig v s
  | 0x0210 => writeWin i v s
  | 0x0212 => writeAtt i v s
  | 0x0422 => writePlaus i v s
  | 0x0423 => writeLineup i v s
  | 0x0522 => writeTddOut v s
  | 0x0A10 => writeRecTrig i v s
  | 0x0A11 => writeRecSnap i v s
  | 0x0A12 => writeRecCmdSel i v s
  | 0x0A20 => writeRecStats i v s
  | 0x0C01 => writeBootConfig v s
  | _ => s
/-- W1C bits of an instance are cleared. Those of FLT_STATUS act as FLT_ACK without REARM (R592). -/
def State.objW1cClear (s : State) (o i m : Nat) : State :=
  match o with
  | 0x0211 => s.modCnv i (fun x => { x with
      ovrSticky := x.ovrSticky && !bit m 47
      sliceOvr := (BitVec.ofNat 33 x.sliceOvr &&& ~~~BitVec.ofNat 33 m).toNat })
  | 0x0214 => s.modCnv i (fun x => { x with clipSticky := x.clipSticky && !bit m 47 })
  | 0x0220 => s.modSig i (fun x => { x with sat := x.sat && !bit m 59 })
  | 0x0420 => s.modLoop i (fun x => { x with missed := x.missed && !bit m 43 })
  | 0x0620 => s.modWm i (fun x => { x with sticky := x.sticky && !bit m 59 })
  | 0x0701 => { s with hk := { s.hk with ovr := s.hk.ovr && !bit m 63 } }
  | 0x0900 => s.acknowledge (BitVec.ofNat 64 m) false
  | 0x0B00 => s.modTwb i (fun x => { x with sdaStuck := x.sdaStuck && !bit m 60 })
  | _ => s
/-- The effect of OBJ_WRITE. -/
def applyObjWrite (ref : CmdRef) (r : Request) (s : State) : State :=
  let o := r.object.toNat
  ((s.objPut o (instOf r) (s.merged r)).objW1cClear o (instOf r) (clearedBits r)).complete ref stOk 0 0
def cmdObjWrite : CmdDef := ⟨0x0004, 32, false, checkObjWrite, applyObjWrite⟩
/-- R560. -/
def execObjWrite (dt : Nat) (r : Request) (s : State) : Host.Outcome State Fault Refusal :=
  .next ((s.advance dt).issue cmdObjWrite r)

/-- An object write that names one object. -/
def State.writeTo (s : State) (o : Nat) (r : Request) : State := s.issue cmdObjWrite { r with object := BitVec.ofNat 16 o }

/-- R93, R94. -/
def execRadioConfigWrite (dt : Nat) (r : Request) (s : State) : Host.Outcome State Fault Refusal :=
  .next ((s.advance dt).writeTo 0x0101 r)
/-- R133, R139. -/
def execWinConfigWrite (dt : Nat) (r : Request) (s : State) : Host.Outcome State Fault Refusal :=
  .next ((s.advance dt).writeTo 0x0210 r)
/-- R141, R706. -/
def execCnvAttConfigWrite (dt : Nat) (r : Request) (s : State) : Host.Outcome State Fault Refusal :=
  .next ((s.advance dt).writeTo 0x0212 r)
/-- R351. -/
def execCtlPlausConfigWrite (dt : Nat) (r : Request) (s : State) : Host.Outcome State Fault Refusal :=
  .next ((s.advance dt).writeTo 0x0422 r)
/-- R352. -/
def execCtlLineupWrite (dt : Nat) (r : Request) (s : State) : Host.Outcome State Fault Refusal :=
  .next ((s.advance dt).writeTo 0x0423 r)
/-- R400. -/
def execTddOutConfigWrite (dt : Nat) (r : Request) (s : State) : Host.Outcome State Fault Refusal :=
  .next ((s.advance dt).writeTo 0x0522 r)
/-- R563. -/
def execJcpConfigWrite (dt : Nat) (r : Request) (s : State) : Host.Outcome State Fault Refusal :=
  .next ((s.advance dt).writeTo 0x0011 r)
/-- R569, R592. -/
def execFltStatusWrite (dt : Nat) (r : Request) (s : State) : Host.Outcome State Fault Refusal :=
  .next ((s.advance dt).writeTo 0x0900 r)
/-- R623. -/
def execRecTrigConfigWrite (dt : Nat) (r : Request) (s : State) : Host.Outcome State Fault Refusal :=
  .next ((s.advance dt).writeTo 0x0A10 r)
/-- R624. -/
def execRecSnapListWrite (dt : Nat) (r : Request) (s : State) : Host.Outcome State Fault Refusal :=
  .next ((s.advance dt).writeTo 0x0A11 r)
/-- R625. -/
def execRecCmdSelWrite (dt : Nat) (r : Request) (s : State) : Host.Outcome State Fault Refusal :=
  .next ((s.advance dt).writeTo 0x0A12 r)
/-- R613, R626. -/
def execRecStatsConfigWrite (dt : Nat) (r : Request) (s : State) : Host.Outcome State Fault Refusal :=
  .next ((s.advance dt).writeTo 0x0A20 r)
/-- R675 with SAVE = 0. -/
def execBootConfigWrite (dt : Nat) (r : Request) (s : State) : Host.Outcome State Fault Refusal :=
  .next ((s.advance dt).writeTo 0x0C01 (withBit r 7 6 false))
/-- R675 with SAVE = 1. -/
def execBootConfigSave (dt : Nat) (r : Request) (s : State) : Host.Outcome State Fault Refusal :=
  .next ((s.advance dt).writeTo 0x0C01 (withBit (withBit r 7 6 true) 23 6 true))

/-! NOP and IDENTIFY (R558, R561). -/

def cmdNop : CmdDef := ⟨0x0001, 0, false, fun _ _ => .ok, fun ref _ s => s.complete ref stOk 0 0⟩
/-- R558. -/
def execNop (dt : Nat) (r : Request) (s : State) : Host.Outcome State Fault Refusal := .next ((s.advance dt).issue cmdNop r)

/-- The identification block (R561). -/
def identBytes (s : State) : List Byte :=
  let v := (Config.imageVersion (s.store.image s.boot.image)).toNat
  leBytes 2 0x1F8B ++ leBytes 2 0x7680 ++ leBytes 4 0x00010000 ++ leBytes 8 Config.dieId.toNat ++
    (leBytes 4 v).reverse ++ leBytes 1 s.boot.image ++ leBytes 1 s.boot.pair ++ List.replicate 234 0
def checkIdentify (r : Request) (_ : State) : Verdict :=
  checks [(!byPcie r && decide (pu r 0 8 ≠ 0), bad 0), (decide (pu r 8 4 < 256), bad 8), reserved r 12 4]
def applyIdentify (ref : CmdRef) (r : Request) (s : State) : State :=
  (s.giveData ref (pu r 0 8) (identBytes s)).complete ref stOk 0 0
def cmdIdentify : CmdDef := ⟨0x0002, 16, true, checkIdentify, applyIdentify⟩
/-- R561. -/
def execIdentify (dt : Nat) (r : Request) (s : State) : Host.Outcome State Fault Refusal :=
  .next ((s.advance dt).issue cmdIdentify r)

/-! Telemetry (R555, R556). -/

/-- The items of TLM_CONFIGURE. -/
def tlmItems (r : Request) : List (Nat × Nat × Nat) :=
  (List.range (pu r 4 1)).map (fun n => (pu r (8 + 5 * n) 2, pu r (10 + 5 * n) 2, pu r (12 + 5 * n) 1))
/-- Bytes of a telemetry set. -/
def tlmSize (items : List (Nat × Nat × Nat)) : Nat := (items.map (fun i => objSize i.1 * i.2.2)).sum
def checkTlm (r : Request) (s : State) : Verdict :=
  let p := pu r 0 4
  let items := tlmItems r
  let g := s.ring (instOf r)
  checks ([
    (decide (16384 ≤ instOf r), badInst), (decide (pu r 4 1 ≤ 8) && items.any (fun i => (objShape i.1).isNone), .fail stBadObject 1),
    (decide (pu r 4 1 ≤ 8) && items.any (fun i => !objHas i.1 i.2.1 i.2.2), badInst),
    (decide (p < 100) || decide (10000000 < p) || decide (p % 100 ≠ 0), bad 0), (decide (8 < pu r 4 1), bad 4),
    reserved r 5 3] ++
    (List.range 8).map (fun n =>
      if n < pu r 4 1 then (decide (pu r (12 + 5 * n) 1 = 0), bad (12 + 5 * n)) else reserved r (8 + 5 * n) 5) ++
    [(decide (g.type = 5) && decide (g.state = 1) && decide (2 ^ g.esz < tlmSize items + 32), combo),
     (decide (g.type ≠ 5) || decide (g.state ≠ 1), wrong 10)])
/-- A set takes effect; an empty one stops the ring's telemetry. -/
def applyTlm (ref : CmdRef) (r : Request) (s : State) : State :=
  (s.modTlm (instOf r) (fun x => { x with periodUs := pu r 0 4, items := tlmItems r, last := none })).complete ref stOk 0 0
def cmdTlmConfigure : CmdDef := ⟨0x0014, 48, true, checkTlm, applyTlm⟩
/-- R555. -/
def execTlmConfigure (dt : Nat) (r : Request) (s : State) : Host.Outcome State Fault Refusal :=
  .next ((s.advance dt).issue cmdTlmConfigure r)

/-- Sample ticks of a telemetry period: PERIOD_US × 122.88 (R556). A period of 100 µs is 12,288 ticks. -/
def tlmTicks (us : Nat) : Nat := us * 12288 / 100
/-- The data of a set. -/
def State.tlmData (s : State) (items : List (Nat × Nat × Nat)) : List Byte :=
  items.flatMap (fun i => (List.range i.2.2).flatMap (fun n => leBytes (objSize i.1) (s.objValue i.1 (i.2.1 + n))))
/-- One entry of 2^ESZ bytes, PHASE apart. -/
def State.tlmEntry (s : State) (n : Nat) : List Byte :=
  let x := s.tlmOf n
  let data := s.tlmData x.items
  let body := leBytes 4 x.seq ++ leBytes 4 s.seconds ++ leBytes 2 s.subsec ++ leBytes 2 data.length ++
    leBytes 4 x.lostSince ++ leBytes 8 s.tick ++ List.replicate 8 0 ++ data
  body ++ List.replicate (2 ^ (s.ring n).esz - body.length) 0
/-- R556: an entry at a period tick. One that finds the ring full is lost and counted. -/
def execTelemetryEntry (dt ring : Nat) (s : State) : Host.Outcome State Fault Refusal :=
  let s := s.advance dt
  let x := s.tlmOf ring
  let r := s.ring ring
  .next (
    if x.items ≠ [] ∧ r.state = 1 ∧ r.type = 5 ∧ s.divStart.isSome ∧ s.tick % tlmTicks x.periodUs = 0 ∧
        x.last.all (fun t => decide (t + perTick ≤ s.now)) then
      if (s.items ring).length < r.room then
        let entry := s.tlmEntry ring
        (s.modTlm ring (fun x => { x with seq := (x.seq + 1) % 4294967296, lostSince := 0, last := some s.now })).pushItem ring
          { kind := 4, bytes := entry }
      else
        (s.modTlm ring (fun x => { x with
          seq := (x.seq + 1) % 4294967296, lostSince := x.lostSince + 1, last := some s.now })).modRing ring
            (fun r => { r with lost := (r.lost + 1) % 4294967296 })
    else s)

/-! The BAR2 mirror (R485). -/

/-- The words of the mirror by offset, MIRROR_SEQ apart. -/
def State.mirrorWords (s : State) : List (Nat × Nat) :=
  let first := fltFirstValue s
  let run := fun (base n : Nat) (f : Nat → Nat) => (List.range n).map (fun i => (base + 8 * i, f i))
  [(0x0000, 0x000076801F8B0001), (0x0010, radioStatusValue s), (0x0018, thStatusValue s), (0x0020, s.flt.status.toNat),
    (0x0028, fltLiveValue s), (0x0030, first % 2 ^ 64), (0x0038, first / 2 ^ 64), (0x0040, linkStatusValue s),
    (0x0048, capStatusValue s)] ++
    run 0x0100 8 (outerStateValue s) ++ run 0x0400 128 (govStateValue s) ++ run 0x0800 128 (npStateValue s) ++
    run 0x0C00 136 (ctlStateValue s)
/-- A host read of BAR2, of one 64-bit word: the mirror's word, 0 at an offset that R485 does not list. A write is ignored. -/
def State.bar2Read (s : State) (off : Nat) : Nat := Table.get 0 s.link.mirror off
def State.bar2Write (s : State) (_off _v : Nat) : State := s
/-- A host read of BAR0 returns 0 (R484). -/
def State.bar0Read (_s : State) (_off : Nat) : Nat := 0
/-- R485: a refresh pass, one a millisecond; before the next one is due, the words whose source has changed are rewritten. -/
def execMirrorRefresh (dt : Nat) (s : State) : Host.Outcome State Fault Refusal :=
  let s := s.advance dt
  .next (
    if s.radio.gated ∨ s.radio.inReset then s
    else
      let due := decide (s.link.mirrorAt + perMs ≤ s.now)
      let v := if due then (s.link.mirrorSeq + 1) % 2 ^ 64 else s.link.mirrorSeq
      let words := (s.mirrorWords).foldl (fun (t : Table Nat) e => Table.set 0 t e.1 e.2) (Table.set 0 [] 8 v)
      s.modLink (fun l => { l with mirrorSeq := v, mirror := words, mirrorAt := if due then s.now else l.mirrorAt }))

end Sys2Proof.Machine
end

