-- ==== Sys2Proof/Machine/Jcp.lean ====
section
/-!
DEFINITION. The command protocol's own commands and events (13_command_protocol.md): doorbells and setup words, ring
commands, moderation, ABORT, the management reset and the test commands.
-/

namespace Sys2Proof.Machine

/-! Doorbells and setup words (R484, R519, R526, R527, R548). -/

/-- R519: a write to BAR0. -/
def execDoorbellWrite (dt off size : Nat) (value : BitVec 32) (s : State) : Host.Outcome State Fault Refusal :=
  .next ((s.advance dt).doorbell off size value.toNat)
/-- A word on doorbell 0 with the layout of R526. -/
def State.setupDoorbell (s : State) (code : Nat) (sel : BitVec 2) (value : BitVec 26) : State :=
  s.doorbell 0 4 (code * 268435456 + sel.toNat * 67108864 + value.toNat)
/-- R526: BASE_LO. -/
def execSetupBaseLo (dt : Nat) (sel : BitVec 2) (value : BitVec 26) (s : State) : Host.Outcome State Fault Refusal :=
  .next ((s.advance dt).setupDoorbell 1 sel value)
/-- R526: BASE_HI. -/
def execSetupBaseHi (dt : Nat) (sel : BitVec 2) (value : BitVec 26) (s : State) : Host.Outcome State Fault Refusal :=
  .next ((s.advance dt).setupDoorbell 2 sel value)
/-- R526: SHAPE. -/
def execSetupShape (dt : Nat) (sel : BitVec 2) (value : BitVec 26) (s : State) : Host.Outcome State Fault Refusal :=
  .next ((s.advance dt).setupDoorbell 3 sel value)
/-- R527: GO. -/
def execSetupGo (dt : Nat) (sel : BitVec 2) (value : BitVec 26) (s : State) : Host.Outcome State Fault Refusal :=
  .next ((s.advance dt).setupDoorbell 10 sel value)
/-- R527, R548: RESUME. -/
def execSetupResume (dt : Nat) (sel : BitVec 2) (value : BitVec 26) (s : State) : Host.Outcome State Fault Refusal :=
  .next ((s.advance dt).setupDoorbell 11 sel value)

/-- R522: MOD_US has passed since the first entry after the last message. -/
def execMsixModerationExpiry (dt ring : Nat) (s : State) : Host.Outcome State Fault Refusal :=
  let s := s.advance dt
  let r := s.ring ring
  .next (
    if r.irqEn ∧ (r.state = 1 ∨ r.state = 3) ∧ 0 < r.since ∧ 0 < r.modUs ∧ r.sinceAt + ofMicros r.modUs ≤ s.now then
      (s.modRing ring (fun r => { r with since := 0 })).sendMsix r.vector
    else s)

/-! RING_CREATE (R528). -/

/-- The context that the parameters describe. -/
def ringOf (r : Request) : Ring :=
  { base := pu r 8 8, peer := pu r 4 2, irqEn := flag r 3 0, vector := pu r 6 2, type := pu r 0 1, log2size := pu r 1 1
    state := 1, weight := pu r 2 1, credit := pu r 2 1, modCount := pu r 16 1, modUs := pu r 18 2, esz := pu r 17 1 }
/-- The ring that already takes the blocks of a slot. -/
def State.slotTaken (s : State) (slot : Nat) : Bool :=
  s.jcp.rings.any (fun e => decide (e.2.type = 4) && decide (e.2.peer = slot) && decide (e.2.state ≠ 0))
def checkRingCreate (r : Request) (s : State) : Verdict :=
  let n := instOf r
  let k := ringOf r
  let sub := decide (k.type = 1)
  let p := s.ring k.peer
  checks [
    (decide (n < 3) || decide (16383 < n), badInst), (!([1, 2, 4, 5].contains k.type), bad 0),
    (outside 4 16 k.log2size, bad 1), (if sub then outside 1 15 k.weight else decide (k.weight ≠ 0), bad 2),
    (decide (1 < pu r 3 1), bad 3),
    (if sub then decide (16383 < k.peer) else if k.type = 4 then outside 1 16 k.peer else decide (k.peer ≠ 65535), bad 4),
    (decide (2047 < k.vector) || (!k.irqEn && decide (k.vector ≠ 0)), bad 6),
    (decide (k.base = 0) || decide (k.base % 4096 ≠ 0), bad 8), (decide (k.modCount = 0) != sub, bad 16),
    (if k.type = 5 then outside 6 12 k.esz else decide (k.esz ≠ 0), bad 17), (sub && decide (k.modUs ≠ 0), bad 18),
    reserved r 20 4, (decide ((s.ring n).state ≠ 0), wrong 10), (sub && (decide (p.type ≠ 2) || decide (p.state ≠ 1)), wrong 10),
    (!s.link.pcieUp, wrong 9), (decide (k.type = 4) && s.slotTaken k.peer, busy 8 k.peer)]
def applyRingCreate (ref : CmdRef) (r : Request) (s : State) : State :=
  let n := instOf r
  ((((s.modRing n (fun _ => ringOf r)).modTlm n (fun _ => {})).setItems n []).setQueue n []).complete ref stOk 0 0
def cmdRingCreate : CmdDef := ⟨0x0010, 24, true, checkRingCreate, applyRingCreate⟩
/-- R528. -/
def execRingCreate (dt : Nat) (r : Request) (s : State) : Host.Outcome State Fault Refusal :=
  .next ((s.advance dt).issue cmdRingCreate r)

/-! RING_DELETE (R529). -/

/-- A completion ring that a submission ring in use names as PEER. -/
def State.peered (s : State) (n : Nat) : Bool :=
  s.jcp.rings.any (fun e => decide (e.2.type = 1) && decide (e.2.peer = n) && decide (e.2.state ≠ 0))
def checkRingDelete (r : Request) (s : State) : Verdict :=
  let n := instOf r
  let k := s.ring n
  checks [
    (decide (n < 3) || decide (16383 < n), badInst), (decide (1 < pu r 0 1), bad 0), reserved r 1 3,
    (decide (k.state = 0) || decide (k.state = 4), wrong 10), (decide (k.state = 3) || k.drain.isSome, wrong 7),
    (decide (k.type = 2) && s.peered n, wrong 10), (decide (k.type = 4) && (s.stream k.peer).run, wrong 4)]
/-- The ring drains; with ABORT the fetched commands that have not started end. -/
def applyRingDelete (ref : CmdRef) (r : Request) (s : State) : State :=
  let n := instOf r
  let abort := flag r 0 0
  let waiting := if abort && decide ((s.ring n).type = 1) then
      ((s.queue n).filter (fun e => !e.phase.begun)).map (fun e => ({ src := n, id := e.id } : CmdRef))
    else []
  let s := s.modRing n (fun k => { k with
    state := if k.state = 1 then 3 else k.state, drain := some (k.tail, ref, abort) })
  waiting.foldl (fun (s : State) c => s.complete c stAbortedHost 5 0) s
def cmdRingDelete : CmdDef := ⟨0x0011, 4, true, checkRingDelete, applyRingDelete⟩
/-- R529. -/
def execRingDelete (dt : Nat) (r : Request) (s : State) : Host.Outcome State Fault Refusal :=
  .next ((s.advance dt).issue cmdRingDelete r)

/-- A ring that a RING_DELETE drains has nothing left: a STOPPED one no longer fetches. -/
def State.drained (s : State) (n : Nat) : Bool :=
  let k := s.ring n
  (decide (k.state = 3) || decide (k.state = 2)) && (s.queue n).isEmpty && (s.items n).isEmpty &&
    (decide (k.type ≠ 1) || decide (k.state = 2) || decide (k.head = k.tail))
/-- R529: the ring becomes UNUSED, and its RING_DELETE completes. -/
def execRingDrained (dt ring : Nat) (s : State) : Host.Outcome State Fault Refusal :=
  let s := s.advance dt
  .next (
    match (s.ring ring).drain with
    | some (_, ref, _) =>
      if s.drained ring then ((s.modRing ring (fun _ => {})).modTlm ring (fun _ => {})).complete ref stOk 0 0 else s
    | none => s)

/-- R524: ERR 1 to 3. -/
def execRingError (dt ring err : Nat) (s : State) : Host.Outcome State Fault Refusal :=
  let s := s.advance dt
  .next (if 1 ≤ err ∧ err ≤ 3 then s.stopRing ring err else s)

/-! ABORT (R544). -/

/-- The source that RING names for a sender; none where it names no submission ring of the sender's transport. -/
def State.abortKey (s : State) (r : Request) : Option Nat :=
  let n := pu r 0 2
  if byPcie r then
    if n < 16384 ∧ (s.ring n).type = 1 ∧ (s.ring n).state ≠ 0 then some n else none
  else if n = 65535 then some (srcKey r.src)
  else none
def checkAbort (r : Request) (s : State) : Verdict := checks [((s.abortKey r).isNone, bad 0), reserved r 2 2]
def applyAbort (ref : CmdRef) (r : Request) (s : State) : State :=
  let k := (s.abortKey r).getD 0
  match (s.queue k).find? (fun e => !e.phase.begun && decide (e.req.tag.toNat = pu r 4 4)) with
  | some e => (s.complete { src := k, id := e.id } stAbortedHost 3 0).complete ref stOk 0 1
  | none => s.complete ref stOk 0 0
def cmdAbort : CmdDef := ⟨0x0020, 8, false, checkAbort, applyAbort⟩
/-- R544. -/
def execAbort (dt : Nat) (r : Request) (s : State) : Host.Outcome State Fault Refusal := .next ((s.advance dt).issue cmdAbort r)

/-! The management reset (R95, R551, R562, R582, R643, R667). -/

/-- A bus controller stops: its transfers and waits are gone, and one stopped in mid-byte clears its bus. -/
def State.busStops (s : State) (b : Nat) : State :=
  let x := s.twbOf b
  let s := s.modTwb b (fun x => { x with queue := [], wait := none, clearDue := x.clearDue.map (fun c => (none, c.2)) })
  match x.busy with
  | .transfer => (s.modTwb b (fun x => { x with clearDue := some (none, false) })).busRests b
  | .clear _ sda => s.modTwb b (fun x => { x with busy := .clear none sda })
  | _ => s
/-- Both pairs restart, and every ring is UNUSED; the RF hardware and its configuration stay. A restart during FG_CAL or
early service ends them: the spec is silent, and this is the model's choice [90]. -/
def State.mgmtRestart (s : State) : State :=
  let s := s.endFreeze.hkStall
  let s := s.each ((List.range 2).filter (fun b => (s.twbSet b).enable)) State.busStops
  let s := (s.phaseBegins).modFlt (fun f => { f with mgmt := true, fed := none, watch := none })
  let s := (s.setRadio (fun r => { r with fgCal := false })).modBoot (fun b => { b with
    running := true, step := 0, releasedAt := s.now, update := none })
  (s.modRec (fun r => { r with arm := none, armed := false })).resetRings
def checkMgmtReset (r : Request) (_ : State) : Verdict := checks [(decide (pu r 0 4 ≠ 0x3C96A55A), bad 0)]
def cmdMgmtReset : CmdDef := ⟨0x0031, 4, true, checkMgmtReset, fun _ _ s => s.mgmtRestart⟩
/-- R562. -/
def execMgmtReset (dt : Nat) (r : Request) (s : State) : Host.Outcome State Fault Refusal :=
  .next ((s.advance dt).issue cmdMgmtReset r)

/-! Test commands (R564, R565). -/

def checkTestEcho (r : Request) (_ : State) : Verdict :=
  let len := pu r 16 4
  checks [
    (!byPcie r && decide (pu r 0 8 ≠ 0), bad 0), (!byPcie r && decide (pu r 8 8 ≠ 0), bad 8),
    (decide (len < 8) || decide (65536 < len) || decide (len % 8 ≠ 0), bad 16), reserved r 20 4, (r.buf.isNone, unread)]
def applyTestEcho (ref : CmdRef) (r : Request) (s : State) : State :=
  let len := pu r 16 4
  let data := (bufOf r ++ List.replicate len 0).take len
  (s.giveData ref (pu r 8 8) data).complete ref stOk 0 (crc32c data)
def cmdTestEcho : CmdDef := ⟨0x0D01, 24, true, checkTestEcho, applyTestEcho⟩
/-- R564. -/
def execTestEcho (dt : Nat) (r : Request) (s : State) : Host.Outcome State Fault Refusal :=
  .next ((s.advance dt).issue cmdTestEcho r)

def checkTestEccInject (r : Request) (_ : State) : Verdict :=
  checks [(decide (8 < pu r 0 1), bad 0), (decide (1 < pu r 1 1), bad 1), reserved r 2 2,
    (decide (memWords.getD (pu r 0 1) 0 ≤ pu r 4 8), bad 4), reserved r 12 4]
/-- The error is planted; it replaces one planted in the same word. -/
def applyTestEccInject (ref : CmdRef) (r : Request) (s : State) : State :=
  let m := pu r 0 1
  let w := pu r 4 8
  let rest := s.mem.planted.filter (fun e => !(e.1 == m && e.2.1 == w))
  let s : State := { s with mem := { s.mem with planted := rest ++ [(m, w, decide (pu r 1 1 = 1))] } }
  s.complete ref stOk 0 0
def cmdTestEccInject : CmdDef := ⟨0x0D02, 16, true, checkTestEccInject, applyTestEccInject⟩
/-- R565. -/
def execTestEccInject (dt : Nat) (r : Request) (s : State) : Host.Outcome State Fault Refusal :=
  .next ((s.advance dt).issue cmdTestEccInject r)

end Sys2Proof.Machine
end

