-- ==== Sys2Proof/Machine/Recorder.lean ====
section
/-!
DEFINITION. The event recorder (15_event_recorder.md): snapshots and their objects, statistics, freezes, reads, host
time, authorised clearing; and the device reset (R95 to R97), which the recorder precedes.
-/

namespace Sys2Proof.Machine

/-! Subjects (R607). -/

/-- What indexes an object: 0 chain, 1 sub-band, 2 loop, 3 timing group, 4 zone. -/
def objKind (o : Nat) : Option Nat :=
  if [0x0210, 0x0211, 0x0212, 0x0213, 0x0214, 0x0221, 0x0421, 0x0422, 0x0423, 0x0600].contains o then some 0
  else if [0x0220, 0x0222, 0x0320, 0x0330, 0x0331, 0x0521, 0x0A20].contains o then some 1
  else if o = 0x0420 then some 2
  else if o = 0x0520 then some 3
  else if o = 0x0712 then some 4
  else none
/-- The instances that a chain, a sub-band or another unit gives, by kind. -/
def chainSubject (c : Nat) : List (Nat × Nat) := [(0, c), (2, 128 + c)]
def sbSubject (g : Nat) : List (Nat × Nat) := [(1, g), (2, g), (0, g / 16)]
/-- The unit that the address of a coded message names (R572, R573). -/
def faultSubject (message : Nat) : List (Nat × Nat) :=
  let b := bitsAt message 27 20
  let a := bitsAt message 11 0
  if [1, 2, 3, 10, 15, 18, 26].contains b then chainSubject a
  else if b = 0 then chainSubject (a / 33)
  else if b = 8 ∨ b = 14 then chainSubject (a / 32)
  else if [9, 11, 12, 16, 17, 22, 40, 41, 42].contains b ∨ (b = 13 ∧ a < 0x800) then sbSubject a
  else if [19, 20, 21, 43, 44].contains b then [(2, a)]
  else if [23, 24, 27].contains b then [(3, a)]
  else if [32, 33, 34].contains b then [(4, a)]
  else []
/-- The subject of a trigger. -/
def subject (code source : Nat) : List (Nat × Nat) :=
  if code = 1 then faultSubject source
  else if code = 2 ∨ code = 3 then chainSubject source
  else if 0x10 ≤ code ∧ code ≤ 0x13 then sbSubject source
  else if code = 0x21 then [(4, source % 256)]
  else []
/-- The instance at which an item of a set is read; none where the subject gives none. -/
def itemInst (sub : List (Nat × Nat)) (x : SnapItem) : Option Nat :=
  if x.inst ≠ 65535 then some x.inst
  else
    match objKind x.obj with
    | some k => (sub.find? (fun e => e.1 == k)).map Prod.snd
    | none => none

/-! Taking a snapshot (R605 to R608). -/

/-- A payload as it fills: its bytes, its items, TRUNC and NOSUBJ. -/
structure Payload where
  bytes : List Byte := []
  nobj : Nat := 0
  trunc : Bool := false
  noSubj : Bool := false
  deriving DecidableEq, Repr

/-- One more item (R605, R607). -/
def State.addItem (s : State) (sub : List (Nat × Nat)) (p : Payload) (x : SnapItem) : Payload :=
  if p.trunc then p
  else
    match itemInst sub x with
    | none => { p with noSubj := true }
    | some i =>
      if 220 < p.bytes.length + 4 + objSize x.obj then { p with trunc := true }
      else { p with
        bytes := p.bytes ++ leBytes 2 x.obj ++ leBytes 2 i ++ leBytes (objSize x.obj) (s.objValue x.obj i), nobj := p.nobj + 1 }
/-- The objects of a set as a trigger reads them. -/
def State.readSet (s : State) (set code source : Nat) : Payload :=
  (((List.range 32).map (fun n => s.snapItem (set * 32 + n))).filter SnapItem.valid).foldl (s.addItem (subject code source)) {}

/-- The snapshots recorded, newest first, those that wait included. -/
def State.snapsBack (s : State) : List Snap := s.rcd.waiting.reverse ++ (s.store.records.map Record.snap).reverse
/-- A repeat of a record in the store, with those not yet written to it. -/
def State.repeatOf (s : State) (r : Record) : Nat × Time :=
  match s.rcd.dirty.find? (fun e => e.1 == r.seq) with
  | some (_, n, _, at_) => (n, at_)
  | none => (r.snap.repeats, r.snap.lastAt)
/-- A repeat is counted in the snapshot of its pair where that is recent enough; none where a new record is due (R608). -/
def State.coalesce (s : State) (code source ms : Nat) : Option State :=
  let same := fun (x : Snap) => x.trigger == code && x.source == source
  let recent := fun (t : Time) => decide (s.now ≤ t + ms * perMs)
  if !trigCoalesces code || decide (ms = 0) || !(lastPairs s.snapsBack 16 []).contains (code, source) then none
  else if s.rcd.waiting.any same then
    match s.rcd.waiting.reverse.find? same with
    | some x =>
      if recent x.lastAt then
        let y : Snap := { x with repeats := min 65535 (x.repeats + 1), last := s.seconds, lastAt := s.now }
        some (s.modRec (fun r => { r with waiting := r.waiting.map (fun z => if z = x then y else z) }))
      else none
    | none => none
  else
    match s.store.records.reverse.find? (fun r => same r.snap) with
    | some r =>
      let old := s.repeatOf r
      if recent old.2 then
        some (s.modRec (fun x => { x with
          dirty := x.dirty.filter (fun e => e.1 != r.seq) ++ [(r.seq, min 65535 (old.1 + 1), s.seconds, s.now)] }))
      else none
    | none => none

/-- A trigger acts: it is withheld, coalesced, or a snapshot (R605, R608, R614). -/
def State.takeSnapshot (s : State) (code source : Nat) (injected : Bool) : State :=
  let k := s.trigOf code
  if !k.en then s
  else if s.rcd.frozen.isSome then s.modRec (fun r => r.missFreeze s.seconds)
  else
    match s.coalesce code source k.coalesceMs with
    | some t => t
    | none =>
      let p := s.readSet k.set code source
      s.putSnap (s.snapNow code source injected p.bytes p.nobj p.trunc p.noSubj)
/-- The first trigger that has occurred is taken up. -/
def State.takeTrigger (s : State) : State :=
  match s.rcd.due with
  | [] => s
  | (code, source, injected) :: rest => (s.modRec (fun r => { r with due := rest })).takeSnapshot code source injected
/-- R605, R606. -/
def execSnapshotTrigger (dt : Nat) (s : State) : Host.Outcome State Fault Refusal := .next ((s.advance dt).takeTrigger)

/-- RECORDS_MISSED follows once there is room again (R605, R606). -/
def State.noteMissed (s : State) : State :=
  let r := s.rcd
  if r.queueMissed = 0 ∨ 64 ≤ r.waiting.length ∨ r.frozen.isSome then s
  else (s.modRec (fun x => { x with queueMissed := 0 })).putFixed 0x33 1 (missedPayload r.queueMissed r.queueFirst r.queueLast)
/-- R25, R596, R605: the oldest waiting snapshot is written; a word read back that differs replaces its row. -/
def execSnapshotWrite (dt : Nat) (verified : Bool) (s : State) : Host.Outcome State Fault Refusal :=
  let s := s.advance dt
  .next (
    match s.rcd.waiting with
    | [] => s
    | x :: rest =>
      if s.rcd.frozen.isSome ∨ !s.firmwareRuns then s
      else
        let bank := (0x1800000 + s.store.nextSeq % 131072 * 256) / 0x800000
        let s := (s.modRec (fun r => { r with waiting := rest })).writeRecord x
        (if verified then s else s.replaceRow false bank).noteMissed)

/-- R608: repeats reach the store at most once per 100 ms. -/
def execCoalesceFlush (dt : Nat) (s : State) : Host.Outcome State Fault Refusal :=
  let s := s.advance dt
  .next (if s.firmwareRuns ∧ s.rcd.frozen.isNone ∧ s.rcd.coalesceAt + 100 * perMs ≤ s.now then s.flushRepeats else s)

/-! Statistics and operating seconds (R600, R611). -/

/-- R25, R611: a multiple of 3,600 operating seconds. -/
def execHourBoundary (dt : Nat) (s : State) : Host.Outcome State Fault Refusal :=
  let s := s.advance dt
  .next (if s.firmwareRuns ∧ s.seconds / 3600 ≠ s.rcd.hourNo then s.closeHour false else s)
/-- R600: the count is stored every 10 s. -/
def execOpsecStore (dt : Nat) (s : State) : Host.Outcome State Fault Refusal :=
  let s := s.advance dt
  .next (if s.firmwareRuns ∧ s.rcd.opsecAt + 10 * perSecond ≤ s.now then
      ((s.modStore (fun t => { t with opsec := some s.seconds })).repaired 300).modRec (fun r => { r with opsecAt := s.now })
    else s)

/-! REC_FREEZE (R614 to R616). -/

def checkRecFreeze (r : Request) (_ : State) : Verdict := checks [(decide (1 < pu r 0 1), bad 0), reserved r 1 3]
/-- A freeze begins or goes on for 10 s; before it begins, what waits is written (R605, R608), and an arm ends (R619). -/
def State.freeze (s : State) : State :=
  let s := if s.rcd.frozen.isSome then s else (s.writeWaiting).flushRepeats
  s.modRec (fun r => { r with
    frozen := some (s.now + 10 * perSecond), arm := none, armed := false
    missedFreeze := if r.frozen.isSome then r.missedFreeze else 0 })
def applyRecFreeze (ref : CmdRef) (r : Request) (s : State) : State :=
  if flag r 0 0 then (s.freeze).complete ref stOk 0 0
  else if s.rcd.frozen.isSome then (s.releaseFreeze).complete ref stOk 0 s.rcd.missedFreeze
  else s.complete ref stOk 0 0
def cmdRecFreeze : CmdDef := ⟨0x0A01, 4, false, checkRecFreeze, applyRecFreeze⟩
/-- R616 with FREEZE = 1. -/
def execRecFreezeSet (dt : Nat) (r : Request) (s : State) : Host.Outcome State Fault Refusal :=
  .next ((s.advance dt).issue cmdRecFreeze (withBit r 0 0 true))
/-- R616 with FREEZE = 0. -/
def execRecFreezeRelease (dt : Nat) (r : Request) (s : State) : Host.Outcome State Fault Refusal :=
  .next ((s.advance dt).issue cmdRecFreeze (withBit r 0 0 false))
/-- R614: 10 s after the last freeze command. -/
def execFreezeTimeout (dt : Nat) (s : State) : Host.Outcome State Fault Refusal :=
  let s := s.advance dt
  .next (
    match s.rcd.frozen with
    | some t => if t ≤ s.now then s.releaseFreeze else s
    | none => s)

/-! REC_READ (R617). -/

/-- The largest COUNT of a kind, and the size of its records. -/
def recLimit (kind : Nat) : Nat := if kind = 0 then 131072 else if kind = 1 then 720 else 128
def recSize (kind : Nat) : Nat := if kind = 0 then 256 else if kind = 1 then 320 else 2176
/-- Snapshot records in ascending SEQ from the later of FIRST and OLDEST_SEQ, as SEQ counts modulo 2^32 (R603). -/
def State.readSnaps (s : State) (first count : Nat) : List (Nat × List Byte) :=
  let later := fun (a b : Nat) => decide ((b + 4294967296 - a) % 4294967296 < 2147483648)
  ((s.store.records.filter (fun r => later first r.seq)).take count).map (fun r => (r.seq, r.bytes))
/-- Hourly buckets of a slot in ascending HOUR, the stale and absent ones left out (R611). -/
def State.readBuckets (s : State) (slot first count : Nat) : List (Nat × List Byte) :=
  let lo := s.seconds / 3600 - 720
  let held := (List.range 721).filterMap (fun i =>
    match Table.get none s.store.buckets (slot * 720 + (lo + i) % 720) with
    | some b => if b.hour = lo + i ∧ first ≤ b.hour then some (b.hour, b.bytes slot) else none
    | none => none)
  held.take count
/-- The newer intact copy of each lifetime record. -/
def State.readLives (s : State) (first count : Nat) : List (Nat × List Byte) :=
  ((List.range count).map (first + ·)).filter (fun g => decide (g < 128)) |>.map (fun g => (g, (s.store.life g).bytes g))
def State.readRecords (s : State) (kind slot first count : Nat) : List (Nat × List Byte) :=
  if kind = 0 then s.readSnaps first count else if kind = 1 then s.readBuckets slot first count else s.readLives first count

def checkRecRead (r : Request) (_ : State) : Verdict :=
  let kind := pu r 0 1
  let slot := pu r 1 1
  let addr := pu r 8 8
  let count := pu r 16 4
  checks [
    (decide (2 < kind), bad 0), (if kind = 1 then decide (31 < slot) else decide (slot ≠ 0), bad 1), reserved r 2 2,
    (decide (kind = 2) && decide (127 < pu r 4 4), bad 4),
    (decide (addr % 8 ≠ 0) || (!byPcie r && decide (addr ≠ 0)), bad 8),
    (decide (count = 0) || decide (recLimit kind < count), bad 16), (decide (pu r 20 4 < count * recSize kind), bad 20)]
def applyRecRead (ref : CmdRef) (r : Request) (s : State) : State :=
  let rs := s.readRecords (pu r 0 1) (pu r 1 1) (pu r 4 4) (pu r 16 4)
  let first := match rs with
    | [] => 0
    | e :: _ => e.1
  let data := rs.flatMap Prod.snd
  let s := if data = [] then s else s.giveData ref (pu r 8 8) data
  s.complete ref stOk 0 (rs.length + 4294967296 * first)
def cmdRecRead : CmdDef := ⟨0x0A02, 24, false, checkRecRead, applyRecRead⟩
/-- R617. -/
def execRecRead (dt : Nat) (r : Request) (s : State) : Host.Outcome State Fault Refusal :=
  .next ((s.advance dt).issue cmdRecRead r)

/-! REC_SET_HOSTTIME (R602, R603, R615, R618). -/

def checkHosttime (r : Request) (s : State) : Verdict := checks [reserved r 8 8, (s.rcd.frozen.isSome, wrong 8)]
/-- HOST_OFS that a host time asks for, in 64 bit. -/
def State.askedOfs (s : State) (host : Nat) : Int := signedOf 64 (bitsOf 64 ((host : Int) - ((s.opTime + 32768) / 65536 : Nat)))
def applyHosttime (ref : CmdRef) (r : Request) (s : State) : State :=
  let v := s.askedOfs (pu r 0 8)
  let old := s.store.hostOfs
  let was := s.store.hostValid
  if was ∧ v = old then s.complete ref stOk 0 0
  else
    let s := (s.modStore (fun t => { t with hostOfs := v, hostValid := true })).repaired 303
    (s.putFixed 0x31 0 (leBytes 8 (bitsOf 64 old) ++ leBytes 8 (bitsOf 64 v) ++ leBytes 1 (ofBool was))).complete ref stOk 0 0
def cmdHosttime : CmdDef := ⟨0x0A05, 16, false, checkHosttime, applyHosttime⟩
/-- R618. -/
def execRecSetHosttime (dt : Nat) (r : Request) (s : State) : Host.Outcome State Fault Refusal :=
  .next ((s.advance dt).issue cmdHosttime r)

/-! Authorised clearing (R619, R620). -/

/-- CLR_PERMIT_N has been low for at least 10 µs. -/
def State.permitted (s : State) : Bool := !s.pins.clrPermitN && decide (s.pins.clrPermitAt + ofMicros 10 ≤ s.now)
/-- NOT_PERMITTED with a subcode. -/
def refused (sub : Nat) : Verdict := .fail stNotPermitted sub
/-- The checks of the parameters of both commands. -/
def clearChecks (r : Request) (s : State) : List (Bool × Verdict) :=
  [(decide (1 < pu r 4 1), bad 4), reserved r 5 3, (s.rcd.frozen.isSome, wrong 8), (!s.permitted, refused 1)]
def checkClearArm (r : Request) (s : State) : Verdict :=
  checks (clearChecks r s ++ [(decide (pu r 0 4 ≠ s.newestSeq), refused 2)])
def applyClearArm (ref : CmdRef) (r : Request) (s : State) : State :=
  (s.modRec (fun x => { x with arm := some (pu r 0 4, flag r 4 0, s.now), armed := true })).complete ref stOk 0 0
def cmdClearArm : CmdDef := ⟨0x0A03, 8, false, checkClearArm, applyClearArm⟩
/-- R619. -/
def execRecClearArm (dt : Nat) (r : Request) (s : State) : Host.Outcome State Fault Refusal :=
  .next ((s.advance dt).issue cmdClearArm r)

/-- What the arm says of an execute. -/
def State.armVerdict (s : State) (r : Request) : Verdict :=
  match s.rcd.arm with
  | none => refused 4
  | some (seq, stats, t) =>
    if pu r 0 4 ≠ seq ∨ flag r 4 0 ≠ stats then refused 2 else if t + 5 * perSecond < s.now then refused 3 else .ok
def checkClearExec (r : Request) (s : State) : Verdict := checks (clearChecks r s ++ [(true, s.armVerdict r)])
/-- The log is cleared, with STATS the statistics too, and RECORDS_CLEARED opens the new log. -/
def State.clearRecords (s : State) (stats : Bool) : State :=
  let first := s.oldestSeq
  let last := s.newestSeq
  let s := s.modStore (fun t => { t with
    records := [], clearCount := t.clearCount + 1
    buckets := if stats then [] else t.buckets, lives := if stats then [] else t.lives
    stats := if stats then t.stats.map (fun e => (e.1, e.2.map StatsSet.applyPending)) else t.stats })
  let s := (s.repaired 302).modRec (fun r => { r with
    dirty := [], arm := none, armed := false, zeroing := some (s.now + 120 * perSecond) })
  s.writeRecord (s.snapNow 0x32 (ofBool stats) false
    (leBytes 4 s.store.clearCount ++ leBytes 4 first ++ leBytes 4 last) 0 false false)
def applyClearExec (ref : CmdRef) (r : Request) (s : State) : State :=
  let t := s.clearRecords (flag r 4 0)
  t.complete ref stOk 0 s.store.nextSeq
def cmdClearExec : CmdDef := ⟨0x0A04, 8, false, checkClearExec, applyClearExec⟩
/-- R620. -/
def execRecClearExec (dt : Nat) (r : Request) (s : State) : Host.Outcome State Fault Refusal :=
  .next ((s.advance dt).issue cmdClearExec r)
/-- R620: the background zeroing ends, within its 120 s. -/
def execZeroingEnd (dt : Nat) (s : State) : Host.Outcome State Fault Refusal :=
  .next ((s.advance dt).modRec (fun r => { r with zeroing := none }))
/-- R619, R621: the arm is older than 5 s. An execute still finds it expired rather than absent. -/
def execClearArmExpiry (dt : Nat) (s : State) : Host.Outcome State Fault Refusal :=
  let s := s.advance dt
  .next (
    match s.rcd.arm with
    | some (_, _, t) => if t + 5 * perSecond < s.now then s.modRec (fun r => { r with armed := false }) else s
    | none => s)

/-! The device reset (R95 to R97, R551, R562). -/

/-- The items of a queue pair reach the host. -/
def State.giveItems (s : State) (k : Nat) : State := (s.items k).foldl (fun (s : State) _ => s.takeItem k) s
/-- The recorder writes what it holds (R608, R611, R614). -/
def State.recorderCloses (s : State) : State :=
  let s : State := s.rcd.due.foldl (fun (s : State) _ => s.takeTrigger) s
  ((s.recorderRest).writeWaiting)
def checkDeviceReset (r : Request) (_ : State) : Verdict := checks [(decide (pu r 0 4 ≠ 0xA5C30F96), bad 0)]
/-- A completion that R540 holds back is posted all the same: it comes before the reset (R95). -/
def State.postHeld (s : State) (ref : CmdRef) : State :=
  match (s.queue ref.src).find? (fun e => e.id == ref.id) with
  | some e => (s.postEntry ref.src e).setQueue ref.src ((s.queue ref.src).filter (fun x => !(x.id == ref.id)))
  | none => s
/-- The completion is posted, then the whole device is reset, the always-on domain apart, and the boot begins. -/
def applyDeviceReset (ref : CmdRef) (_ : Request) (s : State) : State :=
  let s := (s.complete ref stOk 0 0).postHeld ref
  let s := if 20000 ≤ ref.src then s.giveItems ref.src else s
  ((s.recorderCloses).wholeReset 3).releaseReset s.pins.clksel
def cmdDeviceReset : CmdDef := ⟨0x0030, 4, true, checkDeviceReset, applyDeviceReset⟩
/-- R562. -/
def execDeviceReset (dt : Nat) (r : Request) (s : State) : Host.Outcome State Fault Refusal :=
  .next ((s.advance dt).issue cmdDeviceReset r)

end Sys2Proof.Machine
end

