-- ==== Sys2Proof/Machine/Commands.lean ====
section
/-!
DEFINITION. The opcode index (R566) and the rows by which packets of any opcode arrive, start, are released and end
(R88, R89, R521, R533, R539 to R541).
-/

namespace Sys2Proof.Machine

/-! The index of R566, group by group. -/

def protocolCommands : List CmdDef :=
  [cmdNop, cmdIdentify, cmdObjRead, cmdObjWrite, cmdRingCreate, cmdRingDelete, cmdTlmConfigure, cmdAbort, cmdDeviceReset,
    cmdMgmtReset, cmdTestEcho, cmdTestEccInject]
def rfCommands : List CmdDef :=
  [cmdRadio, cmdSbConfigure, cmdSbLoadCoef, cmdSbSwitchBank, cmdSbRetune, cmdSbSyncReset, cmdSbDcb, cmdCanConfigure,
    cmdCanFreeze, cmdCanProbe, cmdCanMapRead, cmdCanMapWrite, cmdGovConfigure, cmdGovRestart, cmdCtlSetMode, cmdCtlSetPoint,
    cmdCtlSetSchedule, cmdCtlInject, cmdCtlRepLearn, cmdTddConfigure, cmdTddSetGates, cmdNpSetLimits]
def boardCommands : List CmdDef :=
  [cmdFeSeq, cmdPgConfigure, cmdWmConfigure, cmdWmClear, cmdPinAssign, cmdHkConfigure, cmdThConfigure, cmdCapConfigure,
    cmdCapStart, cmdCapStop, cmdCapRead, cmdTwbConfigure, cmdTwbTransfer]
def serviceCommands : List CmdDef :=
  [cmdFltConfigure, cmdFltAck, cmdFltForce, cmdRecFreeze, cmdRecRead, cmdClearArm, cmdClearExec, cmdHosttime, cmdFwUpdate,
    cmdLedgerRead]
def commandIndex : List CmdDef := protocolCommands ++ rfCommands ++ boardCommands ++ serviceCommands
/-- The command of an opcode; none where the device defines none. -/
def cmdOf (op : Nat) : Option CmdDef := commandIndex.find? (fun d => d.op == op)

/-! Arrival (R521, R533). -/

/-- A packet joins its source's queue where the source can deliver it. -/
def State.receive (s : State) (op : Nat) (r : Request) : State :=
  if s.canDeliver r.src then
    let ref : CmdRef := { src := srcKey r.src, id := s.jcp.nextId }
    let s := s.deliver op r
    match s.doomed ref.src with
    | some (st, sub) => (s.settleOwed ref.src).complete ref st sub 0
    | none => s
  else s
/-- R521: a command is fetched from a submission ring. -/
def execCommandFetch (dt : Nat) (op : BitVec 16) (r : Request) (s : State) : Host.Outcome State Fault Refusal :=
  let s := s.advance dt
  .next (if byPcie r then s.receive op.toNat r else s)
/-- R533: a packet arrives on an OUT endpoint. -/
def execUsbCommandPacket (dt : Nat) (op : BitVec 16) (r : Request) (s : State) : Host.Outcome State Fault Refusal :=
  let s := s.advance dt
  .next (if byPcie r then s else s.receive op.toNat r)

/-! Starting (R537, R539, R541). -/

/-- A command next in order meets its checks; an undefined opcode ends there (R538). -/
def State.beginEntry (s : State) (k : Nat) (e : Entry) : State :=
  match cmdOf e.op with
  | some d => s.begin d { src := k, id := e.id } e.req
  | none => s.complete { src := k, id := e.id } stBadOpcode 1 0
/-- A command that is held. -/
def Phase.isHeld : Phase → Bool
  | .held _ => true
  | _ => false
/-- The first command of a source that has not started, where it may start now and is, or is not, held. -/
def State.nextToStart (s : State) (k : Nat) (held : Bool) : Option Entry :=
  (s.firstWaiting k).filter (fun e => e.phase.isHeld == held && s.mayStart k e)
/-- R539: the next command in order starts, is held, or ends. -/
def execCommandStart (dt : Nat) (src : Src) (s : State) : Host.Outcome State Fault Refusal :=
  let s := s.advance dt
  .next (
    match s.nextToStart (srcKey src) false with
    | some e => s.beginEntry (srcKey src) e
    | none => s)
/-- R541: a command with FENCE starts once every earlier command of its source has completed. -/
def execFenceCommandStart (dt : Nat) (src : Src) (s : State) : Host.Outcome State Fault Refusal :=
  let s := s.advance dt
  .next (
    match s.nextToStart (srcKey src) false with
    | some e => if bit e.req.flags.toNat 1 then s.beginEntry (srcKey src) e else s
    | none => s)

/-! Holds (R88, R89, R90). -/

/-- R88: a held command is checked in full again, and starts where its condition has become true. -/
def execHeldCommandRelease (dt : Nat) (src : Src) (s : State) : Host.Outcome State Fault Refusal :=
  let s := s.advance dt
  .next (
    match s.nextToStart (srcKey src) true with
    | some e => s.beginEntry (srcKey src) e
    | none => s)
/-- Whether the condition of a command is still to come. -/
def State.stillWaits (s : State) (e : Entry) : Bool :=
  match cmdOf e.op with
  | some d => decide (s.verdict d e.req = .wait)
  | none => false
/-- R89: the hold has lasted DEFER_LIMIT_US; a command whose condition is still false ends. -/
def execDeferLimitExpiry (dt : Nat) (src : Src) (s : State) : Host.Outcome State Fault Refusal :=
  let s := s.advance dt
  let k := srcKey src
  .next (
    match s.firstWaiting k with
    | some e =>
      match e.phase with
      | .held t =>
        if t + ofMicros s.set.radioCfg.deferLimitUs ≤ s.now ∧ s.stillWaits e then
          s.complete { src := k, id := e.id } stTimeout 1 0
        else s
      | _ => s
    | none => s)

/-- R540: the completions that wait for earlier ones are posted once those have been. -/
def execCompletionPost (dt : Nat) (src : Src) (s : State) : Host.Outcome State Fault Refusal :=
  let s := s.advance dt
  .next (if s.boot.pairFenced = 3 then s else s.flush (srcKey src))

end Sys2Proof.Machine
end

