-- ==== Sys2Proof/Machine/Dispatch.lean ====
section
/-!
DEFINITION. The dispatch of every command and event to its meaning: one arm per constructor.
-/

namespace Sys2Proof.Machine

def exec (i : Instr) (s : State) : Host.Outcome State Fault Refusal :=
  match i with
  | .nop dt r => Sys2Proof.Machine.execNop dt r s
  | .identify dt r => Sys2Proof.Machine.execIdentify dt r s
  | .objRead dt r => Sys2Proof.Machine.execObjRead dt r s
  | .objWrite dt r => Sys2Proof.Machine.execObjWrite dt r s
  | .radioConfigWrite dt r => Sys2Proof.Machine.execRadioConfigWrite dt r s
  | .winConfigWrite dt r => Sys2Proof.Machine.execWinConfigWrite dt r s
  | .cnvAttConfigWrite dt r => Sys2Proof.Machine.execCnvAttConfigWrite dt r s
  | .ctlPlausConfigWrite dt r => Sys2Proof.Machine.execCtlPlausConfigWrite dt r s
  | .ctlLineupWrite dt r => Sys2Proof.Machine.execCtlLineupWrite dt r s
  | .tddOutConfigWrite dt r => Sys2Proof.Machine.execTddOutConfigWrite dt r s
  | .jcpConfigWrite dt r => Sys2Proof.Machine.execJcpConfigWrite dt r s
  | .fltStatusWrite dt r => Sys2Proof.Machine.execFltStatusWrite dt r s
  | .recTrigConfigWrite dt r => Sys2Proof.Machine.execRecTrigConfigWrite dt r s
  | .recSnapListWrite dt r => Sys2Proof.Machine.execRecSnapListWrite dt r s
  | .recCmdSelWrite dt r => Sys2Proof.Machine.execRecCmdSelWrite dt r s
  | .recStatsConfigWrite dt r => Sys2Proof.Machine.execRecStatsConfigWrite dt r s
  | .bootConfigWrite dt r => Sys2Proof.Machine.execBootConfigWrite dt r s
  | .bootConfigSave dt r => Sys2Proof.Machine.execBootConfigSave dt r s
  | .doorbellWrite dt off size value => Sys2Proof.Machine.execDoorbellWrite dt off size value s
  | .setupBaseLo dt sel value => Sys2Proof.Machine.execSetupBaseLo dt sel value s
  | .setupBaseHi dt sel value => Sys2Proof.Machine.execSetupBaseHi dt sel value s
  | .setupShape dt sel value => Sys2Proof.Machine.execSetupShape dt sel value s
  | .setupGo dt sel value => Sys2Proof.Machine.execSetupGo dt sel value s
  | .setupResume dt sel value => Sys2Proof.Machine.execSetupResume dt sel value s
  | .usbCommandPacket dt op r => Sys2Proof.Machine.execUsbCommandPacket dt op r s
  | .commandFetch dt op r => Sys2Proof.Machine.execCommandFetch dt op r s
  | .commandStart dt src => Sys2Proof.Machine.execCommandStart dt src s
  | .heldCommandRelease dt src => Sys2Proof.Machine.execHeldCommandRelease dt src s
  | .deferLimitExpiry dt src => Sys2Proof.Machine.execDeferLimitExpiry dt src s
  | .completionPost dt src => Sys2Proof.Machine.execCompletionPost dt src s
  | .fenceCommandStart dt src => Sys2Proof.Machine.execFenceCommandStart dt src s
  | .msixModerationExpiry dt ring => Sys2Proof.Machine.execMsixModerationExpiry dt ring s
  | .ringCreate dt r => Sys2Proof.Machine.execRingCreate dt r s
  | .ringDelete dt r => Sys2Proof.Machine.execRingDelete dt r s
  | .ringDrained dt ring => Sys2Proof.Machine.execRingDrained dt ring s
  | .ringError dt ring err => Sys2Proof.Machine.execRingError dt ring err s
  | .tlmConfigure dt r => Sys2Proof.Machine.execTlmConfigure dt r s
  | .telemetryEntry dt ring => Sys2Proof.Machine.execTelemetryEntry dt ring s
  | .abort dt r => Sys2Proof.Machine.execAbort dt r s
  | .deviceReset dt r => Sys2Proof.Machine.execDeviceReset dt r s
  | .mgmtReset dt r => Sys2Proof.Machine.execMgmtReset dt r s
  | .testEcho dt r => Sys2Proof.Machine.execTestEcho dt r s
  | .testEccInject dt r => Sys2Proof.Machine.execTestEccInject dt r s
  | .radioSetState dt r => Sys2Proof.Machine.execRadioSetState dt r s
  | .walkStepEnd dt ok => Sys2Proof.Machine.execWalkStepEnd dt ok s
  | .quickCalibrationEnd dt failed => Sys2Proof.Machine.execQuickCalibrationEnd dt failed s
  | .sleepEntered dt => Sys2Proof.Machine.execSleepEntered dt s
  | .hostPathGating dt => Sys2Proof.Machine.execHostPathGating dt s
  | .wakeUsbResume dt => Sys2Proof.Machine.execWakeUsbResume dt s
  | .wakeGpioEdge dt gpio => Sys2Proof.Machine.execWakeGpioEdge dt gpio s
  | .resetNAssert dt => Sys2Proof.Machine.execResetNAssert dt s
  | .railFail dt rail => Sys2Proof.Machine.execRailFail dt rail s
  | .railsGood dt m => Sys2Proof.Machine.execRailsGood dt m s
  | .hostLinkReset dt kind => Sys2Proof.Machine.execHostLinkReset dt kind s
  | .trstNReset dt => Sys2Proof.Machine.execTrstNReset dt s
  | .tapInstruction dt m => Sys2Proof.Machine.execTapInstruction dt m s
  | .rootPllLock dt => Sys2Proof.Machine.execRootPllLock dt s
  | .clkLockfail dt => Sys2Proof.Machine.execClkLockfail dt s
  | .clkUnlock dt => Sys2Proof.Machine.execClkUnlock dt s
  | .clkRefloss dt => Sys2Proof.Machine.execClkRefloss dt s
  | .clkXtal dt running => Sys2Proof.Machine.execClkXtal dt running s
  | .crystalRestart dt => Sys2Proof.Machine.execCrystalRestart dt s
  | .rootSourceReturn dt => Sys2Proof.Machine.execRootSourceReturn dt s
  | .sliceSwap dt c shadow => Sys2Proof.Machine.execSliceSwap dt c shadow s
  | .sliceFault dt c slice kind => Sys2Proof.Machine.execSliceFault dt c slice kind s
  | .overrangeStart dt c slices => Sys2Proof.Machine.execOverrangeStart dt c slices s
  | .overrangeEnd dt c slices => Sys2Proof.Machine.execOverrangeEnd dt c slices s
  | .fastStepTake dt c magnitude => Sys2Proof.Machine.execFastStepTake dt c magnitude s
  | .fastStepRelease dt c peak => Sys2Proof.Machine.execFastStepRelease dt c peak s
  | .fastStepStartTest dt c peak => Sys2Proof.Machine.execFastStepStartTest dt c peak s
  | .dacClipEpisode dt c => Sys2Proof.Machine.execDacClipEpisode dt c s
  | .dacCalHold dt c => Sys2Proof.Machine.execDacCalHold dt c s
  | .sbConfigure dt r => Sys2Proof.Machine.execSbConfigure dt r s
  | .sbRetune dt r => Sys2Proof.Machine.execSbRetune dt r s
  | .retuneApply dt g => Sys2Proof.Machine.execRetuneApply dt g s
  | .sbLoadCoef dt r => Sys2Proof.Machine.execSbLoadCoef dt r s
  | .sbSwitchBank dt r => Sys2Proof.Machine.execSbSwitchBank dt r s
  | .crossFadeEnd dt g => Sys2Proof.Machine.execCrossFadeEnd dt g s
  | .hardSwitchOutput dt g => Sys2Proof.Machine.execHardSwitchOutput dt g s
  | .sbSyncReset dt r => Sys2Proof.Machine.execSbSyncReset dt r s
  | .syncResetSample dt g => Sys2Proof.Machine.execSyncResetSample dt g s
  | .sbDcb dt r => Sys2Proof.Machine.execSbDcb dt r s
  | .disableRampEnd dt g => Sys2Proof.Machine.execDisableRampEnd dt g s
  | .canConfigure dt r => Sys2Proof.Machine.execCanConfigure dt r s
  | .canFreeze dt r => Sys2Proof.Machine.execCanFreeze dt r s
  | .canMapRead dt r => Sys2Proof.Machine.execCanMapRead dt r s
  | .canMapWrite dt r => Sys2Proof.Machine.execCanMapWrite dt r s
  | .cancellerBlockEnd dt g m => Sys2Proof.Machine.execCancellerBlockEnd dt g m s
  | .acqMsExpiry dt g => Sys2Proof.Machine.execAcqMsExpiry dt g s
  | .partitionBoundary dt g => Sys2Proof.Machine.execPartitionBoundary dt g s
  | .mapMoveEnd dt g => Sys2Proof.Machine.execMapMoveEnd dt g s
  | .canMove dt g => Sys2Proof.Machine.execCanMove dt g s
  | .govConfigure dt r => Sys2Proof.Machine.execGovConfigure dt r s
  | .govRestart dt r => Sys2Proof.Machine.execGovRestart dt r s
  | .governorBlockEnd dt g m => Sys2Proof.Machine.execGovernorBlockEnd dt g m s
  | .oscillationTrip dt g => Sys2Proof.Machine.execOscillationTrip dt g s
  | .clampHoldEnd dt g => Sys2Proof.Machine.execClampHoldEnd dt g s
  | .holdoffEnd dt g => Sys2Proof.Machine.execHoldoffEnd dt g s
  | .restartCapRemoval dt g => Sys2Proof.Machine.execRestartCapRemoval dt g s
  | .canProbeStart dt r => Sys2Proof.Machine.execCanProbeStart dt r s
  | .canProbeStop dt r => Sys2Proof.Machine.execCanProbeStop dt r s
  | .probeAutoStart dt g => Sys2Proof.Machine.execProbeAutoStart dt g s
  | .probeEnd dt g => Sys2Proof.Machine.execProbeEnd dt g s
  | .probeResume dt g => Sys2Proof.Machine.execProbeResume dt g s
  | .isoStore dt => Sys2Proof.Machine.execIsoStore dt s
  | .controlTick dt missed => Sys2Proof.Machine.execControlTick dt missed s
  | .plausTimerExpiry dt c => Sys2Proof.Machine.execPlausTimerExpiry dt c s
  | .setPointArrived dt loop which => Sys2Proof.Machine.execSetPointArrived dt loop which s
  | .ctlSetMode dt r => Sys2Proof.Machine.execCtlSetMode dt r s
  | .ctlSetPoint dt r => Sys2Proof.Machine.execCtlSetPoint dt r s
  | .ctlSetSchedule dt r => Sys2Proof.Machine.execCtlSetSchedule dt r s
  | .ctlInjectStart dt r => Sys2Proof.Machine.execCtlInjectStart dt r s
  | .ctlInjectStop dt r => Sys2Proof.Machine.execCtlInjectStop dt r s
  | .injectionEnd dt loop => Sys2Proof.Machine.execInjectionEnd dt loop s
  | .ctlRepLearnStart dt r => Sys2Proof.Machine.execCtlRepLearnStart dt r s
  | .ctlRepLearnRelease dt r => Sys2Proof.Machine.execCtlRepLearnRelease dt r s
  | .ctlRepLearnModify dt r => Sys2Proof.Machine.execCtlRepLearnModify dt r s
  | .tddConfigure dt r => Sys2Proof.Machine.execTddConfigure dt r s
  | .tddSetGatesWrite dt r => Sys2Proof.Machine.execTddSetGatesWrite dt r s
  | .tddCommitLearned dt r => Sys2Proof.Machine.execTddCommitLearned dt r s
  | .tddReadback dt r => Sys2Proof.Machine.execTddReadback dt r s
  | .syncAcquired dt grp frameTick sfn err => Sys2Proof.Machine.execSyncAcquired dt grp frameTick sfn err s
  | .syncMeasurement dt grp err => Sys2Proof.Machine.execSyncMeasurement dt grp err s
  | .syncLoss dt grp => Sys2Proof.Machine.execSyncLoss dt grp s
  | .holdoverExpiry dt grp => Sys2Proof.Machine.execHoldoverExpiry dt grp s
  | .gatingFrameStart dt grp => Sys2Proof.Machine.execGatingFrameStart dt grp s
  | .gateEdge dt grp uplink opened beam => Sys2Proof.Machine.execGateEdge dt grp uplink opened beam s
  | .tddLearn dt grp counts => Sys2Proof.Machine.execTddLearn dt grp counts s
  | .npSetLimitsSubband dt r => Sys2Proof.Machine.execNpSetLimitsSubband dt r s
  | .npSetLimitsBand dt r => Sys2Proof.Machine.execNpSetLimitsBand dt r s
  | .npSetLimitsChain dt r => Sys2Proof.Machine.execNpSetLimitsChain dt r s
  | .npEvaluation dt levels => Sys2Proof.Machine.execNpEvaluation dt levels s
  | .donorLossMute dt band => Sys2Proof.Machine.execDonorLossMute dt band s
  | .donorRelease dt band => Sys2Proof.Machine.execDonorRelease dt band s
  | .regrowthEvaluation dt c gathered meas => Sys2Proof.Machine.execRegrowthEvaluation dt c gathered meas s
  | .muteNFall dt => Sys2Proof.Machine.execMuteNFall dt s
  | .muteNRise dt => Sys2Proof.Machine.execMuteNRise dt s
  | .feSeqConfigurePa dt r => Sys2Proof.Machine.execFeSeqConfigurePa dt r s
  | .feSeqConfigureRx dt r => Sys2Proof.Machine.execFeSeqConfigureRx dt r s
  | .paPowerUpStart dt c => Sys2Proof.Machine.execPaPowerUpStart dt c s
  | .paSequenceOffset dt c => Sys2Proof.Machine.execPaSequenceOffset dt c s
  | .paPowerUpEnd dt c => Sys2Proof.Machine.execPaPowerUpEnd dt c s
  | .paPowerDownStart dt c => Sys2Proof.Machine.execPaPowerDownStart dt c s
  | .paPowerDownEnd dt c => Sys2Proof.Machine.execPaPowerDownEnd dt c s
  | .pgConfigure dt r => Sys2Proof.Machine.execPgConfigure dt r s
  | .pgConfigApply dt ch => Sys2Proof.Machine.execPgConfigApply dt ch s
  | .pgEdge dt ch asserting => Sys2Proof.Machine.execPgEdge dt ch asserting s
  | .wmConfigure dt r => Sys2Proof.Machine.execWmConfigure dt r s
  | .wmClear dt r => Sys2Proof.Machine.execWmClear dt r s
  | .monitorAssert dt m input => Sys2Proof.Machine.execMonitorAssert dt m input s
  | .monitorRelease dt m input => Sys2Proof.Machine.execMonitorRelease dt m input s
  | .xtripFall dt n => Sys2Proof.Machine.execXtripFall dt n s
  | .blankingEnd dt m => Sys2Proof.Machine.execBlankingEnd dt m s
  | .pinCheckMismatch dt ball => Sys2Proof.Machine.execPinCheckMismatch dt ball s
  | .pinAssign dt r => Sys2Proof.Machine.execPinAssign dt r s
  | .hkConfigureEntry dt r => Sys2Proof.Machine.execHkConfigureEntry dt r s
  | .hkConfigureTimer dt r => Sys2Proof.Machine.execHkConfigureTimer dt r s
  | .hkConfigureDac dt r => Sys2Proof.Machine.execHkConfigureDac dt r s
  | .htTimerFire dt n => Sys2Proof.Machine.execHtTimerFire dt n s
  | .htTriggerEdge dt n => Sys2Proof.Machine.execHtTriggerEdge dt n s
  | .hkRequest dt e => Sys2Proof.Machine.execHkRequest dt e s
  | .hkConversionEnd dt nv => Sys2Proof.Machine.execHkConversionEnd dt nv s
  | .thConfigureGlobal dt r => Sys2Proof.Machine.execThConfigureGlobal dt r s
  | .thConfigureSensor dt r => Sys2Proof.Machine.execThConfigureSensor dt r s
  | .thConfigureZone dt r => Sys2Proof.Machine.execThConfigureZone dt r s
  | .thermalRound dt => Sys2Proof.Machine.execThermalRound dt s
  | .thermalRoundEnd dt m => Sys2Proof.Machine.execThermalRoundEnd dt m s
  | .thermalFadeEnd dt => Sys2Proof.Machine.execThermalFadeEnd dt s
  | .analogueTrip dt sensor => Sys2Proof.Machine.execAnalogueTrip dt sensor s
  | .analogueTripRelease dt => Sys2Proof.Machine.execAnalogueTripRelease dt s
  | .thermalStopRelease dt => Sys2Proof.Machine.execThermalStopRelease dt s
  | .trimStore dt => Sys2Proof.Machine.execTrimStore dt s
  | .linkLoss dt => Sys2Proof.Machine.execLinkLoss dt s
  | .linkReturn dt mode => Sys2Proof.Machine.execLinkReturn dt mode s
  | .keepSExpiry dt => Sys2Proof.Machine.execKeepSExpiry dt s
  | .laneFault dt m => Sys2Proof.Machine.execLaneFault dt m s
  | .linkModeChange dt mode => Sys2Proof.Machine.execLinkModeChange dt mode s
  | .usbBusReset dt usb2 => Sys2Proof.Machine.execUsbBusReset dt usb2 s
  | .capConfigure dt r => Sys2Proof.Machine.execCapConfigure dt r s
  | .capStart dt r => Sys2Proof.Machine.execCapStart dt r s
  | .capStop dt r => Sys2Proof.Machine.execCapStop dt r s
  | .capRead dt r => Sys2Proof.Machine.execCapRead dt r s
  | .captureArmed dt => Sys2Proof.Machine.execCaptureArmed dt s
  | .captureTrigger dt tick cause arg => Sys2Proof.Machine.execCaptureTrigger dt tick cause arg s
  | .captureDone dt data sat => Sys2Proof.Machine.execCaptureDone dt data sat s
  | .captureSourceStop dt slot byHost => Sys2Proof.Machine.execCaptureSourceStop dt slot byHost s
  | .streamBlock dt slot payload nsamp t0 sat accepted => Sys2Proof.Machine.execStreamBlock dt slot payload nsamp t0 sat accepted s
  | .faultDetection dt src addr kind => Sys2Proof.Machine.execFaultDetection dt src addr kind s
  | .shadowEnd dt => Sys2Proof.Machine.execShadowEnd dt s
  | .mergePhaseEnd dt => Sys2Proof.Machine.execMergePhaseEnd dt s
  | .testPhaseTimeout dt => Sys2Proof.Machine.execTestPhaseTimeout dt s
  | .fault dt => Sys2Proof.Machine.execFault dt s
  | .fltConfigureSeverity dt r => Sys2Proof.Machine.execFltConfigureSeverity dt r s
  | .fltConfigureGlobal dt r => Sys2Proof.Machine.execFltConfigureGlobal dt r s
  | .fltAck dt r => Sys2Proof.Machine.execFltAck dt r s
  | .fltForcePulse dt r => Sys2Proof.Machine.execFltForcePulse dt r s
  | .fltForceHold dt r => Sys2Proof.Machine.execFltForceHold dt r s
  | .fltForceRelease dt r => Sys2Proof.Machine.execFltForceRelease dt r s
  | .memoryError dt mem word double => Sys2Proof.Machine.execMemoryError dt mem word double s
  | .sramScrubPass dt => Sys2Proof.Machine.execSramScrubPass dt s
  | .mramScrubPass dt => Sys2Proof.Machine.execMramScrubPass dt s
  | .ncoCheck dt bad => Sys2Proof.Machine.execNcoCheck dt bad s
  | .aliveToggle dt => Sys2Proof.Machine.execAliveToggle dt s
  | .keepaliveFeed dt => Sys2Proof.Machine.execKeepaliveFeed dt s
  | .keepaliveTimeout dt => Sys2Proof.Machine.execKeepaliveTimeout dt s
  | .pairTakeover dt => Sys2Proof.Machine.execPairTakeover dt s
  | .recoveryEnd dt => Sys2Proof.Machine.execRecoveryEnd dt s
  | .snapshotTrigger dt => Sys2Proof.Machine.execSnapshotTrigger dt s
  | .snapshotWrite dt verified => Sys2Proof.Machine.execSnapshotWrite dt verified s
  | .coalesceFlush dt => Sys2Proof.Machine.execCoalesceFlush dt s
  | .hourBoundary dt => Sys2Proof.Machine.execHourBoundary dt s
  | .opsecStore dt => Sys2Proof.Machine.execOpsecStore dt s
  | .recFreezeSet dt r => Sys2Proof.Machine.execRecFreezeSet dt r s
  | .recFreezeRelease dt r => Sys2Proof.Machine.execRecFreezeRelease dt r s
  | .freezeTimeout dt => Sys2Proof.Machine.execFreezeTimeout dt s
  | .recRead dt r => Sys2Proof.Machine.execRecRead dt r s
  | .recSetHosttime dt r => Sys2Proof.Machine.execRecSetHosttime dt r s
  | .recClearArm dt r => Sys2Proof.Machine.execRecClearArm dt r s
  | .recClearExec dt r => Sys2Proof.Machine.execRecClearExec dt r s
  | .zeroingEnd dt => Sys2Proof.Machine.execZeroingEnd dt s
  | .twbConfigure dt r => Sys2Proof.Machine.execTwbConfigure dt r s
  | .twbClear dt r => Sys2Proof.Machine.execTwbClear dt r s
  | .twbTransfer dt r => Sys2Proof.Machine.execTwbTransfer dt r s
  | .twbAttention dt r => Sys2Proof.Machine.execTwbAttention dt r s
  | .attentionWaitExpiry dt bus => Sys2Proof.Machine.execAttentionWaitExpiry dt bus s
  | .busTransferStart dt bus => Sys2Proof.Machine.execBusTransferStart dt bus s
  | .busTransferEnd dt bus res => Sys2Proof.Machine.execBusTransferEnd dt bus res s
  | .ackSlotStart dt bus => Sys2Proof.Machine.execAckSlotStart dt bus s
  | .arbitrationLost dt bus n => Sys2Proof.Machine.execArbitrationLost dt bus n s
  | .sclLowTimeout dt bus sdaLow => Sys2Proof.Machine.execSclLowTimeout dt bus sdaLow s
  | .sdaLowTimeout dt bus => Sys2Proof.Machine.execSdaLowTimeout dt bus s
  | .busFreeTimeout dt bus => Sys2Proof.Machine.execBusFreeTimeout dt bus s
  | .busClearEnd dt bus pulses ok => Sys2Proof.Machine.execBusClearEnd dt bus pulses ok s
  | .alert dt bus => Sys2Proof.Machine.execAlert dt bus s
  | .alertResponseRead dt bus resp released => Sys2Proof.Machine.execAlertResponseRead dt bus resp released s
  | .alertSuspendEnd dt bus => Sys2Proof.Machine.execAlertSuspendEnd dt bus s
  | .hostNotify dt bus bytes => Sys2Proof.Machine.execHostNotify dt bus bytes s
  | .bootStepEnd dt res => Sys2Proof.Machine.execBootStepEnd dt res s
  | .earlyFail dt => Sys2Proof.Machine.execEarlyFail dt s
  | .fgCalEnd dt failed => Sys2Proof.Machine.execFgCalEnd dt failed s
  | .firmwareRestart dt => Sys2Proof.Machine.execFirmwareRestart dt s
  | .bootLedgerRead dt r => Sys2Proof.Machine.execBootLedgerRead dt r s
  | .fwUpdate dt r => Sys2Proof.Machine.execFwUpdate dt r s
  | .resetNRelease dt clksel => Sys2Proof.Machine.execResetNRelease dt clksel s
  | .busMasterEnableWrite dt on => Sys2Proof.Machine.execBusMasterEnableWrite dt on s
  | .msixVectorUnmask dt w => Sys2Proof.Machine.execMsixVectorUnmask dt w s
  | .usbInTransfer dt ep => Sys2Proof.Machine.execUsbInTransfer dt ep s
  | .usbFunctionConfigured dt f => Sys2Proof.Machine.execUsbFunctionConfigured dt f s
  | .mirrorRefresh dt => Sys2Proof.Machine.execMirrorRefresh dt s
  | .xtripRise dt n => Sys2Proof.Machine.execXtripRise dt n s
  | .clearArmExpiry dt => Sys2Proof.Machine.execClearArmExpiry dt s
  | .calHoldEnd dt c => Sys2Proof.Machine.execCalHoldEnd dt c s
  | .probeSuspend dt g => Sys2Proof.Machine.execProbeSuspend dt g s
  | .coefLoadEnd dt g => Sys2Proof.Machine.execCoefLoadEnd dt g s
  | .mapReadEnd dt g => Sys2Proof.Machine.execMapReadEnd dt g s
  | .fwUpdateEnd dt => Sys2Proof.Machine.execFwUpdateEnd dt s

end Sys2Proof.Machine
end

