-- ==== Sys2Proof/Machine/Step.lean ====
section
/-!
DEFINITION. One step: the command or event at the front of the queue takes effect.
-/

namespace Sys2Proof.Machine

/-- One step: the front of the queue is taken and executed with the rest of the queue; on an empty queue the block
idles [2]. -/
def step (s : State) : Host.Outcome State Fault Refusal :=
  match s.pending with
  | [] => .next s
  | i :: rest => exec i { s with pending := rest }

/-- The opcode table gives no row any bits, so no word spells a command and nothing joins the queue [15]. -/
def State.withFetchWord (s : State) (_ _ : Nat) : State := s

end Sys2Proof.Machine
end

