-- ==== Sys2Proof/Safety.lean ====
section
/-!
DEFINITION. The terms in which claims about the block are made: the bounds of its message queues, and when a command
packet of an opcode starts as it arrives.
-/

namespace Sys2Proof.Machine

/-- The message queues keep to their sizes: 256 FAULT messages (R588), 64 snapshots that wait for the store (R605), and
16 attention entries on each two-wire bus (R650). -/
def Depths (s : State) : Prop :=
  s.flt.queue.length ≤ 256 ∧ s.rcd.waiting.length ≤ 64 ∧ ∀ bus, (s.twbOf bus).attn.length ≤ 16

/-- The state with other settings, another store, and another record of planted memory errors. -/
def State.withSet (s : State) (k : Settings) : State := { s with set := k }
def State.withStore (s : State) (k : Store) : State := { s with store := k }
def State.withMem (s : State) (k : Mem) : State := { s with mem := k }

/-- The reference that the next packet of a source gets. -/
def State.nextRef (s : State) (r : Request) : CmdRef := { src := srcKey r.src, id := s.jcp.nextId }

/-- A packet has been delivered and its command has started: it is at the end of its source's queue, running since now
(R520, R521, R533, R539). -/
def State.started (s : State) (op : Nat) (r : Request) : State := (s.deliver op r).running (s.nextRef r)

/-- A packet of a command starts as it arrives: its source can deliver it, nothing in that source's queue waits before
it, nothing holds it back, and it passes the checks of R537 against the state it meets. -/
def State.takes (s : State) (d : CmdDef) (r : Request) : Bool :=
  s.canDeliver r.src && (s.queue (srcKey r.src)).all (fun e => e.phase.begun) &&
    ((s.deliver d.op r).doomed (srcKey r.src)).isNone &&
    (s.deliver d.op r).mayStart (srcKey r.src) { id := s.jcp.nextId, op := d.op, req := r, fetchedAt := s.now } &&
    decide ((s.deliver d.op r).verdict d r = .ok)

end Sys2Proof.Machine
end

