-- ==== Sys2Proof/Certificates/Slice0/Obligations.lean ====
section
/-!
DEFINITION. The statements for the provers. Every statement about a command first lets its time pass: `s₀` is the
state in which the command is met, `s` the same with the time advanced.
-/

open Sys2Proof Sys2Proof.Machine

/-! How commands are taken, checked and answered. -/

/-- The block takes the command at the front of its queue, with the queue's rest. -/
def Obligations.StepTakesTheFront : Prop :=
  ∀ (c : Instr) (rest : List Instr) (s : State),
    step { s with pending := c :: rest } = exec c { s with pending := rest }

/-- On an empty queue the block idles: nothing changes (the model's choice, log entry 2). -/
def Obligations.EmptyQueueIdles : Prop :=
  ∀ s : State, s.pending = [] → step s = .next s

/-- Every command and event has a next state, in which the commands that wait are as before and time has not gone
back. -/
def Obligations.EveryCommandAnswers : Prop :=
  ∀ (c : Instr) (s : State), ∃ t, exec c s = .next t ∧ t.pending = s.pending ∧ s.now ≤ t.now

/-- At reset the message queues keep to their sizes. -/
def Obligations.QueueBoundsAtReset : Prop := Depths State.reset

/-- From every state whose message queues keep to their sizes, every step leads to such a state. -/
def Obligations.QueueBoundsKept : Prop :=
  ∀ s t : State, Depths s → step s = .next t → Depths t

/-- R533, R537: a command packet whose checks fail completes with their status and subcode, with RESULT 0, and has no other
effect: what follows is the packet delivered and that completion. -/
def Obligations.RejectedCommandOnlyCompletes : Prop :=
  ∀ (s : State) (d : CmdDef) (r : Request) (st sub : Nat),
    s.canDeliver r.src = true → (s.queue (srcKey r.src)).all (fun e => e.phase.begun) = true →
    (s.deliver d.op r).doomed (srcKey r.src) = none →
    (s.deliver d.op r).mayStart (srcKey r.src) { id := s.jcp.nextId, op := d.op, req := r, fetchedAt := s.now } = true →
    (s.deliver d.op r).verdict d r = .fail st sub →
      s.issue d r = (s.deliver d.op r).complete (s.nextRef r) st sub 0

/-- R537: the opcode's right to its source comes first, then PLEN, then the reserved bits of the header, each with its
status; only a packet that passes these is judged by its own rules. -/
def Obligations.HeaderChecksInOrder : Prop :=
  ∀ (s : State) (d : CmdDef) (r : Request),
    ((d.admin && !takesAdmin r.src) = true → s.verdict d r = .fail 0x0010 2) ∧
    ((d.admin && !takesAdmin r.src) = false → r.plen.toNat ≠ d.plen → s.verdict d r = .fail 0x0011 0) ∧
    ((d.admin && !takesAdmin r.src) = false → r.plen.toNat = d.plen → (8 ≤ r.flags.toNat ∨ r.rsvd ≠ 0) →
      s.verdict d r = .fail 0x0012 0x0FF)

/-- R534: a completion is 16 bytes: TAG, STATUS, the detail field and RESULT, low byte first; RESULT is 0 unless the status
is OK, TIMEOUT or one of the ABORTED codes. -/
def Obligations.CompletionLayout : Prop :=
  ∀ (e : Entry) (status sub result : Nat), e.heldUs = none →
    completionBytes e status sub result =
      leBytes 4 e.req.tag.toNat ++ leBytes 2 status ++ leBytes 2 (if status = 0 then 0 else sub % 16384) ++
        leBytes 8 (if status ∈ [0x0000, 0x0030, 0x0031, 0x0032] then result else 0)

/-- R535: a command that was held and then ran reports the hold: bit 14 of the detail field is set, the hold is in
microseconds up to 8,191, and above that bit 13 is set and it is in units of 16 µs, rounded up, at most 8,191 of them. -/
def Obligations.HoldReported : Prop :=
  ∀ (e : Entry) (us result : Nat), e.heldUs = some us →
    (us ≤ 8191 → completionBytes e 0 0 result =
      leBytes 4 e.req.tag.toNat ++ leBytes 2 0 ++ leBytes 2 (0x4000 + us) ++ leBytes 8 result) ∧
    (8191 < us → completionBytes e 0 0 result =
      leBytes 4 e.req.tag.toNat ++ leBytes 2 0 ++ leBytes 2 (0x6000 + min 8191 ((us + 15) / 16)) ++ leBytes 8 result)

/-- R553: an event takes one sequence number, which the next event's exceeds by one, modulo 2^32. -/
def Obligations.EventsAreNumbered : Prop :=
  ∀ (s : State) (code : Nat) (payload : List Byte),
    (s.post code payload).jcp.seq = (s.jcp.seq + 1) % 4294967296

/-- R517: a ring the device writes takes a further entry: TAIL advances modulo the ring's size, and PHASE inverts when TAIL
returns to 0. -/
def Obligations.RingEntryProduced : Prop :=
  ∀ r : Ring,
    (r.produced).tail = (r.tail + 1) % 2 ^ r.log2size ∧
    ((r.produced).phase = if (r.tail + 1) % 2 ^ r.log2size = 0 then !r.phase else r.phase) ∧
    (r.produced).head = r.head

/-- R557, R559, R561, R564, R565: NOP completes OK with RESULT 0. IDENTIFY gives the 256 bytes of the identification
block. OBJ_READ with ADDR 0 returns the 8 low bytes of the value in RESULT, and otherwise delivers the instances'
values and returns their CRC; a read clears what the object clears when read. TEST_ECHO returns the bytes it was
given, and their CRC. TEST_ECC_INJECT plants one error in a word, in place of any planted there. TLM_CONFIGURE sets
a ring's period and items, from which its entries begin anew. -/
def Obligations.ProtocolCommandsComplete : Prop :=
  ∀ (s₀ : State) (dt : Nat) (r : Request),
    let s := s₀.advance dt
    let ref := s.nextRef r
    (let u := s.started 0x0001 r; s.takes cmdNop r = true → exec (.nop dt r) s₀ = .next (u.complete ref 0 0 0)) ∧
    (let u := s.started 0x0002 r; s.takes cmdIdentify r = true → exec (.identify dt r) s₀ = .next ((u.giveData ref (pu r 0 8) (identBytes u)).complete ref 0 0 0)) ∧
    (let u := s.started 0x0003 r; s.takes cmdObjRead r = true → pu r 0 8 = 0 → exec (.objRead dt r) s₀ = .next ((u.readObjects r.object.toNat (instOf r) (pu r 8 2)).2.complete ref 0 0 (leAt (u.readObjects r.object.toNat (instOf r) (pu r 8 2)).1 0 8))) ∧
    (let u := s.started 0x0003 r; s.takes cmdObjRead r = true → pu r 0 8 ≠ 0 → exec (.objRead dt r) s₀ = .next (((u.readObjects r.object.toNat (instOf r) (pu r 8 2)).2.giveData ref (pu r 0 8)
        (u.readObjects r.object.toNat (instOf r) (pu r 8 2)).1).complete ref 0 0 (crc32c (u.readObjects r.object.toNat (instOf r) (pu r 8 2)).1))) ∧
    (let u := s.started 0x0D01 r; s.takes cmdTestEcho r = true → (bufOf r).length = pu r 16 4 → exec (.testEcho dt r) s₀ = .next ((u.giveData ref (pu r 8 8) (bufOf r)).complete ref 0 0 (crc32c (bufOf r)))) ∧
    (let u := s.started 0x0D02 r; s.takes cmdTestEccInject r = true → exec (.testEccInject dt r) s₀ = .next ((u.withMem { u.mem with
        planted := u.mem.planted.filter (fun e => !(e.1 == pu r 0 1 && e.2.1 == pu r 4 8)) ++
          [(pu r 0 1, pu r 4 8, decide (pu r 1 1 = 1))] }).complete ref 0 0 0)) ∧
    (let u := s.started 0x0014 r; s.takes cmdTlmConfigure r = true → exec (.tlmConfigure dt r) s₀ = .next ((u.modTlm (instOf r) (fun x => { x with periodUs := pu r 0 4, items := tlmItems r, last := none })).complete ref 0 0 0))

/-- R560 with R139, R133, R563 and the layouts of the owning chapters: OBJ_WRITE puts the masked bits of VALUE into the
object's RW bits, clears the W1C bits whose VALUE and MASK are both 1, and completes OK with RESULT 0. A write of
JCP_CONFIG, WIN_CONFIG, CNV_ATT_CONFIG, CTL_PLAUS_CONFIG, CTL_LINEUP, TDD_OUT_CONFIG, REC_TRIG_CONFIG, REC_SNAP_LIST
or REC_CMD_SEL sets the fields of the instance from the bits of the merged value `v`, and nothing else, but that a
new DET_SRC leaves the comparison without a code until its channel converts (R333), FAST_EN 0 releases the fast
steps, and an object of the store has both its copies again (R672). -/
def Obligations.ObjectsAreWritten : Prop :=
  ∀ (s₀ : State) (dt : Nat) (r : Request),
    let s := s₀.advance dt
    let ref := s.nextRef r
    (let u := s.started 0x0004 r; s.takes cmdObjWrite r = true → exec (.objWrite dt r) s₀ = .next (((u.objPut r.object.toNat (instOf r) (u.merged r)).objW1cClear r.object.toNat (instOf r) (clearedBits r)).complete ref 0 0 0)) ∧
    (let q : Request := { r with object := 0x0011 }; let u := s.started 0x0004 q; let v := u.merged q; s.takes cmdObjWrite q = true → 
      exec (.jcpConfigWrite dt r) s₀ = .next ((u.withSet { u.set with keepS := bitsAt v 47 36 }).complete ref 0 0 0)) ∧
    (let q : Request := { r with object := 0x0210 }; let u := s.started 0x0004 q; let v := u.merged q; s.takes cmdObjWrite q = true → 
      exec (.winConfigWrite dt r) s₀ = .next ((u.withSet { u.set with
        win := Table.set {} u.set.win (instOf r)
          { fcwA := BitVec.ofNat 32 (bitsAt v 31 0), fcwB := BitVec.ofNat 32 (bitsAt v 63 32) } }).complete ref 0 0 0)) ∧
    (let q : Request := { r with object := 0x0212 }; let u := s.started 0x0004 q; let v := u.merged q; s.takes cmdObjWrite q = true → 
      exec (.cnvAttConfigWrite dt r) s₀ = .next (((fun t : State => if bit v 63 then t else t.releaseSteps (instOf r)) (u.withSet { u.set with
        att := Table.set {} u.set.att (instOf r) {
          fastEn := bit v 63, fastMax := bitsAt v 62 61, attLsb := bitsAt v 60 59, align := bitsAt v 47 38
          hystDb := bitsAt v 37 32, holdMs := bitsAt v 31 22, stepCal := bitsAt v 21 11, fastThr := bitsAt v 10 0 } })).complete ref 0 0 0)) ∧
    (let q : Request := { r with object := 0x0422 }; let u := s.started 0x0004 q; let v := u.merged q; s.takes cmdObjWrite q = true → 
      exec (.ctlPlausConfigWrite dt r) s₀ = .next (((fun t : State => t.withSet { t.set with
        plaus := Table.set {} u.set.plaus (instOf r) {
          en := bit v 63, detSrc := bitsAt v 62 58, tol := bitsAt v 57 50, timeMs := bitsAt v 49 40
          floor := bitsAt v 39 32 } }) (if bitsAt v 62 58 = (u.plausSet (instOf r)).detSrc then u
        else u.modPlaus (instOf r) (fun x => { x with detAt := none }))).complete ref 0 0 0)) ∧
    (let q : Request := { r with object := 0x0423 }; let u := s.started 0x0004 q; let v := u.merged q; s.takes cmdObjWrite q = true → 
      exec (.ctlLineupWrite dt r) s₀ = .next ((u.withStore { u.store with
        lineup := Table.set {} u.store.lineup (instOf r) {
          b := [signedAt v 63 48, signedAt v 79 64, signedAt v 95 80, signedAt v 111 96, signedAt v 127 112]
          refDbm := signedAt v 47 32, icpt := bitsAt v 31 16, slope := signedAt v 15 0 } }).complete ref 0 0 0)) ∧
    (let q : Request := { r with object := 0x0522 }; let u := s.started 0x0004 q; let v := u.merged q; s.takes cmdObjWrite q = true → 
      exec (.tddOutConfigWrite dt r) s₀ = .next (({ u with
        beam := if bit v 63 then bitsAt v 57 52 else u.beam
        set := { u.set with
          tddOut := {
            beamEn := bit v 63, beamGroup := bitsAt v 62 61, fsyncEn := bit v 60, fsyncGroup := bitsAt v 59 58
            beamDefault := bitsAt v 57 52, beamDelay := signedAt v 47 32, fsyncWidth := bitsAt v 31 16 } } : State }).complete ref 0 0 0)) ∧
    (let q : Request := { r with object := 0x0A10 }; let u := s.started 0x0004 q; let v := u.merged q; s.takes cmdObjWrite q = true → 
      exec (.recTrigConfigWrite dt r) s₀ = .next ((u.withStore { u.store with
        trig := Table.set none u.store.trig (instOf r)
          (some { en := bit v 63, set := bitsAt v 62 60, coalesceMs := bitsAt v 47 32 })
        half := u.store.half.filter (fun e => e.1 != 305 + instOf r) }).complete ref 0 0 0)) ∧
    (let q : Request := { r with object := 0x0A11 }; let u := s.started 0x0004 q; let v := u.merged q; s.takes cmdObjWrite q = true → 
      exec (.recSnapListWrite dt r) s₀ = .next ((u.withStore { u.store with
        snapList := Table.set none u.store.snapList (instOf r)
          (some { valid := bit v 63, obj := bitsAt v 47 32, inst := bitsAt v 31 16 })
        half := u.store.half.filter (fun e => e.1 != 400 + instOf r) }).complete ref 0 0 0)) ∧
    (let q : Request := { r with object := 0x0A12 }; let u := s.started 0x0004 q; let v := u.merged q; s.takes cmdObjWrite q = true → 
      exec (.recCmdSelWrite dt r) s₀ = .next ((u.withStore { u.store with
        cmdSel := Table.set none u.store.cmdSel (instOf r) (some (BitVec.ofNat 64 v))
        half := u.store.half.filter (fun e => e.1 != 660 + instOf r) }).complete ref 0 0 0))

/-- R592, R626, R93, R94, R675: a write of FLT_STATUS acknowledges the bits it would clear, as FLT_ACK without
REARM_FIRST does. A write of REC_STATS_CONFIG sets the sub-band's slot and bin edges, one of RADIO_CONFIG the
radio's configuration with its claim on WAKE_GPIO, one of BOOT_CONFIG the start configuration in the store; with
SAVE = 1 the settings in force become the stored profile. Each completes OK with RESULT 0. -/
def Obligations.SpecialObjectsAreWritten : Prop :=
  ∀ (s₀ : State) (dt : Nat) (r : Request),
    let s := s₀.advance dt
    let ref := s.nextRef r
    (let q : Request := { r with object := 0x0900 }; let u := s.started 0x0004 q; let v := u.merged q; s.takes cmdObjWrite q = true → 
      exec (.fltStatusWrite dt r) s₀ = .next ((u.acknowledge (BitVec.ofNat 64 (clearedBits q)) false).complete ref 0 0 0)) ∧
    (let q : Request := { r with object := 0x0A20 }; let u := s.started 0x0004 q; let v := u.merged q; s.takes cmdObjWrite q = true → 
      exec (.recStatsConfigWrite dt r) s₀ = .next ((writeRecStats (instOf r) v u).complete ref 0 0 0)) ∧
    (let q : Request := { r with object := 0x0101 }; let u := s.started 0x0004 q; let v := u.merged q; s.takes cmdObjWrite q = true → 
      exec (.radioConfigWrite dt r) s₀ = .next ((writeRadioConfig v u).complete ref 0 0 0)) ∧
    (let q : Request := { withBit r 7 6 false with object := 0x0C01 }; let u := s.started 0x0004 q; let v := u.merged q; s.takes cmdObjWrite q = true → bit v 62 = false → 
      exec (.bootConfigWrite dt r) s₀ = .next ((u.withStore { u.store with
        half := u.store.half.filter (fun e => e.1 != 2)
        bootConfig := { u.store.bootConfig with
          earlyEn := bit v 63, startState := bitsAt v 55 52, startTxEn := BitVec.ofNat 8 (bitsAt v 51 44)
          startDirEn := BitVec.ofNat 2 (bitsAt v 43 42) } }).complete ref 0 0 0)) ∧
    (let q : Request := { withBit (withBit r 7 6 true) 23 6 true with object := 0x0C01 }; let u := s.started 0x0004 q; let v := u.merged q; s.takes cmdObjWrite q = true → bit v 62 = true → 
      exec (.bootConfigSave dt r) s₀ = .next ((u.withStore { u.store with
        profile := some u.settingsNow
        half := (u.store.half.filter (fun e => e.1 != 0)).filter (fun e => e.1 != 2)
        bootConfig := { u.store.bootConfig with
          earlyEn := bit v 63, startState := bitsAt v 55 52, startTxEn := BitVec.ofNat 8 (bitsAt v 51 44)
          startDirEn := BitVec.ofNat 2 (bitsAt v 43 42) } }).complete ref 0 0 0))

/-- RING_CREATE makes the ring that its parameters describe, ACTIVE and empty, and completes OK. RING_DELETE without
ABORT drains an ACTIVE ring: it becomes DRAINING with the TAIL in force and completes when the ring has drained
(RING_DRAINED). ABORT ends the first command of the named ring with its TAG that has not started, with ABORTED_HOST
subcode 3, and answers 1; with no such command it answers 0. -/
def Obligations.RingCommandsComplete : Prop :=
  ∀ (s₀ : State) (dt : Nat) (r : Request),
    let s := s₀.advance dt
    let ref := s.nextRef r
    (let u := s.started 0x0010 r;
      s.takes cmdRingCreate r = true → exec (.ringCreate dt r) s₀ = .next (((((u.modRing (instOf r) (fun _ => {
        base := pu r 8 8, peer := pu r 4 2, irqEn := flag r 3 0, vector := pu r 6 2, type := pu r 0 1, log2size := pu r 1 1
        state := 1, weight := pu r 2 1, credit := pu r 2 1, modCount := pu r 16 1, modUs := pu r 18 2
        esz := pu r 17 1 })).modTlm (instOf r) (fun _ => {})).setItems (instOf r) []).setQueue (instOf r) []).complete ref 0 0 0)) ∧
    (let u := s.started 0x0011 r;
      s.takes cmdRingDelete r = true → flag r 0 0 = false → (u.ring (instOf r)).state = 1 → exec (.ringDelete dt r) s₀ = .next (u.modRing (instOf r) (fun k => { k with
        state := 3, drain := some (k.tail, ref, false) }))) ∧
    (let u := s.started 0x0020 r;
      s.takes cmdAbort r = true → ∀ (k : Nat) (e : Entry), u.abortKey r = some k → (u.queue k).find? (fun e => !e.phase.begun && decide (e.req.tag.toNat = pu r 4 4)) = some e → exec (.abort dt r) s₀ = .next ((u.complete { src := k, id := e.id } 0x0032 3 0).complete ref 0 0 1)) ∧
    (let u := s.started 0x0020 r;
      s.takes cmdAbort r = true → ∀ (k : Nat), u.abortKey r = some k → (u.queue k).find? (fun e => !e.phase.begun && decide (e.req.tag.toNat = pu r 4 4)) = none → exec (.abort dt r) s₀ = .next (u.complete ref 0 0 0))

/-- DEVICE_RESET completes OK, its completion goes out, the recorder closes, and the whole device is reset with cause 3
and released with CLKSEL as its ball stands. MGMT_RESET restarts the management firmware. -/
def Obligations.ResetCommandsComplete : Prop :=
  ∀ (s₀ : State) (dt : Nat) (r : Request),
    let s := s₀.advance dt
    let ref := s.nextRef r
    (let u := s.started 0x0030 r;
      s.takes cmdDeviceReset r = true → let c : State := (u.complete ref 0 0 0).postHeld ref; let v : State := if 20000 ≤ ref.src then c.giveItems ref.src else c; exec (.deviceReset dt r) s₀ = .next ((v.recorderCloses.wholeReset 3).releaseReset v.pins.clksel)) ∧
    (let u := s.started 0x0031 r;
      s.takes cmdMgmtReset r = true → exec (.mgmtReset dt r) s₀ = .next (u.mgmtRestart))

/-- RADIO_SET_STATE ends the request in force with ABORTED_HOST subcode 4 and, with no walk in progress, moves the radio
to TARGET with the chain and direction enables it asks for; with a walk in progress it redirects the walk. A target
below SYNTH cuts a foreground calibration. -/
def Obligations.RadioStateRequested : Prop :=
  ∀ (s₀ : State) (dt : Nat) (r : Request),
    let s := s₀.advance dt
    let ref := s.nextRef r
    (let u := s.started 0x0101 r;
      s.takes cmdRadio r = true → let v : State := ((if pu r 0 1 < 2 then u.cutFgCal else u).endRadio 0x0032 4).setRadio (fun x => { x with raising := !u.lowers r }); v.radio.walk = none → exec (.radioSetState dt r) s₀ = .next (v.moveTo ref (pu r 0 1) (u.reqTx r) (u.reqDir r))) ∧
    (let u := s.started 0x0101 r;
      s.takes cmdRadio r = true → ∀ (w : Walk), let v : State := ((if pu r 0 1 < 2 then u.cutFgCal else u).endRadio 0x0032 4).setRadio (fun x => { x with raising := !u.lowers r }); v.radio.walk = some w → exec (.radioSetState dt r) s₀ = .next (v.redirect w ref (pu r 0 1) (u.reqTx r) (u.reqDir r)))

/-- SB_CONFIGURE of one sub-band: while it is disabled, its configuration is stored; with ENABLE in LISTEN or REPEAT its
outputs begin, and the result tells its latency and stage ratios; ENABLE = 0 on an enabled sub-band starts the
disable ramp of 64 D window samples, at whose end the command completes. SB_RETUNE of an enabled sub-band while
listening is carried out a microsecond later; otherwise the new words apply at once and it completes OK. -/
def Obligations.SubbandsAreConfigured : Prop :=
  ∀ (s₀ : State) (dt : Nat) (r : Request),
    let s := s₀.advance dt
    let ref := s.nextRef r
    (let u := s.started 0x0201 r;
      s.takes cmdSbConfigure r = true → let k : SbConfig := { enable := flag r 0 0, winB := flag r 0 1, offFreq := flag r 0 2, forceDf := flag r 0 3, autoShift := flag r 0 4, df := pu r 1 1, d := pu r 2 2, l := pu r 4 2, lTx := pu r 6 2, fcwRx := ps r 8 4, fcwTx := ps r 12 4, bw := pu r 16 4, shCic := pu r 20 1, shFir := pu r 21 1, shDcb := pu r 22 1 }; flag r 0 5 = false → flag r 0 0 = false → u.enabled (instOf r) = false → exec (.sbConfigure dt r) s₀ = .next ((u.storeSb (instOf r) k).complete ref 0 0 ((u.storeSb (instOf r) k).sbResult (instOf r)))) ∧
    (let u := s.started 0x0201 r;
      s.takes cmdSbConfigure r = true → let k : SbConfig := { enable := flag r 0 0, winB := flag r 0 1, offFreq := flag r 0 2, forceDf := flag r 0 3, autoShift := flag r 0 4, df := pu r 1 1, d := pu r 2 2, l := pu r 4 2, lTx := pu r 6 2, fcwRx := ps r 8 4, fcwTx := ps r 12 4, bw := pu r 16 4, shCic := pu r 20 1, shFir := pu r 21 1, shDcb := pu r 22 1 }; let on : List Nat := (covered (flag r 0 5) (instOf r)).filter (fun h => !u.enabled h); let v : State := (fun w : State => { w with rcd := { w.rcd with used := w.rcd.used ++ on.filter (fun h => !w.rcd.used.contains h) } }) (on.foldl (fun t h => t.storeSb h k) u); flag r 0 0 = true → on ≠ [] → u.listening = true → exec (.sbConfigure dt r) s₀ = .next ((v.beginOutputs on).complete ref 0 0 ((v.beginOutputs on).sbResult (instOf r)))) ∧
    (let u := s.started 0x0201 r;
      s.takes cmdSbConfigure r = true → flag r 0 5 = false → flag r 0 0 = false → u.enabled (instOf r) = true → u.listening = true → (u.sbOf (instOf r)).shed = false → exec (.sbConfigure dt r) s₀ = .next (u.modSb (instOf r) (fun x => { x with
        ramp := some (u.now + 64 * (u.cfg (instOf r)).d, some ref) }))) ∧
    (let u := s.started 0x0204 r;
      s.takes cmdSbRetune r = true → u.listening = true → (covered (flag r 8 0) (instOf r)).any (fun h => u.enabled h) = true → exec (.sbRetune dt r) s₀ = .next (u.modSb (instOf r) (fun x => { x with
        retunes := x.retunes ++ [{ due := u.window + 1967, seq := ((groupOf (instOf r)).flatMap (fun h => (u.sbOf h).retunes)).foldl (fun a r => max a (r.seq + 1)) 0, cmd := some ref, members := covered (flag r 8 0) (instOf r), fcwRx := ps r 0 4, fcwTx := ps r 4 4 }] }))) ∧
    (let u := s.started 0x0204 r;
      s.takes cmdSbRetune r = true → (covered (flag r 8 0) (instOf r)).any (fun h => u.enabled h) = false → exec (.sbRetune dt r) s₀ = .next ((u.retuneNow (covered (flag r 8 0) (instOf r)) (ps r 0 4) (ps r 4 4) u.window).complete ref 0 0 0))

/-- SB_LOAD_COEF queues the load of a bank with the taps its buffer holds; with the filter engines off it loads at once
and completes OK with the delay of the taps. SB_SWITCH_BANK exchanges the banks of sub-bands that do not run at
once, and completes OK; for sub-bands that run, HARD = 1 switches at the instance's next output boundary, and
otherwise every one begins a fade of 2^LOG2_FADE outputs there, on one sample, the RX fade tagged 10. SB_SYNC_RESET
takes a sample boundary for its reset. SB_DCB sets the DC blocker and completes OK. -/
def Obligations.BanksAreLoadedAndSwitched : Prop :=
  ∀ (s₀ : State) (dt : Nat) (r : Request),
    let s := s₀.advance dt
    let ref := s.nextRef r
    (let u := s.started 0x0202 r;
      s.takes cmdSbLoadCoef r = true → let l : CoefLoad := { cmd := some ref, startedAt := u.now, members := covered (flag r 0 2) (instOf r), tx := flag r 0 0, bank := if flag r 0 1 then 1 else 0, taps := tapsIn (bufOf r) (pu r 2 2) }; 2 ≤ u.radio.state → exec (.sbLoadCoef dt r) s₀ = .next (u.modSb (instOf r) (fun x => { x with loads := x.loads ++ [l] }))) ∧
    (let u := s.started 0x0202 r;
      s.takes cmdSbLoadCoef r = true → let l : CoefLoad := { cmd := some ref, startedAt := u.now, members := covered (flag r 0 2) (instOf r), tx := flag r 0 0, bank := if flag r 0 1 then 1 else 0, taps := tapsIn (bufOf r) (pu r 2 2) }; u.radio.state < 2 → u.loadFails l = none → exec (.sbLoadCoef dt r) s₀ = .next (((l.members.foldl (fun t h => t.takeTaps h l) u).complete ref 0 0 (bitsOf 32 (tau256 (bankOf l.taps) (l.members.foldl (fun t h => t.takeTaps h l) u).draws))).drawn)) ∧
    (let u := s.started 0x0203 r;
      s.takes cmdSbSwitchBank r = true → let gs : List Nat := covered (flag r 0 3) (instOf r); let v : State := (gs.filter (fun h => !u.switchesLive h)).foldl (fun t h => let t := t.exchange h (flag r 0 0) (flag r 0 1); let t := if flag r 0 0 then t.switchedRx h else t; if flag r 0 1 then t.switchedTx h else t) u; gs.filter (fun h => u.switchesLive h) = [] → exec (.sbSwitchBank dt r) s₀ = .next (v.complete ref 0 0 ((v.sbOf (instOf r)).latency % 65536 + if flag r 0 2 then 65536 else 0))) ∧
    (let u := s.started 0x0203 r;
      s.takes cmdSbSwitchBank r = true → ∀ (g : Nat) (t : List Nat), let gs : List Nat := covered (flag r 0 3) (instOf r); gs.filter (fun h => u.switchesLive h) = g :: t → gs.filter (fun h => !u.switchesLive h) = [] → flag r 0 2 = true → exec (.sbSwitchBank dt r) s₀ = .next (u.modSb g (fun x => { x with hard := some { due := u.boundary (u.cfg (instOf r)).d, cmd := some ref, members := g :: t, rx := flag r 0 0, tx := flag r 0 1 } }))) ∧
    (let u := s.started 0x0203 r;
      s.takes cmdSbSwitchBank r = true → let gs : List Nat := covered (flag r 0 3) (instOf r); gs ≠ [] → gs.filter (fun h => u.switchesLive h) = gs → gs.filter (fun h => !u.switchesLive h) = [] → flag r 0 2 = false → exec (.sbSwitchBank dt r) s₀ = .next (gs.foldl (fun t h => let n := 2 ^ pu r 1 1; let due := u.boundary (u.cfg (instOf r)).d; let f : Fade := { cmd := some ref, first := due, outputs := n }; let t := t.modSb h (fun x => { x with fadeRx := if flag r 0 0 then some f else x.fadeRx, fadeTx := if flag r 0 1 then some f else x.fadeTx }); if flag r 0 0 then t.addTag h 2 due (some (due + n * (t.cfg h).d)) else t) u)) ∧
    (let u := s.started 0x0205 r;
      s.takes cmdSbSyncReset r = true → ∀ (g : Nat) (t : List Nat), covered (flag r 0 0) (instOf r) = g :: t → exec (.sbSyncReset dt r) s₀ = .next (u.modSb g (fun x => { x with syncs := x.syncs ++ [{ due := u.boundary (u.cfg g).d, cmd := some ref, members := g :: t, fresh := false }] }))) ∧
    (let u := s.started 0x0206 r;
      s.takes cmdSbDcb r = true → exec (.sbDcb dt r) s₀ = .next (((covered (flag r 0 2) (instOf r)).foldl (fun t h => t.setDcb h (flag r 0 0) (flag r 0 1) (pu r 1 1)) u).complete ref 0 0 0))

/-- While the PCIe tunnel is up, a doorbell of an ACTIVE ring with a legal value sets TAIL of a SUBMISSION or STREAM
ring, and HEAD of another, whose kept entries are then delivered; a value not below the ring's size stops the ring
with ERR 1; and a write of another size or of a ring that is not ACTIVE is counted in DB_DROP. While ring 0 is not
ACTIVE, doorbell 0 takes the setup words: BASE_LO, BASE_HI and SHAPE store their value; GO with the three rings
given and legal makes them the admin rings under a new SESSION and posts ADMIN_READY; RESUME with the present
SESSION and within KEEP_S returns each suspended ring to its state before the loss and delivers what was kept. -/
def Obligations.DoorbellsAct : Prop :=
  ∀ (s₀ : State) (dt : Nat),
    let s := s₀.advance dt
    (∀ (n : Nat) (value : BitVec 32), s.link.pcieUp = true → n < 16384 → (s.ring n).state = 1 → value.toNat < 65536 → value.toNat < 2 ^ (s.ring n).log2size → (s.ring n).type = 1 ∨ (s.ring n).type = 4 → exec (.doorbellWrite dt (4 * n) 4 value) s₀ = .next (s.modRing n (fun x => { x with tail := value.toNat }))) ∧
    (∀ (n : Nat) (value : BitVec 32), s.link.pcieUp = true → n < 16384 → (s.ring n).state = 1 → value.toNat < 65536 → value.toNat < 2 ^ (s.ring n).log2size → (s.ring n).type ≠ 1 → (s.ring n).type ≠ 4 → exec (.doorbellWrite dt (4 * n) 4 value) s₀ = .next (((s.modRing n (fun x => { x with head := value.toNat })).drain n).owedEvents)) ∧
    (∀ (n : Nat) (value : BitVec 32), s.link.pcieUp = true → n < 16384 → (s.ring n).state = 1 → value.toNat < 65536 → 2 ^ (s.ring n).log2size ≤ value.toNat → exec (.doorbellWrite dt (4 * n) 4 value) s₀ = .next (((s.modRing n (fun x => { x with state := 2, err := 1 })).drain n).post 0x0005 (leBytes 2 n ++ leBytes 1 1))) ∧
    (∀ (n : Nat) (value : BitVec 32), s.link.pcieUp = true → 0 < n → n < 16384 → (s.ring n).state ≠ 1 → exec (.doorbellWrite dt (4 * n) 4 value) s₀ = .next (s.modLink (fun l => { l with dbDrop := satUp 0x7F l.dbDrop }))) ∧
    (∀ (off size : Nat) (value : BitVec 32), s.link.pcieUp = true → size ≠ 4 → exec (.doorbellWrite dt off size value) s₀ = .next (s.modLink (fun l => { l with dbDrop := satUp 0x7F l.dbDrop }))) ∧
    (∀ (sel : BitVec 2) (value : BitVec 26), s.link.pcieUp = true → (s.ring 0).state ≠ 1 → sel.toNat ≠ 3 → exec (.setupBaseLo dt sel value) s₀ = .next (s.modSetup sel.toNat (fun x => { x with lo := some value }))) ∧
    (∀ (sel : BitVec 2) (value : BitVec 26), s.link.pcieUp = true → (s.ring 0).state ≠ 1 → sel.toNat ≠ 3 → exec (.setupBaseHi dt sel value) s₀ = .next (s.modSetup sel.toNat (fun x => { x with hi := some value }))) ∧
    (∀ (sel : BitVec 2) (value : BitVec 26), s.link.pcieUp = true → (s.ring 0).state ≠ 1 → sel.toNat ≠ 3 → 4 ≤ value.toNat % 32 → value.toNat % 32 ≤ 12 → value.toNat < 131072 → exec (.setupShape dt sel value) s₀ = .next (s.modSetup sel.toNat (fun x => { x with shape := some value }))) ∧
    (∀ (a b c : Ring), s.link.pcieUp = true → (s.ring 0).state ≠ 1 → (s.clearSetup.ring 0).state ≠ 4 → s.clearSetup.masters = true → s.jcp.setup0.ring 1 1 = some a → s.jcp.setup1.ring 2 65535 = some b → s.jcp.setup2.ring 3 65535 = some c → a.overlaps b = false → a.overlaps c = false → b.overlaps c = false → exec (.setupGo dt 0 0) s₀ = .next (let t := s.clearSetup; ((((((t.drawn.modJcp (fun j => { j with session := (t.jcp.session + 1 + t.draw % 65535) % 65536, sinkRing := {} })).modRing 0 (fun _ => a)).modRing 1 (fun _ => b)).modRing 2 (fun _ => c)).setItems 1 []).setItems 2 []).adminReady)) ∧
    (∀ (a b c : Ring), s.link.pcieUp = true → (s.ring 0).state ≠ 1 → (s.clearSetup.ring 0).state = 4 → s.clearSetup.jcp.cause ≠ 2 → s.clearSetup.masters = true → s.jcp.setup0.ring 1 1 = some a → s.jcp.setup1.ring 2 65535 = some b → s.jcp.setup2.ring 3 65535 = some c → a.overlaps b = false → a.overlaps c = false → b.overlaps c = false → exec (.setupGo dt 0 0) s₀ = .next (let t := s.clearSetup.discardRings; ((((((t.drawn.modJcp (fun j => { j with session := (t.jcp.session + 1 + t.draw % 65535) % 65536, sinkRing := {} })).modRing 0 (fun _ => a)).modRing 1 (fun _ => b)).modRing 2 (fun _ => c)).setItems 1 []).setItems 2 []).adminReady)) ∧
    (∀ (value : BitVec 26), s.link.pcieUp = true → (s.ring 0).state = 4 → s.jcp.cause ≠ 2 → value.toNat = s.jcp.session → value.toNat < 65536 → s.now ≤ s.link.lostTime + s.set.keepS * perSecond → exec (.setupResume dt 0 value) s₀ = .next (let ns := s.ringNos.filter (fun n => decide ((s.ring n).state = 4)); let t := ns.foldl (fun (s : State) n => s.modRing n (fun r => { r with state := r.before, before := 0 })) s; ((t.drainRings ns).owedEvents).postLink))

/-- A fetched command, and a packet on an OUT endpoint, joins its source's queue, unless a barrier or a deletion has
already ended it. The next command in order starts where its checks pass, with FENCE or after a hold too. A command
still held at DEFER_LIMIT_US ends with TIMEOUT subcode 1. COMPLETION_POST posts the finished commands that the order
allows. At MOD_US a ring's message is sent. A drained ring becomes UNUSED and its RING_DELETE completes OK; a ring
error stops an ACTIVE ring and posts RING_ERROR. A telemetry entry is written where the ring has room, and counted
lost where not. A barrier whose commands have ended posts RECOVERY_END. -/
def Obligations.PacketEventsComplete : Prop :=
  ∀ (s₀ : State) (dt : Nat),
    let s := s₀.advance dt
    (∀ (op : BitVec 16) (r : Request), byPcie r = true → s.canDeliver r.src = true → (s.deliver op.toNat r).doomed (srcKey r.src) = none → exec (.commandFetch dt op r) s₀ = .next (s.deliver op.toNat r)) ∧
    (∀ (op : BitVec 16) (r : Request), byPcie r = false → s.canDeliver r.src = true → (s.deliver op.toNat r).doomed (srcKey r.src) = none → exec (.usbCommandPacket dt op r) s₀ = .next (s.deliver op.toNat r)) ∧
    (∀ (src : Src) (e : Entry) (d : CmdDef), s.nextToStart (srcKey src) false = some e → cmdOf e.op = some d → s.verdict d e.req = .ok → exec (.commandStart dt src) s₀ = .next (d.apply { src := srcKey src, id := e.id } e.req (s.running { src := srcKey src, id := e.id }))) ∧
    (∀ (src : Src) (e : Entry) (d : CmdDef), s.nextToStart (srcKey src) false = some e → cmdOf e.op = some d → s.verdict d e.req = .ok → bit e.req.flags.toNat 1 = true → exec (.fenceCommandStart dt src) s₀ = .next (d.apply { src := srcKey src, id := e.id } e.req (s.running { src := srcKey src, id := e.id }))) ∧
    (∀ (src : Src) (e : Entry) (d : CmdDef), s.nextToStart (srcKey src) true = some e → cmdOf e.op = some d → s.verdict d e.req = .ok → exec (.heldCommandRelease dt src) s₀ = .next (d.apply { src := srcKey src, id := e.id } e.req (s.running { src := srcKey src, id := e.id }))) ∧
    (∀ (src : Src) (e : Entry) (t : Time), s.firstWaiting (srcKey src) = some e → e.phase = .held t → t + ofMicros s.set.radioCfg.deferLimitUs ≤ s.now → s.stillWaits e = true → exec (.deferLimitExpiry dt src) s₀ = .next (s.complete { src := srcKey src, id := e.id } 0x0030 1 0)) ∧
    (∀ (src : Src), s.boot.pairFenced ≠ 3 → exec (.completionPost dt src) s₀ = .next ((postable (s.queue (srcKey src)) false false).1.foldl (fun (t : State) e => t.postEntry (srcKey src) e) (s.setQueue (srcKey src) (postable (s.queue (srcKey src)) false false).2))) ∧
    (∀ (ring : Nat), (s.ring ring).irqEn = true → (s.ring ring).state = 1 ∨ (s.ring ring).state = 3 → 0 < (s.ring ring).since → 0 < (s.ring ring).modUs → (s.ring ring).sinceAt + ofMicros (s.ring ring).modUs ≤ s.now → exec (.msixModerationExpiry dt ring) s₀ = .next ((s.modRing ring (fun r => { r with since := 0 })).sendMsix (s.ring ring).vector)) ∧
    (∀ (ring : Nat) (a : Nat) (ref : CmdRef) (b : Bool), (s.ring ring).drain = some (a, ref, b) → s.drained ring = true → exec (.ringDrained dt ring) s₀ = .next (((s.modRing ring (fun _ => {})).modTlm ring (fun _ => {})).complete ref 0 0 0)) ∧
    (∀ (ring err : Nat), 1 ≤ err → err ≤ 3 → (s.ring ring).state = 1 → exec (.ringError dt ring err) s₀ = .next (((s.modRing ring (fun r => { r with state := 2, err := err })).drain ring).post 0x0005 (leBytes 2 ring ++ leBytes 1 err))) ∧
    (∀ (ring : Nat), (s.tlmOf ring).items ≠ [] → (s.ring ring).state = 1 → (s.ring ring).type = 5 → s.divStart.isSome = true → s.tick % tlmTicks (s.tlmOf ring).periodUs = 0 → (s.tlmOf ring).last = none → (s.items ring).length < (s.ring ring).room → exec (.telemetryEntry dt ring) s₀ = .next ((s.modTlm ring (fun x => { x with seq := (x.seq + 1) % 4294967296, lostSince := 0, last := some s.now })).pushItem ring { kind := 4, bytes := s.tlmEntry ring })) ∧
    (∀ (ring : Nat), (s.tlmOf ring).items ≠ [] → (s.ring ring).state = 1 → (s.ring ring).type = 5 → s.divStart.isSome = true → s.tick % tlmTicks (s.tlmOf ring).periodUs = 0 → (s.tlmOf ring).last = none → (s.ring ring).room ≤ (s.items ring).length → exec (.telemetryEntry dt ring) s₀ = .next ((s.modTlm ring (fun x => { x with seq := (x.seq + 1) % 4294967296, lostSince := x.lostSince + 1, last := some s.now })).modRing ring (fun r => { r with lost := (r.lost + 1) % 4294967296 }))) ∧
    (∀ (b : Barrier), s.jcp.barriers.find? (fun y => s.barrierDone y) = some b → exec (.recoveryEnd dt) s₀ = .next ((s.modJcp (fun j => { j with barriers := j.barriers.erase b })).post 0x0003 (leBytes 2 b.number ++ leBytes 2 0 ++ leBytes 4 b.aborted)))

/-- A walk's step 6, 7 or 8 that ends in time brings the radio to LISTEN, or past step 7, or on where no PA sequence is
awaited; a step that fails ends the walk. After the quick calibration each chain has its stored set of the present
band with offset and gain measured afresh, or as it is with a CNV.QCAL detection where it failed, and the radio
reaches SYNTH. With the resume image written the device sleeps; 1 ms later the host paths are gated; and a USB
resume or the edge of the wake GPIO begins a wake, which ends after its steps. -/
def Obligations.WalkEventsComplete : Prop :=
  ∀ (s₀ : State) (dt : Nat),
    let s := s₀.advance dt
    (∀ (src : Nat) (t : Time), s.radio.waking = some (src, t) → t + s.wakeTime ≤ s.now → exec (.walkStepEnd dt true) s₀ = .next (s.awake src)) ∧
    (∀ (w : Walk), s.radio.waking = none → s.radio.walk = some w → w.kind ≠ .thermal ∨ s.firmwareRuns = true → w.step = 6 → w.stepAt + ofMicros 60 ≤ s.now → exec (.walkStepEnd dt true) s₀ = .next ((s.enterListen).boundaryAfter 6)) ∧
    (∀ (w : Walk), s.radio.waking = none → s.radio.walk = some w → w.kind ≠ .thermal ∨ s.firmwareRuns = true → w.step = 7 → w.stepAt + ofMicros 20 ≤ s.now → exec (.walkStepEnd dt true) s₀ = .next ((s.boundaryAfter 7).seqCheck)) ∧
    (∀ (w : Walk), s.radio.waking = none → s.radio.walk = some w → w.kind ≠ .thermal ∨ s.firmwareRuns = true → w.step = 8 → exec (.walkStepEnd dt true) s₀ = .next (s.seqCheck)) ∧
    (∀ (w : Walk), s.radio.waking = none → s.radio.walk = some w → w.kind ≠ .thermal ∨ s.firmwareRuns = true → 4 ≤ w.step → w.step ≤ 8 → s.radio.relock = none → exec (.walkStepEnd dt false) s₀ = .next (s.failStep)) ∧
    (∀ (failed : BitVec 8) (w : Walk), s.radio.walk = some w → w.step = 5 → s.radio.pllLocked = true → w.stepAt + ofMicros 800 ≤ s.now → exec (.quickCalibrationEnd dt failed) s₀ = .next (((chains.foldl (fun (t : State) c => ((let k := t.storedSet c t.th.band; let t := t.modCnv c (fun x => { x with quickFailed := bit failed.toNat c }); if bit failed.toNat c then (t.modCnv c (fun x => x.calibrated k t.th.band)).raise 1 c 0
        else (t.modCnv c (fun x => x.calibrated (t.quickTrims k) t.th.band)).drawnBy 66) : State).checkTrims c) s).enterSynth).boundaryAfter 5)) ∧
    (∀ (w : Walk) (c : CmdRef), s.radio.walk = some w → w.step = 9 → s.radio.state = 1 → (s.twbOf 0).busy = .idle → (s.twbOf 1).busy = .idle → w.cmd = some c → exec (.sleepEntered dt) s₀ = .next (let u := (((s.modStore (fun x => { x with resume := some s.settingsNow })).repaired 1).recorderRest).writeWaiting; let t := (((([0, 1, 2, 3].foldl State.loseWrites u)).toState 0).powerGated).setRadio (fun x => { x with gateAt := some (u.now + perMs) }); t.stateReached c w.startedAt)) ∧
    (∀ (t : Time), s.radio.gateAt = some t → t ≤ s.now → s.radio.state = 0 → s.radio.gated = false → s.radio.waking = none → exec (.hostPathGating dt) s₀ = .next (((s.linkLost).usbLost true).setRadio (fun x => { x with gated := true }))) ∧
    (s.radio.state = 0 → s.radio.waking = none → s.set.radioCfg.wakeUsb = true → exec (.wakeUsbResume dt) s₀ = .next (s.setRadio (fun x => { x with waking := some (0, s.now), xtalOnAt := some s.now }))) ∧
    (∀ (gpio : Nat), s.radio.state = 0 → s.radio.waking = none → gpio < 16 → s.set.radioCfg.wakeGpio = gpio → exec (.wakeGpioEdge dt gpio) s₀ = .next (s.setRadio (fun x => { x with waking := some (1, s.now), xtalOnAt := some s.now })))

/-- The root PLL locks no earlier than 50 µs after it was enabled, and the divider starts; step 4 of a walk then ends. A
PLL that has not locked 2 ms after it was enabled fails step 4 with CLK.LOCKFAIL, or an attempt of the relock. The
loss of the lock is CLK.UNLOCK: below SYNTH it fails an attempt of the relock or takes the clock's fall, and from
SYNTH on a relock follows the fall. The loss of the external reference is CLK.REFLOSS and that of the running
crystal CLK.XTAL, lasting detections after which the fallback oscillator takes over; during a wake CLK.REFLOSS alone
is raised. A crystal that does not start within 5 ms is CLK.XTAL. Every 100 ms the crystal is started again; when it
has run for 5 ms, or the reference is back, the detections end and the relock begins, as it does when a crystal that
was late at boot has started (the model's choice, log entry 97); a reference that returns during a wake ends
CLK.REFLOSS. -/
def Obligations.ClockEventsComplete : Prop :=
  ∀ (s₀ : State) (dt : Nat),
    let s := s₀.advance dt
    (s.radio.pllOn = true → s.radio.pllLocked = false → s.radio.srcPresent = true → s.radio.pllOnAt + ofMicros 50 ≤ s.now → s.radio.walk = none → exec (.rootPllLock dt) s₀ = .next (((s.setRadio (fun x => { x with pllLocked := true })).ends 7 0).dividerStart)) ∧
    (∀ (w : Walk), s.radio.pllOn = true → s.radio.pllLocked = false → s.radio.srcPresent = true → s.radio.pllOnAt + ofMicros 50 ≤ s.now → s.radio.walk = some w → w.step ≠ 4 → exec (.rootPllLock dt) s₀ = .next (((s.setRadio (fun x => { x with pllLocked := true })).ends 7 0).dividerStart)) ∧
    (∀ (w : Walk), s.radio.pllOn = true → s.radio.pllLocked = false → s.radio.srcPresent = true → s.radio.pllOnAt + ofMicros 50 ≤ s.now → s.radio.walk = some w → w.step = 4 → exec (.rootPllLock dt) s₀ = .next ((((s.setRadio (fun x => { x with pllLocked := true })).ends 7 0).dividerStart).boundaryAfter 4)) ∧
    (∀ (w : Walk), s.radio.pllOn = true → s.radio.pllLocked = false → s.radio.pllOnAt + ofMicros 2000 ≤ s.now → s.radio.walk = some w → w.step = 4 → s.radio.relock = none → exec (.clkLockfail dt) s₀ = .next (((s.raise 6 0 0).failStep).pllRest)) ∧
    (∀ (w : Walk) (q : Nat × Time), s.radio.pllOn = true → s.radio.pllLocked = false → s.radio.pllOnAt + ofMicros 2000 ≤ s.now → s.radio.walk = some w → w.step = 4 → s.radio.relock = some q → exec (.clkLockfail dt) s₀ = .next (s.relockFailed)) ∧
    (s.radio.pllLocked = true → s.radio.state < 2 → s.radio.relock = none → exec (.clkUnlock dt) s₀ = .next (((s.raise 7 0 0 true).setRadio (fun x => { x with pllLocked := false })).clockFall)) ∧
    (∀ (q : Nat × Time), s.radio.pllLocked = true → s.radio.state < 2 → s.radio.relock = some q → exec (.clkUnlock dt) s₀ = .next (((s.raise 7 0 0 true).setRadio (fun x => { x with pllLocked := false })).relockFailed)) ∧
    (s.radio.pllLocked = true → 2 ≤ s.radio.state → exec (.clkUnlock dt) s₀ = .next ((((s.raise 7 0 0 true).setRadio (fun x => { x with pllLocked := false })).clockFall).relockBegin)) ∧
    (s.radio.rootExt = true → s.radio.inReset = false → s.radio.fallback = false → 1 ≤ s.radio.state → exec (.clkRefloss dt) s₀ = .next ((s.raise 5 0 0 true).sourceGone)) ∧
    (∀ (q : Nat × Time), s.radio.rootExt = true → s.radio.inReset = false → s.radio.fallback = false → s.radio.state = 0 → s.radio.waking = some q → s.flt.lasting.any (fun d => d.bit == 5) = false → exec (.clkRefloss dt) s₀ = .next (s.raise 5 0 0 true)) ∧
    (s.radio.rootExt = false → s.radio.inReset = false → s.radio.fallback = false → s.radio.srcPresent = true → 1 ≤ s.radio.state → exec (.clkXtal dt true) s₀ = .next ((s.raise 4 0 2 true).sourceGone)) ∧
    (s.radio.rootExt = false → s.radio.inReset = false → s.radio.fallback = false → s.radio.srcPresent = false → 1 ≤ s.radio.state → s.radio.xtalOnAt.getD s.boot.releasedAt + 5 * perMs ≤ s.now → exec (.clkXtal dt false) s₀ = .next (s.raise 4 0 1 true)) ∧
    (∀ (t : Time), s.radio.xtalOnAt = some t → s.radio.fallback = true → s.radio.rootExt = false → t + 100 * perMs ≤ s.now → exec (.crystalRestart dt) s₀ = .next (s.setRadio (fun x => { x with xtalOnAt := some s.now }))) ∧
    (∀ (t : Time), s.radio.fallback = true → s.radio.xtalOnAt = some t → t + 5 * perMs ≤ s.now → exec (.rootSourceReturn dt) s₀ = .next (let lasted := (s.now - s.radio.fallbackAt) / perSubsec; let t : State := { s.drawn with opOfs := s.opOfs + ((s.draw % (lasted / 10 + 1) : Nat) - (lasted / 20 : Nat) : Int) }; (((((t.setRadio (fun x => { x with srcPresent := true, fallback := false, xtalOnAt := none })).ends 4 0).ends 5 0).roundsBegin).relockBegin))) ∧
    (s.radio.fallback = true → s.radio.xtalOnAt = none → s.radio.rootExt = true → exec (.rootSourceReturn dt) s₀ = .next (let lasted := (s.now - s.radio.fallbackAt) / perSubsec; let t : State := { s.drawn with opOfs := s.opOfs + ((s.draw % (lasted / 10 + 1) : Nat) - (lasted / 20 : Nat) : Int) }; (((((t.setRadio (fun x => { x with srcPresent := true, fallback := false, xtalOnAt := none })).ends 4 0).ends 5 0).roundsBegin).relockBegin))) ∧
    (s.radio.fallback = false → s.radio.rootExt = false → s.radio.srcPresent = false → s.radio.inReset = false → s.flt.lasting.any (fun d => d.bit == 4) = true → 1 ≤ s.radio.state → exec (.rootSourceReturn dt) s₀ = .next (((s.setRadio (fun x => { x with srcPresent := true, xtalOnAt := none })).ends 4 0).relockBegin)) ∧
    (∀ (q : Nat × Time), s.radio.fallback = false → s.radio.rootExt = true → s.radio.waking = some q → s.flt.lasting.any (fun d => d.bit == 5) = true → exec (.rootSourceReturn dt) s₀ = .next (s.ends 5 0))

/-- RESET_N asserted with every rail good ends a freeze and resets the whole device, with the source RESET_N, and holds
it; with a rail down it is only recorded. Its release with every rail good starts the boot with the level of CLKSEL.
A failed rail resets the device as a power-on reset and the TAP; when all are good a power cycle is counted,
HOST_OFS is no longer valid, and the operating time starts from the last stored second. A TAP instruction is loaded,
after the cells that the one before it shifted into the boundary-scan register; on leaving a scan instruction the
loops of every chain that transmits start from rest; TRST_N loads IDCODE. -/
def Obligations.ResetEventsComplete : Prop :=
  ∀ (s₀ : State) (dt : Nat),
    let s := s₀.advance dt
    (s.radio.resetN = false → s.radio.railsGood = 31 → exec (.resetNAssert dt) s₀ = .next (((((s.endFreeze).wholeReset 2).holdReset)).setRadio (fun x => { x with resetN := true }))) ∧
    (s.radio.resetN = false → s.radio.railsGood ≠ 31 → exec (.resetNAssert dt) s₀ = .next ((s.holdReset).setRadio (fun x => { x with resetN := true }))) ∧
    (∀ (clksel : Bool), s.radio.resetN = true → s.radio.railsGood = 31 → exec (.resetNRelease dt clksel) s₀ = .next ((s.setRadio (fun x => { x with resetN := false })).releaseReset clksel)) ∧
    (∀ (rail : Nat), rail < 5 → exec (.railFail dt rail) s₀ = .next ((let t := (s.wholeReset 1).holdReset; ({ t with pins := { t.pins with tap := 1 } } : State)).setRadio (fun x => { x with railsGood := x.railsGood &&& ~~~(BitVec.ofNat 5 (2 ^ rail)), failedAt := s.now }))) ∧
    (∀ (since : Time) (clksel : Bool), s.radio.inReset = true → s.radio.railsGood ≠ 31 → ofMicros 2000 ≤ since → s.radio.failedAt + since ≤ s.now → s.radio.resetN = false → exec (.railsGood dt ⟨since, clksel⟩) s₀ = .next (let a := s.setRadio (fun x => { x with railsGood := 31, goodAt := s.now - since }); let b := ((a.modStore (fun x => { x with powerCycles := (x.powerCycles + 1) % 4294967296, hostValid := false })).repaired 301).repaired 303; let c : State := { b with opOfs := ((b.store.resumeSeconds % 4294967296 * 65536 : Nat) : Int) - (b.now / perSubsec : Nat) }; let d := c.modRec (fun x => { x with hourNo := c.seconds / 3600, opsecAt := c.now }); d.releaseReset clksel)) ∧
    (∀ (code : BitVec 8) (cells : BitVec 257), (scanTakes s.pins.tap && !scanTakes code) = false → exec (.tapInstruction dt ⟨code, cells⟩) s₀ = .next (({ s with pins := { s.pins with tap := code, boundary := if scanShifts s.pins.tap then cells else s.pins.boundary } } : State))) ∧
    (∀ (code : BitVec 8) (cells : BitVec 257), (scanTakes s.pins.tap && !scanTakes code) = true → exec (.tapInstruction dt ⟨code, cells⟩) s₀ = .next ((chains.filter (fun c => s.transmits c)).foldl (fun (t : State) c => (((sbsOf c).filter (fun g => t.enabled g)).foldl (fun (t : State) g => t.restLoop g) t).restLoop (128 + c)) ({ s with pins := { s.pins with tap := code, boundary := if scanShifts s.pins.tap then cells else s.pins.boundary } } : State))) ∧
    (scanTakes s.pins.tap = false → exec (.trstNReset dt) s₀ = .next (({ s with pins := { s.pins with tap := 1 } } : State)))

/-- CAN_CONFIGURE sets every covered victim sub-band and completes OK. CAN_FREEZE sets or clears the host freeze of one
sub-band or its group, of a chain (or its four chains), or of all 128, and completes OK. CAN_MAP_READ queues the
reading of the named paths' images, taken at its start. CAN_MAP_WRITE writes the images of its buffer into the named
paths, after which the map counts as reloaded, and completes OK. -/
def Obligations.CancellerCommandsComplete : Prop :=
  ∀ (s₀ : State) (dt : Nat) (r : Request),
    let s := s₀.advance dt
    let ref := s.nextRef r
    (let u := s.started 0x0301 r;
      s.takes cmdCanConfigure r = true → let k : CanSet := { enable := flag r 0 0, srcMask := BitVec.ofNat 4 (pu r 1 1), muAcq := pu r 2 1, muTrk := pu r 3 1, acqMs := pu r 4 2, refFloor := pu r 6 1, exclFirst := pu r 8 2, exclCount := pu r 10 2 }; exec (.canConfigure dt r) s₀ = .next ((((covered (flag r 0 2) (instOf r)).foldl (fun t h => t.setCan h k (flag r 0 1)) u).groupChanged (instOf r)).complete ref 0 0 0)) ∧
    (let u := s.started 0x0302 r;
      s.takes cmdCanFreeze r = true → exec (.canFreeze dt r) s₀ = .next (((if flag r 0 2 then allSbs else if flag r 0 1 then (if flag r 0 3 then [groupBase (instOf r), groupBase (instOf r) + 1, groupBase (instOf r) + 2, groupBase (instOf r) + 3].flatMap sbsOf else sbsOf (instOf r)) else covered (flag r 0 3) (instOf r)).foldl (fun t h => let t := t.modCanSet h (fun x => { x with hostFreeze := flag r 0 0 }); if t.beforeBlocks h || decide ((t.canOf h).nb = 0) then t.modCan h (fun x => { x with frozen := flag r 0 0 }) else t) u).complete ref 0 0 0)) ∧
    (let u := s.started 0x0304 r;
      s.takes cmdCanMapRead r = true → let ps : List Nat := (List.range 4).filter (fun i => bit (pu r 0 1) i); exec (.canMapRead dt r) s₀ = .next (u.modCan (instOf r) (fun x => { x with reading := x.reading ++ [{ cmd := ref, startedAt := u.now, paths := ps, addr := pu r 8 8, data := if u.outputsRun (instOf r) then none else some (u.pathsImage (instOf r) ps) }] }))) ∧
    (let u := s.started 0x0305 r;
      s.takes cmdCanMapWrite r = true → exec (.canMapWrite dt r) s₀ = .next ((((pathOffsets r (u.canOf (instOf r)).nb).foldl (fun t o => t.writePath (instOf r) (bufOf r) o) u).mapReloaded (instOf r)).complete ref 0 0 0))

/-- GOV_CONFIGURE stores its settings for every covered sub-band, brings the ceilings of off-frequency sub-bands up to
date and completes OK. GOV_RESTART ends the latch of every covered sub-band, removes the restart cap and the history
of failures where it asks for it, brings the ceilings up to date and completes OK. CAN_PROBE with START ends a probe
that runs with ABORTED_HOST subcode 1 and begins one on every covered sub-band; without START it ends them with
subcode 2 and completes OK. -/
def Obligations.GovernorCommandsComplete : Prop :=
  ∀ (s₀ : State) (dt : Nat) (r : Request),
    let s := s₀.advance dt
    let ref := s.nextRef r
    (let u := s.started 0x0310 r;
      s.takes cmdGovConfigure r = true → let k : GovSet := { groupTie := flag r 0 1, useStored := flag r 0 2, probeAuto := flag r 0 3, clampDb := pu r 1 1, margin := pu r 2 2, isoInit := ps r 4 2, offCeil := ps r 6 2, holdoffS := pu r 8 2, restartStep := pu r 10 1, maxFail := pu r 11 1, clampHoldMs := pu r 12 2, extInitNs := pu r 14 2, oscFloor := pu r 16 1, acThr := pu r 17 1, acContrast := pu r 18 1, achMax := pu r 19 1 }; exec (.govConfigure dt r) s₀ = .next (((covered (flag r 0 0) (instOf r)).foldl (fun t g => if t.listening ∧ t.enabled g ∧ (t.cfg g).offFreq then t.ceiling g 0 else t) ((covered (flag r 0 0) (instOf r)).foldl (fun t g => t.withSet { t.set with gov := Table.set {} t.set.gov g k }) u)).complete ref 0 0 0)) ∧
    (let u := s.started 0x0311 r;
      s.takes cmdGovRestart r = true → let gs : List Nat := covered (flag r 0 0) (instOf r); let ts : List Nat := (gs.flatMap (gs.foldl State.endLatch u).tied).dedup; exec (.govRestart dt r) s₀ = .next ((ts.foldl (fun t h => if t.listening ∧ t.enabled h then t.ceiling h 0 else t)
        (ts.foldl (fun t h => t.modGov h (fun x => { x with
          cap := if flag r 0 1 then none else x.cap
          fails := if flag r 0 2 then [] else x.fails })) (gs.foldl State.endLatch u))).complete ref 0 0 0)) ∧
    (let q : Request := withBit r 0 0 true;
      let u := s.started 0x0303 q;
      s.takes cmdCanProbe q = true → exec (.canProbeStart dt r) s₀ = .next ((covered (flag q 0 1) (instOf r)).foldl (fun t h => t.startProbe h (t.newProbe (some ref) (pu q 1 1) (pu q 2 2))) ((covered (flag q 0 1) (instOf r)).foldl (fun t h => t.stopProbe h 0x0032 1) u))) ∧
    (let q : Request := withBit r 0 0 false;
      let u := s.started 0x0303 q;
      s.takes cmdCanProbe q = true → exec (.canProbeStop dt r) s₀ = .next (((covered (flag q 0 1) (instOf r)).foldl (fun t h => t.stopProbe h 0x0032 2) u).complete ref 0 0 0))

/-- CTL_SET_MODE and CTL_SET_POINT set every covered loop, and complete once the loops have handed over, or the value is
reached. CTL_SET_SCHEDULE queues one region for every covered loop; a loop without updates takes it at once.
CTL_INJECT START begins an injection on its loop; with CAPTURE it takes the capture buffer. STOP ends the injection
with ABORTED_HOST subcode 2 and completes OK. -/
def Obligations.LoopCommandsComplete : Prop :=
  ∀ (s₀ : State) (dt : Nat) (r : Request),
    let s := s₀.advance dt
    let ref := s.nextRef r
    (let u := s.started 0x0401 r;
      s.takes cmdCtlSetMode r = true → exec (.ctlSetMode dt r) s₀ = .next (((covered (flag r 1 0) (instOf r)).foldl (fun t l => t.setMode ref l (pu r 0 1)) u).completeMode (some ref))) ∧
    (let u := s.started 0x0402 r;
      s.takes cmdCtlSetPoint r = true → let v : State := (covered (flag r 1 0) (instOf r)).foldl (fun t l => t.setPoint ref l (pu r 0 1) (ps r 2 2) (pu r 4 2)) u; exec (.ctlSetPoint dt r) s₀ = .next (v.pointDone ref (instOf r) (pu r 0 1) v.now)) ∧
    (let u := s.started 0x0403 r;
      s.takes cmdCtlSetSchedule r = true → let ls : List Nat := coveredLoops (flag r 1 0) (instOf r); let x : Region := { kp := pu r 4 4, ki := pu r 8 4, kaw := pu r 12 4, shKp := pu r 16 1, shKi := pu r 17 1, shAw := pu r 18 1, bp := ps r 2 2 }; let v : State := ls.foldl (fun t l => t.modLoop l (fun y => { y with sched := y.sched ++ [{ cmd := ref, number := pu r 0 1, nreg := pu r 19 1, region := x, avg := pu r 20 1, div := pu r 21 1 }] })) u; exec (.ctlSetSchedule dt r) s₀ = .next ((ls.filter (fun l => !v.loopRuns l)).foldl State.takeSchedule v)) ∧
    (let q : Request := withBit r 0 0 true;
      let u := s.started 0x0404 q;
      s.takes cmdCtlInject q = true → let v : State := u.modLoop (instOf r) (fun x => { x with inj := some { cmd := ref, point := pu q 0 1 / 2 % 2, capture := flag q 0 2, kind := pu q 1 1, amp := ps q 2 2, duration := pu q 4 4, pre := pu q 8 2, order := pu q 10 1, hold := pu q 12 2, fStart := pu q 16 4, fEnd := pu q 20 4, done := 0, lfsr := 2 ^ pu q 10 1 - 1, limited := false } }); exec (.ctlInjectStart dt r) s₀ = .next (if flag q 0 2 then { v with cap := { v.cap with owner := 2, lastWriter := 2, state := 3, nsrcM1 := 0, sat := false, truncated := false, sizeLog2 := 5, valid := 0, trigPos := pu q 8 2, buf := [] } } else v)) ∧
    (let q : Request := withBit r 0 0 false;
      let u := s.started 0x0404 q;
      s.takes cmdCtlInject q = true → exec (.ctlInjectStop dt r) s₀ = .next ((u.endInjection (instOf r) 0x0032 2).complete ref 0 0 0))

/-- CTL_REP_LEARN with START gives the loop its slot, or the first free one of the 32, with the settings of the packet;
its memory is kept where the loop had the slot with the same period. RELEASE frees the slot; without either, the
settings of the slot in use change. Each completes OK with the slot's number. -/
def Obligations.RepetitiveLearningCommandsComplete : Prop :=
  ∀ (s₀ : State) (dt : Nat) (r : Request),
    let s := s₀.advance dt
    let ref := s.nextRef r
    (let q : Request := withBit r 0 0 true;
      let u := s.started 0x0405 q;
      s.takes cmdCtlRepLearn q = true → let n : Nat := (u.loopOf (instOf r)).slot.getD (((List.range 32).find? (fun n => !(u.slotOf n).used)).getD 0); exec (.ctlRepLearnStart dt r) s₀ = .next (((u.modSlot n (fun x => { x.take q with used := true, frameAlign := flag q 0 4, period := pu q 2 2, j := 0, periodErr := false, mem := if (u.loopOf (instOf r)).slot.isSome ∧ (u.slotOf n).period = pu q 2 2 then x.mem else [] })).modLoop (instOf r) (fun x => { x with slot := some n })).complete ref 0 0 n)) ∧
    (let q : Request := withBit (withBit r 0 0 false) 0 1 true;
      let u := s.started 0x0405 q;
      s.takes cmdCtlRepLearn q = true → ∀ (n : Nat), (u.loopOf (instOf r)).slot = some n → exec (.ctlRepLearnRelease dt r) s₀ = .next (((u.modSlot n (fun _ => {})).modLoop (instOf r) (fun x => { x with slot := none })).complete ref 0 0 n)) ∧
    (let q : Request := withBit (withBit r 0 0 false) 0 1 false;
      let u := s.started 0x0405 q;
      s.takes cmdCtlRepLearn q = true → ∀ (n : Nat), (u.loopOf (instOf r)).slot = some n → exec (.ctlRepLearnModify dt r) s₀ = .next ((u.modSlot n (fun x => { x with learn := flag q 0 2, apply := flag q 0 3, lead := pu q 1 1, kr := pu q 4 4, shKr := pu q 8 1, forget := pu q 9 1, repMax := pu q 10 1 })).complete ref 0 0 n))

/-- TDD_CONFIGURE of an enabled group that stays enabled waits for the next frame. A group that is switched off, or has
been off, takes the settings at once: it gives back and claims the timing pin, a changed period is a PERIOD_ERR, and
it goes off; with SOURCE 0 it locks to the time FRAME_T0; else it starts to acquire. It completes OK. TDD_SET_GATES
writes the inactive page. Of a group without frame timing the page becomes active at once; else it waits, with the
command, for the moment it asks for. A write forgets that its page held a learned pattern; COMMIT makes both learned
pages active in the same way. READBACK gives a page's entries and their CRC. -/
def Obligations.TimingCommandsComplete : Prop :=
  ∀ (s₀ : State) (dt : Nat) (r : Request),
    let s := s₀.advance dt
    let ref := s.nextRef r
    (let u := s.started 0x0501 r;
      s.takes cmdTddConfigure r = true → let old : TddSet := u.tddSet (instOf r); let k : TddSet := freshPages old { old with enable := flag r 0 0, learn := flag r 0 1, autoApply := flag r 0 2, source := pu r 1 1, scs := pu r 2 1, period := pu r 3 1, maskDl := BitVec.ofNat 16 (pu r 4 2), maskUl := BitVec.ofNat 16 (pu r 6 2), detSb := pu r 8 1, holdoverS := pu r 9 1, nId := pu r 10 2, ssbOffset := ps r 12 4, leadDl := pu r 16 2, lagDl := pu r 18 2, leadUl := pu r 20 2, lagUl := pu r 22 2, ulAdvance := pu r 24 4, baseDl := pu r 28 2, lenDl := pu r 30 2, baseUl := pu r 32 2, lenUl := pu r 34 2, syncOffset := ps r 36 4, frameT0 := pu r 40 8 }; old.enable = true → k.enable = true → exec (.tddConfigure dt r) s₀ = .next ((u.modTdd (instOf r) (fun x => { x with pendSet := some k })).complete ref 0 0 0)) ∧
    (let u := s.started 0x0501 r;
      s.takes cmdTddConfigure r = true → let old : TddSet := u.tddSet (instOf r); let k : TddSet := freshPages old { old with enable := flag r 0 0, learn := flag r 0 1, autoApply := flag r 0 2, source := pu r 1 1, scs := pu r 2 1, period := pu r 3 1, maskDl := BitVec.ofNat 16 (pu r 4 2), maskUl := BitVec.ofNat 16 (pu r 6 2), detSb := pu r 8 1, holdoverS := pu r 9 1, nId := pu r 10 2, ssbOffset := ps r 12 4, leadDl := pu r 16 2, lagDl := pu r 18 2, leadUl := pu r 20 2, lagUl := pu r 22 2, ulAdvance := pu r 24 4, baseDl := pu r 28 2, lenDl := pu r 30 2, baseUl := pu r 32 2, lenUl := pu r 34 2, syncOffset := ps r 36 4, frameT0 := pu r 40 8 }; let w : State := u.takeTdd (instOf r) k; old.enable = false → k.enable = true → k.source = 0 → exec (.tddConfigure dt r) s₀ = .next (((w.lock (instOf r)).setFrame (instOf r) (k.frameT0 * perTick : Nat) 0).complete ref 0 0 0)) ∧
    (let u := s.started 0x0501 r;
      s.takes cmdTddConfigure r = true → let old : TddSet := u.tddSet (instOf r); let k : TddSet := freshPages old { old with enable := flag r 0 0, learn := flag r 0 1, autoApply := flag r 0 2, source := pu r 1 1, scs := pu r 2 1, period := pu r 3 1, maskDl := BitVec.ofNat 16 (pu r 4 2), maskUl := BitVec.ofNat 16 (pu r 6 2), detSb := pu r 8 1, holdoverS := pu r 9 1, nId := pu r 10 2, ssbOffset := ps r 12 4, leadDl := pu r 16 2, lagDl := pu r 18 2, leadUl := pu r 20 2, lagUl := pu r 22 2, ulAdvance := pu r 24 4, baseDl := pu r 28 2, lenDl := pu r 30 2, baseUl := pu r 32 2, lenUl := pu r 34 2, syncOffset := ps r 36 4, frameT0 := pu r 40 8 }; let w : State := u.takeTdd (instOf r) k; k.enable = false → exec (.tddConfigure dt r) s₀ = .next ((w.groupOff (instOf r)).complete ref 0 0 0)) ∧
    (let u := s.started 0x0501 r;
      s.takes cmdTddConfigure r = true → let old : TddSet := u.tddSet (instOf r); let k : TddSet := freshPages old { old with enable := flag r 0 0, learn := flag r 0 1, autoApply := flag r 0 2, source := pu r 1 1, scs := pu r 2 1, period := pu r 3 1, maskDl := BitVec.ofNat 16 (pu r 4 2), maskUl := BitVec.ofNat 16 (pu r 6 2), detSb := pu r 8 1, holdoverS := pu r 9 1, nId := pu r 10 2, ssbOffset := ps r 12 4, leadDl := pu r 16 2, lagDl := pu r 18 2, leadUl := pu r 20 2, lagUl := pu r 22 2, ulAdvance := pu r 24 4, baseDl := pu r 28 2, lenDl := pu r 30 2, baseUl := pu r 32 2, lenUl := pu r 34 2, syncOffset := ps r 36 4, frameT0 := pu r 40 8 }; let w : State := u.takeTdd (instOf r) k; old.enable = false → k.enable = true → k.source ≠ 0 → exec (.tddConfigure dt r) s₀ = .next ((w.modTdd (instOf r) (fun x => { x with sync := 1, bad := 0, corr := 0, srcLost := false, heardAt := none, beat := none })).complete ref 0 0 0)) ∧
    (let q : Request := withBit (withBit r 0 2 false) 0 3 false;
      let u := s.started 0x0502 q;
      s.takes cmdTddSetGates q = true → let w : State := (u.writePage (instOf r) (flag q 0 0) (1 - activePage (u.tddSet (instOf r)) (flag q 0 0)) (entriesOf (bufOf q) (pu q 16 2))).modTdd (instOf r) (fun x => { x with learned := false, learnedPages := x.learnedPages.filter (fun p => p != (flag q 0 0, 1 - activePage (u.tddSet (instOf r)) (flag q 0 0))) }); let v : State := w.activate (instOf r) (flag q 0 0); u.activation (instOf r) (flag q 0 1) (pu q 1 1) (pu q 2 2) = none → exec (.tddSetGatesWrite dt r) s₀ = .next (v.complete ref 0 0 (v.tick % 2 ^ 64))) ∧
    (let q : Request := withBit (withBit r 0 2 false) 0 3 false;
      let u := s.started 0x0502 q;
      s.takes cmdTddSetGates q = true → ∀ (d : Nat), let w : State := (u.writePage (instOf r) (flag q 0 0) (1 - activePage (u.tddSet (instOf r)) (flag q 0 0)) (entriesOf (bufOf q) (pu q 16 2))).modTdd (instOf r) (fun x => { x with learned := false, learnedPages := x.learnedPages.filter (fun p => p != (flag q 0 0, 1 - activePage (u.tddSet (instOf r)) (flag q 0 0))) }); u.activation (instOf r) (flag q 0 1) (pu q 1 1) (pu q 2 2) = some d → exec (.tddSetGatesWrite dt r) s₀ = .next (w.modTdd (instOf r) (fun x => { x with pendDl := if flag q 0 0 then x.pendDl else some { cmd := some ref, dl := true, ul := false, due := d }, pendUl := if flag q 0 0 then some { cmd := some ref, dl := false, ul := true, due := d } else x.pendUl }))) ∧
    (let q : Request := withBit (withBit r 0 2 true) 0 3 false;
      let u := s.started 0x0502 q;
      s.takes cmdTddSetGates q = true → let v : State := (u.activate (instOf r) false).activate (instOf r) true; u.activation (instOf r) (flag q 0 1) (pu q 1 1) (pu q 2 2) = none → exec (.tddCommitLearned dt r) s₀ = .next (v.complete ref 0 0 (v.tick % 2 ^ 64))) ∧
    (let q : Request := withBit (withBit r 0 2 true) 0 3 false;
      let u := s.started 0x0502 q;
      s.takes cmdTddSetGates q = true → ∀ (d : Nat), u.activation (instOf r) (flag q 0 1) (pu q 1 1) (pu q 2 2) = some d → exec (.tddCommitLearned dt r) s₀ = .next (u.modTdd (instOf r) (fun x => { x with pendDl := some { cmd := some ref, dl := true, ul := true, due := d }, pendUl := some { cmd := some ref, dl := true, ul := true, due := d } }))) ∧
    (let q : Request := withBit (withBit r 0 2 false) 0 3 true;
      let u := s.started 0x0502 q;
      s.takes cmdTddSetGates q = true → let k : TddSet := u.tddSet (instOf r); let es : List (BitVec 64) := u.pageOf k (flag q 0 0) (if flag q 0 4 then 1 - activePage k (flag q 0 0) else activePage k (flag q 0 0)); exec (.tddReadback dt r) s₀ = .next ((u.giveData ref (pu q 8 8) (entryBytes es)).complete ref 0 0 (crc32c (entryBytes es) + 4294967296 * es.length)))

/-- NP_SET_LIMITS: KIND 0 sets OUT_MAX of the covered sub-bands at once and their band from the next evaluation; KIND 1
sets a band's limits from the next evaluation; KIND 2 sets L_NP of a chain at once and the rest from the next
evaluation. Each completes OK. -/
def Obligations.LimitCommandsComplete : Prop :=
  ∀ (s₀ : State) (dt : Nat) (r : Request),
    let s := s₀.advance dt
    let ref := s.nextRef r
    (let q : Request := withByte r 0 0;
      let u := s.started 0x0510 q;
      s.takes cmdNpSetLimits q = true → exec (.npSetLimitsSubband dt r) s₀ = .next (((covered (flag q 1 0) (instOf r)).foldl (fun (t : State) g => { t with
        set := { t.set with npSb := Table.modify {} t.set.npSb g (fun x => { x with outMax := ps q 4 2 }) }
        npWaitSb := Table.set none t.npWaitSb g (some (pu q 2 1)) }) u).complete ref 0 0 0)) ∧
    (let q : Request := withByte r 0 1;
      let u := s.started 0x0510 q;
      s.takes cmdNpSetLimits q = true → exec (.npSetLimitsBand dt r) s₀ = .next ((fun t : State => t.complete ref 0 0 0) { u with
        npWaitBand := Table.set none u.npWaitBand (instOf r) (some { ulnEn := flag q 1 1, donorEn := flag q 1 2, bsRef := ps q 2 2, dlRxGain := ps q 4 2, ulSysOffset := ps q 6 2, ulNm := pu q 8 2, nf := pu q 10 2, dlDet := ps q 12 2, donorLossMs := pu q 14 2 }) })) ∧
    (let q : Request := withByte r 0 2;
      let u := s.started 0x0510 q;
      s.takes cmdNpSetLimits q = true → exec (.npSetLimitsChain dt r) s₀ = .next ((fun t : State => t.complete ref 0 0 0) { u with
        set := { u.set with npChain := Table.modify {} u.set.npChain (instOf r) (fun x => { x with lNp := ps q 2 2 }) }
        npWaitChain := Table.set none u.npWaitChain (instOf r) (some { regrowthEn := flag q 1 3, lNp := ps q 2 2, aclrLim := pu q 4 1, regrowthMax := pu q 5 1 }) }))

/-- FE_SEQ_CONFIGURE stores a PA's sequence, or a receiver's LNA and attenuator, which are driven at once; a changed
attenuator code in LISTEN or REPEAT makes the chain settle. PG_CONFIGURE takes effect at once unless its channel
runs from a frame or its own period, when it waits for the next; a change that waits is replaced and completes
ABORTED_HOST. WM_CONFIGURE gives back and claims the trip GPIO, stores the settings and judges the source anew.
WM_CLEAR ends the latched trips it names whose source no longer asserts. PIN_ASSIGN gives a GPIO its function,
taking it from a lesser owner where it may. -/
def Obligations.FrontEndCommandsComplete : Prop :=
  ∀ (s₀ : State) (dt : Nat) (r : Request),
    let s := s₀.advance dt
    let ref := s.nextRef r
    (let q : Request := withByte r 0 0;
      let u := s.started 0x0601 q;
      s.takes cmdFeSeq q = true → exec (.feSeqConfigurePa dt r) s₀ = .next ((u.withSet { u.set with
        fePa := Table.set {} u.set.fePa (instOf r) { paenPol := flag q 1 0, pabiasPol := flag q 1 1, usePabias := flag q 1 2, upBias := pu q 2 2, upPaen := pu q 4 2, upRf := pu q 6 2, dnPaen := pu q 8 2, dnBias := pu q 10 2 } }).complete ref 0 0 0)) ∧
    (let q : Request := withByte r 0 1;
      let u := s.started 0x0601 q;
      s.takes cmdFeSeq q = true → let v : State := ((u.withSet { u.set with feRx := Table.set {} u.set.feRx (instOf r) { lnaenPol := flag q 1 0, useLna := flag q 1 1, attBase := pu q 2 1, attSafe := pu q 3 1 } }).driveLna (instOf r)).driveAtt (instOf r); exec (.feSeqConfigureRx dt r) s₀ = .next ((if u.attCode (instOf r) ≠ v.attCode (instOf r) ∧ v.listening ∧ !(v.cnvOf (instOf r)).fenced then
        (v.settleChain (instOf r) (v.window + v.draw % 79 + (v.attOf (instOf r)).align)).drawn else v).complete ref 0 0 0)) ∧
    (let u := s.started 0x0610 r;
      s.takes cmdPgConfigure r = true → (u.pgOf (instOf r)).change = none → (u.pgSet (instOf r)).enable = false → exec (.pgConfigure dt r) s₀ = .next ((u.usePg (instOf r) (pgOf r)).complete ref 0 0 0)) ∧
    (let u := s.started 0x0610 r;
      s.takes cmdPgConfigure r = true → (u.pgOf (instOf r)).change = none → (u.pgSet (instOf r)).enable = true → 2 ≤ u.radio.state → (u.pgSet (instOf r)).src = 3 → exec (.pgConfigure dt r) s₀ = .next (u.modPg (instOf r) (fun x => { x with change := some (pgOf r, ref) }))) ∧
    (let u := s.started 0x0620 r;
      s.takes cmdWmConfigure r = true → let old : WmSet := u.wmSet (instOf r); let k : WmSet := { enable := flag r 0 0, mode := byteAt r.params 0 / 2 % 4, hyst := pu r 1 1, lo := pu r 2 2, hi := pu r 4 2, dest := BitVec.ofNat 24 (pu r 6 3), blankPg := if instOf r < 16 then pu r 9 1 else 255, blankTicks := pu r 10 2, tripGpio := pu r 12 1 }; let v : State := if old.tripGpio < 16 ∧ old.tripGpio ≠ k.tripGpio then u.setGpio old.tripGpio 0 else u; let w : State := if k.tripGpio < 16 ∧ old.tripGpio ≠ k.tripGpio then v.claimGpio k.tripGpio 0x52 else v; exec (.wmConfigure dt r) s₀ = .next (((w.withSet { w.set with wm := Table.set {} w.set.wm (instOf r) k }).judgeSource (instOf r)
        (!old.enable)).seqCheck.complete ref 0 0 0)) ∧
    (let u := s.started 0x0621 r;
      s.takes cmdWmClear r = true → let v : State := ((List.range 24).filter (bit (pu r 0 3))).foldl (fun t d => if (if d < 16 then (t.pgOf d).tripped else (t.feOf (d - 16)).trip) = true ∧ t.routed d = false then t.untrip d else t) u; exec (.wmClear dt r) s₀ = .next (v.complete ref 0 0 v.latched)) ∧
    (let u := s.started 0x0630 r;
      s.takes cmdPinAssign r = true → u.gpio (instOf r) = 0 → pu r 0 1 ≠ 0 → exec (.pinAssign dt r) s₀ = .next ((u.setGpio (instOf r) (pu r 0 1)).complete ref 0 0 0))

/-- HK_CONFIGURE sets one entry of the list, one trigger timer, or the housekeeping DAC, and completes OK. TH_CONFIGURE
sets AUTO_RESUME, one external sensor, or a zone's offset, and completes OK. -/
def Obligations.HousekeepingCommandsComplete : Prop :=
  ∀ (s₀ : State) (dt : Nat) (r : Request),
    let s := s₀.advance dt
    let ref := s.nextRef r
    (let q : Request := withByte r 0 0;
      let u := s.started 0x0701 q;
      s.takes cmdHkConfigure q = true → exec (.hkConfigureEntry dt r) s₀ = .next ((u.withSet { u.set with hkEntry := Table.set {} u.set.hkEntry (instOf r) { enable := flag q 1 0, urgent := flag q 1 1, engine := flag q 1 2, trig := byteAt q.params 1 / 8 % 4, channel := pu q 2 1, trigIdx := pu q 3 1, delay := pu q 4 2 } }).complete ref 0 0 0)) ∧
    (let q : Request := withByte r 0 1;
      let u := s.started 0x0701 q;
      s.takes cmdHkConfigure q = true → exec (.hkConfigureTimer dt r) s₀ = .next ((u.withSet { u.set with hkTimer := Table.set {} u.set.hkTimer (instOf r) ((u.hkTimer (instOf r)).take { enable := flag q 1 0, edge := flag q 1 1, period := pu q 4 4, phase := pu q 8 4 }) }).complete ref 0 0 0)) ∧
    (let q : Request := withByte r 0 2;
      let u := s.started 0x0701 q;
      s.takes cmdHkConfigure q = true → exec (.hkConfigureDac dt r) s₀ = .next ((u.withSet { u.set with hkDac := pu q 2 2 }).complete ref 0 0 0)) ∧
    (let q : Request := withByte r 0 0;
      let u := s.started 0x0710 q;
      s.takes cmdThConfigure q = true → exec (.thConfigureGlobal dt r) s₀ = .next ((u.withSet { u.set with autoResume := flag q 1 0 }).complete ref 0 0 0)) ∧
    (let q : Request := withByte r 0 1;
      let u := s.started 0x0710 q;
      s.takes cmdThConfigure q = true → exec (.thConfigureSensor dt r) s₀ = .next ((u.withSet { u.set with xs := Table.set {} u.set.xs (instOf r) { enable := flag q 1 0, channel := pu q 2 1, zone := pu q 3 1, t0 := ps q 4 2, c0 := pu q 6 2, slope := ps q 8 4 } }).complete ref 0 0 0)) ∧
    (let q : Request := withByte r 0 2;
      let u := s.started 0x0710 q;
      s.takes cmdThConfigure q = true → exec (.thConfigureZone dt r) s₀ = .next ((u.withSet { u.set with ofs := Table.set 0 u.set.ofs (instOf r) (ps q 2 1) }).complete ref 0 0 0))

/-- CAP_CONFIGURE stores the slot's settings and completes OK. CAP_START of slot 0 arms the buffer capture; of another
slot it starts the stream, over the endpoint that is free on USB. CAP_STOP of a slot that does not run completes OK;
of a stream it ends the stream after its present block; of a buffer capture without TRIGGER it ends it, ABORTED_HOST
subcode 2 before the trigger and OK after it. CAP_READ gives the samples asked for from the oldest, and their CRC. -/
def Obligations.CaptureCommandsComplete : Prop :=
  ∀ (s₀ : State) (dt : Nat) (r : Request),
    let s := s₀.advance dt
    let ref := s.nextRef r
    (let u := s.started 0x0801 r;
      s.takes cmdCapConfigure r = true → exec (.capConfigure dt r) s₀ = .next ((u.withSet { u.set with cap := Table.set {} u.set.cap (instOf r) { configured := true, point := pu r 0 1, winB := flag r 1 0, compact := flag r 1 1, nsrc := pu r 2 1, shift := pu r 3 1, srcs := (List.range (pu r 2 1)).map (fun i => pu r (4 + 2 * i) 2), trig := pu r 12 1, trigArg := pu r 13 1, level := ps r 14 2, tAt := pu r 16 8, pre := pu r 24 4, blockKib := pu r 28 1 } }).complete ref 0 0 0)) ∧
    (let u := s.started 0x0802 r;
      s.takes cmdCapStart r = true → instOf r = 0 → exec (.capStart dt r) s₀ = .next ({ u with taken := (List.range 4).foldl (fun t i => Table.set {} t i {}) u.taken, cap := { u.cap with lastWriter := 1, owner := 1, state := 1, nsrcM1 := (u.capSet 0).nsrc - 1, sat := false, truncated := false, sizeLog2 := Nat.log2 (u.capSet 0).size, valid := 0, trigPos := 0, cmd := some ref, trigAt := 0, started := holding u.window (u.capPeriod (u.capSet 0).point ((u.capSet 0).srcs.getD 0 0)) } })) ∧
    (let u := s.started 0x0802 r;
      s.takes cmdCapStart r = true → let ep : Nat := if byPcie r then 0 else u.freeEndpoint.getD 0; instOf r ≠ 0 → exec (.capStart dt r) s₀ = .next (({ u with taken := Table.set {} u.taken (instOf r * 4) {} } : State).modStream (instOf r) (fun x => { x with run := true, usb3 := !byPcie r, cmd := some ref, started := if (u.capSet (instOf r)).trig = 5 then none else some (max u.window (if (u.capSet (instOf r)).trig = 1 then (u.capSet (instOf r)).tAt * perTick else 0)), rate := u.streamRate (u.capSet (instOf r)), blocks := 0, seq := 0, gapSince := 0, abandoned := 0, ep := ep, ending := none }))) ∧
    (let u := s.started 0x0803 r;
      s.takes cmdCapStop r = true → u.slotRuns (instOf r) = false → exec (.capStop dt r) s₀ = .next (u.complete ref 0 0 0)) ∧
    (let u := s.started 0x0803 r;
      s.takes cmdCapStop r = true → u.slotRuns (instOf r) = true → instOf r ≠ 0 → exec (.capStop dt r) s₀ = .next ((u.modStream (instOf r) (fun x => { x with ending := some (x.ending.getD (0, 0)) })).complete ref 0 0 0)) ∧
    (let u := s.started 0x0803 r;
      s.takes cmdCapStop r = true → u.slotRuns (instOf r) = true → instOf r = 0 → flag r 0 0 = false → exec (.capStop dt r) s₀ = .next ((if u.cap.state = 3 then u.cutCapture 0 0 else u.cutCapture 0x0032 2).complete ref 0 0 0)) ∧
    (let u := s.started 0x0803 r;
      s.takes cmdCapStop r = true → u.slotRuns (instOf r) = true → instOf r = 0 → flag r 0 0 = true → exec (.capStop dt r) s₀ = .next ((if u.cap.state = 2 then u.capTriggered (holding u.window u.capStep) else u).complete ref 0 0 0)) ∧
    (let u := s.started 0x0804 r;
      s.takes cmdCapRead r = true → let bytes : List Byte := (List.range (pu r 16 4)).map (fun i => u.cap.buf.getD (pu r 0 4 * u.cap.frame + i) 0); exec (.capRead dt r) s₀ = .next ((if bytes = [] then u else u.giveData ref (pu r 8 8) bytes).complete ref 0 0 (crc32c bytes)))

/-- FLT_CONFIGURE KIND 0 sets a source's level and tells the one in force before and its default; KIND 1 sets the
threshold of ALIVE and begins or ends the test phase. FLT_ACK acknowledges the bits of MASK and tells FLT_STATUS
after it. FLT_FORCE injects a detection, tells the level it acts at (0xFF when merged), and with KIND 1 holds the
condition until KIND 2 releases it. Each completes OK. -/
def Obligations.FaultCommandsComplete : Prop :=
  ∀ (s₀ : State) (dt : Nat) (r : Request),
    let s := s₀.advance dt
    let ref := s.nextRef r
    (let q : Request := withByte r 0 0;
      let u := s.started 0x0901 q;
      s.takes cmdFltConfigure q = true → exec (.fltConfigureSeverity dt r) s₀ = .next ((u.withSet { u.set with flt := { u.set.flt with severity := Table.set 0 u.set.flt.severity (instOf r) (pu q 1 1 + 1) } }).complete ref 0 0 (u.levelOf (instOf r) + 256 * defaultSeverity (instOf r)))) ∧
    (let q : Request := withByte r 0 1;
      let u := s.started 0x0901 q;
      s.takes cmdFltConfigure q = true → let v : State := (u.withSet { u.set with flt := { u.set.flt with aliveThr := pu q 1 1 } }).aliveFrom u; exec (.fltConfigureGlobal dt r) s₀ = .next ((if flag q 2 0 then (if v.flt.test.isSome then v else v.phaseBegins.modFlt (fun f => { f with test := some v.now })) else v.modFlt (fun f => { f with test := none })).complete ref 0 0 (u.set.flt.aliveThr + 256 * ofBool u.flt.test.isSome))) ∧
    (let u := s.started 0x0902 r;
      s.takes cmdFltAck r = true → let v : State := u.acknowledge (BitVec.ofNat 64 (pu r 0 8)) (flag r 8 0); exec (.fltAck dt r) s₀ = .next (v.complete ref 0 0 v.flt.status.toNat)) ∧
    (let q : Request := withByte r 0 0;
      let u := s.started 0x0903 q;
      s.takes cmdFltForce q = true → let d : Due := { bit := instOf r, addr := pu q 2 2, kind := pu q 1 1 }; let v : State := u.modFlt (fun f => { f with pulse := Table.set 0 f.pulse (instOf r) (u.now + 1967) }); exec (.fltForcePulse dt r) s₀ = .next ((v.detect d true).complete ref 0 0 ((v.reaction d true).getD 255))) ∧
    (let q : Request := withByte r 0 1;
      let u := s.started 0x0903 q;
      s.takes cmdFltForce q = true → let d : Due := { bit := instOf r, addr := pu q 2 2, kind := pu q 1 1 }; let v : State := u.modFlt (fun f => { f with pulse := Table.set 0 f.pulse (instOf r) (u.now + 1967) }); let w : State := v.modFlt (fun f => { f with force := f.force ||| BitVec.ofNat 64 (2 ^ instOf r), heldForce := Table.insert (Table.erase f.heldForce (instOf r)) (instOf r) (d.addr, d.kind) }); exec (.fltForceHold dt r) s₀ = .next ((w.detect d true).complete ref 0 0 ((w.reaction d true).getD 255))) ∧
    (let q : Request := withByte r 0 2;
      let u := s.started 0x0903 q;
      s.takes cmdFltForce q = true → exec (.fltForceRelease dt r) s₀ = .next ((u.modFlt (fun f => { f with force := f.force &&& ~~~(BitVec.ofNat 64 (2 ^ instOf r)), heldForce := Table.erase f.heldForce (instOf r) })).complete ref 0 0 0))

/-- REC_FREEZE sets the freeze for 10 s more; released, it ends a freeze and tells the count missed during it, and
completes OK with 0 where none stands. REC_READ gives records of a kind from the one named, how many, and the first.
REC_SET_HOSTTIME changes HOST_OFS, and records the change of a time that was not valid or was another. REC_CLEAR_ARM
arms a clear of the log up to the newest record; REC_CLEAR_EXEC clears and tells the next SEQ. -/
def Obligations.RecorderCommandsComplete : Prop :=
  ∀ (s₀ : State) (dt : Nat) (r : Request),
    let s := s₀.advance dt
    let ref := s.nextRef r
    (let q : Request := withBit r 0 0 true;
      let u := s.started 0x0A01 q;
      s.takes cmdRecFreeze q = true → exec (.recFreezeSet dt r) s₀ = .next (u.freeze.complete ref 0 0 0)) ∧
    (let q : Request := withBit r 0 0 false;
      let u := s.started 0x0A01 q;
      s.takes cmdRecFreeze q = true → u.rcd.frozen.isSome = true → exec (.recFreezeRelease dt r) s₀ = .next ((u.releaseFreeze).complete ref 0 0 u.rcd.missedFreeze)) ∧
    (let q : Request := withBit r 0 0 false;
      let u := s.started 0x0A01 q;
      s.takes cmdRecFreeze q = true → u.rcd.frozen.isSome = false → exec (.recFreezeRelease dt r) s₀ = .next (u.complete ref 0 0 0)) ∧
    (let u := s.started 0x0A02 r;
      s.takes cmdRecRead r = true → let rs : List (Nat × List Byte) := u.readRecords (pu r 0 1) (pu r 1 1) (pu r 4 4) (pu r 16 4); exec (.recRead dt r) s₀ = .next ((if rs.flatMap Prod.snd = [] then u else u.giveData ref (pu r 8 8) (rs.flatMap Prod.snd)).complete ref 0 0 (rs.length + 4294967296 * (rs.head?.map Prod.fst).getD 0))) ∧
    (let u := s.started 0x0A05 r;
      s.takes cmdHosttime r = true → u.store.hostValid = true → u.askedOfs (pu r 0 8) = u.store.hostOfs → exec (.recSetHosttime dt r) s₀ = .next (u.complete ref 0 0 0)) ∧
    (let u := s.started 0x0A05 r;
      s.takes cmdHosttime r = true → let v : Int := u.askedOfs (pu r 0 8); u.store.hostValid = false ∨ v ≠ u.store.hostOfs → exec (.recSetHosttime dt r) s₀ = .next ((((u.modStore (fun t => { t with hostOfs := v, hostValid := true })).repaired 303).putFixed 0x31 0 (leBytes 8 (bitsOf 64 u.store.hostOfs) ++ leBytes 8 (bitsOf 64 v) ++ leBytes 1 (ofBool u.store.hostValid))).complete ref 0 0 0)) ∧
    (let u := s.started 0x0A03 r;
      s.takes cmdClearArm r = true → exec (.recClearArm dt r) s₀ = .next ((u.modRec (fun x => { x with arm := some (pu r 0 4, flag r 4 0, u.now), armed := true })).complete ref 0 0 0)) ∧
    (let u := s.started 0x0A04 r;
      s.takes cmdClearExec r = true → exec (.recClearExec dt r) s₀ = .next ((u.clearRecords (flag r 4 0)).complete ref 0 0 u.store.nextSeq))

/-- TWB_CONFIGURE stores the bus's settings; it switches the bus off, leaves it on, or on a bus that was off makes the
settings the ones in force, with a bus clear when SDA is low; it completes OK. With CLEAR on an idle bus the bus
clear begins; on another it is due after the transfer. TWB_TRANSFER queues the transfer, and of an empty queue the
wait for the bus begins. TWB_TRANSFER with OP ATTENTION takes the oldest entry and completes OK with it, or waits
for one. -/
def Obligations.BusCommandsComplete : Prop :=
  ∀ (s₀ : State) (dt : Nat) (r : Request),
    let s := s₀.advance dt
    let ref := s.nextRef r
    (let u := s.started 0x0B01 r;
      s.takes cmdTwbConfigure r = true → let k : TwbSet := { enable := flag r 0 0, alertEn := flag r 0 1, notifyEn := flag r 0 2, mode := pu r 1 1, retries := pu r 2 1, sclTo := pu r 3 1, sdaTo := pu r 4 1, araMax := pu r 5 1 }; let v : State := u.withSet { u.set with twb := Table.set {} u.set.twb (instOf r) k }; k.enable = false → (u.twbSet (instOf r)).enable = false → exec (.twbConfigure dt r) s₀ = .next (v.complete ref 0 0 0)) ∧
    (let u := s.started 0x0B01 r;
      s.takes cmdTwbConfigure r = true → let k : TwbSet := { enable := flag r 0 0, alertEn := flag r 0 1, notifyEn := flag r 0 2, mode := pu r 1 1, retries := pu r 2 1, sclTo := pu r 3 1, sdaTo := pu r 4 1, araMax := pu r 5 1 }; let v : State := u.withSet { u.set with twb := Table.set {} u.set.twb (instOf r) k }; k.enable = false → (u.twbSet (instOf r)).enable = true → exec (.twbConfigure dt r) s₀ = .next ((v.busOff (instOf r)).complete ref 0 0 0)) ∧
    (let u := s.started 0x0B01 r;
      s.takes cmdTwbConfigure r = true → let k : TwbSet := { enable := flag r 0 0, alertEn := flag r 0 1, notifyEn := flag r 0 2, mode := pu r 1 1, retries := pu r 2 1, sclTo := pu r 3 1, sdaTo := pu r 4 1, araMax := pu r 5 1 }; let v : State := u.withSet { u.set with twb := Table.set {} u.set.twb (instOf r) k }; k.enable = true → (u.twbSet (instOf r)).enable = true → (v.twbOf (instOf r)).disabling = false → flag r 0 3 = false → exec (.twbConfigure dt r) s₀ = .next (v.complete ref 0 0 0)) ∧
    (let u := s.started 0x0B01 r;
      s.takes cmdTwbConfigure r = true → let k : TwbSet := { enable := flag r 0 0, alertEn := flag r 0 1, notifyEn := flag r 0 2, mode := pu r 1 1, retries := pu r 2 1, sclTo := pu r 3 1, sdaTo := pu r 4 1, araMax := pu r 5 1 }; let v : State := u.withSet { u.set with twb := Table.set {} u.set.twb (instOf r) k }; let low : Bool := decide (u.draw % 2 = 1); let w : State := v.drawn.modTwb (instOf r) (fun x => { x with disabling := false, inForce := k, waitFrom := u.now, idleAt := u.now, clearDue := if low then some (none, false) else none }); k.enable = true → (u.twbSet (instOf r)).enable = false → flag r 0 3 = false → exec (.twbConfigure dt r) s₀ = .next ((if low && (w.twbOf (instOf r)).idle then w.beginClear (instOf r) none false else w).complete ref 0 0 0)) ∧
    (let q : Request := withBit r 0 3 true;
      let u := s.started 0x0B01 q;
      s.takes cmdTwbConfigure q = true → let k : TwbSet := { enable := flag q 0 0, alertEn := flag q 0 1, notifyEn := flag q 0 2, mode := pu q 1 1, retries := pu q 2 1, sclTo := pu q 3 1, sdaTo := pu q 4 1, araMax := pu q 5 1 }; let v : State := u.withSet { u.set with twb := Table.set {} u.set.twb (instOf q) k }; k.enable = true → (u.twbSet (instOf q)).enable = true → (v.twbOf (instOf q)).disabling = false → (v.twbOf (instOf q)).idle = true → exec (.twbClear dt r) s₀ = .next (v.beginClear (instOf q) (some ref) false)) ∧
    (let q : Request := withBit r 0 3 true;
      let u := s.started 0x0B01 q;
      s.takes cmdTwbConfigure q = true → let k : TwbSet := { enable := flag q 0 0, alertEn := flag q 0 1, notifyEn := flag q 0 2, mode := pu q 1 1, retries := pu q 2 1, sclTo := pu q 3 1, sdaTo := pu q 4 1, araMax := pu q 5 1 }; let v : State := u.withSet { u.set with twb := Table.set {} u.set.twb (instOf q) k }; k.enable = true → (u.twbSet (instOf q)).enable = true → (v.twbOf (instOf q)).disabling = false → (v.twbOf (instOf q)).idle = false → exec (.twbClear dt r) s₀ = .next (v.modTwb (instOf q) (fun x => { x with clearDue := some (some ref, false) }))) ∧
    (let u := s.started 0x0B02 r;
      s.takes cmdTwbTransfer r = true → pu r 0 1 ≠ 3 → exec (.twbTransfer dt r) s₀ = .next (u.modTwb (instOf r) (fun x => { x with queue := x.queue ++ [{ cmd := ref, op := pu r 0 1, addr10 := flag r 1 0, pec := flag r 1 1, buf := flag r 1 2, target := pu r 2 2, wdata := writeBytes r, rlen := pu r 6 2, hostAddr := pu r 8 8, retries := 0 }], waitFrom := if x.queue = [] then u.now else x.waitFrom }))) ∧
    (let q : Request := withByte r 0 3;
      let u := s.started 0x0B02 q;
      s.takes cmdTwbTransfer q = true → ∀ (a : Nat × Nat × Nat × Nat) (rest : List (Nat × Nat × Nat × Nat)), (u.twbOf (instOf q)).attn = a :: rest → exec (.twbAttention dt r) s₀ = .next ((u.modTwb (instOf q) (fun x => { x with attn := rest })).complete ref 0 0 (attentionResult a))) ∧
    (let q : Request := withByte r 0 3;
      let u := s.started 0x0B02 q;
      s.takes cmdTwbTransfer q = true → (u.twbOf (instOf q)).attn = [] → exec (.twbAttention dt r) s₀ = .next (u.modTwb (instOf q) (fun x => { x with wait := some (ref, if pu q 16 4 = 0 then none else some (u.now + pu q 16 4 * perMs)) })))

/-- BOOT_LEDGER_READ gives at most COUNT whole entries of 128 bytes from FIRST on, clears the alternate flags named, and
completes OK with how many entries and the first one's BOOT_NUM. FW_UPDATE writes the image, which is not valid
until the update ends. -/
def Obligations.BootCommandsComplete : Prop :=
  ∀ (s₀ : State) (dt : Nat) (r : Request),
    let s := s₀.advance dt
    let ref := s.nextRef r
    (let u := s.started 0x0C02 r;
      s.takes cmdLedgerRead r = true → let es : List Ledger := (u.store.ledger.reverse.filter (fun e => decide (pu r 0 4 ≤ e.bootNum))).take (pu r 4 2); exec (.bootLedgerRead dt r) s₀ = .next ((((if es.flatMap Ledger.bytes = [] then u else u.giveData ref (pu r 8 8) (es.flatMap Ledger.bytes)).modStore (fun t => { t with alt := t.alt &&& ~~~(BitVec.ofNat 13 (pu r 6 2)) })).repaired 304).complete ref 0 0 (es.length + 4294967296 * (es.head?.map Ledger.bootNum).getD 0))) ∧
    (let u := s.started 0x0C01 r;
      s.takes cmdFwUpdate r = true → exec (.fwUpdate dt r) s₀ = .next ((u.modStore (fun t => if pu r 1 1 = 0 then { t with imageA := (bufOf r).take (pu r 16 4), validA := false } else { t with imageB := (bufOf r).take (pu r 16 4), validB := false })).modBoot (fun b => { b with update := some (ref, pu r 1 1, flag r 0 0, (bufOf r).take (pu r 16 4), u.now) })))

/-- A slice swap that is due while no episode lasts with a shadow difference below -74 dBFS brings the spare to the next
position with its own trims, unless a trim is at the end of its range, which fences the spare with CNV.SLICE, and
the next swap is due one swap period later; in an episode it is skipped and counted; a verification that fails keeps
the spare, and the third in a row fences it with CNV.SLICE. A slice that fails is fenced and reported. An overrange
episode's first sample sets the overrange flags, tags the chain's running sub-bands 11 and makes snapshot trigger
0x02; slices that clip in an episode set their bits; its last sample ends the tags N_u outputs later and makes
trigger 0x03. -/
def Obligations.ConverterEventsComplete : Prop :=
  ∀ (s₀ : State) (dt : Nat),
    let s := s₀.advance dt
    (∀ (c : Nat) (m : Shadow), shadowPasses m = true → c < 8 → (s.cnvOf c).rotRun = true → (s.cnvOf c).swapDue ≤ s.now → (s.cnvOf c).ovrActive = false → exec (.sliceSwap dt c m) s₀ = .next ((let x := s.cnvOf c
      let u := (s.modCnv c (fun y => { y with trims := s.spareTrims x })).drawnBy 4
      if (s.spareTrims x).atEnd x.spare then (u.loseSlice c x.spare).raise 0 (c * 33 + x.spare) 2 true
      else u.modCnv c (fun y => { y.putSlice y.nextPos y.spare with spare := y.sliceAt y.nextPos, nextPos := (y.nextPos + 1) % 32, verifyFails := 0, swapsSince := y.swapsSince + 1, swapDue := u.now + swapPeriod })))) ∧
    (∀ (c : Nat) (m : Shadow), c < 8 → (s.cnvOf c).rotRun = true → (s.cnvOf c).swapDue + swapPeriod ≤ s.now → (s.cnvOf c).ovrActive = true → exec (.sliceSwap dt c m) s₀ = .next (s.modCnv c (fun x => { x with skip := satUp 0xFF x.skip, swapDue := x.swapDue + swapPeriod }))) ∧
    (∀ (c : Nat) (m : Shadow), let t := s.modCnv c (fun x => { x with skip := satUp 0xFF x.skip, verifyFails := x.verifyFails + 1, swapDue := s.now + swapPeriod }); shadowPasses m = false → c < 8 → (s.cnvOf c).rotRun = true → (s.cnvOf c).swapDue ≤ s.now → (s.cnvOf c).ovrActive = false → exec (.sliceSwap dt c m) s₀ = .next (if (t.cnvOf c).verifyFails = 3 then (t.loseSlice c (s.cnvOf c).spare).raise 0 (c * 33 + (s.cnvOf c).spare) 4 true else t)) ∧
    (∀ (c slice kind : Nat), c < 8 → slice < 33 → 2 ≤ s.radio.state → (s.cnvOf c).fenced = false → bit (s.cnvOf c).sliceFenced slice = false → exec (.sliceFault dt c slice kind) s₀ = .next ((s.loseSlice c slice).raise 0 (c * 33 + slice) kind true)) ∧
    (∀ (c : Nat) (slices : BitVec 33), let t := s.modCnv c (fun x => { x with ovrActive := true, ovrFirst := some s.window, ovrSticky := true, ovrCount := satUp 0xFFFF x.ovrCount, sliceOvr := Nat.lor x.sliceOvr slices.toNat }); c < 8 → 2 ≤ s.radio.state → (s.cnvOf c).ovrActive = false → exec (.overrangeStart dt c slices) s₀ = .next (((t.modCnv c (fun x => { x with holdFrom := t.now })).tagChain c t.window none).trigger 0x02 c)) ∧
    (∀ (c : Nat) (slices : BitVec 33), c < 8 → (s.cnvOf c).ovrActive = true → exec (.overrangeStart dt c slices) s₀ = .next (s.modCnv c (fun x => { x with sliceOvr := Nat.lor x.sliceOvr slices.toNat, holdFrom := s.now }))) ∧
    (∀ (c : Nat) (slices : BitVec 33), let t := s.modCnv c (fun x => { x with ovrActive := false, cleanAt := some s.now, sliceOvr := Nat.lor x.sliceOvr slices.toNat, holdFrom := s.now - 86 }); c < 8 → (s.cnvOf c).ovrActive = true → exec (.overrangeEnd dt c slices) s₀ = .next ((t.each (sbsOf c) (fun w g => if (w.sbOf g).tags = [] ∨ (t.cnvOf c).fenced then w else w.modSb g (fun x => { x with tags := x.tags.map (fun p => if p.tag = 3 ∧ p.stop.isNone then { p with stop := some (holding (t.window - 86) (w.cfg g).d + ((w.cfg g).nUnsettled + 1) * (w.cfg g).d) } else p) }))).trigger 0x03 c))

/-- A sample that reaches FAST_THR takes a fast step where the chain may take one; where it can take none, it starts the
hold again. A peak that is not below the release threshold starts the hold again; after HOLD_MS below it the newest
step is released. The first test of a step takes another step where the peak is neither at FAST_THR nor below the
release threshold. A clip episode that the transmit converter has begun sets CLIP_STICKY and counts. CAL_HOLD begins
after more than 10 s of low traffic, and ends; and the trims are stored at the band's interval. -/
def Obligations.AttenuatorEventsComplete : Prop :=
  ∀ (s₀ : State) (dt : Nat),
    let s := s₀.advance dt
    (∀ (c magnitude : Nat), s.mayStep c = true → (s.attOf c).fastThr ≤ magnitude → magnitude ≤ 2047 → (s.cnvOf c).stepAt = none → exec (.fastStepTake dt c magnitude) s₀ = .next ((s.takeStep c).modCnv c (fun x => { x with startTest := none }))) ∧
    (∀ (c magnitude : Nat) (t : Time), s.mayStep c = true → (s.attOf c).fastThr ≤ magnitude → magnitude ≤ 2047 → (s.cnvOf c).stepAt = some t → t + 394 ≤ s.now → exec (.fastStepTake dt c magnitude) s₀ = .next ((s.takeStep c).modCnv c (fun x => { x with startTest := none }))) ∧
    (∀ (c magnitude : Nat), s.mayStep c = false → c < 8 → (s.cnvOf c).steps ≠ [] → (s.attOf c).fastThr ≤ magnitude → exec (.fastStepTake dt c magnitude) s₀ = .next (s.modCnv c (fun x => { x with holdFrom := s.now }))) ∧
    (∀ (c peak : Nat) (st : FastStep), c < 8 → s.listening = true → (s.cnvOf c).steps.getLast? = some st → (s.cnvOf c).ovrActive = true ∨ belowRelease peak st.thr st.stepCal (s.attOf c).hystDb = false → exec (.fastStepRelease dt c peak) s₀ = .next (s.modCnv c (fun x => { x with holdFrom := s.now }))) ∧
    (∀ (c peak : Nat) (st : FastStep), let t := s.modCnv c (fun x => { x with steps := x.steps.dropLast, holdFrom := s.now, comps := dropNewest (s.window + s.draw % 79 + st.align) x.comps }); c < 8 → s.listening = true → (s.cnvOf c).steps.getLast? = some st → (s.cnvOf c).ovrActive = false → belowRelease peak st.thr st.stepCal (s.attOf c).hystDb = true → (s.cnvOf c).holdFrom + (s.attOf c).holdMs * perMs ≤ s.now → exec (.fastStepRelease dt c peak) s₀ = .next (((t.settleChain c (t.window + t.draw % 79 + st.align)).drawn).driveAtt c)) ∧
    (∀ (c peak : Nat) (u : Time), let t := s.modCnv c (fun x => { x with startTest := none }); c < 8 → s.listening = true → (s.cnvOf c).startTest = some u → u ≤ s.now → t.mayStep c = true → peak < (s.attOf c).fastThr → belowRelease peak (s.attOf c).fastThr (s.attOf c).stepCal (s.attOf c).hystDb = false → exec (.fastStepStartTest dt c peak) s₀ = .next (t.takeStep c)) ∧
    (∀ (c : Nat), c < 8 → 0 < (s.dacOf c).begun → exec (.dacClipEpisode dt c) s₀ = .next (({ s with dac := Table.modify {} s.dac c (fun x => { x with begun := x.begun - 1 }) } : State).modCnv c (fun x => { x with clipSticky := true, clipCount := satUp 0xFFFF x.clipCount }))) ∧
    (∀ (c : Nat), c < 8 → s.transmits c = true → s.trafficQuiet c = true → exec (.dacCalHold dt c) s₀ = .next (s.modCnv c (fun x => { x with calHold := true }))) ∧
    (∀ (c : Nat), c < 8 → s.trafficQuiet c = false → exec (.calHoldEnd dt c) s₀ = .next (s.modCnv c (fun x => { x with calHold := false }))) ∧
    (2 ≤ s.radio.state → s.firmwareRuns = true → s.th.trimAt + storeInterval s.th.band * perSecond ≤ s.now → exec (.trimStore dt) s₀ = .next ((let t := s.each chains (fun s c => s.storeTrims c); { t with th := { t.th with trimAt := t.now } } : State)))

/-- At its window sample the oldest waiting retune is carried out; at the last faded output a cross-fade of both filters
ends, and sub-bands that were shed may run again; at its output a hard switch is carried out; at the reset sample a
synchronising reset resets its members and completes OK with that sample's number; at the end of the ramp the sub-
band is disabled; and the oldest coefficient load ends. -/
def Obligations.SubbandEventsComplete : Prop :=
  ∀ (s₀ : State) (dt : Nat),
    let s := s₀.advance dt
    (∀ (g : Nat) (w : Retune) (rest : List Retune), (s.sbOf g).retunes = w :: rest → w.due ≤ s.window → exec (.retuneApply dt g) s₀ = .next (s.endRetune g)) ∧
    (∀ (g : Nat) (a b : Fade), g < 128 → (s.sbOf g).fadeRx = some a → s.fadeOver g a = true → (s.sbOf g).fadeTx = some b → s.fadeOver g b = true → exec (.crossFadeEnd dt g) s₀ = .next ((s.endFadesThat g (s.fadeOver g)).unshed (chainOf g))) ∧
    (∀ (g : Nat) (w : HardSwitch), (s.sbOf g).hard = some w → w.due ≤ s.window → exec (.hardSwitchOutput dt g) s₀ = .next (s.endHard g)) ∧
    (∀ (g : Nat) (w : SyncReset) (rest : List SyncReset), (s.sbOf g).syncs = w :: rest → w.due ≤ s.window → exec (.syncResetSample dt g) s₀ = .next (((s.modSb g (fun x => { x with syncs := rest })).each w.members (fun s h => s.resetAt h w.due w.fresh)).completeOpt w.cmd stOk 0 w.due)) ∧
    (∀ (g : Nat) (t : Time) (cmd : Option CmdRef), g < 128 → (s.sbOf g).ramp = some (t, cmd) → t ≤ s.now → exec (.disableRampEnd dt g) s₀ = .next (s.disableNow g)) ∧
    (∀ (g : Nat) (l : CoefLoad) (rest : List CoefLoad), (s.sbOf g).loads = l :: rest → exec (.coefLoadEnd dt g) s₀ = .next ((s.modSb g (fun x => { x with loads := rest })).finishLoad l))

/-- At the end of an adaptation block each path that no freeze holds takes its update, FRZ_CAUSE is set, the measurement
is taken where a path was measured and the block is counted; after the fourth block in a row that is worse the map
is cleared with CAN.DIVERGE. When the acquisition time is over, MODE is tracking. At a partition boundary BASE
switches, map reads take their bytes, and each path takes the set that is due. A map move that ends is followed by
the switch of BASE at a boundary; one that lasts 1 ms clears the map with CAN.MOVE; and a map read ends with its
bytes and their CRC. -/
def Obligations.CancellerEventsComplete : Prop :=
  ∀ (s₀ : State) (dt : Nat),
    let s := s₀.advance dt
    (∀ (g : Nat) (m : Measured), let act := (List.range 4).filter (fun i => ((s.canOf g).path i).active); let measuring := act.filter (fun i => !(s.overranged g (s.blockStart g) (s.blockLength g)) && !(s.blockTagged g) && !(s.pathShut g i) && !(s.pathChange g i) && !(s.pathCopied g i)); let used := measuring.filter (fun _ => !(s.canOf g).frozen); let causes := 16 * ofBool (s.canOf g).frozen + 8 * ofBool (s.overranged g (s.blockStart g) (s.blockLength g)) + 4 * ofBool (act.any (fun i => s.pathShut g i)) + 2 * ofBool (act.any (fun i => s.pathChange g i || s.pathCopied g i)) + ofBool (s.blockTagged g); let spectra := s.blockSpectra g (s.canOf g).nb (s.blockOutput g) (act.map (fun i => (i, ((s.canOf g).path i).delay))); let t := ((used.map (fun i => (i, s.update g used i))).foldl (fun t e => t.adaptPath g e.1 e.2) s).modCan g (fun y => let y := if measuring = [] then y else y.measured (s.blockPowers g act) spectra (s.blockWorse g); let y := y.mapPaths (fun _ p => { p with skip := p.skip - 1 }); { y with frz := BitVec.ofNat 5 causes, acqTime := if used = [] ∨ y.mode ≠ 1 then y.acqTime else y.acqTime + s.blockLength g, frozen := (s.canSet g).hostFreeze, block := y.block + 1 }); g < 128 → 0 < (s.canOf g).nb → s.outputsRun g = true → s.blockStart g + s.blockLength g < s.window + (s.cfg g).d → exec (.cancellerBlockEnd dt g m) s₀ = .next (if (t.canOf g).divRun = 4 then ((t.clearCan g).modCan g (fun y => { y with diverge := satUp 0xFF y.diverge })).raise 16 g 0 else t)) ∧
    (∀ (g : Nat), (s.canOf g).mode = 1 → (s.canSet g).acqMs * perMs ≤ (s.canOf g).acqTime → exec (.acqMsExpiry dt g) s₀ = .next (s.modCan g (fun y => { y with mode := 2 }))) ∧
    (∀ (g : Nat), let v := s.modCan g (fun y => { y with base := y.copied.getD y.base, copied := none }); let t := v.modCan g (fun y => { y with reading := y.reading.map (fun m => { m with data := some (m.data.getD (v.pathsImage g m.paths)) }) }); g < 128 → 0 < (s.canOf g).nb → s.outputsRun g = true → s.window = s.outputNow g * (s.cfg g).d → s.partitionFrom g (s.outputNow g) = s.outputNow g → exec (.partitionBoundary dt g) s₀ = .next ((List.range 4).foldl (fun w i => w.takeDue g i) t)) ∧
    (∀ (g b : Nat) (t : Time), (s.canOf g).moving = some (b, t) → exec (.mapMoveEnd dt g) s₀ = .next ((s.modCan g (fun x => { x with copied := some b, moving := none })).skipPresent g [0, 1, 2, 3])) ∧
    (∀ (g b : Nat) (t : Time), (s.canOf g).moving = some (b, t) → t + perMs ≤ s.now → exec (.canMove dt g) s₀ = .next (((s.modCan g (fun x => { x with base := b, moving := none })).clearCan g).raise 17 g 0)) ∧
    (∀ (g : Nat) (m : MapRead) (rest : List MapRead), (s.canOf g).reading = m :: rest → m.data.isNone = false ∨ s.outputsRun g = false → exec (.mapReadEnd dt g) s₀ = .next ((((s.modCan g (fun x => { x with reading := rest })).skipPresent g m.paths).giveData m.cmd m.addr (m.data.getD (s.pathsImage g m.paths))).complete m.cmd stOk 0 (crc32c (m.data.getD (s.pathsImage g m.paths)))))

/-- A governor block that ends is counted, and one that counts is measured and moves the ceiling. A trip of the
detectors clamps every tied sub-band's gain, and the third within 10 s mutes. A clamp, a hold-off and a restart cap
end at their times; a probe starts by itself after 500 ms below the floor, ends at its time with its sums, is
suspended at once above the floor, and resumes after 10 ms; and the isolation is stored. -/
def Obligations.GovernorEventsComplete : Prop :=
  ∀ (s₀ : State) (dt : Nat),
    let s := s₀.advance dt
    (∀ (g : Nat) (m : Measured), let t := s.modGov g (fun x => { x with block := x.block + 1, skips := [0, 1, 2, 3].foldl (fun k i => Table.modify 0 k i (· - 1)) x.skips }); g < 128 → s.outputsRun g = true → (s.cfg g).offFreq = false → (s.govOutput g + binsOf (s.cfg g).d) * (s.cfg g).d < s.window + (s.cfg g).d → exec (.governorBlockEnd dt g m) s₀ = .next (if s.govUsed g then (t.govMeasure g (s.govRefs g) (s.govSpectra g)).ceiling g 1875 else t)) ∧
    (∀ (g : Nat), let t := (s.modSig g (fun x => { x with detect := { x.detect with tripped := false } })).each (s.tied g) (fun w h => w.modGov h (fun x => { x with trips := (w.now, w.appliedGain h) :: x.trips.filter (fun e => decide (w.now ≤ e.1 + tenSeconds)), capRepeat := 0, capFrom := x.capFrom.map (fun _ => w.now) })); g < 128 → s.listening = true → s.enabled g = true → s.muted g = false → (s.sigOf g).detect.tripped = true → (t.govOf g).trips.length < 3 → exec (.oscillationTrip dt g) s₀ = .next ((t.each (t.tied g) (fun w h => w.modGov h (fun x => { x with state := 1, clamp := some (w.appliedGain h - ((w.govSet h).clampDb * 10000 : Nat), w.now + (w.govSet h).clampHoldMs * perMs) }))).govNote 0 g ((((t.each (t.tied g) (fun w h => w.modGov h (fun x => { x with state := 1, clamp := some (w.appliedGain h - ((w.govSet h).clampDb * 10000 : Nat), w.now + (w.govSet h).clampHoldMs * perMs) }))).govOf g).clamp.map Prod.fst).getD 0))) ∧
    (∀ (g : Nat), let t := (s.modSig g (fun x => { x with detect := { x.detect with tripped := false } })).each (s.tied g) (fun w h => w.modGov h (fun x => { x with trips := (w.now, w.appliedGain h) :: x.trips.filter (fun e => decide (w.now ≤ e.1 + tenSeconds)), capRepeat := 0, capFrom := x.capFrom.map (fun _ => w.now) })); g < 128 → s.listening = true → s.enabled g = true → s.muted g = false → (s.sigOf g).detect.tripped = true → 3 ≤ (t.govOf g).trips.length → exec (.oscillationTrip dt g) s₀ = .next (t.oscMute g)) ∧
    (∀ (g : Nat) (c : Int) (t : Time), (s.govOf g).clamp = some (c, t) → t ≤ s.now → exec (.clampHoldEnd dt g) s₀ = .next (s.modGov g (fun x => { x with clamp := none, state := if x.state = 1 then 0 else x.state }))) ∧
    (∀ (g : Nat) (t : Time), (s.govOf g).state = 2 → (s.govOf g).holdoff = some t → t ≤ s.now → s.firmwareRuns = true → exec (.holdoffEnd dt g) s₀ = .next (s.restart g)) ∧
    (∀ (g : Nat), let t := s.modGov g (fun x => { x with cap := none, capRepeat := 0, capFrom := none }); (s.govOf g).cap.isSome = true → failWindow ≤ (s.govOf g).capRepeat → exec (.restartCapRemoval dt g) s₀ = .next (if t.listening ∧ t.enabled g then t.ceiling g 0 else t)) ∧
    (∀ (g : Nat) (t : Time), g < 128 → (s.govSet g).probeAuto = true → s.radio.state = 4 → s.enabled g = true → (s.cfg g).offFreq = false → s.muted g = false → (s.govOf g).probe.isNone = true → (s.govOf g).floor = true → (s.govOf g).floorSince = some t → t + 500 * perMs ≤ s.now → exec (.probeAutoStart dt g) s₀ = .next (s.startProbe g (s.newProbe none 10 1000))) ∧
    (∀ (g : Nat) (p : Probe), let t := s.takeProbe g p; (s.govOf g).probe = some p → p.stop ≤ s.now → exec (.probeEnd dt g) s₀ = .next ((if t.listening ∧ t.enabled g then t.ceiling g 0 else t).probeDone p.cmd g stOk 0)) ∧
    (∀ (g : Nat), exec (.probeResume dt g) s₀ = .next (s.modGov g (fun x => { x with probe := x.probe.map (fun p => if p.suspended ∧ p.lastAbove + 10 * perMs ≤ s.now then { p with suspended := false } else p) }))) ∧
    (∀ (g : Nat), s.probeDrowned g = true → exec (.probeSuspend dt g) s₀ = .next (s.modGov g (fun x => { x with probe := x.probe.map (fun p => { p with suspended := true, everSuspended := true, lastAbove := s.now }) }))) ∧
    (s.firmwareRuns = true → s.th.isoAt + 600 * perSecond ≤ s.now → exec (.isoStore dt) s₀ = .next ({ s.storeIso with th := { s.th with isoAt := s.now } }))

/-- In LISTEN and REPEAT each control tick updates every enabled inner loop, and each outer loop at its own rate. A
mismatch that lasts PLAUS_TIME_MS is CTL.PLAUS. A set point, or a fixed gain, that has ramped to its value completes
its command, and an injection that is done ends OK. -/
def Obligations.ControlEventsComplete : Prop :=
  ∀ (s₀ : State) (dt : Nat),
    let s := s₀.advance dt
    (∀ (missed : List Nat), s.listening = true → s.ctlTick ≠ some (s.window / perControl) → exec (.controlTick dt missed) s₀ = .next ((({ s with ctlTick := some (s.window / perControl) } : State).each (allSbs.filter (fun g => s.enabled g)) (fun w g => w.loopTick g (missed.contains g))).each (chains.filter (fun c => decide (s.window / perControl % max 1 ((({ s with ctlTick := some (s.window / perControl) } : State).each (allSbs.filter (fun g => s.enabled g)) (fun w g => w.loopTick g (missed.contains g))).loopSet (128 + c)).outerDiv = 0))) (fun w c => w.outerTick c (missed.contains (128 + c))))) ∧
    (∀ (c : Nat) (t : Time), c < 8 → (s.plausOf c).timer = some t → t + (s.plausSet c).timeMs * perMs ≤ s.now → (s.plausOf c).raised = false → exec (.plausTimerExpiry dt c) s₀ = .next ((s.modPlaus c (fun x => { x with raised := true })).raise 18 c 0 true)) ∧
    (∀ (loop : Nat) (w : SetPointWait), let t := s.modLoop loop (fun x => x.setWait 0 none); (s.loopOf loop).wait 0 = some w → loop < 128 → (s.loopOf loop).spRamp = ofCenti (s.loopSet loop).sp → exec (.setPointArrived dt loop 0) s₀ = .next (t.pointDone w.cmd (((t.requestOf w.cmd).map instOf).getD loop) 0 w.startedAt)) ∧
    (∀ (loop : Nat) (w : SetPointWait), let t := s.modLoop loop (fun x => x.setWait 1 none); (s.loopOf loop).wait 1 = some w → loop < 128 → (s.loopOf loop).gfixRamp = ofCenti (s.loopSet loop).gFix → exec (.setPointArrived dt loop 1) s₀ = .next (t.pointDone w.cmd (((t.requestOf w.cmd).map instOf).getD loop) 1 w.startedAt)) ∧
    (∀ (loop : Nat) (j : Injection), (s.loopOf loop).inj = some j → j.pre + j.duration ≤ j.done → exec (.injectionEnd dt loop) s₀ = .next (s.endInjection loop stOk 0))

/-- Synchronisation that is acquired locks the group to the frame of the source and begins frame 0 there; from holdover
an error of at most 24 ticks takes the group back to LOCKED, and a larger one begins again. A measurement on a
locked group moves the frame one tick towards the source; the third in a row of more than 24 ticks begins again; an
edge more than 1 µs away counts as missing, and before lock it is the first of two. The loss of the source, nothing
heard of it for its time, is holdover with NET.SYNCLOSS, or the end of the timing at once with a holdover of 0; and
the end of holdover is that end. -/
def Obligations.TimingEventsComplete : Prop :=
  ∀ (s₀ : State) (dt : Nat),
    let s := s₀.advance dt
    (∀ (grp frameTick sfn : Nat) (err : Int), grp < 4 → (s.tddSet grp).enable = true → (s.tddSet grp).source ≠ 0 → (s.tddOf grp).srcLost = false → (s.tddOf grp).sync = 1 ∨ (s.tddOf grp).sync = 4 → s.acquirable grp = true → exec (.syncAcquired dt grp frameTick sfn err) s₀ = .next (((s.lock grp).modTdd grp (fun x => { x with timeErr := errNs err, corr := 0, beat := ((s.tddOf grp).heard s.now).beat })).setFrame grp (((frameTick : Int) + (s.tddSet grp).syncOffset) * perTick) (if 4 ≤ (s.tddSet grp).source then 0 else sfn))) ∧
    (∀ (grp frameTick sfn : Nat) (err : Int), grp < 4 → (s.tddSet grp).enable = true → (s.tddSet grp).source ≠ 0 → (s.tddOf grp).srcLost = false → (s.tddOf grp).sync = 3 → err.natAbs ≤ 24 → exec (.syncAcquired dt grp frameTick sfn err) s₀ = .next (((s.modTdd grp (fun x => { x with timeErr := errNs err })).periodErr grp).modTdd grp (fun x => { x.heard s.now with sync := 2, bad := 0 }))) ∧
    (∀ (grp frameTick sfn : Nat) (err : Int), grp < 4 → (s.tddSet grp).enable = true → (s.tddSet grp).source ≠ 0 → (s.tddOf grp).srcLost = false → (s.tddOf grp).sync = 3 → 24 < err.natAbs → exec (.syncAcquired dt grp frameTick sfn err) s₀ = .next ((s.modTdd grp (fun x => { x with timeErr := errNs err })).reacquire grp)) ∧
    (∀ (grp : Nat) (err : Int), grp < 4 → (s.tddSet grp).enable = true → (s.tddSet grp).source ≠ 0 → (s.tddOf grp).srcLost = false → (s.tddOf grp).sync = 2 → err.natAbs ≤ 24 → edgeMissing (s.tddSet grp).source err = false → exec (.syncMeasurement dt grp err) s₀ = .next ((s.modTdd grp (fun x => { x.heard s.now with timeErr := errNs err })).drawn.modTdd grp (fun x => { x with bad := 0, frame := x.frame + (if 0 < err then 1 else if err < 0 then -1 else 0) * perTick, corr := x.corr + (if 0 < err then 1 else if err < 0 then -1 else 0), freq := signedOf 32 s.draw }))) ∧
    (∀ (grp : Nat) (err : Int), grp < 4 → (s.tddSet grp).enable = true → (s.tddSet grp).source ≠ 0 → (s.tddOf grp).srcLost = false → (s.tddOf grp).sync = 3 → err.natAbs ≤ 24 → edgeMissing (s.tddSet grp).source err = false → exec (.syncMeasurement dt grp err) s₀ = .next (((s.modTdd grp (fun x => { x.heard s.now with timeErr := errNs err })).periodErr grp).modTdd grp (fun x => { x with sync := 2, bad := 0 }))) ∧
    (∀ (grp : Nat) (err : Int), grp < 4 → (s.tddSet grp).enable = true → (s.tddSet grp).source ≠ 0 → (s.tddOf grp).srcLost = false → (s.tddOf grp).sync = 2 ∨ (s.tddOf grp).sync = 3 → 24 < err.natAbs → edgeMissing (s.tddSet grp).source err = false → exec (.syncMeasurement dt grp err) s₀ = .next (if (s.tddOf grp).bad + 1 = 3 then (s.modTdd grp (fun x => { x.heard s.now with timeErr := errNs err })).reacquire grp else (s.modTdd grp (fun x => { x.heard s.now with timeErr := errNs err })).modTdd grp (fun x => { x with bad := x.bad + 1 }))) ∧
    (∀ (grp : Nat) (err : Int), grp < 4 → (s.tddSet grp).enable = true → (s.tddSet grp).source ≠ 0 → (s.tddOf grp).srcLost = false → (s.tddOf grp).sync = 2 ∨ (s.tddOf grp).sync = 3 → edgeMissing (s.tddSet grp).source err = true → exec (.syncMeasurement dt grp err) s₀ = .next (s)) ∧
    (∀ (grp : Nat) (err : Int), grp < 4 → (s.tddSet grp).enable = true → (s.tddSet grp).source ≠ 0 → (s.tddOf grp).srcLost = false → (s.tddOf grp).sync ≠ 2 → (s.tddOf grp).sync ≠ 3 → exec (.syncMeasurement dt grp err) s₀ = .next (s.modTdd grp (fun x => x.heard s.now))) ∧
    (∀ (grp : Nat) (q : Time), let t := (s.modTdd grp (fun x => { x with sync := 3, bad := 0, drift := 0, holdEnd := s.now + (s.tddSet grp).holdoverS * perSecond, learning := none })).raise 23 grp 0; grp < 4 → (s.tddOf grp).sync = 2 → (s.tddSet grp).source ≠ 0 → (s.tddOf grp).heardAt = some q → q + lossTime (s.tddSet grp).source (s.tddOf grp).beat ≤ s.now → exec (.syncLoss dt grp) s₀ = .next (if (s.tddSet grp).holdoverS = 0 then t.expire grp else t)) ∧
    (∀ (grp : Nat), let t := (s.modTdd grp (fun x => { x with sync := 3, bad := 0, drift := 0, holdEnd := s.now + (s.tddSet grp).holdoverS * perSecond, learning := none })).raise 23 grp 0; grp < 4 → (s.tddOf grp).sync = 2 → (s.tddSet grp).source ≠ 0 → (s.tddOf grp).heardAt = none → exec (.syncLoss dt grp) s₀ = .next (if (s.tddSet grp).holdoverS = 0 then t.expire grp else t)) ∧
    (∀ (grp : Nat), grp < 4 → (s.tddOf grp).sync = 3 → (s.tddOf grp).holdEnd ≤ s.now → exec (.holdoverExpiry dt grp) s₀ = .next (s.expire grp))

/-- At its start the next gating frame is begun: the numbers advance, a waiting configuration and the waiting gate pages
come into force and their commands complete OK, a learning group counts the frame's symbols, streams that wait for
it start, and FSYNC is driven. A gate edge opens and closes the gates that the table schedules, with a ramp of 200
ns; a gate that would open while the other direction's are open stays shut, with NET.GATECLASH; and the beam output
is driven. After 200 frames learning ends with the learned page and event 0x0030. -/
def Obligations.GatingEventsComplete : Prop :=
  ∀ (s₀ : State) (dt : Nat),
    let s := s₀.advance dt
    (∀ (grp : Nat), grp < 4 → (s.tddOf grp).sync = 2 ∨ (s.tddOf grp).sync = 3 → (s.tddOf grp).frame + (((s.tddOf grp).gf + 1) * framePeriod (s.tddSet grp).period : Nat) ≤ (s.window : Int) → exec (.gatingFrameStart dt grp) s₀ = .next (
      (let x := s.tddOf grp; let k := s.tddSet grp; let p := framePeriod k.period; let at_ := x.frame + ((x.gf + 1) * p : Nat)
      let v := s.noteFrame grp
      let t := v.modTdd grp (fun x => { x with gf := if decide (framesPer k ≤ (v.tddOf grp).gf + 1) then 0 else x.gf + 1, frame := if decide (framesPer k ≤ (v.tddOf grp).gf + 1) then x.frame + 19660800 else x.frame, sfn := if decide (framesPer k ≤ (v.tddOf grp).gf + 1) then (x.sfn + 1) % 1024 else x.sfn, gating := true })
      ((((((t.modTdd grp (fun x => x.extrapolate p)).takeConfig grp).takeWrites grp x.pendDl x.pendUl at_ p).learnNow grp).startStreams grp at_)).driveFsync
        grp (decide (framesPer k ≤ x.gf + 1)) at_))) ∧
    (∀ (grp : Nat) (uplink : Bool) (opened beam : Measured), grp < 4 → (s.tddSet grp).enable = true → (s.tddOf grp).gating = true → (s.tddOf grp).sync = 2 ∨ (s.tddOf grp).sync = 3 → exec (.gateEdge dt grp uplink opened beam) s₀ = .next (
      (let x := s.tddOf grp; let k := s.tddSet grp
      let want := s.scheduledNow grp uplink &&& (if uplink then k.maskUl else k.maskDl)
      let was := if uplink then x.openUl else x.openDl
      let otherOpen := decide ((if uplink then x.openDl else x.openUl) ≠ 0) || (List.range 16).any (fun k => decide (s.now < Table.get 0 x.ramps (if uplink then k else k + 16)))
      let clash := decide (want &&& ~~~was ≠ 0) && otherOpen
      let new := if clash then want &&& was else want
      let s := if new = was then s else s.modTdd grp (fun x => (x.moveGates uplink new s.window).ramp uplink (new ^^^ was) (s.now + 394))
      let s := if clash then (s.modTdd grp (fun x => { x with clash := satUp 0xFF x.clash })).raise 27 grp 0 else s
      match s.beamBegins grp uplink with
      | some b => if s.set.tddOut.beamEn ∧ s.set.tddOut.beamGroup = grp ∧ !(uplink ∧ s.beamTick = some s.tick) then { s with beam := b, beamTick := if uplink then s.beamTick else some s.tick } else s
      | none => s))) ∧
    (∀ (grp : Nat) (counts : Measured), grp < 4 → (s.tddOf grp).sync = 2 → (s.tddOf grp).learning = some 200 → (s.tddOf grp).pendDl.isNone = true → (s.tddOf grp).pendUl.isNone = true → s.firmwareRuns = true → exec (.tddLearn dt grp counts) s₀ = .next (
      (let k := s.tddSet grp
      let frame := (s.tddOf grp).counts.map symbolClass
      let s := s.modTdd grp (fun x => { x with learning := none, learnDone := true, mixed := min 255 (frame.filter (· == SymbolClass.mixed)).length })
      let event := fun (s : State) (res : Nat) => s.post 0x0030 [BitVec.ofNat 8 grp, BitVec.ofNat 8 res]
      if !frame.contains .downlink then event s 1 else if !frame.contains .quiet then event s 2
      else
        let dl := (runsOf (frame.map (· == SymbolClass.downlink)) 0).map (learnedEntry k.maskDl)
        let ul := (runsOf (uplinkSymbols frame (guardLeft frame 0)) 0).map (learnedEntry k.maskUl)
        let s := (s.writePage grp false (1 - k.pageDl) (dl.take k.lenDl)).writePage grp true (1 - k.pageUl) (ul.take k.lenUl)
        let s := event (s.modTdd grp (fun x => { x with learned := true, learnedPages := ([(false, 1 - k.pageDl), (true, 1 - k.pageUl)] ++ x.learnedPages).dedup })) 0
        if k.autoApply then s.autoApply grp else s)))

/-- An evaluation of network protection first takes the new limits and then evaluates every band. A donor that is
undetected for its time mutes the band with NET.DONORLOSS, and 200 ms above the detection level releases it. A
regrowth measurement below the limit raises the back-off by 1 dB, and the tenth at the maximum is NET.ACLR; one at
least 3 dB above it counts, and the tenth lowers the back-off by 0.5 dB; one between clears both counts. MUTE_N
mutes every chain and asserts its source; its rise begins the open gates' ramps, lets waiting restarts run, empties
the TX path, and ends the forced level of each chain when the first sample of the ramp reaches its RF-DAC. An
evaluation of regrowth that is not due does nothing, and one that is not valid only passes its time. -/
def Obligations.ProtectionEventsComplete : Prop :=
  ∀ (s₀ : State) (dt : Nat),
    let s := s₀.advance dt
    (∀ (levels : Measured), s.listening = true → (List.range 16).all (fun b => s.due100 (s.bandOf b).evalAt) = true → exec (.npEvaluation dt levels) s₀ = .next (((s.takeLimits).each (List.range 16) (fun w b => w.evalBand b (w.donorLevel b))).clearDonor)) ∧
    (∀ (band : Nat) (t : Time), band < 16 → s.listening = true → (s.npBand band).donorEn = true → (s.bandOf band).muted = false → (s.bandOf band).undetectedFrom = some t → t + (s.npBand band).donorLossMs * perMs ≤ s.now → exec (.donorLossMute dt band) s₀ = .next ((s.modBand band (fun x => { x with muted := true, aboveFrom := none })).judgeDonor band)) ∧
    (∀ (band : Nat) (t : Time), band < 16 → s.listening = true → (s.bandOf band).muted = true → (s.bandOf band).aboveFrom = some t → t + 200 * perMs ≤ s.now → exec (.donorRelease dt band) s₀ = .next (s.donorReleased band)) ∧
    (∀ (c gathered : Nat) (meas : List AclrMeas), s.transmits c = false ∨ s.due100 (s.regrowthOf c).evalAt = false → exec (.regrowthEvaluation dt c gathered meas) s₀ = .next (s)) ∧
    (∀ (c gathered : Nat) (meas : List AclrMeas), let u := s.regrowthBegins c; let x := u.regrowthOf c; c < 8 → s.transmits c = true → s.due100 (s.regrowthOf c).evalAt = true → u.worstAclr c meas = none ∨ gathered < hundredMicros ∨ (u.npChain c).regrowthEn = false ∨ (u.plausOf c).pComp < -671088640 → exec (.regrowthEvaluation dt c gathered meas) s₀ = .next (u)) ∧
    (∀ (c gathered : Nat) (meas : List AclrMeas) (aclr : CentiDb), let u := s.regrowthBegins c; let x := u.regrowthOf c; let n := if (u.npChain c).regrowthMax * 10 ≤ x.db then x.overRun + 1 else 0; let t := ({ u with regrowth := Table.set {} u.regrowth c { x with db := max x.db (min (x.db + 10) ((u.npChain c).regrowthMax * 10)), clean := 0, overRun := n } } : State); c < 8 → s.transmits c = true → s.due100 (s.regrowthOf c).evalAt = true → u.worstAclr c meas = some aclr → hundredMicros ≤ gathered → (u.npChain c).regrowthEn = true → -671088640 ≤ (u.plausOf c).pComp → aclr < ((u.npChain c).aclrLim * 100 : Nat) → exec (.regrowthEvaluation dt c gathered meas) s₀ = .next (if n = 10 then t.raise 26 c 0 true else t)) ∧
    (∀ (c gathered : Nat) (meas : List AclrMeas) (aclr : CentiDb), let u := s.regrowthBegins c; let x := u.regrowthOf c; let t := if 10 ≤ x.overRun then u.ends 26 c else u; c < 8 → s.transmits c = true → s.due100 (s.regrowthOf c).evalAt = true → u.worstAclr c meas = some aclr → hundredMicros ≤ gathered → (u.npChain c).regrowthEn = true → -671088640 ≤ (u.plausOf c).pComp → ((u.npChain c).aclrLim * 100 : Nat) ≤ aclr → (((u.npChain c).aclrLim + 3) * 100 : Nat) ≤ aclr → x.clean + 1 = 10 → exec (.regrowthEvaluation dt c gathered meas) s₀ = .next (({ t with regrowth := Table.set {} t.regrowth c { x with db := x.db - 5, clean := 0, overRun := 0 } } : State))) ∧
    (∀ (c gathered : Nat) (meas : List AclrMeas) (aclr : CentiDb), let u := s.regrowthBegins c; let x := u.regrowthOf c; let t := if 10 ≤ x.overRun then u.ends 26 c else u; c < 8 → s.transmits c = true → s.due100 (s.regrowthOf c).evalAt = true → u.worstAclr c meas = some aclr → hundredMicros ≤ gathered → (u.npChain c).regrowthEn = true → -671088640 ≤ (u.plausOf c).pComp → ((u.npChain c).aclrLim * 100 : Nat) ≤ aclr → (((u.npChain c).aclrLim + 3) * 100 : Nat) ≤ aclr → x.clean + 1 ≠ 10 → exec (.regrowthEvaluation dt c gathered meas) s₀ = .next (({ t with regrowth := Table.set {} t.regrowth c { x with clean := x.clean + 1, overRun := 0 } } : State))) ∧
    (∀ (c gathered : Nat) (meas : List AclrMeas) (aclr : CentiDb), let u := s.regrowthBegins c; let x := u.regrowthOf c; let t := if 10 ≤ x.overRun then u.ends 26 c else u; c < 8 → s.transmits c = true → s.due100 (s.regrowthOf c).evalAt = true → u.worstAclr c meas = some aclr → hundredMicros ≤ gathered → (u.npChain c).regrowthEn = true → -671088640 ≤ (u.plausOf c).pComp → ((u.npChain c).aclrLim * 100 : Nat) ≤ aclr → aclr < (((u.npChain c).aclrLim + 3) * 100 : Nat) → exec (.regrowthEvaluation dt c gathered meas) s₀ = .next (({ t with regrowth := Table.set {} t.regrowth c { x with clean := 0, overRun := 0 } } : State))) ∧
    (s.pins.muteN = true → exec (.muteNFall dt) s₀ = .next ((({ s with pins := { s.pins with muteN := false } } : State).modWm 20 (fun x => { x with asserted := true, sticky := true, count := satUp 0xFFFF x.count })).tripAll 20)) ∧
    (let t := ((({ s with pins := { s.pins with muteN := true } } : State).modWm 20 (fun x => { x with asserted := false })).each (List.range 4) (fun w g => w.modTdd g (fun x => (x.ramp false x.openDl (w.now + 394)).ramp true x.openUl (w.now + 394)))).restartWaiting; s.pins.muteN = false → exec (.muteNRise dt) s₀ = .next ((t.each (allSbs.filter (fun g => t.enabled g)) State.hush).each chains (fun w c => (({ w with dac := Table.modify {} w.dac c (fun x => { x with a := [], b := [], line := [] }) } : State)).modFe c (fun x => { x with forceTill := w.now + w.dacDelay c }))))

/-- A due power-up sequence begins; at each offset the lines PABIAS and PAEN change; at its end the chain is on, and it
transmits unless its PA is tripped or the chain fenced; a due power-down begins, or is at its end where neither line
is asserted; and its end takes the chain off. Each end lets the walk's step 8 be checked. -/
def Obligations.SequenceEventsComplete : Prop :=
  ∀ (s₀ : State) (dt : Nat),
    let s := s₀.advance dt
    (∀ (c : Nat), c < 8 → (s.feOf c).dueUp = true → (s.feOf c).free = true → exec (.paPowerUpStart dt c) s₀ = .next (s.startUp c)) ∧
    (∀ (c : Nat) (q : Seq), (s.feOf c).seq = some q → c < 8 → exec (.paSequenceOffset dt c) s₀ = .next (s.modFe c (fun x => x.reached q (s.seqTicks q)))) ∧
    (∀ (c : Nat) (q : Seq), (s.feOf c).seq = some q → c < 8 → q.up = true → q.length ≤ s.seqTicks q → exec (.paPowerUpEnd dt c) s₀ = .next ((s.modFe c (fun x => { x.reached q (s.seqTicks q) with seq := none, on := true, mine := false, txActive := (x.reached q (s.seqTicks q)).paen && !x.trip && !(s.cnvOf c).txFenced })).seqCheck)) ∧
    (∀ (c : Nat), c < 8 → (s.feOf c).dueDown = true → exec (.paPowerDownStart dt c) s₀ = .next (if ((s.startDown c).feOf c).seq.isNone then ((s.startDown c).modFe c (fun x => { x with mine := false })).seqCheck else s.startDown c)) ∧
    (∀ (c : Nat) (q : Seq), (s.feOf c).seq = some q → c < 8 → q.up = false → q.length ≤ s.seqTicks q → exec (.paPowerDownEnd dt c) s₀ = .next ((s.modFe c (fun x => { x.reached q (s.seqTicks q) with seq := none, on := false, mine := x.dueUp })).seqCheck))

/-- A waiting configuration of a pulse generator comes into force at its period's start, at its gating frame's start, or
at once without timing. A pulse edge changes the level, starts the blanking of the monitors that it blanks, may
clear a trip of a channel that has a schedule, and triggers the converter. A monitor's input beyond its limits
asserts its source and trips; within them by the hysteresis it releases. An external trip asserts its source and its
end clears it; at the end of a blanking a source that is still asserted trips; and a pin that does not follow its
drive is raised. -/
def Obligations.PulseAndMonitorEventsComplete : Prop :=
  ∀ (s₀ : State) (dt : Nat),
    let s := s₀.advance dt
    (∀ (ch : Nat) (q : PgSet) (c : CmdRef), (s.pgOf ch).change = some (q, c) → ch < 16 → (s.pgSet ch).src = 3 → s.tick % (s.pgSet ch).p0 = (s.pgSet ch).p2 → exec (.pgConfigApply dt ch) s₀ = .next ((s.usePg ch q).complete c stOk 0 0)) ∧
    (∀ (ch : Nat) (q : PgSet) (c : CmdRef), (s.pgOf ch).change = some (q, c) → ch < 16 → (s.pgSet ch).src ≠ 3 → (s.tddOf (s.pgSet ch).group).sync = 2 ∨ (s.tddOf (s.pgSet ch).group).sync = 3 → ((s.window : Int) - (s.tddOf (s.pgSet ch).group).frame) % framePeriod (s.tddSet (s.pgSet ch).group).period < perTick → exec (.pgConfigApply dt ch) s₀ = .next ((s.usePg ch q).complete c stOk 0 0)) ∧
    (∀ (ch : Nat) (q : PgSet) (c : CmdRef), (s.pgOf ch).change = some (q, c) → ch < 16 → (s.pgSet ch).src ≠ 3 → ¬((s.tddOf (s.pgSet ch).group).sync = 2 ∨ (s.tddOf (s.pgSet ch).group).sync = 3) → exec (.pgConfigApply dt ch) s₀ = .next ((s.usePg ch q).complete c stOk 0 0)) ∧
    (∀ (ch : Nat), (s.pgOf ch).change = none → exec (.pgConfigApply dt ch) s₀ = .next (s)) ∧
    (∀ (ch : Nat), ch < 16 → (s.pgSet ch).enable = true → 2 ≤ s.radio.state → s.pgLevel ch = true → (s.pgOf ch).level = false → exec (.pgEdge dt ch true) s₀ = .next (
      (let s := s.modPg ch (fun x => { x with level := true })
      let s := s.each (List.range 16) (fun s m => if (s.wmSet m).blankPg = ch ∧ (s.wmSet m).enable then s.modWm m (fun x => { x with blank := some (s.now + (s.wmSet m).blankTicks * perTick) }) else s)
      let s := if (s.pgOf ch).tripped ∧ (s.pgSet ch).latch ∧ (s.pgSchedule ch).src ≠ 0 ∧ !s.routed ch then s.untrip ch else s
      s.hkTrigger 1 ch))) ∧
    (∀ (ch : Nat), ch < 16 → (s.pgSet ch).enable = true → 2 ≤ s.radio.state → s.pgLevel ch = false → (s.pgOf ch).level = true → exec (.pgEdge dt ch false) s₀ = .next ((s.modPg ch (fun x => { x with level := false })).hkTrigger 2 ch)) ∧
    (∀ (m input : Nat), let t := s.modWm m (fun x => { x with input := input }); m < 16 → (s.wmSet m).enable = true → 2 ≤ s.radio.state → (s.wmSet m).asserts input = true → exec (.monitorAssert dt m input) s₀ = .next (if (t.wmOf m).asserted then t else (t.assertSource m).seqCheck)) ∧
    (∀ (m input : Nat), m < 16 → (s.wmSet m).enable = true → 2 ≤ s.radio.state → (s.wmSet m).releases input = true → exec (.monitorRelease dt m input) s₀ = .next (s.modWm m (fun x => { x with input := input, asserted := x.failed }))) ∧
    (∀ (n : Nat), let t := ({ s with pins := { s.pins with xtrip := s.pins.xtrip ||| BitVec.ofNat 4 (2 ^ n) } } : State); n < 4 → (s.pinOf (0x30 + n)).isSome = true → bit s.pins.xtrip.toNat n = false → exec (.xtripFall dt n) s₀ = .next (if (t.wmSet (16 + n)).enable then (t.assertSource (16 + n)).seqCheck else t)) ∧
    (∀ (n : Nat), n < 4 → exec (.xtripRise dt n) s₀ = .next (({ s with pins := { s.pins with xtrip := s.pins.xtrip &&& ~~~BitVec.ofNat 4 (2 ^ n) } } : State).modWm (16 + n) (fun x => { x with asserted := false }))) ∧
    (∀ (m : Nat) (t : Time), (s.wmOf m).blank = some t → t ≤ s.now → exec (.blankingEnd dt m) s₀ = .next (((s.modWm m (fun x => { x with blank := none })).tripAll m).seqCheck)) ∧
    (∀ (ball : Nat), s.drives = true → ball < 24 ∨ 32 ≤ ball ∧ ball < 48 ∧ (s.pgDrives (ball - 32)).isSome = true → exec (.pinCheckMismatch dt ball) s₀ = .next (s.raise 30 ball 0))

/-- A timer's phase, or an edge of its pin 3 ticks earlier, makes its request; an edge is noted; a request whose delay
has passed asks for its conversion; and a conversion that ends leaves its code in HK_DATA and HK_LAST, counts the
result that it overwrites, and begins the next one; a fenced converter drops it. -/
def Obligations.HousekeepingEventsComplete : Prop :=
  ∀ (s₀ : State) (dt : Nat),
    let s := s₀.advance dt
    (∀ (n : Nat) (t : Time) (rest : List Time), n < 8 → (s.hkTimer n).enable = true → 2 ≤ s.radio.state → (s.hkTimer n).edges = t :: rest → t + 3 * perTick ≤ s.now → exec (.htTimerFire dt n) s₀ = .next (({ s with set := { s.set with hkTimer := Table.set {} s.set.hkTimer n { s.hkTimer n with edges := rest } } } : State).hkTrigger 0 n)) ∧
    (∀ (n : Nat), n < 8 → (s.hkTimer n).enable = true → 2 ≤ s.radio.state → (s.hkTimer n).edge = false → (s.hkTimer n).edges = [] → s.tick % (s.hkTimer n).period = (s.hkTimer n).phase → (s.hkTimer n).last ≠ some s.tick → exec (.htTimerFire dt n) s₀ = .next (({ s with set := { s.set with hkTimer := Table.set {} s.set.hkTimer n { s.hkTimer n with last := some s.tick } } } : State).hkTrigger 0 n)) ∧
    (∀ (n : Nat), n < 8 → (s.hkTimer n).enable = true → (s.hkTimer n).edge = true → (s.hkTimer n).pinLost = false → (s.pinOf (0x20 + n)).isSome = true → 2 ≤ s.radio.state → exec (.htTriggerEdge dt n) s₀ = .next (({ s with set := { s.set with hkTimer := Table.set {} s.set.hkTimer n { s.hkTimer n with edges := (s.hkTimer n).edges ++ [s.now] } } } : State))) ∧
    (∀ (e : Nat) (q : HkReq), s.hk.delayed.find? (fun w => decide (w.entry = e) && decide (w.due ≤ s.now)) = some q → exec (.hkRequest dt e) s₀ = .next ((s.modHk (fun h => { h with delayed := h.delayed.erase q })).hkAsk q)) ∧
    (∀ (nv : Nat) (q : HkReq) (t : Time), s.hk.busy = some (q, t) → t ≤ s.now → s.hk.fenced = false → exec (.hkConversionEnd dt nv) s₀ = .next (((s.putResult q t (hkCode (s.hkInput q.channel nv))).useCode q (hkCode (s.hkInput q.channel nv))).nextConversion)) ∧
    (∀ (nv : Nat) (q : HkReq) (t : Time), s.hk.busy = some (q, t) → t ≤ s.now → s.hk.fenced = true → exec (.hkConversionEnd dt nv) s₀ = .next (s.modHk (fun h => { h with busy := none })))

/-- A round begins at its place and puts its conversions in order; its end checks the sensors, supplies and monitors,
sets the temperature band, the throttle and the zones' readings, and decides whether to stop. The fade before an
orderly stop ends with the fall; an analogue trip stops at once with THM.TRIP; its release clears it; and when the
die has been cool for 10 s the stop ends and the radio resumes where it was, or stays. -/
def Obligations.ThermalEventsComplete : Prop :=
  ∀ (s₀ : State) (dt : Nat),
    let s := s₀.advance dt
    (let u := s.modTh (fun t => { t with inRound := true, lastRound := some s.now, lastFallback := s.radio.fallback, auto := s.set.autoResume, xs := s.set.xs, ofs := s.set.ofs }); let chs := List.replicate 12 29 ++ (u.externals.map (fun n => (u.xsOf n).channel)) ++ [24, 25, 26, 27, 28, 30]; let reqs := chs.zipIdx.map (fun p => ({ cls := 1, due := u.now + p.2 * ofMicros 5, entry := 63, channel := p.1, engine := false } : HkReq)); s.firmwareRuns = true → s.th.inRound = false → s.th.lastRound = none → s.roundDue = true → exec (.thermalRound dt) s₀ = .next (u.modHk (fun h => { h with delayed := h.delayed ++ reqs }))) ∧
    (∀ (q : Time), let u := s.modTh (fun t => { t with inRound := true, lastRound := some s.now, lastFallback := s.radio.fallback, auto := s.set.autoResume, xs := s.set.xs, ofs := s.set.ofs }); let chs := List.replicate 12 29 ++ (u.externals.map (fun n => (u.xsOf n).channel)) ++ [24, 25, 26, 27, 28, 30]; let reqs := chs.zipIdx.map (fun p => ({ cls := 1, due := u.now + p.2 * ofMicros 5, entry := 63, channel := p.1, engine := false } : HkReq)); s.firmwareRuns = true → s.th.inRound = false → s.th.lastRound = some q → q + (if s.radio.fallback ∧ s.th.lastFallback then 19 * perMs / 2 else 10 * perMs) ≤ s.now → s.roundDue = true → exec (.thermalRound dt) s₀ = .next (u.modHk (fun h => { h with delayed := h.delayed ++ reqs }))) ∧
    (∀ (m : RoundMeas), s.th.inRound = true → s.firmwareRuns = true → s.roundWaits = false → exec (.thermalRoundEnd dt m) s₀ = .next (
      (let s := (if s.th.tripWaits then s.stopGoesOn else s).modTh (fun t => { t with inRound := false, rounds := t.rounds + 1 })
      let first := decide (s.th.rounds = 1)
      let s := ((((((s.checkSensors m).checkSupplies).checkMonitors m.monitorsFailed).noteZones m).takeBand m first).takeThrottle m first)
      (if first then s.warmStart m else s).decideStop m first))) ∧
    (∀ (t : Time), s.th.fadeEnd = some t → t ≤ s.now → s.th.fadeDone = false → exec (.thermalFadeEnd dt) s₀ = .next ((if s.listening then s.modTh (fun h => { h with fadeDone := true }) else s.endThermalFade).thermalFall)) ∧
    (∀ (sensor : Nat), sensor < 12 → s.radio.state ≠ 0 → s.radio.inReset = false → s.th.tripAnalog = false → exec (.analogueTrip dt sensor) s₀ = .next ((let z := zoneOfTs sensor; let t := s.modTh (fun t => { t with tripAnalog := true, hot := t.hot ||| BitVec.ofNat 12 (2 ^ sensor) }); let t := if t.th.stop then t else t.stopBegins t.standing; (t.immediateStop z).raise 34 z 2 true))) ∧
    (∀ (sensor : Nat), sensor < 12 → s.radio.state ≠ 0 → s.radio.inReset = false → s.th.tripAnalog = true → exec (.analogueTrip dt sensor) s₀ = .next (s.modTh (fun t => { t with tripAnalog := true, hot := t.hot ||| BitVec.ofNat 12 (2 ^ sensor) }))) ∧
    (exec (.analogueTripRelease dt) s₀ = .next (s.modTh (fun t => { t with tripAnalog := false, hot := 0 }))) ∧
    (s.th.stop = true → 1000 ≤ s.th.cool → s.th.tripAnalog = false → s.firmwareRuns = true → exec (.thermalStopRelease dt) s₀ = .next (
      (let s := s.modTh (fun t => { t with stop := false, cool := 0 })
      let s : State := (s.flt.lasting.filter (fun d => d.bit == 33 || d.bit == 34)).foldl (fun (s : State) d => s.ends d.bit d.addr) s
      let s := s.unmute (fun m => m.bit == 33 || m.bit == 34)
      let busy := (s.radio.walk.bind Walk.cmd).isSome || s.radio.setting.isSome
      let target := s.th.resume.1
      let walks : Bool := s.th.auto && !busy && s.radio.walk.isNone && decide (s.radio.state < target) && !(s.s4Held && decide (2 < target))
      if walks then ((s.setRadio (fun r => { r with txEn := s.th.resume.2.1, dirEn := s.th.resume.2.2 })).post 0x0012 [1]).startWalk .resume none target
      else s.post 0x0012 [0])))

/-- A link loss, and a USB4 reset by the host, suspend the rings and lose the link's functions; a reset of the PCIe
function suspends the rings and clears its enables. A link that has trained again comes up in its mode, ends
LNK.DOWN and writes what waits; KEEP_S after the loss the rings are discarded. A faulty lane is LNK.LANE and is
excluded; a change of mode counts a retrain. A bus reset loses a USB function, a configuration brings it up, the USB
2.0 one at the speed the host chose. Bus Master Enable writes what was held, and a write of the MSI-X structures
sends the pending messages that it frees. -/
def Obligations.LinkEventsComplete : Prop :=
  ∀ (s₀ : State) (dt : Nat),
    let s := s₀.advance dt
    (exec (.linkLoss dt) s₀ = .next (s.linkLost)) ∧
    (exec (.hostLinkReset dt .usb4) s₀ = .next (s.linkLost)) ∧
    (∀ (kind : LinkReset), kind ≠ .usb4 → s.link.pcieUp = true → exec (.hostLinkReset dt kind) s₀ = .next (let t := (s.suspendRings).modLink (fun l => { l with busMaster := false, config := {}, msixOn := false, msixMask := false, msixVec := [], msixPend := [], lostTime := s.now, linkEvent := l.linkEvent ++ [(s.seconds, s.subsec, s.seconds, s.subsec)] }); if (t.ring 0).state = 4 then t else t.postLink)) ∧
    (∀ (mode : Nat), let e := (s.link.lostAt.map (fun e => (e.1, e.2, s.seconds, s.subsec))).toList; let t := (((s.modLink (fun l => { l with mode := mode, pcieUp := true, lostAt := none, linkEvent := l.linkEvent ++ e })).ends 51 0).endUsb4 true).fitStreams; s.link.mode = 0 → s.pathsRun = true → s.modeFits mode = true → s.link.startG3 = false ∨ mode ≠ 4 → s.usb4Offered = true → exec (.linkReturn dt mode) s₀ = .next (if (t.ring 0).state = 4 then t else (t.postLink).drainAll)) ∧
    ((s.ring 0).state = 4 → s.jcp.cause ≠ 2 → s.link.lostTime + s.set.keepS * perSecond < s.now → exec (.keepSExpiry dt) s₀ = .next (s.discardRings)) ∧
    (∀ (lane : Nat) (errors : Bool), lane < 2 → bit s.link.lanesOk.toNat lane = true → exec (.laneFault dt ⟨lane, errors⟩) s₀ = .next ((s.raise 50 lane (if errors then 2 else 1)).excludeLane lane)) ∧
    (∀ (mode : Nat), s.link.mode ≠ 0 → mode ≠ s.link.mode → s.modeFits mode = true → s.link.startG3 = false ∨ mode ≠ 4 → exec (.linkModeChange dt mode) s₀ = .next ((s.modLink (fun l => { l with mode := mode, retrain := satUp 0xFF l.retrain })).fitStreams)) ∧
    (s.link.usb2Up = true → exec (.usbBusReset dt true) s₀ = .next (s.usbLost true)) ∧
    (s.link.usb3Up = true → exec (.usbBusReset dt false) s₀ = .next (s.usbLost false)) ∧
    (∀ (full : Bool), s.pathsRun = true → 3 < s.boot.step → s.flt.mgmt = false → exec (.usbFunctionConfigured dt (.usb2 full)) s₀ = .next (s.modLink (fun l => { l with usb2Up := true, usb2Fn := { l.usb2Fn with fullSpeed := full } }))) ∧
    (s.pathsRun = true → s.link.mode ≠ 0 → exec (.usbFunctionConfigured dt .usb3) s₀ = .next (s.modLink (fun l => { l with usb3Up := true }))) ∧
    (∀ (on : Bool), s.link.pcieUp = true → exec (.busMasterEnableWrite dt on) s₀ = .next (if on then ((s.modLink (fun l => { l with busMaster := on })).drainAll).sendPending else s.modLink (fun l => { l with busMaster := on }))) ∧
    (∀ (v : Nat) (addr : BitVec 64) (data : BitVec 32) (masked : Bool), s.link.pcieUp = true → v < 2048 → exec (.msixVectorUnmask dt (.entry v addr data masked)) s₀ = .next ((s.modLink (fun l => { l with msixVec := Table.set {} l.msixVec v { addr := addr, data := data, masked := masked } })).sendPending)) ∧
    (∀ (on masked : Bool), s.link.pcieUp = true → exec (.msixVectorUnmask dt (.control on masked)) s₀ = .next ((s.modLink (fun l => { l with msixOn := on, msixMask := masked })).sendPending))

/-- An IN transfer takes the next item, or the next block. The buffer's capture is armed once PRE samples are filled,
triggered at the first sample at or after its trigger, and done once the samples from the trigger on are written,
with all of them in its format and its trigger's instant; a source that goes off ends a capture, or lets a stream
end with its block; and a block of a running stream is written in its format, or abandoned, and ends the stream that
was to end. -/
def Obligations.CaptureEventsComplete : Prop :=
  ∀ (s₀ : State) (dt : Nat),
    let s := s₀.advance dt
    (∀ (q : Nat), s.link.usb3Up = true → q < 8 → exec (.usbInTransfer dt (.usb3 q)) s₀ = .next (s.takeItem (20000 + q))) ∧
    (s.link.usb2Up = true → exec (.usbInTransfer dt .usb2) s₀ = .next (s.takeItem 20008)) ∧
    (∀ (n : Nat), s.link.usb3Up = true → 9 ≤ n → n ≤ 12 → exec (.usbInTransfer dt (.stream n)) s₀ = .next (s.takeBlock n)) ∧
    (s.cap.owner = 1 → s.cap.state = 1 → s.armedAt ≤ s.window → exec (.captureArmed dt) s₀ = .next (({ s with cap := { s.cap with state := 2 } } : State))) ∧
    (∀ (tick : Time) (cause arg : Nat), s.cap.owner = 1 → s.cap.state = 2 → s.trigFits tick cause arg = true → exec (.captureTrigger dt tick cause arg) s₀ = .next (s.capTriggered (holding tick s.capStep))) ∧
    (∀ (data sat : Measured), let z := s.capContents s.capFirst; s.cap.owner = 1 → s.cap.state = 3 → s.capEnd ≤ s.window → exec (.captureDone dt data sat) s₀ = .next (({ s with cap := { s.cap with owner := 0, state := 4, sat := z.2.2, valid := z.1, cmd := none, buf := z.2.1 } } : State).completeOpt s.cap.cmd stOk 0 s.cap.trigAt)) ∧
    (∀ (byHost : Bool), s.slotRuns 0 = true → s.sourceOff (s.capSet 0) = true → exec (.captureSourceStop dt 0 byHost) s₀ = .next (s.cutCapture (if byHost then stAbortedHost else stAbortedRecovery) 6)) ∧
    (∀ (slot : Nat) (byHost : Bool), slot ≠ 0 → s.slotRuns slot = true → s.sourceOff (s.capSet slot) = true → exec (.captureSourceStop dt slot byHost) s₀ = .next (s.modStream slot (fun x => { x with ending := some (x.ending.getD (if byHost then stAbortedHost else stAbortedRecovery, 6)) }))) ∧
    (∀ (slot : Nat) (payload nsamp t0 sat : Measured) (accepted : Bool), s.closing slot = none → exec (.streamBlock dt slot payload nsamp t0 sat accepted) s₀ = .next (s)) ∧
    (∀ (slot : Nat) (payload nsamp t0 sat : Measured) (accepted : Bool) (ys : List (Nat × Int × Captured)), let left := (Table.get ({} : Taken) s.taken (slot * 4)).samples.length - ys.length; let e := if left = 0 then (s.stream slot).ending else none; let t : State := { s with taken := Table.modify {} s.taken (slot * 4) (fun x => { x with samples := x.samples.take left }) }; slot ≠ 0 → s.slotRuns slot = true → s.closing slot = some ys → exec (.streamBlock dt slot payload nsamp t0 sat accepted) s₀ = .next (
      (let u := if accepted ∧ t.takesBlock slot then t.giveBlock slot (t.blockBytes slot ys e.isSome) e.isSome else t.dropBlock slot
      match e with
      | some (st, sub) => u.endStream slot st sub
      | none => u)))

/-- A detection that a block has found is taken; one from outside makes its pulse, its own effect and its reaction. At
the end of a shadow, and of a merge phase, the merged detections that still stand react; the test phase ends after
600 s; and a FAULT event leaves the queue for a sink that is up. ALIVE changes each millisecond; firmware's feed is
noted; when it has failed for 100 ms the active pair is fenced with MGT.KEEPALIVE; and the other pair takes over. -/
def Obligations.FaultEventsComplete : Prop :=
  ∀ (s₀ : State) (dt : Nat),
    let s := s₀.advance dt
    (∀ (src addr kind : Nat), s.collects = true → s.flt.due.contains ⟨src, addr, kind⟩ = true → exec (.faultDetection dt src addr kind) s₀ = .next ((s.modFlt (fun f => { f with due := f.due.erase ⟨src, addr, kind⟩ })).detect ⟨src, addr, kind⟩ false)) ∧
    (∀ (src addr kind : Nat), s.collects = true → s.flt.due.contains ⟨src, addr, kind⟩ = false → s.canOccur ⟨src, addr, kind⟩ = true → exec (.faultDetection dt src addr kind) s₀ = .next (((s.modFlt (fun f => { f with pulse := Table.set 0 f.pulse src (s.now + 1967) })).outerAction ⟨src, addr, kind⟩).detect ⟨src, addr, kind⟩ false)) ∧
    (let t := (if (s.flt.shadows.filter (fun e => decide (e.2 ≤ s.now))).any (fun e => decide (e.1 = 4)) && !(s.modFlt (fun f => { f with shadows := f.shadows.filter (fun e => decide (s.now < e.2)) })).shadowed 4 then (s.modFlt (fun f => { f with shadows := f.shadows.filter (fun e => decide (s.now < e.2)) })).ctlRestarts else s.modFlt (fun f => { f with shadows := f.shadows.filter (fun e => decide (s.now < e.2)) })); t.phaseNow = 0 → t.collects = true → exec (.shadowEnd dt) s₀ = .next (t.refreshMerged (fun c => (s.flt.shadows.filter (fun e => decide (e.2 ≤ s.now))).any (fun e => decide (e.1 = c))))) ∧
    (s.phaseNow = 0 → s.collects = true → exec (.mergePhaseEnd dt) s₀ = .next (s.refreshMerged (fun _ => true))) ∧
    (∀ (t : Time), s.flt.test = some t → t + 600 * perSecond ≤ s.now → exec (.testPhaseTimeout dt) s₀ = .next (s.modFlt (fun f => { f with test := none }))) ∧
    (∀ (msg level : Nat) (injected : Bool) (rest : List (Nat × Nat × Bool)), s.flt.queue = (msg, level, injected) :: rest → s.sinkUp = true → s.firmwareRuns = true → exec (.fault dt) s₀ = .next ((s.modFlt (fun f => { f with queue := rest })).post 0x0040 (leBytes 1 (msg / 1048576 % 256) ++ leBytes 1 level ++ leBytes 1 (ofBool injected) ++ leBytes 1 0 ++ leBytes 4 msg))) ∧
    (s.aliveRuns = true → s.flt.aliveAt + s.aliveMs ≤ s.now → s.flt.aliveOk ≤ s.aliveEdge → exec (.aliveToggle dt) s₀ = .next (s.modFlt (fun f => { f with alive := !f.alive, aliveAt := s.aliveEdge }))) ∧
    (s.firmwareRuns = true → exec (.keepaliveFeed dt) s₀ = .next ((s.modFlt (fun f => { f with fed := some s.now, watch := some s.now })).aliveFrom s)) ∧
    (∀ (t : Time), s.flt.watch = some t → t + 100 * perMs < s.now → s.collects = true → exec (.keepaliveTimeout dt) s₀ = .next (((s.modFlt (fun f => { f with fed := none, watch := none })).fencePair s.boot.pair).raise 58 s.boot.pair 0)) ∧
    (s.boot.takeover = true → s.boot.pairFenced ≠ 3 → exec (.pairTakeover dt) s₀ = .next (((s.modBoot (fun b => { b with takeover := false, pair := 1 - b.pair })).modFlt (fun f => { f with watch := some (f.watch.getD s.now) })).hkResume))

/-- A memory error is handled, and counts as injected where it was planted; the SRAM scrub each 1 s handles the errors
planted in every memory but the message queue and the non-volatile store, and the MRAM scrub each day those of the
store; and an NCO whose check, once per second, fails is DSP.NCO. -/
def Obligations.MemoryEventsComplete : Prop :=
  ∀ (s₀ : State) (dt : Nat),
    let s := s₀.advance dt
    (∀ (mem word : Nat) (double : Bool), s.collects = true → mem < 10 → word < memWords.getD mem 0 → exec (.memoryError dt mem word double) s₀ = .next (({ s with mem := { s.mem with planted := s.mem.planted.erase (mem, word, double) } } : State).memoryError mem word double (s.mem.planted.contains (mem, word, double)))) ∧
    (s.collects = true → s.mem.sramPass + perSecond ≤ s.now → exec (.sramScrubPass dt) s₀ = .next (({ s with mem := { s.mem with sramPass := s.now } } : State).scrub (fun m => decide (m ≠ 7 ∧ m ≠ 9)))) ∧
    (s.collects = true → s.mem.mramPass + 86400 * perSecond ≤ s.now → exec (.mramScrubPass dt) s₀ = .next ((({ s with mem := { s.mem with mramPass := s.now } } : State).scrub (fun m => decide (m = 9))).modStore (fun t => { t with rowErr := [] }))) ∧
    (∀ (bad : List Nat), s.collects = true → s.radio.pllLocked = true → s.mem.ncoAt + perSecond ≤ s.now → exec (.ncoCheck dt bad) s₀ = .next (s.ncoChecked.each (bad.filter (fun a => addrOk 13 a 0)) (fun w a => w.raise 13 a 0)))

/-- A snapshot whose trigger has come is taken; the oldest waiting one is written, with a spare row where the row cannot
be verified, and the snapshots missed are noted; each 100 ms the repeats are written; each hour the statistics are
closed; each 10 s OPSEC is stored; a freeze ends at its time; the zeroing ends; the mirror is written anew each 1
ms, with a new MIRROR_SEQ, and between as words of it change; and 5 s after CLEAR_ARM its permission ends. -/
def Obligations.RecorderEventsComplete : Prop :=
  ∀ (s₀ : State) (dt : Nat),
    let s := s₀.advance dt
    (exec (.snapshotTrigger dt) s₀ = .next (s.takeTrigger)) ∧
    (∀ (code source : Nat) (injected : Bool) (rest : List (Nat × Nat × Bool)), s.rcd.due = (code, source, injected) :: rest → exec (.snapshotTrigger dt) s₀ = .next ((s.modRec (fun r => { r with due := rest })).takeSnapshot code source injected)) ∧
    (∀ (verified : Bool) (x : Snap) (rest : List Snap), let t := (s.modRec (fun r => { r with waiting := rest })).writeRecord x; s.rcd.waiting = x :: rest → s.rcd.frozen.isSome = false → s.firmwareRuns = true → exec (.snapshotWrite dt verified) s₀ = .next ((if verified then t else t.replaceRow false ((0x1800000 + s.store.nextSeq % 131072 * 256) / 0x800000)).noteMissed)) ∧
    (s.firmwareRuns = true → s.rcd.frozen.isNone = true → s.rcd.coalesceAt + 100 * perMs ≤ s.now → exec (.coalesceFlush dt) s₀ = .next (s.flushRepeats)) ∧
    (s.firmwareRuns = true → s.seconds / 3600 ≠ s.rcd.hourNo → exec (.hourBoundary dt) s₀ = .next (s.closeHour false)) ∧
    (s.firmwareRuns = true → s.rcd.opsecAt + 10 * perSecond ≤ s.now → exec (.opsecStore dt) s₀ = .next (((s.modStore (fun t => { t with opsec := some s.seconds })).repaired 300).modRec (fun r => { r with opsecAt := s.now }))) ∧
    (∀ (t : Time), s.rcd.frozen = some t → t ≤ s.now → exec (.freezeTimeout dt) s₀ = .next (s.releaseFreeze)) ∧
    (exec (.zeroingEnd dt) s₀ = .next (s.modRec (fun r => { r with zeroing := none }))) ∧
    (s.link.mirrorAt + perMs ≤ s.now → s.radio.gated = false → s.radio.inReset = false → exec (.mirrorRefresh dt) s₀ = .next (s.modLink (fun l => { l with mirrorSeq := (s.link.mirrorSeq + 1) % 2 ^ 64, mirror := (s.mirrorWords).foldl (fun (t : Table Nat) e => Table.set 0 t e.1 e.2) (Table.set 0 [] 8 ((s.link.mirrorSeq + 1) % 2 ^ 64)), mirrorAt := s.now }))) ∧
    (s.now < s.link.mirrorAt + perMs → s.radio.gated = false → s.radio.inReset = false → exec (.mirrorRefresh dt) s₀ = .next (s.modLink (fun l => { l with mirrorSeq := s.link.mirrorSeq, mirror := (s.mirrorWords).foldl (fun (t : Table Nat) e => Table.set 0 t e.1 e.2) (Table.set 0 [] 8 s.link.mirrorSeq), mirrorAt := l.mirrorAt }))) ∧
    (∀ (a : Nat) (b : Bool) (t : Time), s.rcd.arm = some (a, b, t) → t + 5 * perSecond < s.now → exec (.clearArmExpiry dt) s₀ = .next (s.modRec (fun r => { r with armed := false })))

/-- An attention wait ends OK at its time. A transfer that waits on an idle bus starts, with the settings in force at
its first try, or completes RESOURCE_FENCED on a fenced bus; its end completes it: OK with the bytes read, BUS_NACK
for the address or a data byte, or INTEGRITY for the PEC. A start in the acknowledge slot, and a lost arbitration,
retry it; SCL held low, and a bus that does not become free, end it with BUS_ERROR; and SDA held low on an idle bus
begins a bus clear. -/
def Obligations.BusEventsComplete : Prop :=
  ∀ (s₀ : State) (dt : Nat),
    let s := s₀.advance dt
    (∀ (bus : Nat) (c : CmdRef) (t : Time), (s.twbOf bus).wait = some (c, some t) → t ≤ s.now → exec (.attentionWaitExpiry dt bus) s₀ = .next ((s.modTwb bus (fun x => { x with wait := none })).complete c stOk 0 0)) ∧
    (∀ (bus : Nat) (t : Transfer) (rest : List Transfer), (s.twbOf bus).queue = t :: rest → s.busOn bus = true → (s.twbOf bus).idle = true → (s.twbOf bus).clearDue.isNone = true → (s.twbOf bus).disabling = false → (s.twbOf bus).freeAt ≤ s.now → s.alertWaits bus = false → exec (.busTransferStart dt bus) s₀ = .next (if (s.twbOf bus).fenced then (s.popTransfer bus).complete t.cmd stFenced 3 0 else (s.modTwb bus (fun x => { x with busy := .transfer, startAt := s.now, inForce := if t.retries = 0 then s.twbSet bus else x.inForce })).emit (.busStart bus t.op t.target t.wdata))) ∧
    (∀ (bus : Nat) (res : BusResult) (t : Transfer), (s.twbOf bus).transfers = some t → t.canEnd res = true → s.busLasted bus t res = true → exec (.busTransferEnd dt bus res) s₀ = .next ((let s := (s.popTransfer bus).busRests bus
      match res with
      | .ok read => s.transferDone t read
      | .addressNack => (s.modTwb bus (fun x => { x with nacks := satUp 0xFF x.nacks })).complete t.cmd stBusNack 1 0
      | .dataNack n => (s.modTwb bus (fun x => { x with nacks := satUp 0xFF x.nacks })).complete t.cmd stBusNack (0x100 + n) 0
      | .pecMismatch => s.complete t.cmd stIntegrity 1 0))) ∧
    (∀ (bus : Nat), (s.twbOf bus).transfers.isSome = true → exec (.ackSlotStart dt bus) s₀ = .next (s.retry bus (fun s c => s.busFailed bus c 1))) ∧
    (∀ (bus n : Nat), (s.twbOf bus).transfers.any (fun x => decide (n < x.allBytes)) = true → exec (.arbitrationLost dt bus n) s₀ = .next ((s.modTwb bus (fun x => { x with arbLost := satUp 0xFF x.arbLost })).retry bus (fun s c => s.complete c stBusArbLost (0x100 + n) 0))) ∧
    (∀ (bus : Nat) (sdaLow : Bool) (t : Transfer), (s.twbOf bus).transfers = some t → (s.twbOf bus).startAt + (s.twbOf bus).inForce.sclTo * perMs ≤ s.now → exec (.sclLowTimeout dt bus sdaLow) s₀ = .next (((((s.popTransfer bus).modTwb bus (fun x => { x with clearDue := if sdaLow then some ((x.clearDue.bind Prod.fst), false) else x.clearDue })).busRests bus).busHeld bus).busFailed bus t.cmd 2)) ∧
    (∀ (bus : Nat), s.busOn bus = true → (s.twbOf bus).idle = true → (s.twbOf bus).idleAt + (s.twbSet bus).sdaTo * perMs ≤ s.now → exec (.sdaLowTimeout dt bus) s₀ = .next ((s.modTwb bus (fun x => { x with sdaStuck := true })).beginClear bus ((s.twbOf bus).clearDue.bind Prod.fst) true)) ∧
    (∀ (bus : Nat) (t : Transfer) (rest : List Transfer), (s.twbOf bus).queue = t :: rest → s.busOn bus = true → (s.twbOf bus).idle = true → (s.twbOf bus).waitFrom + ((s.twbSet bus).sclTo + (s.twbSet bus).sdaTo) * perMs < s.now → exec (.busFreeTimeout dt bus) s₀ = .next ((s.popTransfer bus).busFailed bus t.cmd 2))

/-- A bus clear that ends with SDA high completes its command OK with the number of pulses and lifts the fence; one that
fails is TWB.STUCK and its command BUS_ERROR. An alert is noted; a response of a device is put into the attention
queue, and after ARA_MAX responses without release the alert is suspended with TWB.ALERT, a condition that lasts
until the suspension ends; and a host notify of three bytes is put into the queue, a shorter one counted. -/
def Obligations.BusAttentionEventsComplete : Prop :=
  ∀ (s₀ : State) (dt : Nat),
    let s := s₀.advance dt
    (∀ (bus pulses : Nat) (c : CmdRef) (sda : Bool), (s.twbOf bus).busy = .clear (some c) sda → s.clearLasted bus pulses true = true → exec (.busClearEnd dt bus pulses true) s₀ = .next (((s.busRests bus).modTwb bus (fun x => { x with fenced := false })).complete c stOk 0 (pulses % 16))) ∧
    (∀ (bus pulses : Nat) (sda : Bool), (s.twbOf bus).busy = .clear none sda → s.clearLasted bus pulses true = true → exec (.busClearEnd dt bus pulses true) s₀ = .next (s.busRests bus)) ∧
    (∀ (bus pulses : Nat) (c : CmdRef) (sda : Bool), (s.twbOf bus).busy = .clear (some c) sda → s.clearLasted bus pulses false = true → exec (.busClearEnd dt bus pulses false) s₀ = .next (((s.busRests bus).clearFailed bus sda).busFailed bus c 4)) ∧
    (∀ (bus pulses : Nat) (sda : Bool), (s.twbOf bus).busy = .clear none sda → s.clearLasted bus pulses false = true → exec (.busClearEnd dt bus pulses false) s₀ = .next ((s.busRests bus).clearFailed bus sda)) ∧
    (∀ (bus : Nat), bus < 2 → 1 ≤ s.radio.state → (s.twbOf bus).alertIn = false → exec (.alert dt bus) s₀ = .next (s.modTwb bus (fun x => { x with alertIn := true, araReads := 0, alertAt := s.now }))) ∧
    (∀ (bus : Nat) (resp : Option Byte) (released : Bool), let u := s.modTwb bus (fun x => { x with freeAt := s.now + s.busFree bus }); let t := (resp.map (fun v => u.attend bus 1 (v.toNat / 2) 0)).getD u; let w := t.modTwb bus (fun x => { x with araReads := x.araReads + 1 }); s.alertReads bus = true → max (s.twbOf bus).freeAt (s.twbOf bus).alertAt + s.busLength bus 2 0 ≤ s.now → exec (.alertResponseRead dt bus resp released) s₀ = .next (if released then t.modTwb bus (fun x => { x with alertIn := false, araReads := 0 }) else if (w.twbSet bus).araMax ≤ (w.twbOf bus).araReads then (w.modTwb bus (fun x => { x with alertSusp := true })).raise 56 bus 0 true else w)) ∧
    (∀ (bus : Nat), bus < 2 → exec (.alertSuspendEnd dt bus) s₀ = .next ((s.modTwb bus (fun x => { x with alertIn := false, alertSusp := false, araReads := 0 })).ends 56 bus)) ∧
    (∀ (bus : Nat) (bytes : List Byte), s.busOn bus = true → (s.twbSet bus).notifyEn = true → exec (.hostNotify dt bus bytes) s₀ = .next (if bytes.length < 3 then s.modTwb bus (fun x => { x with notifyBad := satUp 0x1F x.notifyBad }) else s.attend bus 2 (byteAt bytes 0 / 2) (leAt bytes 1 2)))

/-- While the device boots a step that ends is recorded with its result and the boot goes on. Early service fails on its
due; the foreground calibration ends with every chain that passed calibrated anew, and the start state is entered;
firmware that restarts makes a ledger entry and takes over; and an update ends with the image valid and active, or
INTEGRITY with MGT.UPDATE where a check of it fails. -/
def Obligations.BootEventsComplete : Prop :=
  ∀ (s₀ : State) (dt : Nat),
    let s := s₀.advance dt
    (∀ (res : StepResult), s.booting = true → exec (.bootStepEnd dt res) s₀ = .next (s.endStep res)) ∧
    (s.booting = true → s.boot.earlyDue = true → s.boot.early = true → exec (.earlyFail dt) s₀ = .next (s.failEarly)) ∧
    (∀ (failed : BitVec 8), s.booting = true → s.boot.step = 10 → s.radio.fgCal = true → exec (.fgCalEnd dt failed) s₀ = .next (((((s.each (chains.filter (fun c => !bit failed.toNat c)) (fun s c => s.fullCal c)).setRadio (fun r => { r with fgCal := false })).noteStep 10 (if failed = 0 then 2 else 3) 0).beginStart))) ∧
    (s.flt.mgmt = true → s.radio.inReset = false → exec (.firmwareRestart dt) s₀ = .next (
      (let s := (((s.newEntry 4 4).noteStep 0 2 0).restartImage).leaveEarly
      let s := s.modBoot (fun b => { b with running := false, step := 15, earlyDue := false, pair := if bit b.pairFenced.toNat 0 then 1 else 0 })
      let s := if s.boot.recovery then s else ((s.noteStep 2 2 0).noteStep 3 2 0).noteStep 12 2 0
      ((s.modFlt (fun f => { f with mgmt := false, fed := if s.boot.recovery then none else some s.now, watch := if s.boot.recovery then none else some s.now, aliveOk := s.now, startup := false })).hkResume).trigger 0x30 4))) ∧
    (∀ (ref : CmdRef) (image : Nat) (activate : Bool) (bytes : List Byte) (at_ : Time), let t := s.modBoot (fun b => { b with update := none }); let sub := updateFault (((t.requestOf ref).map (fun r => pu r 4 4)).getD (crc32c bytes)) bytes; (s.firmwareRuns || (s.boot.recovery && s.collects && !s.flt.mgmt)) = true → s.boot.update = some (ref, image, activate, bytes, at_) → exec (.fwUpdateEnd dt ) s₀ = .next (if sub = 0 then (t.modStore (fun x => { x.putImage image bytes true with bootConfig := if activate then { x.bootConfig with activeImg := image } else x.bootConfig })).complete ref stOk 0 ((Config.imageVersion bytes).toNat + 4294967296 * image) else (t.raise 62 image sub).complete ref stIntegrity sub 0))

/-- R440: PIN_STATE is one object of 16 bytes, instance 0. Byte g holds the FUNC code in force on GPIO g, and every byte is 0 at reset. The
object is read only: a read changes nothing, and a write completes BAD_OBJECT with subcode 0x003. -/
def Obligations.PinStateBytes : Prop :=
  objShape 0x0630 = some (16, 0, 1) ∧
    (∀ (s : State) (g : Nat), g < 16 → (leBytes 16 (s.objValue 0x0630 0))[g]? = some (BitVec.ofNat 8 (s.gpio g))) ∧
    leBytes 16 (State.reset.objValue 0x0630 0) = List.replicate 16 0 ∧
    (∀ s : State, s.objClear 0x0630 0 = s) ∧
    ∀ (s : State) (r : Request), r.object = 0x0630 → instOf r = 0 → checkObjWrite r s = .fail stBadObject 3

/-- R700: with the TAP at the IDCODE instruction, as a TAP reset leaves it, what is shifted out is 0x1768_05AF: version 0x1 in
the top 4 bits, part number 0x7680 in the next 16, and bit 0, below the manufacturer code, set. -/
def Obligations.IdentificationRegister : Prop :=
  ∀ p : Pins, p.tap = 1 →
    p.dataOut = 0x176805AF ∧ p.dataOut / 2 ^ 28 = 0x1 ∧ p.dataOut / 2 ^ 12 % 2 ^ 16 = 0x7680 ∧ p.dataOut % 2 = 1
end

