-- ==== Sys2Proof/Decode.lean ====
section
/-!
DEFINITION. The decoding of a table word. The opcode table gives no row any bits: commands are packets and events.
-/

namespace Sys2Proof

/-- The command that a word spells by the table's bits: none, since no row has bits [15]. -/
def decodeTableWord (_ _ : Nat) : Option Instr := none

end Sys2Proof
end

