-- ==== Sys2Proof/Laws/Table.lean ====
section
/-!
SUPPORT. The laws of tables: what is read after a write, and that every operation keeps the canonical form.
-/

namespace Sys2Proof

section Reading

variable {α : Type} (d : α)

@[simp] theorem Table.get_nil (i : Nat) : Table.get d [] i = d := rfl

@[simp] theorem Table.get_erase (t : Table α) (i j : Nat) :
    Table.get d (Table.erase t i) j = if j = i then d else Table.get d t j := by
  induction t with
  | nil => simp [Table.erase]
  | cons e t ih =>
    obtain ⟨k, v⟩ := e
    by_cases hk : k = i <;> by_cases hj : k = j <;> simp_all [Table.erase, Table.get]

theorem Table.get_insert_self (t : Table α) (i : Nat) (v : α) (h : ∀ e ∈ t, e.1 ≠ i) :
    Table.get d (Table.insert t i v) i = v := by
  induction t with
  | nil => simp [Table.insert, Table.get]
  | cons e t ih =>
    obtain ⟨k, w⟩ := e
    have hk : k ≠ i := h (k, w) (by simp)
    have ht : ∀ e ∈ t, e.1 ≠ i := fun e he => h e (by simp [he])
    by_cases hi : i < k <;> simp [Table.insert, Table.get, hi, hk, ih ht]

theorem Table.get_insert_other (t : Table α) (i j : Nat) (v : α) (h : j ≠ i) :
    Table.get d (Table.insert t i v) j = Table.get d t j := by
  induction t with
  | nil => simp [Table.insert, Table.get, h.symm]
  | cons e t ih =>
    obtain ⟨k, w⟩ := e
    have hij : i ≠ j := fun e => h e.symm
    by_cases hi : i < k
    · simp [Table.insert, hi, Table.get, hij]
    · simp [Table.insert, hi, Table.get, ih]

theorem Table.erase_fst (t : Table α) (i : Nat) : ∀ e ∈ Table.erase t i, e.1 ≠ i := by
  induction t with
  | nil => simp [Table.erase]
  | cons e t ih =>
    obtain ⟨k, w⟩ := e
    by_cases hk : k = i
    · simpa [Table.erase, hk] using ih
    · simpa [Table.erase, hk] using ih

variable [DecidableEq α]

/-- A read after a write gives what was written at that index, and what stood before at every other. -/
@[simp] theorem Table.get_set (t : Table α) (i j : Nat) (v : α) :
    Table.get d (Table.set d t i v) j = if j = i then v else Table.get d t j := by
  unfold Table.set
  by_cases hj : j = i
  · subst hj
    split
    · simp_all
    · simp [Table.get_insert_self d _ _ _ (Table.erase_fst t j)]
  · split
    · simp [hj]
    · simp [Table.get_insert_other d _ _ _ _ hj, hj]

@[simp] theorem Table.get_modify (t : Table α) (i j : Nat) (f : α → α) :
    Table.get d (Table.modify d t i f) j = if j = i then f (Table.get d t i) else Table.get d t j := by
  simp [Table.modify]

end Reading

@[simp] theorem Table.get_ite {α : Type} (d : α) (c : Prop) [Decidable c] (t u : Table α) (i : Nat) :
    Table.get d (if c then t else u) i = if c then Table.get d t i else Table.get d u i := by
  split <;> rfl

section Canonical

variable {α : Type}

/-- Indices rise strictly. -/
def Table.Rising (t : Table α) : Prop := t.Pairwise (fun a b => a.1 < b.1)

theorem Table.erase_sublist (t : Table α) (i : Nat) : (Table.erase t i).Sublist t := by
  induction t with
  | nil => simp [Table.erase]
  | cons e t ih =>
    obtain ⟨k, w⟩ := e
    by_cases hk : k = i
    · simpa [Table.erase, hk] using ih.cons _
    · simpa [Table.erase, hk] using ih

theorem Table.insert_mem (t : Table α) (i : Nat) (v : α) (e : Nat × α) :
    e ∈ Table.insert t i v ↔ e = (i, v) ∨ e ∈ t := by
  induction t with
  | nil => simp [Table.insert]
  | cons a t ih =>
    obtain ⟨k, w⟩ := a
    by_cases hi : i < k
    · simp [Table.insert, hi]
    · simp only [Table.insert, hi, if_false, List.mem_cons, ih]
      tauto

theorem Table.insert_rising (t : Table α) (i : Nat) (v : α) (h : Table.Rising t) (hi : ∀ e ∈ t, e.1 ≠ i) :
    Table.Rising (Table.insert t i v) := by
  induction t with
  | nil => simp [Table.insert, Table.Rising]
  | cons a t ih =>
    obtain ⟨k, w⟩ := a
    have hk : k ≠ i := hi (k, w) (by simp)
    rw [Table.Rising, List.pairwise_cons] at h
    by_cases hik : i < k
    · simp only [Table.insert, hik, if_true, Table.Rising, List.pairwise_cons]
      refine ⟨fun e he => ?_, h⟩
      rcases List.mem_cons.1 he with rfl | he
      · exact hik
      · exact Nat.lt_trans hik (h.1 e he)
    · simp only [Table.insert, hik, if_false, Table.Rising, List.pairwise_cons]
      refine ⟨fun e he => ?_, ih h.2 (fun e he => hi e (by simp [he]))⟩
      rcases (Table.insert_mem t i v e).1 he with rfl | he
      · exact Nat.lt_of_le_of_ne (Nat.le_of_not_lt hik) hk
      · exact h.1 e he

variable [DecidableEq α] (d : α)

theorem Table.wf_iff (t : Table α) : Table.wf d t = true ↔ Table.Rising t ∧ ∀ e ∈ t, e.2 ≠ d := by
  simp [Table.wf, Table.Rising]

@[simp] theorem Table.wf_nil : Table.wf d ([] : Table α) = true := by simp [Table.wf]

theorem Table.sublist_wf {t u : Table α} (h : u.Sublist t) (ht : Table.wf d t = true) : Table.wf d u = true := by
  rw [Table.wf_iff] at *
  exact ⟨ht.1.sublist h, fun e he => ht.2 e (h.subset he)⟩

/-- Writing one index keeps the canonical form. -/
theorem Table.set_wf (t : Table α) (i : Nat) (v : α) (h : Table.wf d t = true) :
    Table.wf d (Table.set d t i v) = true := by
  have he : Table.wf d (Table.erase t i) = true := Table.sublist_wf d (Table.erase_sublist t i) h
  unfold Table.set
  split
  · exact he
  · rw [Table.wf_iff] at *
    refine ⟨Table.insert_rising _ _ _ he.1 (Table.erase_fst t i), fun e hm => ?_⟩
    rcases (Table.insert_mem _ _ _ e).1 hm with rfl | hm
    · assumption
    · exact he.2 e hm

theorem Table.modify_wf (t : Table α) (i : Nat) (f : α → α) (h : Table.wf d t = true) :
    Table.wf d (Table.modify d t i f) = true := Table.set_wf d t i _ h

theorem Table.modifyAll_wf (t : Table α) (is : List Nat) (f : Nat → α → α) (h : Table.wf d t = true) :
    Table.wf d (Table.modifyAll d t is f) = true := by
  unfold Table.modifyAll
  induction is generalizing t with
  | nil => simpa using h
  | cons i is ih => exact ih _ (Table.modify_wf d t i _ h)

theorem Table.setRange_wf (t : Table α) (i : Nat) (vs : List α) (h : Table.wf d t = true) :
    Table.wf d (Table.setRange d t i vs) = true := by
  induction vs generalizing t i with
  | nil => simpa [Table.setRange] using h
  | cons v vs ih => exact ih _ _ (Table.set_wf d t i v h)

theorem Table.clear_wf (t : Table α) (lo n : Nat) (h : Table.wf d t = true) :
    Table.wf d (Table.clear t lo n) = true := Table.sublist_wf d List.filter_sublist h

theorem Table.mapRange_wf (t : Table α) (lo n : Nat) (f : Nat → α → α) (h : Table.wf d t = true) :
    Table.wf d (Table.mapRange d t lo n f) = true := by
  rw [Table.wf_iff] at *
  refine ⟨?_, by simp [Table.mapRange]⟩
  refine List.Pairwise.filter _ ?_
  rw [List.pairwise_map]
  refine h.1.imp ?_
  intro a b hab
  split <;> split <;> simpa using hab

end Canonical

end Sys2Proof
end

