-- ==== Sys2Proof/Laws/Frame.lean ====
section
/-!
SUPPORT. Frames of the queue of waiting commands, the time, the fault message queue (R588), the waiting snapshots
(R605) and the attention queues of the two-wire buses (R650): how the projections meet conditionals and folds.
-/

namespace Sys2Proof.Machine

@[simp] theorem State.ite_now (c : Prop) [Decidable c] (a b : State) :
    (if c then a else b).now = if c then a.now else b.now := apply_ite State.now c a b
@[simp] theorem State.ite_pending (c : Prop) [Decidable c] (a b : State) :
    (if c then a else b).pending = if c then a.pending else b.pending := apply_ite State.pending c a b
@[simp] theorem State.ite_flt (c : Prop) [Decidable c] (a b : State) :
    (if c then a else b).flt = if c then a.flt else b.flt := apply_ite State.flt c a b
@[simp] theorem State.ite_rcd (c : Prop) [Decidable c] (a b : State) :
    (if c then a else b).rcd = if c then a.rcd else b.rcd := apply_ite State.rcd c a b
@[simp] theorem Twb.ite_attn (c : Prop) [Decidable c] (a b : Twb) :
    (if c then a else b).attn = if c then a.attn else b.attn := apply_ite Twb.attn c a b
@[simp] theorem State.ite_twb (c : Prop) [Decidable c] (a b : State) :
    (if c then a else b).twb = if c then a.twb else b.twb := apply_ite State.twb c a b
@[simp] theorem Flt.ite_queue (c : Prop) [Decidable c] (a b : Flt) :
    (if c then a else b).queue = if c then a.queue else b.queue := apply_ite Flt.queue c a b
@[simp] theorem Rec.ite_waiting (c : Prop) [Decidable c] (a b : Rec) :
    (if c then a else b).waiting = if c then a.waiting else b.waiting := apply_ite Rec.waiting c a b

/-- What a fold of steps that keep a projection keeps. -/
theorem State.foldl_keeps {α β : Type} (π : State → β) (f : State → α → State) (h : ∀ s x, π (f s x) = π s)
    (l : List α) (s : State) : π (l.foldl f s) = π s := by
  induction l generalizing s with
  | nil => rfl
  | cons x l ih => simp [ih, h]

@[simp] theorem State.foldl_now {α : Type} (f : State → α → State) (h : ∀ s x, (f s x).now = s.now) (l : List α)
    (s : State) : (l.foldl f s).now = s.now := State.foldl_keeps State.now f h l s
@[simp] theorem State.foldl_pending {α : Type} (f : State → α → State) (h : ∀ s x, (f s x).pending = s.pending)
    (l : List α) (s : State) : (l.foldl f s).pending = s.pending := State.foldl_keeps State.pending f h l s
@[simp] theorem State.foldl_queue {α : Type} (f : State → α → State) (h : ∀ s x, (f s x).flt.queue = s.flt.queue)
    (l : List α) (s : State) : (l.foldl f s).flt.queue = s.flt.queue :=
  State.foldl_keeps (fun s => s.flt.queue) f h l s
@[simp] theorem State.foldl_waiting {α : Type} (f : State → α → State)
    (h : ∀ s x, (f s x).rcd.waiting = s.rcd.waiting) (l : List α) (s : State) :
    (l.foldl f s).rcd.waiting = s.rcd.waiting := State.foldl_keeps (fun s => s.rcd.waiting) f h l s
@[simp] theorem State.foldl_attn {α : Type} (f : State → α → State) (b : Nat)
    (h : ∀ s x, (Table.get ({} : Twb) (f s x).twb b).attn = (Table.get ({} : Twb) s.twb b).attn) (l : List α) (s : State) :
    (Table.get ({} : Twb) (l.foldl f s).twb b).attn = (Table.get ({} : Twb) s.twb b).attn :=
  State.foldl_keeps (fun s => (Table.get ({} : Twb) s.twb b).attn) f h l s

@[simp] theorem State.each_now (f : State → Nat → State) (h : ∀ s x, (f s x).now = s.now) (l : List Nat) (s : State) :
    (s.each l f).now = s.now := State.foldl_now f h l s
@[simp] theorem State.each_pending (f : State → Nat → State) (h : ∀ s x, (f s x).pending = s.pending) (l : List Nat)
    (s : State) : (s.each l f).pending = s.pending := State.foldl_pending f h l s
@[simp] theorem State.each_queue (f : State → Nat → State) (h : ∀ s x, (f s x).flt.queue = s.flt.queue) (l : List Nat)
    (s : State) : (s.each l f).flt.queue = s.flt.queue := State.foldl_queue f h l s
@[simp] theorem State.each_waiting (f : State → Nat → State) (h : ∀ s x, (f s x).rcd.waiting = s.rcd.waiting)
    (l : List Nat) (s : State) : (s.each l f).rcd.waiting = s.rcd.waiting := State.foldl_waiting f h l s
@[simp] theorem State.each_attn (f : State → Nat → State) (b : Nat)
    (h : ∀ s x, (Table.get ({} : Twb) (f s x).twb b).attn = (Table.get ({} : Twb) s.twb b).attn) (l : List Nat)
    (s : State) : (Table.get ({} : Twb) (s.each l f).twb b).attn = (Table.get ({} : Twb) s.twb b).attn :=
  State.foldl_attn f b h l s

/-- A change of a bus that leaves its attention queue alone. -/
@[simp] theorem State.modTwb_attn (s : State) (n : Nat) (f : Twb → Twb) (b : Nat) (h : ∀ x, (f x).attn = x.attn) :
    (Table.get ({} : Twb) (s.modTwb n f).twb b).attn = (Table.get ({} : Twb) s.twb b).attn := by
  by_cases hb : b = n <;> simp [State.modTwb, hb, h]

/-- Changes of the collector and of the recorder that leave their queues alone. -/
@[simp] theorem State.modFlt_queue (s : State) (f : Flt → Flt) (h : ∀ x, (f x).queue = x.queue) :
    (s.modFlt f).flt.queue = s.flt.queue := h s.flt
@[simp] theorem State.modRec_waiting (s : State) (f : Rec → Rec) (h : ∀ x, (f x).waiting = x.waiting) :
    (s.modRec f).rcd.waiting = s.rcd.waiting := h s.rcd

end Sys2Proof.Machine
end

