-- ==== Sys2Proof/Laws/FramesProtocol.lean ====
section
/-!
SUPPORT. What each operation of how commands arrive, end and report, and of the radio-frequency signal path leaves alone: the time, the waiting commands, and
the bounded queues of the collector, the recorder and the two-wire buses.
-/

namespace Sys2Proof.Machine

/-! Ops -/

@[simp] theorem State.emit_frame (s : State) (o : Output) :
    (State.emit s o).now = s.now ∧
      (State.emit s o).pending = s.pending ∧
      (State.emit s o).flt.queue = s.flt.queue ∧
      (State.emit s o).rcd.waiting = s.rcd.waiting ∧
      (∀ bus, (Table.get ({} : Twb) (State.emit s o).twb bus).attn = (Table.get ({} : Twb) s.twb bus).attn) := by
  simp [State.emit]

@[simp] theorem State.drawn_frame (s : State) :
    (State.drawn s).now = s.now ∧
      (State.drawn s).pending = s.pending ∧
      (State.drawn s).flt.queue = s.flt.queue ∧
      (State.drawn s).rcd.waiting = s.rcd.waiting ∧
      (∀ bus, (Table.get ({} : Twb) (State.drawn s).twb bus).attn = (Table.get ({} : Twb) s.twb bus).attn) := by
  simp [State.drawn]

@[simp] theorem State.drawnBy_frame (s : State) (n : Nat) :
    (State.drawnBy s n).now = s.now ∧
      (State.drawnBy s n).pending = s.pending ∧
      (State.drawnBy s n).flt.queue = s.flt.queue ∧
      (State.drawnBy s n).rcd.waiting = s.rcd.waiting ∧
      (∀ bus, (Table.get ({} : Twb) (State.drawnBy s n).twb bus).attn = (Table.get ({} : Twb) s.twb bus).attn) := by
  simp [State.drawnBy]

@[simp] theorem State.modSb_frame (s : State) (g : Nat) (f : Sb → Sb) :
    (State.modSb s g f).now = s.now ∧
      (State.modSb s g f).pending = s.pending ∧
      (State.modSb s g f).flt.queue = s.flt.queue ∧
      (State.modSb s g f).rcd.waiting = s.rcd.waiting ∧
      (∀ bus, (Table.get ({} : Twb) (State.modSb s g f).twb bus).attn = (Table.get ({} : Twb) s.twb bus).attn) := by
  simp [State.modSb]

@[simp] theorem State.modSbSet_frame (s : State) (g : Nat) (f : SbSet → SbSet) :
    (State.modSbSet s g f).now = s.now ∧
      (State.modSbSet s g f).pending = s.pending ∧
      (State.modSbSet s g f).flt.queue = s.flt.queue ∧
      (State.modSbSet s g f).rcd.waiting = s.rcd.waiting ∧
      (∀ bus, (Table.get ({} : Twb) (State.modSbSet s g f).twb bus).attn = (Table.get ({} : Twb) s.twb bus).attn) := by
  simp [State.modSbSet]

@[simp] theorem State.modCan_frame (s : State) (g : Nat) (f : Can → Can) :
    (State.modCan s g f).now = s.now ∧
      (State.modCan s g f).pending = s.pending ∧
      (State.modCan s g f).flt.queue = s.flt.queue ∧
      (State.modCan s g f).rcd.waiting = s.rcd.waiting ∧
      (∀ bus, (Table.get ({} : Twb) (State.modCan s g f).twb bus).attn = (Table.get ({} : Twb) s.twb bus).attn) := by
  simp [State.modCan]

@[simp] theorem State.modCanSet_frame (s : State) (g : Nat) (f : CanSet → CanSet) :
    (State.modCanSet s g f).now = s.now ∧
      (State.modCanSet s g f).pending = s.pending ∧
      (State.modCanSet s g f).flt.queue = s.flt.queue ∧
      (State.modCanSet s g f).rcd.waiting = s.rcd.waiting ∧
      (∀ bus, (Table.get ({} : Twb) (State.modCanSet s g f).twb bus).attn = (Table.get ({} : Twb) s.twb bus).attn) := by
  simp [State.modCanSet]

@[simp] theorem State.modGov_frame (s : State) (g : Nat) (f : Gov → Gov) :
    (State.modGov s g f).now = s.now ∧
      (State.modGov s g f).pending = s.pending ∧
      (State.modGov s g f).flt.queue = s.flt.queue ∧
      (State.modGov s g f).rcd.waiting = s.rcd.waiting ∧
      (∀ bus, (Table.get ({} : Twb) (State.modGov s g f).twb bus).attn = (Table.get ({} : Twb) s.twb bus).attn) := by
  simp [State.modGov]

@[simp] theorem State.modStore_frame (s : State) (f : Store → Store) :
    (State.modStore s f).now = s.now ∧
      (State.modStore s f).pending = s.pending ∧
      (State.modStore s f).flt.queue = s.flt.queue ∧
      (State.modStore s f).rcd.waiting = s.rcd.waiting ∧
      (∀ bus, (Table.get ({} : Twb) (State.modStore s f).twb bus).attn = (Table.get ({} : Twb) s.twb bus).attn) := by
  simp [State.modStore]

@[simp] theorem State.modCnv_frame (s : State) (c : Nat) (f : Cnv → Cnv) :
    (State.modCnv s c f).now = s.now ∧
      (State.modCnv s c f).pending = s.pending ∧
      (State.modCnv s c f).flt.queue = s.flt.queue ∧
      (State.modCnv s c f).rcd.waiting = s.rcd.waiting ∧
      (∀ bus, (Table.get ({} : Twb) (State.modCnv s c f).twb bus).attn = (Table.get ({} : Twb) s.twb bus).attn) := by
  simp [State.modCnv]

@[simp] theorem State.modLoop_frame (s : State) (l : Nat) (f : Loop → Loop) :
    (State.modLoop s l f).now = s.now ∧
      (State.modLoop s l f).pending = s.pending ∧
      (State.modLoop s l f).flt.queue = s.flt.queue ∧
      (State.modLoop s l f).rcd.waiting = s.rcd.waiting ∧
      (∀ bus, (Table.get ({} : Twb) (State.modLoop s l f).twb bus).attn = (Table.get ({} : Twb) s.twb bus).attn) := by
  simp [State.modLoop]

@[simp] theorem State.modLoopSet_frame (s : State) (l : Nat) (f : LoopSet → LoopSet) :
    (State.modLoopSet s l f).now = s.now ∧
      (State.modLoopSet s l f).pending = s.pending ∧
      (State.modLoopSet s l f).flt.queue = s.flt.queue ∧
      (State.modLoopSet s l f).rcd.waiting = s.rcd.waiting ∧
      (∀ bus, (Table.get ({} : Twb) (State.modLoopSet s l f).twb bus).attn = (Table.get ({} : Twb) s.twb bus).attn) := by
  simp [State.modLoopSet]

@[simp] theorem State.modSlot_frame (s : State) (n : Nat) (f : RepSlot → RepSlot) :
    (State.modSlot s n f).now = s.now ∧
      (State.modSlot s n f).pending = s.pending ∧
      (State.modSlot s n f).flt.queue = s.flt.queue ∧
      (State.modSlot s n f).rcd.waiting = s.rcd.waiting ∧
      (∀ bus, (Table.get ({} : Twb) (State.modSlot s n f).twb bus).attn = (Table.get ({} : Twb) s.twb bus).attn) := by
  simp [State.modSlot]

@[simp] theorem State.modPlaus_frame (s : State) (c : Nat) (f : Plaus → Plaus) :
    (State.modPlaus s c f).now = s.now ∧
      (State.modPlaus s c f).pending = s.pending ∧
      (State.modPlaus s c f).flt.queue = s.flt.queue ∧
      (State.modPlaus s c f).rcd.waiting = s.rcd.waiting ∧
      (∀ bus, (Table.get ({} : Twb) (State.modPlaus s c f).twb bus).attn = (Table.get ({} : Twb) s.twb bus).attn) := by
  simp [State.modPlaus]

@[simp] theorem State.modTdd_frame (s : State) (g : Nat) (f : Tdd → Tdd) :
    (State.modTdd s g f).now = s.now ∧
      (State.modTdd s g f).pending = s.pending ∧
      (State.modTdd s g f).flt.queue = s.flt.queue ∧
      (State.modTdd s g f).rcd.waiting = s.rcd.waiting ∧
      (∀ bus, (Table.get ({} : Twb) (State.modTdd s g f).twb bus).attn = (Table.get ({} : Twb) s.twb bus).attn) := by
  simp [State.modTdd]

@[simp] theorem State.modTddSet_frame (s : State) (g : Nat) (f : TddSet → TddSet) :
    (State.modTddSet s g f).now = s.now ∧
      (State.modTddSet s g f).pending = s.pending ∧
      (State.modTddSet s g f).flt.queue = s.flt.queue ∧
      (State.modTddSet s g f).rcd.waiting = s.rcd.waiting ∧
      (∀ bus, (Table.get ({} : Twb) (State.modTddSet s g f).twb bus).attn = (Table.get ({} : Twb) s.twb bus).attn) := by
  simp [State.modTddSet]

@[simp] theorem State.modSig_frame (s : State) (g : Nat) (f : Sig → Sig) :
    (State.modSig s g f).now = s.now ∧
      (State.modSig s g f).pending = s.pending ∧
      (State.modSig s g f).flt.queue = s.flt.queue ∧
      (State.modSig s g f).rcd.waiting = s.rcd.waiting ∧
      (∀ bus, (Table.get ({} : Twb) (State.modSig s g f).twb bus).attn = (Table.get ({} : Twb) s.twb bus).attn) := by
  simp [State.modSig]

@[simp] theorem State.modBand_frame (s : State) (b : Nat) (f : Band → Band) :
    (State.modBand s b f).now = s.now ∧
      (State.modBand s b f).pending = s.pending ∧
      (State.modBand s b f).flt.queue = s.flt.queue ∧
      (State.modBand s b f).rcd.waiting = s.rcd.waiting ∧
      (∀ bus, (Table.get ({} : Twb) (State.modBand s b f).twb bus).attn = (Table.get ({} : Twb) s.twb bus).attn) := by
  simp [State.modBand]

@[simp] theorem State.modFe_frame (s : State) (c : Nat) (f : Fe → Fe) :
    (State.modFe s c f).now = s.now ∧
      (State.modFe s c f).pending = s.pending ∧
      (State.modFe s c f).flt.queue = s.flt.queue ∧
      (State.modFe s c f).rcd.waiting = s.rcd.waiting ∧
      (∀ bus, (Table.get ({} : Twb) (State.modFe s c f).twb bus).attn = (Table.get ({} : Twb) s.twb bus).attn) := by
  simp [State.modFe]

@[simp] theorem State.modPg_frame (s : State) (n : Nat) (f : Pg → Pg) :
    (State.modPg s n f).now = s.now ∧
      (State.modPg s n f).pending = s.pending ∧
      (State.modPg s n f).flt.queue = s.flt.queue ∧
      (State.modPg s n f).rcd.waiting = s.rcd.waiting ∧
      (∀ bus, (Table.get ({} : Twb) (State.modPg s n f).twb bus).attn = (Table.get ({} : Twb) s.twb bus).attn) := by
  simp [State.modPg]

@[simp] theorem State.modPgSet_frame (s : State) (n : Nat) (f : PgSet → PgSet) :
    (State.modPgSet s n f).now = s.now ∧
      (State.modPgSet s n f).pending = s.pending ∧
      (State.modPgSet s n f).flt.queue = s.flt.queue ∧
      (State.modPgSet s n f).rcd.waiting = s.rcd.waiting ∧
      (∀ bus, (Table.get ({} : Twb) (State.modPgSet s n f).twb bus).attn = (Table.get ({} : Twb) s.twb bus).attn) := by
  simp [State.modPgSet]

@[simp] theorem State.modWm_frame (s : State) (n : Nat) (f : Wm → Wm) :
    (State.modWm s n f).now = s.now ∧
      (State.modWm s n f).pending = s.pending ∧
      (State.modWm s n f).flt.queue = s.flt.queue ∧
      (State.modWm s n f).rcd.waiting = s.rcd.waiting ∧
      (∀ bus, (Table.get ({} : Twb) (State.modWm s n f).twb bus).attn = (Table.get ({} : Twb) s.twb bus).attn) := by
  simp [State.modWm]

@[simp] theorem State.setGpio_frame (s : State) (n : Nat) (func : Nat) :
    (State.setGpio s n func).now = s.now ∧
      (State.setGpio s n func).pending = s.pending ∧
      (State.setGpio s n func).flt.queue = s.flt.queue ∧
      (State.setGpio s n func).rcd.waiting = s.rcd.waiting ∧
      (∀ bus, (Table.get ({} : Twb) (State.setGpio s n func).twb bus).attn = (Table.get ({} : Twb) s.twb bus).attn) := by
  simp [State.setGpio]

@[simp] theorem State.modStream_frame (s : State) (n : Nat) (f : Stream → Stream) :
    (State.modStream s n f).now = s.now ∧
      (State.modStream s n f).pending = s.pending ∧
      (State.modStream s n f).flt.queue = s.flt.queue ∧
      (State.modStream s n f).rcd.waiting = s.rcd.waiting ∧
      (∀ bus, (Table.get ({} : Twb) (State.modStream s n f).twb bus).attn = (Table.get ({} : Twb) s.twb bus).attn) := by
  simp [State.modStream]

@[simp] theorem State.modRing_frame (s : State) (n : Nat) (f : Ring → Ring) :
    (State.modRing s n f).now = s.now ∧
      (State.modRing s n f).pending = s.pending ∧
      (State.modRing s n f).flt.queue = s.flt.queue ∧
      (State.modRing s n f).rcd.waiting = s.rcd.waiting ∧
      (∀ bus, (Table.get ({} : Twb) (State.modRing s n f).twb bus).attn = (Table.get ({} : Twb) s.twb bus).attn) := by
  simp [State.modRing]

@[simp] theorem State.modTlm_frame (s : State) (n : Nat) (f : Tlm → Tlm) :
    (State.modTlm s n f).now = s.now ∧
      (State.modTlm s n f).pending = s.pending ∧
      (State.modTlm s n f).flt.queue = s.flt.queue ∧
      (State.modTlm s n f).rcd.waiting = s.rcd.waiting ∧
      (∀ bus, (Table.get ({} : Twb) (State.modTlm s n f).twb bus).attn = (Table.get ({} : Twb) s.twb bus).attn) := by
  simp [State.modTlm]

@[simp] theorem State.setQueue_frame (s : State) (k : Nat) (q : List Entry) :
    (State.setQueue s k q).now = s.now ∧
      (State.setQueue s k q).pending = s.pending ∧
      (State.setQueue s k q).flt.queue = s.flt.queue ∧
      (State.setQueue s k q).rcd.waiting = s.rcd.waiting ∧
      (∀ bus, (Table.get ({} : Twb) (State.setQueue s k q).twb bus).attn = (Table.get ({} : Twb) s.twb bus).attn) := by
  simp [State.setQueue]

@[simp] theorem State.setItems_frame (s : State) (k : Nat) (q : List Item) :
    (State.setItems s k q).now = s.now ∧
      (State.setItems s k q).pending = s.pending ∧
      (State.setItems s k q).flt.queue = s.flt.queue ∧
      (State.setItems s k q).rcd.waiting = s.rcd.waiting ∧
      (∀ bus, (Table.get ({} : Twb) (State.setItems s k q).twb bus).attn = (Table.get ({} : Twb) s.twb bus).attn) := by
  simp [State.setItems]

@[simp] theorem State.modTwb_frame (s : State) (b : Nat) (f : Twb → Twb) :
    (State.modTwb s b f).now = s.now ∧
      (State.modTwb s b f).pending = s.pending ∧
      (State.modTwb s b f).flt.queue = s.flt.queue ∧
      (State.modTwb s b f).rcd.waiting = s.rcd.waiting := by
  simp [State.modTwb]

@[simp] theorem State.repaired_frame (s : State) (n : Nat) :
    (State.repaired s n).now = s.now ∧
      (State.repaired s n).pending = s.pending ∧
      (State.repaired s n).flt.queue = s.flt.queue ∧
      (State.repaired s n).rcd.waiting = s.rcd.waiting ∧
      (∀ bus, (Table.get ({} : Twb) (State.repaired s n).twb bus).attn = (Table.get ({} : Twb) s.twb bus).attn) := by
  simp [State.repaired]

@[simp] theorem State.hkStall_frame (s : State) :
    (State.hkStall s).now = s.now ∧
      (State.hkStall s).pending = s.pending ∧
      (State.hkStall s).flt.queue = s.flt.queue ∧
      (State.hkStall s).rcd.waiting = s.rcd.waiting ∧
      (∀ bus, (Table.get ({} : Twb) (State.hkStall s).twb bus).attn = (Table.get ({} : Twb) s.twb bus).attn) := by
  simp [State.hkStall]

@[simp] theorem State.hkResume_frame (s : State) :
    (State.hkResume s).now = s.now ∧
      (State.hkResume s).pending = s.pending ∧
      (State.hkResume s).flt.queue = s.flt.queue ∧
      (State.hkResume s).rcd.waiting = s.rcd.waiting ∧
      (∀ bus, (Table.get ({} : Twb) (State.hkResume s).twb bus).attn = (Table.get ({} : Twb) s.twb bus).attn) := by
  simp [State.hkResume]


/-! Signal -/

@[simp] theorem State.takeRecord_frame (s : State) (l : Nat) (words : List DbWord) :
    (State.takeRecord s l words).now = s.now ∧
      (State.takeRecord s l words).pending = s.pending ∧
      (State.takeRecord s l words).flt.queue = s.flt.queue ∧
      (State.takeRecord s l words).rcd.waiting = s.rcd.waiting ∧
      (∀ bus, (Table.get ({} : Twb) (State.takeRecord s l words).twb bus).attn = (Table.get ({} : Twb) s.twb bus).attn) := by
  simp [State.takeRecord]

@[simp] theorem State.advance_frame (s : State) (dt : Nat) :
    (State.advance s dt).pending = s.pending ∧
      (State.advance s dt).flt.queue = s.flt.queue ∧
      (State.advance s dt).rcd.waiting = s.rcd.waiting ∧
      (∀ bus, (Table.get ({} : Twb) (State.advance s dt).twb bus).attn = (Table.get ({} : Twb) s.twb bus).attn) := by
  simp [State.advance]


/-! Deliver -/

@[simp] theorem State.sendMsix_frame (s : State) (v : Nat) :
    (State.sendMsix s v).now = s.now ∧
      (State.sendMsix s v).pending = s.pending ∧
      (State.sendMsix s v).flt.queue = s.flt.queue ∧
      (State.sendMsix s v).rcd.waiting = s.rcd.waiting ∧
      (∀ bus, (Table.get ({} : Twb) (State.sendMsix s v).twb bus).attn = (Table.get ({} : Twb) s.twb bus).attn) := by
  simp [State.sendMsix]

@[simp] theorem State.moderate_frame (s : State) (n : Nat) :
    (State.moderate s n).now = s.now ∧
      (State.moderate s n).pending = s.pending ∧
      (State.moderate s n).flt.queue = s.flt.queue ∧
      (State.moderate s n).rcd.waiting = s.rcd.waiting ∧
      (∀ bus, (Table.get ({} : Twb) (State.moderate s n).twb bus).attn = (Table.get ({} : Twb) s.twb bus).attn) := by
  simp [State.moderate]

@[simp] theorem State.writeItem_frame (s : State) (n : Nat) (it : Item) :
    (State.writeItem s n it).now = s.now ∧
      (State.writeItem s n it).pending = s.pending ∧
      (State.writeItem s n it).flt.queue = s.flt.queue ∧
      (State.writeItem s n it).rcd.waiting = s.rcd.waiting ∧
      (∀ bus, (Table.get ({} : Twb) (State.writeItem s n it).twb bus).attn = (Table.get ({} : Twb) s.twb bus).attn) := by
  simp [State.writeItem]

@[simp] theorem State.drainOne_frame (s : State) (k : Nat) :
    (State.drainOne s k).now = s.now ∧
      (State.drainOne s k).pending = s.pending ∧
      (State.drainOne s k).flt.queue = s.flt.queue ∧
      (State.drainOne s k).rcd.waiting = s.rcd.waiting ∧
      (∀ bus, (Table.get ({} : Twb) (State.drainOne s k).twb bus).attn = (Table.get ({} : Twb) s.twb bus).attn) := by
  unfold State.drainOne; split <;> simp

@[simp] theorem State.drain_frame (s : State) (k : Nat) :
    (State.drain s k).now = s.now ∧
      (State.drain s k).pending = s.pending ∧
      (State.drain s k).flt.queue = s.flt.queue ∧
      (State.drain s k).rcd.waiting = s.rcd.waiting ∧
      (∀ bus, (Table.get ({} : Twb) (State.drain s k).twb bus).attn = (Table.get ({} : Twb) s.twb bus).attn) := by
  simp [State.drain]

@[simp] theorem State.itemNumbered_frame (s : State) :
    (State.itemNumbered s).now = s.now ∧
      (State.itemNumbered s).pending = s.pending ∧
      (State.itemNumbered s).flt.queue = s.flt.queue ∧
      (State.itemNumbered s).rcd.waiting = s.rcd.waiting ∧
      (∀ bus, (Table.get ({} : Twb) (State.itemNumbered s).twb bus).attn = (Table.get ({} : Twb) s.twb bus).attn) := by
  simp [State.itemNumbered]

@[simp] theorem State.pushItem_frame (s : State) (k : Nat) (it : Item) :
    (State.pushItem s k it).now = s.now ∧
      (State.pushItem s k it).pending = s.pending ∧
      (State.pushItem s k it).flt.queue = s.flt.queue ∧
      (State.pushItem s k it).rcd.waiting = s.rcd.waiting ∧
      (∀ bus, (Table.get ({} : Twb) (State.pushItem s k it).twb bus).attn = (Table.get ({} : Twb) s.twb bus).attn) := by
  simp [State.pushItem]

@[simp] theorem State.trigger_frame (s : State) (code : Nat) (source : Nat) (injected : Bool) :
    (State.trigger s code source injected).now = s.now ∧
      (State.trigger s code source injected).pending = s.pending ∧
      (State.trigger s code source injected).flt.queue = s.flt.queue ∧
      (State.trigger s code source injected).rcd.waiting = s.rcd.waiting ∧
      (∀ bus, (Table.get ({} : Twb) (State.trigger s code source injected).twb bus).attn = (Table.get ({} : Twb) s.twb bus).attn) := by
  simp [State.trigger]

@[simp] theorem State.raise_frame (s : State) (b : Nat) (addr : Nat) (kind : Nat) (lasting : Bool) :
    (State.raise s b addr kind lasting).now = s.now ∧
      (State.raise s b addr kind lasting).pending = s.pending ∧
      (State.raise s b addr kind lasting).flt.queue = s.flt.queue ∧
      (State.raise s b addr kind lasting).rcd.waiting = s.rcd.waiting ∧
      (∀ bus, (Table.get ({} : Twb) (State.raise s b addr kind lasting).twb bus).attn = (Table.get ({} : Twb) s.twb bus).attn) := by
  simp [State.raise]

@[simp] theorem State.ends_frame (s : State) (b : Nat) (addr : Nat) :
    (State.ends s b addr).now = s.now ∧
      (State.ends s b addr).pending = s.pending ∧
      (State.ends s b addr).flt.queue = s.flt.queue ∧
      (State.ends s b addr).rcd.waiting = s.rcd.waiting ∧
      (∀ bus, (Table.get ({} : Twb) (State.ends s b addr).twb bus).attn = (Table.get ({} : Twb) s.twb bus).attn) := by
  simp [State.ends]

@[simp] theorem State.discardEntry_frame (s : State) (k : Nat) :
    (State.discardEntry s k).now = s.now ∧
      (State.discardEntry s k).pending = s.pending ∧
      (State.discardEntry s k).flt.queue = s.flt.queue ∧
      (State.discardEntry s k).rcd.waiting = s.rcd.waiting ∧
      (∀ bus, (Table.get ({} : Twb) (State.discardEntry s k).twb bus).attn = (Table.get ({} : Twb) s.twb bus).attn) := by
  simp [State.discardEntry]

@[simp] theorem State.postEntry_frame (s : State) (k : Nat) (e : Entry) :
    (State.postEntry s k e).now = s.now ∧
      (State.postEntry s k e).pending = s.pending ∧
      (State.postEntry s k e).flt.queue = s.flt.queue ∧
      (State.postEntry s k e).rcd.waiting = s.rcd.waiting ∧
      (∀ bus, (Table.get ({} : Twb) (State.postEntry s k e).twb bus).attn = (Table.get ({} : Twb) s.twb bus).attn) := by
  unfold State.postEntry; split <;> simp

@[simp] theorem State.flush_frame (s : State) (k : Nat) :
    (State.flush s k).now = s.now ∧
      (State.flush s k).pending = s.pending ∧
      (State.flush s k).flt.queue = s.flt.queue ∧
      (State.flush s k).rcd.waiting = s.rcd.waiting ∧
      (∀ bus, (Table.get ({} : Twb) (State.flush s k).twb bus).attn = (Table.get ({} : Twb) s.twb bus).attn) := by
  simp [State.flush]

@[simp] theorem State.complete_frame (s : State) (ref : CmdRef) (status : Nat) (sub : Nat) (result : Nat) :
    (State.complete s ref status sub result).now = s.now ∧
      (State.complete s ref status sub result).pending = s.pending ∧
      (State.complete s ref status sub result).flt.queue = s.flt.queue ∧
      (State.complete s ref status sub result).rcd.waiting = s.rcd.waiting ∧
      (∀ bus, (Table.get ({} : Twb) (State.complete s ref status sub result).twb bus).attn = (Table.get ({} : Twb) s.twb bus).attn) := by
  unfold State.complete; dsimp only; repeat' split
  all_goals simp

@[simp] theorem State.completeOpt_frame (s : State) (ref : Option CmdRef) (status : Nat) (sub : Nat) (result : Nat) :
    (State.completeOpt s ref status sub result).now = s.now ∧
      (State.completeOpt s ref status sub result).pending = s.pending ∧
      (State.completeOpt s ref status sub result).flt.queue = s.flt.queue ∧
      (State.completeOpt s ref status sub result).rcd.waiting = s.rcd.waiting ∧
      (∀ bus, (Table.get ({} : Twb) (State.completeOpt s ref status sub result).twb bus).attn = (Table.get ({} : Twb) s.twb bus).attn) := by
  unfold State.completeOpt; split <;> simp

@[simp] theorem State.giveData_frame (s : State) (ref : CmdRef) (addr : Nat) (bytes : List Byte) :
    (State.giveData s ref addr bytes).now = s.now ∧
      (State.giveData s ref addr bytes).pending = s.pending ∧
      (State.giveData s ref addr bytes).flt.queue = s.flt.queue ∧
      (State.giveData s ref addr bytes).rcd.waiting = s.rcd.waiting ∧
      (∀ bus, (Table.get ({} : Twb) (State.giveData s ref addr bytes).twb bus).attn = (Table.get ({} : Twb) s.twb bus).attn) := by
  simp [State.giveData]

@[simp] theorem State.postRing_frame (s : State) (bytes : List Byte) :
    (State.postRing s bytes).now = s.now ∧
      (State.postRing s bytes).pending = s.pending ∧
      (State.postRing s bytes).flt.queue = s.flt.queue ∧
      (State.postRing s bytes).rcd.waiting = s.rcd.waiting ∧
      (∀ bus, (Table.get ({} : Twb) (State.postRing s bytes).twb bus).attn = (Table.get ({} : Twb) s.twb bus).attn) := by
  simp [State.postRing]

@[simp] theorem State.postUsb3_frame (s : State) (bytes : List Byte) :
    (State.postUsb3 s bytes).now = s.now ∧
      (State.postUsb3 s bytes).pending = s.pending ∧
      (State.postUsb3 s bytes).flt.queue = s.flt.queue ∧
      (State.postUsb3 s bytes).rcd.waiting = s.rcd.waiting ∧
      (∀ bus, (Table.get ({} : Twb) (State.postUsb3 s bytes).twb bus).attn = (Table.get ({} : Twb) s.twb bus).attn) := by
  simp [State.postUsb3]

@[simp] theorem State.postUsb2_frame (s : State) (bytes : List Byte) :
    (State.postUsb2 s bytes).now = s.now ∧
      (State.postUsb2 s bytes).pending = s.pending ∧
      (State.postUsb2 s bytes).flt.queue = s.flt.queue ∧
      (State.postUsb2 s bytes).rcd.waiting = s.rcd.waiting ∧
      (∀ bus, (Table.get ({} : Twb) (State.postUsb2 s bytes).twb bus).attn = (Table.get ({} : Twb) s.twb bus).attn) := by
  simp [State.postUsb2]

@[simp] theorem State.post_frame (s : State) (code : Nat) (payload : List Byte) :
    (State.post s code payload).now = s.now ∧
      (State.post s code payload).pending = s.pending ∧
      (State.post s code payload).flt.queue = s.flt.queue ∧
      (State.post s code payload).rcd.waiting = s.rcd.waiting ∧
      (∀ bus, (Table.get ({} : Twb) (State.post s code payload).twb bus).attn = (Table.get ({} : Twb) s.twb bus).attn) := by
  simp [State.post]

@[simp] theorem State.owedEvents_frame (s : State) :
    (State.owedEvents s).now = s.now ∧
      (State.owedEvents s).pending = s.pending ∧
      (State.owedEvents s).flt.queue = s.flt.queue ∧
      (State.owedEvents s).rcd.waiting = s.rcd.waiting ∧
      (∀ bus, (Table.get ({} : Twb) (State.owedEvents s).twb bus).attn = (Table.get ({} : Twb) s.twb bus).attn) := by
  simp [State.owedEvents]


/-! Subband -/

@[simp] theorem State.addTag_frame (s : State) (g : Nat) (tag : Nat) (start : Nat) (stop : Option Nat) :
    (State.addTag s g tag start stop).now = s.now ∧
      (State.addTag s g tag start stop).pending = s.pending ∧
      (State.addTag s g tag start stop).flt.queue = s.flt.queue ∧
      (State.addTag s g tag start stop).rcd.waiting = s.rcd.waiting ∧
      (∀ bus, (Table.get ({} : Twb) (State.addTag s g tag start stop).twb bus).attn = (Table.get ({} : Twb) s.twb bus).attn) := by
  simp [State.addTag]

@[simp] theorem State.settleChain_frame (s : State) (c : Nat) (m : Nat) :
    (State.settleChain s c m).now = s.now ∧
      (State.settleChain s c m).pending = s.pending ∧
      (State.settleChain s c m).flt.queue = s.flt.queue ∧
      (State.settleChain s c m).rcd.waiting = s.rcd.waiting ∧
      (∀ bus, (Table.get ({} : Twb) (State.settleChain s c m).twb bus).attn = (Table.get ({} : Twb) s.twb bus).attn) := by
  simp [State.settleChain]

@[simp] theorem State.startSync_frame (s : State) (gs : List Nat) (cmd : Option CmdRef) (fresh : Bool) :
    (State.startSync s gs cmd fresh).now = s.now ∧
      (State.startSync s gs cmd fresh).pending = s.pending ∧
      (State.startSync s gs cmd fresh).flt.queue = s.flt.queue ∧
      (State.startSync s gs cmd fresh).rcd.waiting = s.rcd.waiting ∧
      (∀ bus, (Table.get ({} : Twb) (State.startSync s gs cmd fresh).twb bus).attn = (Table.get ({} : Twb) s.twb bus).attn) := by
  unfold State.startSync; split <;> simp

@[simp] theorem State.refreshLatency_frame (s : State) (g : Nat) :
    (State.refreshLatency s g).now = s.now ∧
      (State.refreshLatency s g).pending = s.pending ∧
      (State.refreshLatency s g).flt.queue = s.flt.queue ∧
      (State.refreshLatency s g).rcd.waiting = s.rcd.waiting ∧
      (∀ bus, (Table.get ({} : Twb) (State.refreshLatency s g).twb bus).attn = (Table.get ({} : Twb) s.twb bus).attn) := by
  simp [State.refreshLatency]

@[simp] theorem State.exchange_frame (s : State) (g : Nat) (rx : Bool) (tx : Bool) :
    (State.exchange s g rx tx).now = s.now ∧
      (State.exchange s g rx tx).pending = s.pending ∧
      (State.exchange s g rx tx).flt.queue = s.flt.queue ∧
      (State.exchange s g rx tx).rcd.waiting = s.rcd.waiting ∧
      (∀ bus, (Table.get ({} : Twb) (State.exchange s g rx tx).twb bus).attn = (Table.get ({} : Twb) s.twb bus).attn) := by
  simp [State.exchange]


/-! Zither -/

@[simp] theorem State.relayout_frame (s : State) (c : Nat) :
    (State.relayout s c).now = s.now ∧
      (State.relayout s c).pending = s.pending ∧
      (State.relayout s c).flt.queue = s.flt.queue ∧
      (State.relayout s c).rcd.waiting = s.rcd.waiting ∧
      (∀ bus, (Table.get ({} : Twb) (State.relayout s c).twb bus).attn = (Table.get ({} : Twb) s.twb bus).attn) := by
  simp [State.relayout]

@[simp] theorem State.renewFrom_frame (s : State) (g : Nat) (i : Nat) (n : Nat) :
    (State.renewFrom s g i n).now = s.now ∧
      (State.renewFrom s g i n).pending = s.pending ∧
      (State.renewFrom s g i n).flt.queue = s.flt.queue ∧
      (State.renewFrom s g i n).rcd.waiting = s.rcd.waiting ∧
      (∀ bus, (Table.get ({} : Twb) (State.renewFrom s g i n).twb bus).attn = (Table.get ({} : Twb) s.twb bus).attn) := by
  simp [State.renewFrom]

@[simp] theorem State.renewSet_frame (s : State) (g : Nat) (i : Nat) :
    (State.renewSet s g i).now = s.now ∧
      (State.renewSet s g i).pending = s.pending ∧
      (State.renewSet s g i).flt.queue = s.flt.queue ∧
      (State.renewSet s g i).rcd.waiting = s.rcd.waiting ∧
      (∀ bus, (Table.get ({} : Twb) (State.renewSet s g i).twb bus).attn = (Table.get ({} : Twb) s.twb bus).attn) := by
  simp [State.renewSet]

@[simp] theorem State.alterSet_frame (s : State) (g : Nat) (i : Nat) :
    (State.alterSet s g i).now = s.now ∧
      (State.alterSet s g i).pending = s.pending ∧
      (State.alterSet s g i).flt.queue = s.flt.queue ∧
      (State.alterSet s g i).rcd.waiting = s.rcd.waiting ∧
      (∀ bus, (Table.get ({} : Twb) (State.alterSet s g i).twb bus).attn = (Table.get ({} : Twb) s.twb bus).attn) := by
  simp [State.alterSet]

@[simp] theorem State.clearPath_frame (s : State) (g : Nat) (i : Nat) :
    (State.clearPath s g i).now = s.now ∧
      (State.clearPath s g i).pending = s.pending ∧
      (State.clearPath s g i).flt.queue = s.flt.queue ∧
      (State.clearPath s g i).rcd.waiting = s.rcd.waiting ∧
      (∀ bus, (Table.get ({} : Twb) (State.clearPath s g i).twb bus).attn = (Table.get ({} : Twb) s.twb bus).attn) := by
  simp [State.clearPath]

@[simp] theorem State.clearBins_frame (s : State) (g : Nat) :
    (State.clearBins s g).now = s.now ∧
      (State.clearBins s g).pending = s.pending ∧
      (State.clearBins s g).flt.queue = s.flt.queue ∧
      (State.clearBins s g).rcd.waiting = s.rcd.waiting ∧
      (∀ bus, (Table.get ({} : Twb) (State.clearBins s g).twb bus).attn = (Table.get ({} : Twb) s.twb bus).attn) := by
  simp [State.clearBins]

@[simp] theorem State.allocate_frame (s : State) (g : Nat) :
    (State.allocate s g).now = s.now ∧
      (State.allocate s g).pending = s.pending ∧
      (State.allocate s g).flt.queue = s.flt.queue ∧
      (State.allocate s g).rcd.waiting = s.rcd.waiting ∧
      (∀ bus, (Table.get ({} : Twb) (State.allocate s g).twb bus).attn = (Table.get ({} : Twb) s.twb bus).attn) := by
  simp [State.allocate]

@[simp] theorem State.copyReads_frame (s : State) (g : Nat) :
    (State.copyReads s g).now = s.now ∧
      (State.copyReads s g).pending = s.pending ∧
      (State.copyReads s g).flt.queue = s.flt.queue ∧
      (State.copyReads s g).rcd.waiting = s.rcd.waiting ∧
      (∀ bus, (Table.get ({} : Twb) (State.copyReads s g).twb bus).attn = (Table.get ({} : Twb) s.twb bus).attn) := by
  simp [State.copyReads]

@[simp] theorem State.release_frame (s : State) (g : Nat) :
    (State.release s g).now = s.now ∧
      (State.release s g).pending = s.pending ∧
      (State.release s g).flt.queue = s.flt.queue ∧
      (State.release s g).rcd.waiting = s.rcd.waiting ∧
      (∀ bus, (Table.get ({} : Twb) (State.release s g).twb bus).attn = (Table.get ({} : Twb) s.twb bus).attn) := by
  simp [State.release]

@[simp] theorem State.syncBins_frame (s : State) (g : Nat) :
    (State.syncBins s g).now = s.now ∧
      (State.syncBins s g).pending = s.pending ∧
      (State.syncBins s g).flt.queue = s.flt.queue ∧
      (State.syncBins s g).rcd.waiting = s.rcd.waiting ∧
      (∀ bus, (Table.get ({} : Twb) (State.syncBins s g).twb bus).attn = (Table.get ({} : Twb) s.twb bus).attn) := by
  simp [State.syncBins]

@[simp] theorem State.recentre_frame (s : State) (g : Nat) (i : Nat) :
    (State.recentre s g i).now = s.now ∧
      (State.recentre s g i).pending = s.pending ∧
      (State.recentre s g i).flt.queue = s.flt.queue ∧
      (State.recentre s g i).rcd.waiting = s.rcd.waiting ∧
      (∀ bus, (Table.get ({} : Twb) (State.recentre s g i).twb bus).attn = (Table.get ({} : Twb) s.twb bus).attn) := by
  unfold State.recentre; dsimp only; repeat' split
  all_goals simp

@[simp] theorem State.skipSource_frame (s : State) (g : Nat) (i : Nat) :
    (State.skipSource s g i).now = s.now ∧
      (State.skipSource s g i).pending = s.pending ∧
      (State.skipSource s g i).flt.queue = s.flt.queue ∧
      (State.skipSource s g i).rcd.waiting = s.rcd.waiting ∧
      (∀ bus, (Table.get ({} : Twb) (State.skipSource s g i).twb bus).attn = (Table.get ({} : Twb) s.twb bus).attn) := by
  simp [State.skipSource]

@[simp] theorem State.skipPath_frame (s : State) (g : Nat) (i : Nat) :
    (State.skipPath s g i).now = s.now ∧
      (State.skipPath s g i).pending = s.pending ∧
      (State.skipPath s g i).flt.queue = s.flt.queue ∧
      (State.skipPath s g i).rcd.waiting = s.rcd.waiting ∧
      (∀ bus, (Table.get ({} : Twb) (State.skipPath s g i).twb bus).attn = (Table.get ({} : Twb) s.twb bus).attn) := by
  simp [State.skipPath]

@[simp] theorem State.refreshPath_frame (s : State) (g : Nat) (i : Nat) :
    (State.refreshPath s g i).now = s.now ∧
      (State.refreshPath s g i).pending = s.pending ∧
      (State.refreshPath s g i).flt.queue = s.flt.queue ∧
      (State.refreshPath s g i).rcd.waiting = s.rcd.waiting ∧
      (∀ bus, (Table.get ({} : Twb) (State.refreshPath s g i).twb bus).attn = (Table.get ({} : Twb) s.twb bus).attn) := by
  simp [State.refreshPath]

@[simp] theorem State.refreshPaths_frame (s : State) (gs : List Nat) :
    (State.refreshPaths s gs).now = s.now ∧
      (State.refreshPaths s gs).pending = s.pending ∧
      (State.refreshPaths s gs).flt.queue = s.flt.queue ∧
      (State.refreshPaths s gs).rcd.waiting = s.rcd.waiting ∧
      (∀ bus, (Table.get ({} : Twb) (State.refreshPaths s gs).twb bus).attn = (Table.get ({} : Twb) s.twb bus).attn) := by
  simp [State.refreshPaths]

@[simp] theorem State.scalePath_frame (s : State) (g : Nat) (i : Nat) (src : Nat) (tx : Bool) :
    (State.scalePath s g i src tx).now = s.now ∧
      (State.scalePath s g i src tx).pending = s.pending ∧
      (State.scalePath s g i src tx).flt.queue = s.flt.queue ∧
      (State.scalePath s g i src tx).rcd.waiting = s.rcd.waiting ∧
      (∀ bus, (Table.get ({} : Twb) (State.scalePath s g i src tx).twb bus).attn = (Table.get ({} : Twb) s.twb bus).attn) := by
  exact State.alterSet_frame _ g i

@[simp] theorem State.switchedRx_frame (s : State) (g : Nat) :
    (State.switchedRx s g).now = s.now ∧
      (State.switchedRx s g).pending = s.pending ∧
      (State.switchedRx s g).flt.queue = s.flt.queue ∧
      (State.switchedRx s g).rcd.waiting = s.rcd.waiting ∧
      (∀ bus, (Table.get ({} : Twb) (State.switchedRx s g).twb bus).attn = (Table.get ({} : Twb) s.twb bus).attn) := by
  simp [State.switchedRx]

@[simp] theorem State.switchedTx_frame (s : State) (g : Nat) :
    (State.switchedTx s g).now = s.now ∧
      (State.switchedTx s g).pending = s.pending ∧
      (State.switchedTx s g).flt.queue = s.flt.queue ∧
      (State.switchedTx s g).rcd.waiting = s.rcd.waiting ∧
      (∀ bus, (Table.get ({} : Twb) (State.switchedTx s g).twb bus).attn = (Table.get ({} : Twb) s.twb bus).attn) := by
  simp [State.switchedTx]

@[simp] theorem State.takeSet_frame (s : State) (g : Nat) (i : Nat) :
    (State.takeSet s g i).now = s.now ∧
      (State.takeSet s g i).pending = s.pending ∧
      (State.takeSet s g i).flt.queue = s.flt.queue ∧
      (State.takeSet s g i).rcd.waiting = s.rcd.waiting ∧
      (∀ bus, (Table.get ({} : Twb) (State.takeSet s g i).twb bus).attn = (Table.get ({} : Twb) s.twb bus).attn) := by
  simp [State.takeSet]

@[simp] theorem State.takeHeld_frame (s : State) (g : Nat) (i : Nat) (codes : List Iq) (scale : Nat) :
    (State.takeHeld s g i codes scale).now = s.now ∧
      (State.takeHeld s g i codes scale).pending = s.pending ∧
      (State.takeHeld s g i codes scale).flt.queue = s.flt.queue ∧
      (State.takeHeld s g i codes scale).rcd.waiting = s.rcd.waiting ∧
      (∀ bus, (Table.get ({} : Twb) (State.takeHeld s g i codes scale).twb bus).attn = (Table.get ({} : Twb) s.twb bus).attn) := by
  simp [State.takeHeld]


/-! Stability -/

@[simp] theorem State.refreshSources_frame (s : State) (gs : List Nat) :
    (State.refreshSources s gs).now = s.now ∧
      (State.refreshSources s gs).pending = s.pending ∧
      (State.refreshSources s gs).flt.queue = s.flt.queue ∧
      (State.refreshSources s gs).rcd.waiting = s.rcd.waiting ∧
      (∀ bus, (Table.get ({} : Twb) (State.refreshSources s gs).twb bus).attn = (Table.get ({} : Twb) s.twb bus).attn) := by
  simp [State.refreshSources]

@[simp] theorem State.restLoop_frame (s : State) (l : Nat) :
    (State.restLoop s l).now = s.now ∧
      (State.restLoop s l).pending = s.pending ∧
      (State.restLoop s l).flt.queue = s.flt.queue ∧
      (State.restLoop s l).rcd.waiting = s.rcd.waiting ∧
      (∀ bus, (Table.get ({} : Twb) (State.restLoop s l).twb bus).attn = (Table.get ({} : Twb) s.twb bus).attn) := by
  simp [State.restLoop]

@[simp] theorem State.unmute_frame (s : State) (gone : Mute → Bool) :
    (State.unmute s gone).now = s.now ∧
      (State.unmute s gone).pending = s.pending ∧
      (State.unmute s gone).flt.queue = s.flt.queue ∧
      (State.unmute s gone).rcd.waiting = s.rcd.waiting ∧
      (∀ bus, (Table.get ({} : Twb) (State.unmute s gone).twb bus).attn = (Table.get ({} : Twb) s.twb bus).attn) := by
  simp [State.unmute]

@[simp] theorem State.unmuteAt_frame (s : State) (b : Nat) (addr : Nat) :
    (State.unmuteAt s b addr).now = s.now ∧
      (State.unmuteAt s b addr).pending = s.pending ∧
      (State.unmuteAt s b addr).flt.queue = s.flt.queue ∧
      (State.unmuteAt s b addr).rcd.waiting = s.rcd.waiting ∧
      (∀ bus, (Table.get ({} : Twb) (State.unmuteAt s b addr).twb bus).attn = (Table.get ({} : Twb) s.twb bus).attn) := by
  simp [State.unmuteAt]

@[simp] theorem State.ceilMuteAt_frame (s : State) (first : Bool) (g : Nat) :
    (State.ceilMuteAt s first g).now = s.now ∧
      (State.ceilMuteAt s first g).pending = s.pending ∧
      (State.ceilMuteAt s first g).flt.queue = s.flt.queue ∧
      (State.ceilMuteAt s first g).rcd.waiting = s.rcd.waiting ∧
      (∀ bus, (Table.get ({} : Twb) (State.ceilMuteAt s first g).twb bus).attn = (Table.get ({} : Twb) s.twb bus).attn) := by
  simp [State.ceilMuteAt]

@[simp] theorem State.ceiling_frame (s : State) (g : Nat) (step : Int) :
    (State.ceiling s g step).now = s.now ∧
      (State.ceiling s g step).pending = s.pending ∧
      (State.ceiling s g step).flt.queue = s.flt.queue ∧
      (State.ceiling s g step).rcd.waiting = s.rcd.waiting ∧
      (∀ bus, (Table.get ({} : Twb) (State.ceiling s g step).twb bus).attn = (Table.get ({} : Twb) s.twb bus).attn) := by
  simp [State.ceiling]

@[simp] theorem State.firstCeilings_frame (s : State) (gs : List Nat) :
    (State.firstCeilings s gs).now = s.now ∧
      (State.firstCeilings s gs).pending = s.pending ∧
      (State.firstCeilings s gs).flt.queue = s.flt.queue ∧
      (State.firstCeilings s gs).rcd.waiting = s.rcd.waiting ∧
      (∀ bus, (Table.get ({} : Twb) (State.firstCeilings s gs).twb bus).attn = (Table.get ({} : Twb) s.twb bus).attn) := by
  simp [State.firstCeilings]

@[simp] theorem State.govNote_frame (s : State) (n : Nat) (g : Nat) (gain : Int) :
    (State.govNote s n g gain).now = s.now ∧
      (State.govNote s n g gain).pending = s.pending ∧
      (State.govNote s n g gain).flt.queue = s.flt.queue ∧
      (State.govNote s n g gain).rcd.waiting = s.rcd.waiting ∧
      (∀ bus, (Table.get ({} : Twb) (State.govNote s n g gain).twb bus).attn = (Table.get ({} : Twb) s.twb bus).attn) := by
  simp [State.govNote]

@[simp] theorem State.effIsPhys_frame (s : State) (g : Nat) :
    (State.effIsPhys s g).now = s.now ∧
      (State.effIsPhys s g).pending = s.pending ∧
      (State.effIsPhys s g).flt.queue = s.flt.queue ∧
      (State.effIsPhys s g).rcd.waiting = s.rcd.waiting ∧
      (∀ bus, (Table.get ({} : Twb) (State.effIsPhys s g).twb bus).attn = (Table.get ({} : Twb) s.twb bus).attn) := by
  simp [State.effIsPhys]

@[simp] theorem State.restartNow_frame (s : State) (g : Nat) :
    (State.restartNow s g).now = s.now ∧
      (State.restartNow s g).pending = s.pending ∧
      (State.restartNow s g).flt.queue = s.flt.queue ∧
      (State.restartNow s g).rcd.waiting = s.rcd.waiting ∧
      (∀ bus, (Table.get ({} : Twb) (State.restartNow s g).twb bus).attn = (Table.get ({} : Twb) s.twb bus).attn) := by
  simp [State.restartNow]

@[simp] theorem State.restart_frame (s : State) (g : Nat) :
    (State.restart s g).now = s.now ∧
      (State.restart s g).pending = s.pending ∧
      (State.restart s g).flt.queue = s.flt.queue ∧
      (State.restart s g).rcd.waiting = s.rcd.waiting ∧
      (∀ bus, (Table.get ({} : Twb) (State.restart s g).twb bus).attn = (Table.get ({} : Twb) s.twb bus).attn) := by
  simp [State.restart]

@[simp] theorem State.restartWaiting_frame (s : State) :
    (State.restartWaiting s).now = s.now ∧
      (State.restartWaiting s).pending = s.pending ∧
      (State.restartWaiting s).flt.queue = s.flt.queue ∧
      (State.restartWaiting s).rcd.waiting = s.rcd.waiting ∧
      (∀ bus, (Table.get ({} : Twb) (State.restartWaiting s).twb bus).attn = (Table.get ({} : Twb) s.twb bus).attn) := by
  simp [State.restartWaiting]


/-! Stats -/

@[simp] theorem State.count_frame (s : State) (g : Nat) (q : Nat) (v : Int) :
    (State.count s g q v).now = s.now ∧
      (State.count s g q v).pending = s.pending ∧
      (State.count s g q v).flt.queue = s.flt.queue ∧
      (State.count s g q v).rcd.waiting = s.rcd.waiting ∧
      (∀ bus, (Table.get ({} : Twb) (State.count s g q v).twb bus).attn = (Table.get ({} : Twb) s.twb bus).attn) := by
  simp [State.count]


/-! Issue -/

@[simp] theorem State.spend_frame (s : State) (n : Nat) :
    (State.spend s n).now = s.now ∧
      (State.spend s n).pending = s.pending ∧
      (State.spend s n).flt.queue = s.flt.queue ∧
      (State.spend s n).rcd.waiting = s.rcd.waiting ∧
      (∀ bus, (Table.get ({} : Twb) (State.spend s n).twb bus).attn = (Table.get ({} : Twb) s.twb bus).attn) := by
  simp [State.spend]

@[simp] theorem State.deliver_frame (s : State) (op : Nat) (r : Request) :
    (State.deliver s op r).now = s.now ∧
      (State.deliver s op r).pending = s.pending ∧
      (State.deliver s op r).flt.queue = s.flt.queue ∧
      (State.deliver s op r).rcd.waiting = s.rcd.waiting ∧
      (∀ bus, (Table.get ({} : Twb) (State.deliver s op r).twb bus).attn = (Table.get ({} : Twb) s.twb bus).attn) := by
  unfold State.deliver; split <;> simp

@[simp] theorem State.setPhase_frame (s : State) (ref : CmdRef) (f : Entry → Entry) :
    (State.setPhase s ref f).now = s.now ∧
      (State.setPhase s ref f).pending = s.pending ∧
      (State.setPhase s ref f).flt.queue = s.flt.queue ∧
      (State.setPhase s ref f).rcd.waiting = s.rcd.waiting ∧
      (∀ bus, (Table.get ({} : Twb) (State.setPhase s ref f).twb bus).attn = (Table.get ({} : Twb) s.twb bus).attn) := by
  simp [State.setPhase]

@[simp] theorem State.running_frame (s : State) (ref : CmdRef) :
    (State.running s ref).now = s.now ∧
      (State.running s ref).pending = s.pending ∧
      (State.running s ref).flt.queue = s.flt.queue ∧
      (State.running s ref).rcd.waiting = s.rcd.waiting ∧
      (∀ bus, (Table.get ({} : Twb) (State.running s ref).twb bus).attn = (Table.get ({} : Twb) s.twb bus).attn) := by
  simp [State.running]

@[simp] theorem State.settleOwed_frame (s : State) (k : Nat) :
    (State.settleOwed s k).now = s.now ∧
      (State.settleOwed s k).pending = s.pending ∧
      (State.settleOwed s k).flt.queue = s.flt.queue ∧
      (State.settleOwed s k).rcd.waiting = s.rcd.waiting ∧
      (∀ bus, (Table.get ({} : Twb) (State.settleOwed s k).twb bus).attn = (Table.get ({} : Twb) s.twb bus).attn) := by
  simp [State.settleOwed]


/-! Cittern -/

@[simp] theorem State.repAfter_frame (s : State) (l : Nat) (j : Nat) (learn : Bool) (e : DbWord) :
    (State.repAfter s l j learn e).now = s.now ∧
      (State.repAfter s l j learn e).pending = s.pending ∧
      (State.repAfter s l j learn e).flt.queue = s.flt.queue ∧
      (State.repAfter s l j learn e).rcd.waiting = s.rcd.waiting ∧
      (∀ bus, (Table.get ({} : Twb) (State.repAfter s l j learn e).twb bus).attn = (Table.get ({} : Twb) s.twb bus).attn) := by
  unfold State.repAfter; split <;> simp

@[simp] theorem State.injectAfter_frame (s : State) (l : Nat) (words : List DbWord) (limited : Bool) :
    (State.injectAfter s l words limited).now = s.now ∧
      (State.injectAfter s l words limited).pending = s.pending ∧
      (State.injectAfter s l words limited).flt.queue = s.flt.queue ∧
      (State.injectAfter s l words limited).rcd.waiting = s.rcd.waiting ∧
      (∀ bus, (Table.get ({} : Twb) (State.injectAfter s l words limited).twb bus).attn = (Table.get ({} : Twb) s.twb bus).attn) := by
  unfold State.injectAfter; dsimp only; repeat' split
  all_goals simp

@[simp] theorem State.endInjection_frame (s : State) (l : Nat) (status : Nat) (sub : Nat) :
    (State.endInjection s l status sub).now = s.now ∧
      (State.endInjection s l status sub).pending = s.pending ∧
      (State.endInjection s l status sub).flt.queue = s.flt.queue ∧
      (State.endInjection s l status sub).rcd.waiting = s.rcd.waiting ∧
      (∀ bus, (Table.get ({} : Twb) (State.endInjection s l status sub).twb bus).attn = (Table.get ({} : Twb) s.twb bus).attn) := by
  unfold State.endInjection; split <;> simp

@[simp] theorem State.completeMode_frame (s : State) (cmd : Option CmdRef) :
    (State.completeMode s cmd).now = s.now ∧
      (State.completeMode s cmd).pending = s.pending ∧
      (State.completeMode s cmd).flt.queue = s.flt.queue ∧
      (State.completeMode s cmd).rcd.waiting = s.rcd.waiting ∧
      (∀ bus, (Table.get ({} : Twb) (State.completeMode s cmd).twb bus).attn = (Table.get ({} : Twb) s.twb bus).attn) := by
  unfold State.completeMode; split <;> simp

@[simp] theorem State.mendRegion_frame (s : State) (l : Nat) (n : Nat) :
    (State.mendRegion s l n).now = s.now ∧
      (State.mendRegion s l n).pending = s.pending ∧
      (State.mendRegion s l n).flt.queue = s.flt.queue ∧
      (State.mendRegion s l n).rcd.waiting = s.rcd.waiting ∧
      (∀ bus, (Table.get ({} : Twb) (State.mendRegion s l n).twb bus).attn = (Table.get ({} : Twb) s.twb bus).attn) := by
  simp [State.mendRegion]

@[simp] theorem State.takeSched_frame (s : State) (l : Nat) (q : Sched) :
    (State.takeSched s l q).now = s.now ∧
      (State.takeSched s l q).pending = s.pending ∧
      (State.takeSched s l q).flt.queue = s.flt.queue ∧
      (State.takeSched s l q).rcd.waiting = s.rcd.waiting ∧
      (∀ bus, (Table.get ({} : Twb) (State.takeSched s l q).twb bus).attn = (Table.get ({} : Twb) s.twb bus).attn) := by
  simp [State.takeSched]

@[simp] theorem State.takeSchedule_frame (s : State) (l : Nat) :
    (State.takeSchedule s l).now = s.now ∧
      (State.takeSchedule s l).pending = s.pending ∧
      (State.takeSchedule s l).flt.queue = s.flt.queue ∧
      (State.takeSchedule s l).rcd.waiting = s.rcd.waiting ∧
      (∀ bus, (Table.get ({} : Twb) (State.takeSchedule s l).twb bus).attn = (Table.get ({} : Twb) s.twb bus).attn) := by
  unfold State.takeSchedule; split <;> simp

@[simp] theorem State.missFaults_frame (s : State) (l : Nat) :
    (State.missFaults s l).now = s.now ∧
      (State.missFaults s l).pending = s.pending ∧
      (State.missFaults s l).flt.queue = s.flt.queue ∧
      (State.missFaults s l).rcd.waiting = s.rcd.waiting ∧
      (∀ bus, (Table.get ({} : Twb) (State.missFaults s l).twb bus).attn = (Table.get ({} : Twb) s.twb bus).attn) := by
  simp [State.missFaults]

@[simp] theorem State.missEnds_frame (s : State) (l : Nat) :
    (State.missEnds s l).now = s.now ∧
      (State.missEnds s l).pending = s.pending ∧
      (State.missEnds s l).flt.queue = s.flt.queue ∧
      (State.missEnds s l).rcd.waiting = s.rcd.waiting ∧
      (∀ bus, (Table.get ({} : Twb) (State.missEnds s l).twb bus).attn = (Table.get ({} : Twb) s.twb bus).attn) := by
  simp [State.missEnds]

@[simp] theorem State.idleAfter_frame (s : State) (l : Nat) (words : List DbWord) (j : Nat) :
    (State.idleAfter s l words j).now = s.now ∧
      (State.idleAfter s l words j).pending = s.pending ∧
      (State.idleAfter s l words j).flt.queue = s.flt.queue ∧
      (State.idleAfter s l words j).rcd.waiting = s.rcd.waiting ∧
      (∀ bus, (Table.get ({} : Twb) (State.idleAfter s l words j).twb bus).attn = (Table.get ({} : Twb) s.twb bus).attn) := by
  simp [State.idleAfter]

@[simp] theorem State.innerLawTick_frame (s : State) (g : Nat) (x : Loop) (q : InnerIn) :
    (State.innerLawTick s g x q).now = s.now ∧
      (State.innerLawTick s g x q).pending = s.pending ∧
      (State.innerLawTick s g x q).flt.queue = s.flt.queue ∧
      (State.innerLawTick s g x q).rcd.waiting = s.rcd.waiting ∧
      (∀ bus, (Table.get ({} : Twb) (State.innerLawTick s g x q).twb bus).attn = (Table.get ({} : Twb) s.twb bus).attn) := by
  simp [State.innerLawTick]

@[simp] theorem State.innerUpdate_frame (s : State) (g : Nat) (m : LoopMeas) (x : Loop) (q : InnerIn) (idle : List DbWord) :
    (State.innerUpdate s g m x q idle).now = s.now ∧
      (State.innerUpdate s g m x q idle).pending = s.pending ∧
      (State.innerUpdate s g m x q idle).flt.queue = s.flt.queue ∧
      (State.innerUpdate s g m x q idle).rcd.waiting = s.rcd.waiting ∧
      (∀ bus, (Table.get ({} : Twb) (State.innerUpdate s g m x q idle).twb bus).attn = (Table.get ({} : Twb) s.twb bus).attn) := by
  simp [State.innerUpdate]

@[simp] theorem State.innerHanded_frame (s : State) (g : Nat) (q : InnerIn) (spE : DbWord) (cmd : Option CmdRef) (h : HandOut) :
    (State.innerHanded s g q spE cmd h).now = s.now ∧
      (State.innerHanded s g q spE cmd h).pending = s.pending ∧
      (State.innerHanded s g q spE cmd h).flt.queue = s.flt.queue ∧
      (State.innerHanded s g q spE cmd h).rcd.waiting = s.rcd.waiting ∧
      (∀ bus, (Table.get ({} : Twb) (State.innerHanded s g q spE cmd h).twb bus).attn = (Table.get ({} : Twb) s.twb bus).attn) := by
  simp [State.innerHanded]

@[simp] theorem State.innerNow_frame (s : State) (g : Nat) (m : LoopMeas) (x : Loop) (q : InnerIn) (spE : DbWord) (idle : List DbWord) :
    (State.innerNow s g m x q spE idle).now = s.now ∧
      (State.innerNow s g m x q spE idle).pending = s.pending ∧
      (State.innerNow s g m x q spE idle).flt.queue = s.flt.queue ∧
      (State.innerNow s g m x q spE idle).rcd.waiting = s.rcd.waiting ∧
      (∀ bus, (Table.get ({} : Twb) (State.innerNow s g m x q spE idle).twb bus).attn = (Table.get ({} : Twb) s.twb bus).attn) := by
  unfold State.innerNow; split <;> simp

@[simp] theorem State.innerTick_frame (s : State) (g : Nat) (m : LoopMeas) :
    (State.innerTick s g m).now = s.now ∧
      (State.innerTick s g m).pending = s.pending ∧
      (State.innerTick s g m).flt.queue = s.flt.queue ∧
      (State.innerTick s g m).rcd.waiting = s.rcd.waiting ∧
      (∀ bus, (Table.get ({} : Twb) (State.innerTick s g m).twb bus).attn = (Table.get ({} : Twb) s.twb bus).attn) := by
  simp [State.innerTick]

@[simp] theorem State.plausCheck_frame (s : State) (c : Nat) (p : Option DbWord) :
    (State.plausCheck s c p).now = s.now ∧
      (State.plausCheck s c p).pending = s.pending ∧
      (State.plausCheck s c p).flt.queue = s.flt.queue ∧
      (State.plausCheck s c p).rcd.waiting = s.rcd.waiting ∧
      (∀ bus, (Table.get ({} : Twb) (State.plausCheck s c p).twb bus).attn = (Table.get ({} : Twb) s.twb bus).attn) := by
  unfold State.plausCheck; split <;> simp

@[simp] theorem State.takeShare_frame (s : State) (g : Nat) :
    (State.takeShare s g).now = s.now ∧
      (State.takeShare s g).pending = s.pending ∧
      (State.takeShare s g).flt.queue = s.flt.queue ∧
      (State.takeShare s g).rcd.waiting = s.rcd.waiting ∧
      (∀ bus, (Table.get ({} : Twb) (State.takeShare s g).twb bus).attn = (Table.get ({} : Twb) s.twb bus).attn) := by
  unfold State.takeShare; dsimp only; repeat' split
  all_goals simp

@[simp] theorem State.takeShares_frame (s : State) (c : Nat) :
    (State.takeShares s c).now = s.now ∧
      (State.takeShares s c).pending = s.pending ∧
      (State.takeShares s c).flt.queue = s.flt.queue ∧
      (State.takeShares s c).rcd.waiting = s.rcd.waiting ∧
      (∀ bus, (Table.get ({} : Twb) (State.takeShares s c).twb bus).attn = (Table.get ({} : Twb) s.twb bus).attn) := by
  simp [State.takeShares]

@[simp] theorem State.outerLaw_frame (s : State) (c : Nat) (x : Loop) (k : LoopSet) (lc : DbWord) (p : DbWord) (rep : DbWord) (injV : DbWord) (j : Nat) :
    (State.outerLaw s c x k lc p rep injV j).now = s.now ∧
      (State.outerLaw s c x k lc p rep injV j).pending = s.pending ∧
      (State.outerLaw s c x k lc p rep injV j).flt.queue = s.flt.queue ∧
      (State.outerLaw s c x k lc p rep injV j).rcd.waiting = s.rcd.waiting ∧
      (∀ bus, (Table.get ({} : Twb) (State.outerLaw s c x k lc p rep injV j).twb bus).attn = (Table.get ({} : Twb) s.twb bus).attn) := by
  simp [State.outerLaw]

@[simp] theorem State.outerTick_frame (s : State) (c : Nat) (missed : Bool) :
    (State.outerTick s c missed).now = s.now ∧
      (State.outerTick s c missed).pending = s.pending ∧
      (State.outerTick s c missed).flt.queue = s.flt.queue ∧
      (State.outerTick s c missed).rcd.waiting = s.rcd.waiting ∧
      (∀ bus, (Table.get ({} : Twb) (State.outerTick s c missed).twb bus).attn = (Table.get ({} : Twb) s.twb bus).attn) := by
  unfold State.outerTick; dsimp only; repeat' split
  all_goals simp

@[simp] theorem State.endInjections_frame (s : State) (which : Nat → Bool) (status : Nat) (sub : Nat) :
    (State.endInjections s which status sub).now = s.now ∧
      (State.endInjections s which status sub).pending = s.pending ∧
      (State.endInjections s which status sub).flt.queue = s.flt.queue ∧
      (State.endInjections s which status sub).rcd.waiting = s.rcd.waiting ∧
      (∀ bus, (Table.get ({} : Twb) (State.endInjections s which status sub).twb bus).attn = (Table.get ({} : Twb) s.twb bus).attn) := by
  simp [State.endInjections]

@[simp] theorem State.endPoint_frame (s : State) (l : Nat) (which : Nat) (status : Nat) (sub : Nat) :
    (State.endPoint s l which status sub).now = s.now ∧
      (State.endPoint s l which status sub).pending = s.pending ∧
      (State.endPoint s l which status sub).flt.queue = s.flt.queue ∧
      (State.endPoint s l which status sub).rcd.waiting = s.rcd.waiting ∧
      (∀ bus, (Table.get ({} : Twb) (State.endPoint s l which status sub).twb bus).attn = (Table.get ({} : Twb) s.twb bus).attn) := by
  unfold State.endPoint; split <;> simp

@[simp] theorem State.discardLoop_frame (s : State) (l : Nat) (status : Nat) (sub : Nat) :
    (State.discardLoop s l status sub).now = s.now ∧
      (State.discardLoop s l status sub).pending = s.pending ∧
      (State.discardLoop s l status sub).flt.queue = s.flt.queue ∧
      (State.discardLoop s l status sub).rcd.waiting = s.rcd.waiting ∧
      (∀ bus, (Table.get ({} : Twb) (State.discardLoop s l status sub).twb bus).attn = (Table.get ({} : Twb) s.twb bus).attn) := by
  simp [State.discardLoop]


/-! FrontOps -/

@[simp] theorem State.loseGpio_frame (s : State) (g : Nat) :
    (State.loseGpio s g).now = s.now ∧
      (State.loseGpio s g).pending = s.pending ∧
      (State.loseGpio s g).flt.queue = s.flt.queue ∧
      (State.loseGpio s g).rcd.waiting = s.rcd.waiting ∧
      (∀ bus, (Table.get ({} : Twb) (State.loseGpio s g).twb bus).attn = (Table.get ({} : Twb) s.twb bus).attn) := by
  simp [State.loseGpio]

@[simp] theorem State.claimGpio_frame (s : State) (g : Nat) (f : Nat) :
    (State.claimGpio s g f).now = s.now ∧
      (State.claimGpio s g f).pending = s.pending ∧
      (State.claimGpio s g f).flt.queue = s.flt.queue ∧
      (State.claimGpio s g f).rcd.waiting = s.rcd.waiting ∧
      (∀ bus, (Table.get ({} : Twb) (State.claimGpio s g f).twb bus).attn = (Table.get ({} : Twb) s.twb bus).attn) := by
  simp [State.claimGpio]

@[simp] theorem State.driveAtt_frame (s : State) (c : Nat) :
    (State.driveAtt s c).now = s.now ∧
      (State.driveAtt s c).pending = s.pending ∧
      (State.driveAtt s c).flt.queue = s.flt.queue ∧
      (State.driveAtt s c).rcd.waiting = s.rcd.waiting ∧
      (∀ bus, (Table.get ({} : Twb) (State.driveAtt s c).twb bus).attn = (Table.get ({} : Twb) s.twb bus).attn) := by
  simp [State.driveAtt]

@[simp] theorem State.driveLna_frame (s : State) (c : Nat) :
    (State.driveLna s c).now = s.now ∧
      (State.driveLna s c).pending = s.pending ∧
      (State.driveLna s c).flt.queue = s.flt.queue ∧
      (State.driveLna s c).rcd.waiting = s.rcd.waiting ∧
      (∀ bus, (Table.get ({} : Twb) (State.driveLna s c).twb bus).attn = (Table.get ({} : Twb) s.twb bus).attn) := by
  simp [State.driveLna]

@[simp] theorem State.driveFront_frame (s : State) :
    (State.driveFront s).now = s.now ∧
      (State.driveFront s).pending = s.pending ∧
      (State.driveFront s).flt.queue = s.flt.queue ∧
      (State.driveFront s).rcd.waiting = s.rcd.waiting ∧
      (∀ bus, (Table.get ({} : Twb) (State.driveFront s).twb bus).attn = (Table.get ({} : Twb) s.twb bus).attn) := by
  simp [State.driveFront]

@[simp] theorem State.askUp_frame (s : State) (c : Nat) :
    (State.askUp s c).now = s.now ∧
      (State.askUp s c).pending = s.pending ∧
      (State.askUp s c).flt.queue = s.flt.queue ∧
      (State.askUp s c).rcd.waiting = s.rcd.waiting ∧
      (∀ bus, (Table.get ({} : Twb) (State.askUp s c).twb bus).attn = (Table.get ({} : Twb) s.twb bus).attn) := by
  simp [State.askUp]

@[simp] theorem State.askDown_frame (s : State) (c : Nat) :
    (State.askDown s c).now = s.now ∧
      (State.askDown s c).pending = s.pending ∧
      (State.askDown s c).flt.queue = s.flt.queue ∧
      (State.askDown s c).rcd.waiting = s.rcd.waiting ∧
      (∀ bus, (Table.get ({} : Twb) (State.askDown s c).twb bus).attn = (Table.get ({} : Twb) s.twb bus).attn) := by
  simp [State.askDown]

@[simp] theorem State.startUp_frame (s : State) (c : Nat) :
    (State.startUp s c).now = s.now ∧
      (State.startUp s c).pending = s.pending ∧
      (State.startUp s c).flt.queue = s.flt.queue ∧
      (State.startUp s c).rcd.waiting = s.rcd.waiting ∧
      (∀ bus, (Table.get ({} : Twb) (State.startUp s c).twb bus).attn = (Table.get ({} : Twb) s.twb bus).attn) := by
  simp [State.startUp]

@[simp] theorem State.startDown_frame (s : State) (c : Nat) :
    (State.startDown s c).now = s.now ∧
      (State.startDown s c).pending = s.pending ∧
      (State.startDown s c).flt.queue = s.flt.queue ∧
      (State.startDown s c).rcd.waiting = s.rcd.waiting ∧
      (∀ bus, (Table.get ({} : Twb) (State.startDown s c).twb bus).attn = (Table.get ({} : Twb) s.twb bus).attn) := by
  simp [State.startDown]

@[simp] theorem State.trip_frame (s : State) (d : Nat) (src : Nat) :
    (State.trip s d src).now = s.now ∧
      (State.trip s d src).pending = s.pending ∧
      (State.trip s d src).flt.queue = s.flt.queue ∧
      (State.trip s d src).rcd.waiting = s.rcd.waiting ∧
      (∀ bus, (Table.get ({} : Twb) (State.trip s d src).twb bus).attn = (Table.get ({} : Twb) s.twb bus).attn) := by
  simp [State.trip]

@[simp] theorem State.tripAll_frame (s : State) (m : Nat) :
    (State.tripAll s m).now = s.now ∧
      (State.tripAll s m).pending = s.pending ∧
      (State.tripAll s m).flt.queue = s.flt.queue ∧
      (State.tripAll s m).rcd.waiting = s.rcd.waiting ∧
      (∀ bus, (Table.get ({} : Twb) (State.tripAll s m).twb bus).attn = (Table.get ({} : Twb) s.twb bus).attn) := by
  simp [State.tripAll]

@[simp] theorem State.bringUp_frame (s : State) (c : Nat) :
    (State.bringUp s c).now = s.now ∧
      (State.bringUp s c).pending = s.pending ∧
      (State.bringUp s c).flt.queue = s.flt.queue ∧
      (State.bringUp s c).rcd.waiting = s.rcd.waiting ∧
      (∀ bus, (Table.get ({} : Twb) (State.bringUp s c).twb bus).attn = (Table.get ({} : Twb) s.twb bus).attn) := by
  simp [State.bringUp]

@[simp] theorem State.untrip_frame (s : State) (d : Nat) :
    (State.untrip s d).now = s.now ∧
      (State.untrip s d).pending = s.pending ∧
      (State.untrip s d).flt.queue = s.flt.queue ∧
      (State.untrip s d).rcd.waiting = s.rcd.waiting ∧
      (∀ bus, (Table.get ({} : Twb) (State.untrip s d).twb bus).attn = (Table.get ({} : Twb) s.twb bus).attn) := by
  simp [State.untrip]


/-! GateOps -/

@[simp] theorem State.writePage_frame (s : State) (t : Nat) (up : Bool) (page : Nat) (es : List (BitVec 64)) :
    (State.writePage s t up page es).now = s.now ∧
      (State.writePage s t up page es).pending = s.pending ∧
      (State.writePage s t up page es).flt.queue = s.flt.queue ∧
      (State.writePage s t up page es).rcd.waiting = s.rcd.waiting ∧
      (∀ bus, (Table.get ({} : Twb) (State.writePage s t up page es).twb bus).attn = (Table.get ({} : Twb) s.twb bus).attn) := by
  simp [State.writePage]

@[simp] theorem State.judgeDonor_frame (s : State) (b : Nat) :
    (State.judgeDonor s b).now = s.now ∧
      (State.judgeDonor s b).pending = s.pending ∧
      (State.judgeDonor s b).flt.queue = s.flt.queue ∧
      (State.judgeDonor s b).rcd.waiting = s.rcd.waiting ∧
      (∀ bus, (Table.get ({} : Twb) (State.judgeDonor s b).twb bus).attn = (Table.get ({} : Twb) s.twb bus).attn) := by
  simp [State.judgeDonor]

@[simp] theorem State.judgeDonors_frame (s : State) :
    (State.judgeDonors s).now = s.now ∧
      (State.judgeDonors s).pending = s.pending ∧
      (State.judgeDonors s).flt.queue = s.flt.queue ∧
      (State.judgeDonors s).rcd.waiting = s.rcd.waiting ∧
      (∀ bus, (Table.get ({} : Twb) (State.judgeDonors s).twb bus).attn = (Table.get ({} : Twb) s.twb bus).attn) := by
  simp [State.judgeDonors]

@[simp] theorem State.closeGates_frame (s : State) (t : Nat) :
    (State.closeGates s t).now = s.now ∧
      (State.closeGates s t).pending = s.pending ∧
      (State.closeGates s t).flt.queue = s.flt.queue ∧
      (State.closeGates s t).rcd.waiting = s.rcd.waiting ∧
      (∀ bus, (Table.get ({} : Twb) (State.closeGates s t).twb bus).attn = (Table.get ({} : Twb) s.twb bus).attn) := by
  simp [State.closeGates]

@[simp] theorem State.loseWrites_frame (s : State) (t : Nat) :
    (State.loseWrites s t).now = s.now ∧
      (State.loseWrites s t).pending = s.pending ∧
      (State.loseWrites s t).flt.queue = s.flt.queue ∧
      (State.loseWrites s t).rcd.waiting = s.rcd.waiting ∧
      (∀ bus, (Table.get ({} : Twb) (State.loseWrites s t).twb bus).attn = (Table.get ({} : Twb) s.twb bus).attn) := by
  simp [State.loseWrites]

@[simp] theorem State.loopPeriodErr_frame (t : Nat) (s : State) (l : Nat) :
    (State.loopPeriodErr t s l).now = s.now ∧
      (State.loopPeriodErr t s l).pending = s.pending ∧
      (State.loopPeriodErr t s l).flt.queue = s.flt.queue ∧
      (State.loopPeriodErr t s l).rcd.waiting = s.rcd.waiting ∧
      (∀ bus, (Table.get ({} : Twb) (State.loopPeriodErr t s l).twb bus).attn = (Table.get ({} : Twb) s.twb bus).attn) := by
  unfold State.loopPeriodErr; split <;> simp

@[simp] theorem State.periodErr_frame (s : State) (t : Nat) :
    (State.periodErr s t).now = s.now ∧
      (State.periodErr s t).pending = s.pending ∧
      (State.periodErr s t).flt.queue = s.flt.queue ∧
      (State.periodErr s t).rcd.waiting = s.rcd.waiting ∧
      (∀ bus, (Table.get ({} : Twb) (State.periodErr s t).twb bus).attn = (Table.get ({} : Twb) s.twb bus).attn) := by
  simp [State.periodErr]

@[simp] theorem State.loopPeriodMoved_frame (s : State) (l : Nat) :
    (State.loopPeriodMoved s l).now = s.now ∧
      (State.loopPeriodMoved s l).pending = s.pending ∧
      (State.loopPeriodMoved s l).flt.queue = s.flt.queue ∧
      (State.loopPeriodMoved s l).rcd.waiting = s.rcd.waiting ∧
      (∀ bus, (Table.get ({} : Twb) (State.loopPeriodMoved s l).twb bus).attn = (Table.get ({} : Twb) s.twb bus).attn) := by
  unfold State.loopPeriodMoved; simp; repeat' split
  all_goals simp

@[simp] theorem State.periodsMoved_frame (s : State) :
    (State.periodsMoved s).now = s.now ∧
      (State.periodsMoved s).pending = s.pending ∧
      (State.periodsMoved s).flt.queue = s.flt.queue ∧
      (State.periodsMoved s).rcd.waiting = s.rcd.waiting ∧
      (∀ bus, (Table.get ({} : Twb) (State.periodsMoved s).twb bus).attn = (Table.get ({} : Twb) s.twb bus).attn) := by
  simp [State.periodsMoved]

@[simp] theorem State.swapPage_frame (s : State) (t : Nat) (up : Bool) :
    (State.swapPage s t up).now = s.now ∧
      (State.swapPage s t up).pending = s.pending ∧
      (State.swapPage s t up).flt.queue = s.flt.queue ∧
      (State.swapPage s t up).rcd.waiting = s.rcd.waiting ∧
      (∀ bus, (Table.get ({} : Twb) (State.swapPage s t up).twb bus).attn = (Table.get ({} : Twb) s.twb bus).attn) := by
  simp [State.swapPage]

@[simp] theorem State.beamDefault_frame (s : State) (t : Nat) :
    (State.beamDefault s t).now = s.now ∧
      (State.beamDefault s t).pending = s.pending ∧
      (State.beamDefault s t).flt.queue = s.flt.queue ∧
      (State.beamDefault s t).rcd.waiting = s.rcd.waiting ∧
      (∀ bus, (Table.get ({} : Twb) (State.beamDefault s t).twb bus).attn = (Table.get ({} : Twb) s.twb bus).attn) := by
  simp [State.beamDefault]

@[simp] theorem State.pairsTurn_frame (s : State) (t : Nat) :
    (State.pairsTurn s t).now = s.now ∧
      (State.pairsTurn s t).pending = s.pending ∧
      (State.pairsTurn s t).flt.queue = s.flt.queue ∧
      (State.pairsTurn s t).rcd.waiting = s.rcd.waiting ∧
      (∀ bus, (Table.get ({} : Twb) (State.pairsTurn s t).twb bus).attn = (Table.get ({} : Twb) s.twb bus).attn) := by
  simp [State.pairsTurn]

@[simp] theorem State.reacquire_frame (s : State) (t : Nat) :
    (State.reacquire s t).now = s.now ∧
      (State.reacquire s t).pending = s.pending ∧
      (State.reacquire s t).flt.queue = s.flt.queue ∧
      (State.reacquire s t).rcd.waiting = s.rcd.waiting ∧
      (∀ bus, (Table.get ({} : Twb) (State.reacquire s t).twb bus).attn = (Table.get ({} : Twb) s.twb bus).attn) := by
  simp [State.reacquire]

@[simp] theorem State.expire_frame (s : State) (t : Nat) :
    (State.expire s t).now = s.now ∧
      (State.expire s t).pending = s.pending ∧
      (State.expire s t).flt.queue = s.flt.queue ∧
      (State.expire s t).rcd.waiting = s.rcd.waiting ∧
      (∀ bus, (Table.get ({} : Twb) (State.expire s t).twb bus).attn = (Table.get ({} : Twb) s.twb bus).attn) := by
  simp [State.expire]

@[simp] theorem State.leaveExpired_frame (s : State) (t : Nat) :
    (State.leaveExpired s t).now = s.now ∧
      (State.leaveExpired s t).pending = s.pending ∧
      (State.leaveExpired s t).flt.queue = s.flt.queue ∧
      (State.leaveExpired s t).rcd.waiting = s.rcd.waiting ∧
      (∀ bus, (Table.get ({} : Twb) (State.leaveExpired s t).twb bus).attn = (Table.get ({} : Twb) s.twb bus).attn) := by
  simp [State.leaveExpired]

@[simp] theorem State.groupOff_frame (s : State) (t : Nat) :
    (State.groupOff s t).now = s.now ∧
      (State.groupOff s t).pending = s.pending ∧
      (State.groupOff s t).flt.queue = s.flt.queue ∧
      (State.groupOff s t).rcd.waiting = s.rcd.waiting ∧
      (∀ bus, (Table.get ({} : Twb) (State.groupOff s t).twb bus).attn = (Table.get ({} : Twb) s.twb bus).attn) := by
  simp [State.groupOff]


/-! Gating -/

@[simp] theorem State.setFrame_frame (s : State) (t : Nat) (start : Int) (sfn : Nat) :
    (State.setFrame s t start sfn).now = s.now ∧
      (State.setFrame s t start sfn).pending = s.pending ∧
      (State.setFrame s t start sfn).flt.queue = s.flt.queue ∧
      (State.setFrame s t start sfn).rcd.waiting = s.rcd.waiting ∧
      (∀ bus, (Table.get ({} : Twb) (State.setFrame s t start sfn).twb bus).attn = (Table.get ({} : Twb) s.twb bus).attn) := by
  simp [State.setFrame]

@[simp] theorem State.lock_frame (s : State) (t : Nat) :
    (State.lock s t).now = s.now ∧
      (State.lock s t).pending = s.pending ∧
      (State.lock s t).flt.queue = s.flt.queue ∧
      (State.lock s t).rcd.waiting = s.rcd.waiting ∧
      (∀ bus, (Table.get ({} : Twb) (State.lock s t).twb bus).attn = (Table.get ({} : Twb) s.twb bus).attn) := by
  simp [State.lock]

@[simp] theorem State.takeTdd_frame (s : State) (t : Nat) (k : TddSet) :
    (State.takeTdd s t k).now = s.now ∧
      (State.takeTdd s t k).pending = s.pending ∧
      (State.takeTdd s t k).flt.queue = s.flt.queue ∧
      (State.takeTdd s t k).rcd.waiting = s.rcd.waiting ∧
      (∀ bus, (Table.get ({} : Twb) (State.takeTdd s t k).twb bus).attn = (Table.get ({} : Twb) s.twb bus).attn) := by
  unfold State.takeTdd; dsimp only; repeat' split
  all_goals simp

@[simp] theorem applyTddConfigure_frame (ref : CmdRef) (r : Request) (s : State) :
    (applyTddConfigure ref r s).now = s.now ∧
      (applyTddConfigure ref r s).pending = s.pending ∧
      (applyTddConfigure ref r s).flt.queue = s.flt.queue ∧
      (applyTddConfigure ref r s).rcd.waiting = s.rcd.waiting ∧
      (∀ bus, (Table.get ({} : Twb) (applyTddConfigure ref r s).twb bus).attn = (Table.get ({} : Twb) s.twb bus).attn) := by
  simp [applyTddConfigure]

@[simp] theorem State.activate_frame (s : State) (t : Nat) (up : Bool) :
    (State.activate s t up).now = s.now ∧
      (State.activate s t up).pending = s.pending ∧
      (State.activate s t up).flt.queue = s.flt.queue ∧
      (State.activate s t up).rcd.waiting = s.rcd.waiting ∧
      (∀ bus, (Table.get ({} : Twb) (State.activate s t up).twb bus).attn = (Table.get ({} : Twb) s.twb bus).attn) := by
  simp [State.activate]

@[simp] theorem State.activateWrite_frame (s : State) (t : Nat) (up : Bool) (w : Option GateWrite) :
    (State.activateWrite s t up w).now = s.now ∧
      (State.activateWrite s t up w).pending = s.pending ∧
      (State.activateWrite s t up w).flt.queue = s.flt.queue ∧
      (State.activateWrite s t up w).rcd.waiting = s.rcd.waiting ∧
      (∀ bus, (Table.get ({} : Twb) (State.activateWrite s t up w).twb bus).attn = (Table.get ({} : Twb) s.twb bus).attn) := by
  simp [State.activateWrite]

@[simp] theorem applyTddSetGates_frame (ref : CmdRef) (r : Request) (s : State) :
    (applyTddSetGates ref r s).now = s.now ∧
      (applyTddSetGates ref r s).pending = s.pending ∧
      (applyTddSetGates ref r s).flt.queue = s.flt.queue ∧
      (applyTddSetGates ref r s).rcd.waiting = s.rcd.waiting ∧
      (∀ bus, (Table.get ({} : Twb) (applyTddSetGates ref r s).twb bus).attn = (Table.get ({} : Twb) s.twb bus).attn) := by
  unfold applyTddSetGates; dsimp only; repeat' split
  all_goals simp

@[simp] theorem State.autoApply_frame (s : State) (t : Nat) :
    (State.autoApply s t).now = s.now ∧
      (State.autoApply s t).pending = s.pending ∧
      (State.autoApply s t).flt.queue = s.flt.queue ∧
      (State.autoApply s t).rcd.waiting = s.rcd.waiting ∧
      (∀ bus, (Table.get ({} : Twb) (State.autoApply s t).twb bus).attn = (Table.get ({} : Twb) s.twb bus).attn) := by
  simp [State.autoApply]

@[simp] theorem State.learnFrame_frame (s : State) (t : Nat) :
    (State.learnFrame s t).now = s.now ∧
      (State.learnFrame s t).pending = s.pending ∧
      (State.learnFrame s t).flt.queue = s.flt.queue ∧
      (State.learnFrame s t).rcd.waiting = s.rcd.waiting ∧
      (∀ bus, (Table.get ({} : Twb) (State.learnFrame s t).twb bus).attn = (Table.get ({} : Twb) s.twb bus).attn) := by
  unfold State.learnFrame; split <;> simp

@[simp] theorem State.startStreams_frame (s : State) (t : Nat) (at_ : Int) :
    (State.startStreams s t at_).now = s.now ∧
      (State.startStreams s t at_).pending = s.pending ∧
      (State.startStreams s t at_).flt.queue = s.flt.queue ∧
      (State.startStreams s t at_).rcd.waiting = s.rcd.waiting ∧
      (∀ bus, (Table.get ({} : Twb) (State.startStreams s t at_).twb bus).attn = (Table.get ({} : Twb) s.twb bus).attn) := by
  simp [State.startStreams]

@[simp] theorem State.noteFrame_frame (s : State) (t : Nat) :
    (State.noteFrame s t).now = s.now ∧
      (State.noteFrame s t).pending = s.pending ∧
      (State.noteFrame s t).flt.queue = s.flt.queue ∧
      (State.noteFrame s t).rcd.waiting = s.rcd.waiting ∧
      (∀ bus, (Table.get ({} : Twb) (State.noteFrame s t).twb bus).attn = (Table.get ({} : Twb) s.twb bus).attn) := by
  simp [State.noteFrame]

@[simp] theorem State.nextFrame_frame (s : State) (grp : Nat) :
    (State.nextFrame s grp).now = s.now ∧
      (State.nextFrame s grp).pending = s.pending ∧
      (State.nextFrame s grp).flt.queue = s.flt.queue ∧
      (State.nextFrame s grp).rcd.waiting = s.rcd.waiting ∧
      (∀ bus, (Table.get ({} : Twb) (State.nextFrame s grp).twb bus).attn = (Table.get ({} : Twb) s.twb bus).attn) := by
  simp [State.nextFrame]

@[simp] theorem State.takeConfig_frame (s : State) (grp : Nat) :
    (State.takeConfig s grp).now = s.now ∧
      (State.takeConfig s grp).pending = s.pending ∧
      (State.takeConfig s grp).flt.queue = s.flt.queue ∧
      (State.takeConfig s grp).rcd.waiting = s.rcd.waiting ∧
      (∀ bus, (Table.get ({} : Twb) (State.takeConfig s grp).twb bus).attn = (Table.get ({} : Twb) s.twb bus).attn) := by
  unfold State.takeConfig; split <;> simp

@[simp] theorem State.takeWrites_frame (s : State) (grp : Nat) (dl : Option GateWrite) (ul : Option GateWrite) (at_ : Int) (p : Nat) :
    (State.takeWrites s grp dl ul at_ p).now = s.now ∧
      (State.takeWrites s grp dl ul at_ p).pending = s.pending ∧
      (State.takeWrites s grp dl ul at_ p).flt.queue = s.flt.queue ∧
      (State.takeWrites s grp dl ul at_ p).rcd.waiting = s.rcd.waiting ∧
      (∀ bus, (Table.get ({} : Twb) (State.takeWrites s grp dl ul at_ p).twb bus).attn = (Table.get ({} : Twb) s.twb bus).attn) := by
  simp [State.takeWrites]

@[simp] theorem State.learnNow_frame (s : State) (grp : Nat) :
    (State.learnNow s grp).now = s.now ∧
      (State.learnNow s grp).pending = s.pending ∧
      (State.learnNow s grp).flt.queue = s.flt.queue ∧
      (State.learnNow s grp).rcd.waiting = s.rcd.waiting ∧
      (∀ bus, (Table.get ({} : Twb) (State.learnNow s grp).twb bus).attn = (Table.get ({} : Twb) s.twb bus).attn) := by
  simp [State.learnNow]

@[simp] theorem State.driveFsync_frame (s : State) (grp : Nat) (wraps : Bool) (at_ : Int) :
    (State.driveFsync s grp wraps at_).now = s.now ∧
      (State.driveFsync s grp wraps at_).pending = s.pending ∧
      (State.driveFsync s grp wraps at_).flt.queue = s.flt.queue ∧
      (State.driveFsync s grp wraps at_).rcd.waiting = s.rcd.waiting ∧
      (∀ bus, (Table.get ({} : Twb) (State.driveFsync s grp wraps at_).twb bus).attn = (Table.get ({} : Twb) s.twb bus).attn) := by
  simp [State.driveFsync]

@[simp] theorem State.gatesMove_frame (s : State) (grp : Nat) (uplink : Bool) :
    (State.gatesMove s grp uplink).now = s.now ∧
      (State.gatesMove s grp uplink).pending = s.pending ∧
      (State.gatesMove s grp uplink).flt.queue = s.flt.queue ∧
      (State.gatesMove s grp uplink).rcd.waiting = s.rcd.waiting ∧
      (∀ bus, (Table.get ({} : Twb) (State.gatesMove s grp uplink).twb bus).attn = (Table.get ({} : Twb) s.twb bus).attn) := by
  simp [State.gatesMove]

@[simp] theorem State.beamMoves_frame (s : State) (grp : Nat) (uplink : Bool) :
    (State.beamMoves s grp uplink).now = s.now ∧
      (State.beamMoves s grp uplink).pending = s.pending ∧
      (State.beamMoves s grp uplink).flt.queue = s.flt.queue ∧
      (State.beamMoves s grp uplink).rcd.waiting = s.rcd.waiting ∧
      (∀ bus, (Table.get ({} : Twb) (State.beamMoves s grp uplink).twb bus).attn = (Table.get ({} : Twb) s.twb bus).attn) := by
  unfold State.beamMoves; split <;> simp

@[simp] theorem writeTddOut_frame (v : Nat) (s : State) :
    (writeTddOut v s).now = s.now ∧
      (writeTddOut v s).pending = s.pending ∧
      (writeTddOut v s).flt.queue = s.flt.queue ∧
      (writeTddOut v s).rcd.waiting = s.rcd.waiting ∧
      (∀ bus, (Table.get ({} : Twb) (writeTddOut v s).twb bus).attn = (Table.get ({} : Twb) s.twb bus).attn) := by
  simp [writeTddOut]


/-! Protect -/

@[simp] theorem applyNpSetLimits_frame (ref : CmdRef) (r : Request) (s : State) :
    (applyNpSetLimits ref r s).now = s.now ∧
      (applyNpSetLimits ref r s).pending = s.pending ∧
      (applyNpSetLimits ref r s).flt.queue = s.flt.queue ∧
      (applyNpSetLimits ref r s).rcd.waiting = s.rcd.waiting ∧
      (∀ bus, (Table.get ({} : Twb) (applyNpSetLimits ref r s).twb bus).attn = (Table.get ({} : Twb) s.twb bus).attn) := by
  simp [applyNpSetLimits]

@[simp] theorem State.donorReleased_frame (s : State) (b : Nat) :
    (State.donorReleased s b).now = s.now ∧
      (State.donorReleased s b).pending = s.pending ∧
      (State.donorReleased s b).flt.queue = s.flt.queue ∧
      (State.donorReleased s b).rcd.waiting = s.rcd.waiting ∧
      (∀ bus, (Table.get ({} : Twb) (State.donorReleased s b).twb bus).attn = (Table.get ({} : Twb) s.twb bus).attn) := by
  simp [State.donorReleased]

@[simp] theorem State.takeNpSb_frame (s : State) (g : Nat) :
    (State.takeNpSb s g).now = s.now ∧
      (State.takeNpSb s g).pending = s.pending ∧
      (State.takeNpSb s g).flt.queue = s.flt.queue ∧
      (State.takeNpSb s g).rcd.waiting = s.rcd.waiting ∧
      (∀ bus, (Table.get ({} : Twb) (State.takeNpSb s g).twb bus).attn = (Table.get ({} : Twb) s.twb bus).attn) := by
  unfold State.takeNpSb; split <;> simp

@[simp] theorem State.takeNpBand_frame (s : State) (b : Nat) :
    (State.takeNpBand s b).now = s.now ∧
      (State.takeNpBand s b).pending = s.pending ∧
      (State.takeNpBand s b).flt.queue = s.flt.queue ∧
      (State.takeNpBand s b).rcd.waiting = s.rcd.waiting ∧
      (∀ bus, (Table.get ({} : Twb) (State.takeNpBand s b).twb bus).attn = (Table.get ({} : Twb) s.twb bus).attn) := by
  unfold State.takeNpBand; split <;> simp

@[simp] theorem State.takeNpChain_frame (s : State) (c : Nat) :
    (State.takeNpChain s c).now = s.now ∧
      (State.takeNpChain s c).pending = s.pending ∧
      (State.takeNpChain s c).flt.queue = s.flt.queue ∧
      (State.takeNpChain s c).rcd.waiting = s.rcd.waiting ∧
      (∀ bus, (Table.get ({} : Twb) (State.takeNpChain s c).twb bus).attn = (Table.get ({} : Twb) s.twb bus).attn) := by
  unfold State.takeNpChain; split <;> simp

@[simp] theorem State.takeNpChainNow_frame (s : State) (c : Nat) :
    (State.takeNpChainNow s c).now = s.now ∧
      (State.takeNpChainNow s c).pending = s.pending ∧
      (State.takeNpChainNow s c).flt.queue = s.flt.queue ∧
      (State.takeNpChainNow s c).rcd.waiting = s.rcd.waiting ∧
      (∀ bus, (Table.get ({} : Twb) (State.takeNpChainNow s c).twb bus).attn = (Table.get ({} : Twb) s.twb bus).attn) := by
  simp [State.takeNpChainNow]

@[simp] theorem State.takeLimits_frame (s : State) :
    (State.takeLimits s).now = s.now ∧
      (State.takeLimits s).pending = s.pending ∧
      (State.takeLimits s).flt.queue = s.flt.queue ∧
      (State.takeLimits s).rcd.waiting = s.rcd.waiting ∧
      (∀ bus, (Table.get ({} : Twb) (State.takeLimits s).twb bus).attn = (Table.get ({} : Twb) s.twb bus).attn) := by
  simp [State.takeLimits]

@[simp] theorem State.dropLearned_frame (s : State) (t : Nat) :
    (State.dropLearned s t).now = s.now ∧
      (State.dropLearned s t).pending = s.pending ∧
      (State.dropLearned s t).flt.queue = s.flt.queue ∧
      (State.dropLearned s t).rcd.waiting = s.rcd.waiting ∧
      (∀ bus, (Table.get ({} : Twb) (State.dropLearned s t).twb bus).attn = (Table.get ({} : Twb) s.twb bus).attn) := by
  simp [State.dropLearned]

@[simp] theorem State.evalBand_frame (s : State) (b : Nat) (level : Option CentiDb) :
    (State.evalBand s b level).now = s.now ∧
      (State.evalBand s b level).pending = s.pending ∧
      (State.evalBand s b level).flt.queue = s.flt.queue ∧
      (State.evalBand s b level).rcd.waiting = s.rcd.waiting ∧
      (∀ bus, (Table.get ({} : Twb) (State.evalBand s b level).twb bus).attn = (Table.get ({} : Twb) s.twb bus).attn) := by
  simp [State.evalBand]

@[simp] theorem State.clearDonor_frame (s : State) :
    (State.clearDonor s).now = s.now ∧
      (State.clearDonor s).pending = s.pending ∧
      (State.clearDonor s).flt.queue = s.flt.queue ∧
      (State.clearDonor s).rcd.waiting = s.rcd.waiting ∧
      (∀ bus, (Table.get ({} : Twb) (State.clearDonor s).twb bus).attn = (Table.get ({} : Twb) s.twb bus).attn) := by
  simp [State.clearDonor]

@[simp] theorem State.regrow_frame (s : State) (c : Nat) (aclr : CentiDb) :
    (State.regrow s c aclr).now = s.now ∧
      (State.regrow s c aclr).pending = s.pending ∧
      (State.regrow s c aclr).flt.queue = s.flt.queue ∧
      (State.regrow s c aclr).rcd.waiting = s.rcd.waiting ∧
      (∀ bus, (Table.get ({} : Twb) (State.regrow s c aclr).twb bus).attn = (Table.get ({} : Twb) s.twb bus).attn) := by
  simp [State.regrow]

@[simp] theorem State.regrowthBegins_frame (s : State) (c : Nat) :
    (State.regrowthBegins s c).now = s.now ∧
      (State.regrowthBegins s c).pending = s.pending ∧
      (State.regrowthBegins s c).flt.queue = s.flt.queue ∧
      (State.regrowthBegins s c).rcd.waiting = s.rcd.waiting ∧
      (∀ bus, (Table.get ({} : Twb) (State.regrowthBegins s c).twb bus).attn = (Table.get ({} : Twb) s.twb bus).attn) := by
  simp [State.regrowthBegins]

@[simp] theorem State.hush_frame (s : State) (g : Nat) :
    (State.hush s g).now = s.now ∧
      (State.hush s g).pending = s.pending ∧
      (State.hush s g).flt.queue = s.flt.queue ∧
      (State.hush s g).rcd.waiting = s.rcd.waiting ∧
      (∀ bus, (Table.get ({} : Twb) (State.hush s g).twb bus).attn = (Table.get ({} : Twb) s.twb bus).attn) := by
  simp [State.hush]


/-! Converters -/

@[simp] theorem State.storeTrims_frame (s : State) (c : Nat) :
    (State.storeTrims s c).now = s.now ∧
      (State.storeTrims s c).pending = s.pending ∧
      (State.storeTrims s c).flt.queue = s.flt.queue ∧
      (State.storeTrims s c).rcd.waiting = s.rcd.waiting ∧
      (∀ bus, (Table.get ({} : Twb) (State.storeTrims s c).twb bus).attn = (Table.get ({} : Twb) s.twb bus).attn) := by
  simp [State.storeTrims]

@[simp] theorem State.refreshRotation_frame (s : State) (c : Nat) :
    (State.refreshRotation s c).now = s.now ∧
      (State.refreshRotation s c).pending = s.pending ∧
      (State.refreshRotation s c).flt.queue = s.flt.queue ∧
      (State.refreshRotation s c).rcd.waiting = s.rcd.waiting ∧
      (∀ bus, (Table.get ({} : Twb) (State.refreshRotation s c).twb bus).attn = (Table.get ({} : Twb) s.twb bus).attn) := by
  simp [State.refreshRotation]

@[simp] theorem State.fenceChain_frame (s : State) (c : Nat) :
    (State.fenceChain s c).now = s.now ∧
      (State.fenceChain s c).pending = s.pending ∧
      (State.fenceChain s c).flt.queue = s.flt.queue ∧
      (State.fenceChain s c).rcd.waiting = s.rcd.waiting ∧
      (∀ bus, (Table.get ({} : Twb) (State.fenceChain s c).twb bus).attn = (Table.get ({} : Twb) s.twb bus).attn) := by
  simp [State.fenceChain]

@[simp] theorem State.tagChain_frame (s : State) (c : Nat) (first : Nat) (last : Option Nat) :
    (State.tagChain s c first last).now = s.now ∧
      (State.tagChain s c first last).pending = s.pending ∧
      (State.tagChain s c first last).flt.queue = s.flt.queue ∧
      (State.tagChain s c first last).rcd.waiting = s.rcd.waiting ∧
      (∀ bus, (Table.get ({} : Twb) (State.tagChain s c first last).twb bus).attn = (Table.get ({} : Twb) s.twb bus).attn) := by
  simp [State.tagChain]

@[simp] theorem State.loseSlice_frame (s : State) (c : Nat) (n : Nat) :
    (State.loseSlice s c n).now = s.now ∧
      (State.loseSlice s c n).pending = s.pending ∧
      (State.loseSlice s c n).flt.queue = s.flt.queue ∧
      (State.loseSlice s c n).rcd.waiting = s.rcd.waiting ∧
      (∀ bus, (Table.get ({} : Twb) (State.loseSlice s c n).twb bus).attn = (Table.get ({} : Twb) s.twb bus).attn) := by
  simp [State.loseSlice]

@[simp] theorem State.sliceFails_frame (s : State) (c : Nat) (n : Nat) (kind : Nat) :
    (State.sliceFails s c n kind).now = s.now ∧
      (State.sliceFails s c n kind).pending = s.pending ∧
      (State.sliceFails s c n kind).flt.queue = s.flt.queue ∧
      (State.sliceFails s c n kind).rcd.waiting = s.rcd.waiting ∧
      (∀ bus, (Table.get ({} : Twb) (State.sliceFails s c n kind).twb bus).attn = (Table.get ({} : Twb) s.twb bus).attn) := by
  simp [State.sliceFails]

@[simp] theorem State.checkTrims_frame (s : State) (c : Nat) :
    (State.checkTrims s c).now = s.now ∧
      (State.checkTrims s c).pending = s.pending ∧
      (State.checkTrims s c).flt.queue = s.flt.queue ∧
      (State.checkTrims s c).rcd.waiting = s.rcd.waiting ∧
      (∀ bus, (Table.get ({} : Twb) (State.checkTrims s c).twb bus).attn = (Table.get ({} : Twb) s.twb bus).attn) := by
  simp [State.checkTrims]

@[simp] theorem State.quickCal_frame (s : State) (c : Nat) (failed : Bool) :
    (State.quickCal s c failed).now = s.now ∧
      (State.quickCal s c failed).pending = s.pending ∧
      (State.quickCal s c failed).flt.queue = s.flt.queue ∧
      (State.quickCal s c failed).rcd.waiting = s.rcd.waiting ∧
      (∀ bus, (Table.get ({} : Twb) (State.quickCal s c failed).twb bus).attn = (Table.get ({} : Twb) s.twb bus).attn) := by
  simp [State.quickCal]

@[simp] theorem State.fullCal_frame (s : State) (c : Nat) :
    (State.fullCal s c).now = s.now ∧
      (State.fullCal s c).pending = s.pending ∧
      (State.fullCal s c).flt.queue = s.flt.queue ∧
      (State.fullCal s c).rcd.waiting = s.rcd.waiting ∧
      (∀ bus, (Table.get ({} : Twb) (State.fullCal s c).twb bus).attn = (Table.get ({} : Twb) s.twb bus).attn) := by
  simp [State.fullCal]

@[simp] theorem State.handOverSpare_frame (s : State) (c : Nat) :
    (State.handOverSpare s c).now = s.now ∧
      (State.handOverSpare s c).pending = s.pending ∧
      (State.handOverSpare s c).flt.queue = s.flt.queue ∧
      (State.handOverSpare s c).rcd.waiting = s.rcd.waiting ∧
      (∀ bus, (Table.get ({} : Twb) (State.handOverSpare s c).twb bus).attn = (Table.get ({} : Twb) s.twb bus).attn) := by
  simp [State.handOverSpare]

@[simp] theorem State.takeStep_frame (s : State) (c : Nat) :
    (State.takeStep s c).now = s.now ∧
      (State.takeStep s c).pending = s.pending ∧
      (State.takeStep s c).flt.queue = s.flt.queue ∧
      (State.takeStep s c).rcd.waiting = s.rcd.waiting ∧
      (∀ bus, (Table.get ({} : Twb) (State.takeStep s c).twb bus).attn = (Table.get ({} : Twb) s.twb bus).attn) := by
  simp [State.takeStep]

@[simp] theorem State.releaseSteps_frame (s : State) (c : Nat) :
    (State.releaseSteps s c).now = s.now ∧
      (State.releaseSteps s c).pending = s.pending ∧
      (State.releaseSteps s c).flt.queue = s.flt.queue ∧
      (State.releaseSteps s c).rcd.waiting = s.rcd.waiting ∧
      (∀ bus, (Table.get ({} : Twb) (State.releaseSteps s c).twb bus).attn = (Table.get ({} : Twb) s.twb bus).attn) := by
  unfold State.releaseSteps; split <;> simp

@[simp] theorem writeWin_frame (c : Nat) (v : Nat) (s : State) :
    (writeWin c v s).now = s.now ∧
      (writeWin c v s).pending = s.pending ∧
      (writeWin c v s).flt.queue = s.flt.queue ∧
      (writeWin c v s).rcd.waiting = s.rcd.waiting ∧
      (∀ bus, (Table.get ({} : Twb) (writeWin c v s).twb bus).attn = (Table.get ({} : Twb) s.twb bus).attn) := by
  simp [writeWin]

@[simp] theorem writeAtt_frame (c : Nat) (v : Nat) (s : State) :
    (writeAtt c v s).now = s.now ∧
      (writeAtt c v s).pending = s.pending ∧
      (writeAtt c v s).flt.queue = s.flt.queue ∧
      (writeAtt c v s).rcd.waiting = s.rcd.waiting ∧
      (∀ bus, (Table.get ({} : Twb) (writeAtt c v s).twb bus).attn = (Table.get ({} : Twb) s.twb bus).attn) := by
  simp [writeAtt]


end Sys2Proof.Machine
end

