-- ==== Sys2Proof/Laws/FramesPath.lean ====
section
/-!
SUPPORT. What each operation of the band, filter, canceller, governor, control, bus, housekeeping, thermal and front-end families leaves alone: the time, the waiting commands, and
the bounded queues of the collector, the recorder and the two-wire buses.
-/

namespace Sys2Proof.Machine

/-! BandOps -/

@[simp] theorem State.effLost_frame (s : State) (g : Nat) :
    (State.effLost s g).now = s.now ∧
      (State.effLost s g).pending = s.pending ∧
      (State.effLost s g).flt.queue = s.flt.queue ∧
      (State.effLost s g).rcd.waiting = s.rcd.waiting ∧
      (∀ bus, (Table.get ({} : Twb) (State.effLost s g).twb bus).attn = (Table.get ({} : Twb) s.twb bus).attn) := by
  simp [State.effLost]

@[simp] theorem State.pathsChanged_frame (s : State) (gs : List Nat) :
    (State.pathsChanged s gs).now = s.now ∧
      (State.pathsChanged s gs).pending = s.pending ∧
      (State.pathsChanged s gs).flt.queue = s.flt.queue ∧
      (State.pathsChanged s gs).rcd.waiting = s.rcd.waiting ∧
      (∀ bus, (Table.get ({} : Twb) (State.pathsChanged s gs).twb bus).attn = (Table.get ({} : Twb) s.twb bus).attn) := by
  simp [State.pathsChanged]

@[simp] theorem State.recentreAll_frame (s : State) (g : Nat) :
    (State.recentreAll s g).now = s.now ∧
      (State.recentreAll s g).pending = s.pending ∧
      (State.recentreAll s g).flt.queue = s.flt.queue ∧
      (State.recentreAll s g).rcd.waiting = s.rcd.waiting ∧
      (∀ bus, (Table.get ({} : Twb) (State.recentreAll s g).twb bus).attn = (Table.get ({} : Twb) s.twb bus).attn) := by
  simp [State.recentreAll]

@[simp] theorem State.sourcesChanged_frame (s : State) (gs : List Nat) :
    (State.sourcesChanged s gs).now = s.now ∧
      (State.sourcesChanged s gs).pending = s.pending ∧
      (State.sourcesChanged s gs).flt.queue = s.flt.queue ∧
      (State.sourcesChanged s gs).rcd.waiting = s.rcd.waiting ∧
      (∀ bus, (Table.get ({} : Twb) (State.sourcesChanged s gs).twb bus).attn = (Table.get ({} : Twb) s.twb bus).attn) := by
  simp [State.sourcesChanged]

@[simp] theorem State.groupChanged_frame (s : State) (g : Nat) :
    (State.groupChanged s g).now = s.now ∧
      (State.groupChanged s g).pending = s.pending ∧
      (State.groupChanged s g).flt.queue = s.flt.queue ∧
      (State.groupChanged s g).rcd.waiting = s.rcd.waiting ∧
      (∀ bus, (Table.get ({} : Twb) (State.groupChanged s g).twb bus).attn = (Table.get ({} : Twb) s.twb bus).attn) := by
  simp [State.groupChanged]

@[simp] theorem State.probeDone_frame (s : State) (cmd : Option CmdRef) (g : Nat) (status : Nat) (sub : Nat) :
    (State.probeDone s cmd g status sub).now = s.now ∧
      (State.probeDone s cmd g status sub).pending = s.pending ∧
      (State.probeDone s cmd g status sub).flt.queue = s.flt.queue ∧
      (State.probeDone s cmd g status sub).rcd.waiting = s.rcd.waiting ∧
      (∀ bus, (Table.get ({} : Twb) (State.probeDone s cmd g status sub).twb bus).attn = (Table.get ({} : Twb) s.twb bus).attn) := by
  unfold State.probeDone; split <;> simp

@[simp] theorem State.stopProbe_frame (s : State) (g : Nat) (status : Nat) (sub : Nat) :
    (State.stopProbe s g status sub).now = s.now ∧
      (State.stopProbe s g status sub).pending = s.pending ∧
      (State.stopProbe s g status sub).flt.queue = s.flt.queue ∧
      (State.stopProbe s g status sub).rcd.waiting = s.rcd.waiting ∧
      (∀ bus, (Table.get ({} : Twb) (State.stopProbe s g status sub).twb bus).attn = (Table.get ({} : Twb) s.twb bus).attn) := by
  unfold State.stopProbe; split <;> simp

@[simp] theorem State.fadeDone_frame (s : State) (cmd : Option CmdRef) (g : Nat) :
    (State.fadeDone s cmd g).now = s.now ∧
      (State.fadeDone s cmd g).pending = s.pending ∧
      (State.fadeDone s cmd g).flt.queue = s.flt.queue ∧
      (State.fadeDone s cmd g).rcd.waiting = s.rcd.waiting ∧
      (∀ bus, (Table.get ({} : Twb) (State.fadeDone s cmd g).twb bus).attn = (Table.get ({} : Twb) s.twb bus).attn) := by
  simp [State.fadeDone]

@[simp] theorem State.startOutput_frame (s : State) (g : Nat) :
    (State.startOutput s g).now = s.now ∧
      (State.startOutput s g).pending = s.pending ∧
      (State.startOutput s g).flt.queue = s.flt.queue ∧
      (State.startOutput s g).rcd.waiting = s.rcd.waiting ∧
      (∀ bus, (Table.get ({} : Twb) (State.startOutput s g).twb bus).attn = (Table.get ({} : Twb) s.twb bus).attn) := by
  simp [State.startOutput]

@[simp] theorem State.resumeBlocks_frame (s : State) (g : Nat) :
    (State.resumeBlocks s g).now = s.now ∧
      (State.resumeBlocks s g).pending = s.pending ∧
      (State.resumeBlocks s g).flt.queue = s.flt.queue ∧
      (State.resumeBlocks s g).rcd.waiting = s.rcd.waiting ∧
      (∀ bus, (Table.get ({} : Twb) (State.resumeBlocks s g).twb bus).attn = (Table.get ({} : Twb) s.twb bus).attn) := by
  simp [State.resumeBlocks]

@[simp] theorem State.resumeOutputs_frame (s : State) (g : Nat) :
    (State.resumeOutputs s g).now = s.now ∧
      (State.resumeOutputs s g).pending = s.pending ∧
      (State.resumeOutputs s g).flt.queue = s.flt.queue ∧
      (State.resumeOutputs s g).rcd.waiting = s.rcd.waiting ∧
      (∀ bus, (Table.get ({} : Twb) (State.resumeOutputs s g).twb bus).attn = (Table.get ({} : Twb) s.twb bus).attn) := by
  simp [State.resumeOutputs]

@[simp] theorem State.unshed_frame (s : State) (c : Nat) :
    (State.unshed s c).now = s.now ∧
      (State.unshed s c).pending = s.pending ∧
      (State.unshed s c).flt.queue = s.flt.queue ∧
      (State.unshed s c).rcd.waiting = s.rcd.waiting ∧
      (∀ bus, (Table.get ({} : Twb) (State.unshed s c).twb bus).attn = (Table.get ({} : Twb) s.twb bus).attn) := by
  simp [State.unshed]

@[simp] theorem State.shedDown_frame (s : State) (c : Nat) :
    (State.shedDown s c).now = s.now ∧
      (State.shedDown s c).pending = s.pending ∧
      (State.shedDown s c).flt.queue = s.flt.queue ∧
      (State.shedDown s c).rcd.waiting = s.rcd.waiting ∧
      (∀ bus, (Table.get ({} : Twb) (State.shedDown s c).twb bus).attn = (Table.get ({} : Twb) s.twb bus).attn) := by
  simp [State.shedDown]

@[simp] theorem State.endFades_frame (s : State) (g : Nat) :
    (State.endFades s g).now = s.now ∧
      (State.endFades s g).pending = s.pending ∧
      (State.endFades s g).flt.queue = s.flt.queue ∧
      (State.endFades s g).rcd.waiting = s.rcd.waiting ∧
      (∀ bus, (Table.get ({} : Twb) (State.endFades s g).twb bus).attn = (Table.get ({} : Twb) s.twb bus).attn) := by
  unfold State.endFades; dsimp only; repeat' split
  all_goals simp

@[simp] theorem State.endFadesThat_frame (s : State) (g : Nat) (p : Fade → Bool) :
    (State.endFadesThat s g p).now = s.now ∧
      (State.endFadesThat s g p).pending = s.pending ∧
      (State.endFadesThat s g p).flt.queue = s.flt.queue ∧
      (State.endFadesThat s g p).rcd.waiting = s.rcd.waiting ∧
      (∀ bus, (Table.get ({} : Twb) (State.endFadesThat s g p).twb bus).attn = (Table.get ({} : Twb) s.twb bus).attn) := by
  simp [State.endFadesThat]

@[simp] theorem State.endHard_frame (s : State) (g : Nat) :
    (State.endHard s g).now = s.now ∧
      (State.endHard s g).pending = s.pending ∧
      (State.endHard s g).flt.queue = s.flt.queue ∧
      (State.endHard s g).rcd.waiting = s.rcd.waiting ∧
      (∀ bus, (Table.get ({} : Twb) (State.endHard s g).twb bus).attn = (Table.get ({} : Twb) s.twb bus).attn) := by
  unfold State.endHard; split <;> simp

@[simp] theorem State.retuneNow_frame (s : State) (gs : List Nat) (rx : Int) (tx : Int) (due : Nat) :
    (State.retuneNow s gs rx tx due).now = s.now ∧
      (State.retuneNow s gs rx tx due).pending = s.pending ∧
      (State.retuneNow s gs rx tx due).flt.queue = s.flt.queue ∧
      (State.retuneNow s gs rx tx due).rcd.waiting = s.rcd.waiting ∧
      (∀ bus, (Table.get ({} : Twb) (State.retuneNow s gs rx tx due).twb bus).attn = (Table.get ({} : Twb) s.twb bus).attn) := by
  simp [State.retuneNow]

@[simp] theorem State.endRetune_frame (s : State) (g : Nat) :
    (State.endRetune s g).now = s.now ∧
      (State.endRetune s g).pending = s.pending ∧
      (State.endRetune s g).flt.queue = s.flt.queue ∧
      (State.endRetune s g).rcd.waiting = s.rcd.waiting ∧
      (∀ bus, (Table.get ({} : Twb) (State.endRetune s g).twb bus).attn = (Table.get ({} : Twb) s.twb bus).attn) := by
  unfold State.endRetune; split <;> simp

@[simp] theorem State.leaveRetunes_frame (s : State) (g : Nat) :
    (State.leaveRetunes s g).now = s.now ∧
      (State.leaveRetunes s g).pending = s.pending ∧
      (State.leaveRetunes s g).flt.queue = s.flt.queue ∧
      (State.leaveRetunes s g).rcd.waiting = s.rcd.waiting ∧
      (∀ bus, (Table.get ({} : Twb) (State.leaveRetunes s g).twb bus).attn = (Table.get ({} : Twb) s.twb bus).attn) := by
  simp [State.leaveRetunes]

@[simp] theorem State.storeRetunes_frame (s : State) (g : Nat) :
    (State.storeRetunes s g).now = s.now ∧
      (State.storeRetunes s g).pending = s.pending ∧
      (State.storeRetunes s g).flt.queue = s.flt.queue ∧
      (State.storeRetunes s g).rcd.waiting = s.rcd.waiting ∧
      (∀ bus, (Table.get ({} : Twb) (State.storeRetunes s g).twb bus).attn = (Table.get ({} : Twb) s.twb bus).attn) := by
  unfold State.storeRetunes; split <;> simp

@[simp] theorem State.leaveHardOf_frame (g : Nat) (s : State) (h : Nat) :
    (State.leaveHardOf g s h).now = s.now ∧
      (State.leaveHardOf g s h).pending = s.pending ∧
      (State.leaveHardOf g s h).flt.queue = s.flt.queue ∧
      (State.leaveHardOf g s h).rcd.waiting = s.rcd.waiting ∧
      (∀ bus, (Table.get ({} : Twb) (State.leaveHardOf g s h).twb bus).attn = (Table.get ({} : Twb) s.twb bus).attn) := by
  unfold State.leaveHardOf; split <;> simp

@[simp] theorem State.leaveHard_frame (s : State) (g : Nat) :
    (State.leaveHard s g).now = s.now ∧
      (State.leaveHard s g).pending = s.pending ∧
      (State.leaveHard s g).flt.queue = s.flt.queue ∧
      (State.leaveHard s g).rcd.waiting = s.rcd.waiting ∧
      (∀ bus, (Table.get ({} : Twb) (State.leaveHard s g).twb bus).attn = (Table.get ({} : Twb) s.twb bus).attn) := by
  simp [State.leaveHard]

@[simp] theorem State.endSwitches_frame (s : State) (g : Nat) :
    (State.endSwitches s g).now = s.now ∧
      (State.endSwitches s g).pending = s.pending ∧
      (State.endSwitches s g).flt.queue = s.flt.queue ∧
      (State.endSwitches s g).rcd.waiting = s.rcd.waiting ∧
      (∀ bus, (Table.get ({} : Twb) (State.endSwitches s g).twb bus).attn = (Table.get ({} : Twb) s.twb bus).attn) := by
  simp [State.endSwitches]

@[simp] theorem State.endRetunes_frame (s : State) (g : Nat) :
    (State.endRetunes s g).now = s.now ∧
      (State.endRetunes s g).pending = s.pending ∧
      (State.endRetunes s g).flt.queue = s.flt.queue ∧
      (State.endRetunes s g).rcd.waiting = s.rcd.waiting ∧
      (∀ bus, (Table.get ({} : Twb) (State.endRetunes s g).twb bus).attn = (Table.get ({} : Twb) s.twb bus).attn) := by
  simp [State.endRetunes]

@[simp] theorem State.dropSyncs_frame (s : State) (g : Nat) (status : Nat) (sub : Nat) :
    (State.dropSyncs s g status sub).now = s.now ∧
      (State.dropSyncs s g status sub).pending = s.pending ∧
      (State.dropSyncs s g status sub).flt.queue = s.flt.queue ∧
      (State.dropSyncs s g status sub).rcd.waiting = s.rcd.waiting ∧
      (∀ bus, (Table.get ({} : Twb) (State.dropSyncs s g status sub).twb bus).attn = (Table.get ({} : Twb) s.twb bus).attn) := by
  simp [State.dropSyncs]

@[simp] theorem State.resetAt_frame (s : State) (g : Nat) (m : Nat) (fresh : Bool) :
    (State.resetAt s g m fresh).now = s.now ∧
      (State.resetAt s g m fresh).pending = s.pending ∧
      (State.resetAt s g m fresh).flt.queue = s.flt.queue ∧
      (State.resetAt s g m fresh).rcd.waiting = s.rcd.waiting ∧
      (∀ bus, (Table.get ({} : Twb) (State.resetAt s g m fresh).twb bus).attn = (Table.get ({} : Twb) s.twb bus).attn) := by
  simp [State.resetAt]

@[simp] theorem State.startOutputs_frame (s : State) (gs : List Nat) (shed : List Nat) :
    (State.startOutputs s gs shed).now = s.now ∧
      (State.startOutputs s gs shed).pending = s.pending ∧
      (State.startOutputs s gs shed).flt.queue = s.flt.queue ∧
      (State.startOutputs s gs shed).rcd.waiting = s.rcd.waiting ∧
      (∀ bus, (Table.get ({} : Twb) (State.startOutputs s gs shed).twb bus).attn = (Table.get ({} : Twb) s.twb bus).attn) := by
  simp [State.startOutputs]

@[simp] theorem State.beginOutputs_frame (s : State) (gs : List Nat) :
    (State.beginOutputs s gs).now = s.now ∧
      (State.beginOutputs s gs).pending = s.pending ∧
      (State.beginOutputs s gs).flt.queue = s.flt.queue ∧
      (State.beginOutputs s gs).rcd.waiting = s.rcd.waiting ∧
      (∀ bus, (Table.get ({} : Twb) (State.beginOutputs s gs).twb bus).attn = (Table.get ({} : Twb) s.twb bus).attn) := by
  simp [State.beginOutputs]

@[simp] theorem State.govDisabled_frame (s : State) (g : Nat) :
    (State.govDisabled s g).now = s.now ∧
      (State.govDisabled s g).pending = s.pending ∧
      (State.govDisabled s g).flt.queue = s.flt.queue ∧
      (State.govDisabled s g).rcd.waiting = s.rcd.waiting ∧
      (∀ bus, (Table.get ({} : Twb) (State.govDisabled s g).twb bus).attn = (Table.get ({} : Twb) s.twb bus).attn) := by
  simp [State.govDisabled]

@[simp] theorem State.disableNow_frame (s : State) (g : Nat) :
    (State.disableNow s g).now = s.now ∧
      (State.disableNow s g).pending = s.pending ∧
      (State.disableNow s g).flt.queue = s.flt.queue ∧
      (State.disableNow s g).rcd.waiting = s.rcd.waiting ∧
      (∀ bus, (Table.get ({} : Twb) (State.disableNow s g).twb bus).attn = (Table.get ({} : Twb) s.twb bus).attn) := by
  unfold State.disableNow; dsimp only; repeat' split
  all_goals simp


/-! Bands -/

@[simp] theorem State.storeSb_frame (s : State) (g : Nat) (k : SbConfig) :
    (State.storeSb s g k).now = s.now ∧
      (State.storeSb s g k).pending = s.pending ∧
      (State.storeSb s g k).flt.queue = s.flt.queue ∧
      (State.storeSb s g k).rcd.waiting = s.rcd.waiting ∧
      (∀ bus, (Table.get ({} : Twb) (State.storeSb s g k).twb bus).attn = (Table.get ({} : Twb) s.twb bus).attn) := by
  simp [State.storeSb]

@[simp] theorem applySbConfigure_frame (ref : CmdRef) (r : Request) (s : State) :
    (applySbConfigure ref r s).now = s.now ∧
      (applySbConfigure ref r s).pending = s.pending ∧
      (applySbConfigure ref r s).flt.queue = s.flt.queue ∧
      (applySbConfigure ref r s).rcd.waiting = s.rcd.waiting ∧
      (∀ bus, (Table.get ({} : Twb) (applySbConfigure ref r s).twb bus).attn = (Table.get ({} : Twb) s.twb bus).attn) := by
  simp [applySbConfigure]

@[simp] theorem applySbRetune_frame (ref : CmdRef) (r : Request) (s : State) :
    (applySbRetune ref r s).now = s.now ∧
      (applySbRetune ref r s).pending = s.pending ∧
      (applySbRetune ref r s).flt.queue = s.flt.queue ∧
      (applySbRetune ref r s).rcd.waiting = s.rcd.waiting ∧
      (∀ bus, (Table.get ({} : Twb) (applySbRetune ref r s).twb bus).attn = (Table.get ({} : Twb) s.twb bus).attn) := by
  simp [applySbRetune]


/-! Filters -/

@[simp] theorem State.takeTaps_frame (s : State) (g : Nat) (l : CoefLoad) :
    (State.takeTaps s g l).now = s.now ∧
      (State.takeTaps s g l).pending = s.pending ∧
      (State.takeTaps s g l).flt.queue = s.flt.queue ∧
      (State.takeTaps s g l).rcd.waiting = s.rcd.waiting ∧
      (∀ bus, (Table.get ({} : Twb) (State.takeTaps s g l).twb bus).attn = (Table.get ({} : Twb) s.twb bus).attn) := by
  simp [State.takeTaps]

@[simp] theorem State.finishLoad_frame (s : State) (l : CoefLoad) :
    (State.finishLoad s l).now = s.now ∧
      (State.finishLoad s l).pending = s.pending ∧
      (State.finishLoad s l).flt.queue = s.flt.queue ∧
      (State.finishLoad s l).rcd.waiting = s.rcd.waiting ∧
      (∀ bus, (Table.get ({} : Twb) (State.finishLoad s l).twb bus).attn = (Table.get ({} : Twb) s.twb bus).attn) := by
  unfold State.finishLoad; split <;> simp

@[simp] theorem applySbLoadCoef_frame (ref : CmdRef) (r : Request) (s : State) :
    (applySbLoadCoef ref r s).now = s.now ∧
      (applySbLoadCoef ref r s).pending = s.pending ∧
      (applySbLoadCoef ref r s).flt.queue = s.flt.queue ∧
      (applySbLoadCoef ref r s).rcd.waiting = s.rcd.waiting ∧
      (∀ bus, (Table.get ({} : Twb) (applySbLoadCoef ref r s).twb bus).attn = (Table.get ({} : Twb) s.twb bus).attn) := by
  simp [applySbLoadCoef]

@[simp] theorem applySbSwitchBank_frame (ref : CmdRef) (r : Request) (s : State) :
    (applySbSwitchBank ref r s).now = s.now ∧
      (applySbSwitchBank ref r s).pending = s.pending ∧
      (applySbSwitchBank ref r s).flt.queue = s.flt.queue ∧
      (applySbSwitchBank ref r s).rcd.waiting = s.rcd.waiting ∧
      (∀ bus, (Table.get ({} : Twb) (applySbSwitchBank ref r s).twb bus).attn = (Table.get ({} : Twb) s.twb bus).attn) := by
  simp [applySbSwitchBank]

@[simp] theorem applySbSyncReset_frame (ref : CmdRef) (r : Request) (s : State) :
    (applySbSyncReset ref r s).now = s.now ∧
      (applySbSyncReset ref r s).pending = s.pending ∧
      (applySbSyncReset ref r s).flt.queue = s.flt.queue ∧
      (applySbSyncReset ref r s).rcd.waiting = s.rcd.waiting ∧
      (∀ bus, (Table.get ({} : Twb) (applySbSyncReset ref r s).twb bus).attn = (Table.get ({} : Twb) s.twb bus).attn) := by
  simp [applySbSyncReset]

@[simp] theorem State.setDcb_frame (s : State) (g : Nat) (en : Bool) (freeze : Bool) (k : Nat) :
    (State.setDcb s g en freeze k).now = s.now ∧
      (State.setDcb s g en freeze k).pending = s.pending ∧
      (State.setDcb s g en freeze k).flt.queue = s.flt.queue ∧
      (State.setDcb s g en freeze k).rcd.waiting = s.rcd.waiting ∧
      (∀ bus, (Table.get ({} : Twb) (State.setDcb s g en freeze k).twb bus).attn = (Table.get ({} : Twb) s.twb bus).attn) := by
  simp [State.setDcb]

@[simp] theorem applySbDcb_frame (ref : CmdRef) (r : Request) (s : State) :
    (applySbDcb ref r s).now = s.now ∧
      (applySbDcb ref r s).pending = s.pending ∧
      (applySbDcb ref r s).flt.queue = s.flt.queue ∧
      (applySbDcb ref r s).rcd.waiting = s.rcd.waiting ∧
      (∀ bus, (Table.get ({} : Twb) (applySbDcb ref r s).twb bus).attn = (Table.get ({} : Twb) s.twb bus).attn) := by
  simp [applySbDcb]


/-! Canceller -/

@[simp] theorem State.clearCan_frame (s : State) (g : Nat) :
    (State.clearCan s g).now = s.now ∧
      (State.clearCan s g).pending = s.pending ∧
      (State.clearCan s g).flt.queue = s.flt.queue ∧
      (State.clearCan s g).rcd.waiting = s.rcd.waiting ∧
      (∀ bus, (Table.get ({} : Twb) (State.clearCan s g).twb bus).attn = (Table.get ({} : Twb) s.twb bus).attn) := by
  simp [State.clearCan]

@[simp] theorem State.mapReloaded_frame (s : State) (g : Nat) :
    (State.mapReloaded s g).now = s.now ∧
      (State.mapReloaded s g).pending = s.pending ∧
      (State.mapReloaded s g).flt.queue = s.flt.queue ∧
      (State.mapReloaded s g).rcd.waiting = s.rcd.waiting ∧
      (∀ bus, (Table.get ({} : Twb) (State.mapReloaded s g).twb bus).attn = (Table.get ({} : Twb) s.twb bus).attn) := by
  simp [State.mapReloaded]

@[simp] theorem State.setCan_frame (s : State) (g : Nat) (k : CanSet) (clear : Bool) :
    (State.setCan s g k clear).now = s.now ∧
      (State.setCan s g k clear).pending = s.pending ∧
      (State.setCan s g k clear).flt.queue = s.flt.queue ∧
      (State.setCan s g k clear).rcd.waiting = s.rcd.waiting ∧
      (∀ bus, (Table.get ({} : Twb) (State.setCan s g k clear).twb bus).attn = (Table.get ({} : Twb) s.twb bus).attn) := by
  simp [State.setCan]

@[simp] theorem applyCanConfigure_frame (ref : CmdRef) (r : Request) (s : State) :
    (applyCanConfigure ref r s).now = s.now ∧
      (applyCanConfigure ref r s).pending = s.pending ∧
      (applyCanConfigure ref r s).flt.queue = s.flt.queue ∧
      (applyCanConfigure ref r s).rcd.waiting = s.rcd.waiting ∧
      (∀ bus, (Table.get ({} : Twb) (applyCanConfigure ref r s).twb bus).attn = (Table.get ({} : Twb) s.twb bus).attn) := by
  simp [applyCanConfigure]

@[simp] theorem applyCanFreeze_frame (ref : CmdRef) (r : Request) (s : State) :
    (applyCanFreeze ref r s).now = s.now ∧
      (applyCanFreeze ref r s).pending = s.pending ∧
      (applyCanFreeze ref r s).flt.queue = s.flt.queue ∧
      (applyCanFreeze ref r s).rcd.waiting = s.rcd.waiting ∧
      (∀ bus, (Table.get ({} : Twb) (applyCanFreeze ref r s).twb bus).attn = (Table.get ({} : Twb) s.twb bus).attn) := by
  simp [applyCanFreeze]

@[simp] theorem applyCanMapRead_frame (ref : CmdRef) (r : Request) (s : State) :
    (applyCanMapRead ref r s).now = s.now ∧
      (applyCanMapRead ref r s).pending = s.pending ∧
      (applyCanMapRead ref r s).flt.queue = s.flt.queue ∧
      (applyCanMapRead ref r s).rcd.waiting = s.rcd.waiting ∧
      (∀ bus, (Table.get ({} : Twb) (applyCanMapRead ref r s).twb bus).attn = (Table.get ({} : Twb) s.twb bus).attn) := by
  simp [applyCanMapRead]

@[simp] theorem State.skipPresent_frame (s : State) (g : Nat) (ps : List Nat) :
    (State.skipPresent s g ps).now = s.now ∧
      (State.skipPresent s g ps).pending = s.pending ∧
      (State.skipPresent s g ps).flt.queue = s.flt.queue ∧
      (State.skipPresent s g ps).rcd.waiting = s.rcd.waiting ∧
      (∀ bus, (Table.get ({} : Twb) (State.skipPresent s g ps).twb bus).attn = (Table.get ({} : Twb) s.twb bus).attn) := by
  simp [State.skipPresent]

@[simp] theorem State.writePath_frame (s : State) (g : Nat) (bs : List Byte) (o : Nat) :
    (State.writePath s g bs o).now = s.now ∧
      (State.writePath s g bs o).pending = s.pending ∧
      (State.writePath s g bs o).flt.queue = s.flt.queue ∧
      (State.writePath s g bs o).rcd.waiting = s.rcd.waiting ∧
      (∀ bus, (Table.get ({} : Twb) (State.writePath s g bs o).twb bus).attn = (Table.get ({} : Twb) s.twb bus).attn) := by
  simp [State.writePath]

@[simp] theorem applyCanMapWrite_frame (ref : CmdRef) (r : Request) (s : State) :
    (applyCanMapWrite ref r s).now = s.now ∧
      (applyCanMapWrite ref r s).pending = s.pending ∧
      (applyCanMapWrite ref r s).flt.queue = s.flt.queue ∧
      (applyCanMapWrite ref r s).rcd.waiting = s.rcd.waiting ∧
      (∀ bus, (Table.get ({} : Twb) (applyCanMapWrite ref r s).twb bus).attn = (Table.get ({} : Twb) s.twb bus).attn) := by
  simp [applyCanMapWrite]

@[simp] theorem State.adaptPath_frame (s : State) (g : Nat) (i : Nat) (change : List Cx) :
    (State.adaptPath s g i change).now = s.now ∧
      (State.adaptPath s g i change).pending = s.pending ∧
      (State.adaptPath s g i change).flt.queue = s.flt.queue ∧
      (State.adaptPath s g i change).rcd.waiting = s.rcd.waiting ∧
      (∀ bus, (Table.get ({} : Twb) (State.adaptPath s g i change).twb bus).attn = (Table.get ({} : Twb) s.twb bus).attn) := by
  simp [State.adaptPath]

@[simp] theorem State.takeDue_frame (s : State) (g : Nat) (i : Nat) :
    (State.takeDue s g i).now = s.now ∧
      (State.takeDue s g i).pending = s.pending ∧
      (State.takeDue s g i).flt.queue = s.flt.queue ∧
      (State.takeDue s g i).rcd.waiting = s.rcd.waiting ∧
      (∀ bus, (Table.get ({} : Twb) (State.takeDue s g i).twb bus).attn = (Table.get ({} : Twb) s.twb bus).attn) := by
  unfold State.takeDue; dsimp only; repeat' split
  all_goals simp


/-! Governor -/

@[simp] theorem applyGovConfigure_frame (ref : CmdRef) (r : Request) (s : State) :
    (applyGovConfigure ref r s).now = s.now ∧
      (applyGovConfigure ref r s).pending = s.pending ∧
      (applyGovConfigure ref r s).flt.queue = s.flt.queue ∧
      (applyGovConfigure ref r s).rcd.waiting = s.rcd.waiting ∧
      (∀ bus, (Table.get ({} : Twb) (applyGovConfigure ref r s).twb bus).attn = (Table.get ({} : Twb) s.twb bus).attn) := by
  simp [applyGovConfigure]

@[simp] theorem State.endLatch_frame (s : State) (g : Nat) :
    (State.endLatch s g).now = s.now ∧
      (State.endLatch s g).pending = s.pending ∧
      (State.endLatch s g).flt.queue = s.flt.queue ∧
      (State.endLatch s g).rcd.waiting = s.rcd.waiting ∧
      (∀ bus, (Table.get ({} : Twb) (State.endLatch s g).twb bus).attn = (Table.get ({} : Twb) s.twb bus).attn) := by
  simp [State.endLatch]

@[simp] theorem applyGovRestart_frame (ref : CmdRef) (r : Request) (s : State) :
    (applyGovRestart ref r s).now = s.now ∧
      (applyGovRestart ref r s).pending = s.pending ∧
      (applyGovRestart ref r s).flt.queue = s.flt.queue ∧
      (applyGovRestart ref r s).rcd.waiting = s.rcd.waiting ∧
      (∀ bus, (Table.get ({} : Twb) (applyGovRestart ref r s).twb bus).attn = (Table.get ({} : Twb) s.twb bus).attn) := by
  simp [applyGovRestart]

@[simp] theorem State.keepPhys_frame (s : State) (g : Nat) :
    (State.keepPhys s g).now = s.now ∧
      (State.keepPhys s g).pending = s.pending ∧
      (State.keepPhys s g).flt.queue = s.flt.queue ∧
      (State.keepPhys s g).rcd.waiting = s.rcd.waiting ∧
      (∀ bus, (Table.get ({} : Twb) (State.keepPhys s g).twb bus).attn = (Table.get ({} : Twb) s.twb bus).attn) := by
  simp [State.keepPhys]

@[simp] theorem State.govCounted_frame (s : State) (g : Nat) :
    (State.govCounted s g).now = s.now ∧
      (State.govCounted s g).pending = s.pending ∧
      (State.govCounted s g).flt.queue = s.flt.queue ∧
      (State.govCounted s g).rcd.waiting = s.rcd.waiting ∧
      (∀ bus, (Table.get ({} : Twb) (State.govCounted s g).twb bus).attn = (Table.get ({} : Twb) s.twb bus).attn) := by
  simp [State.govCounted]

@[simp] theorem State.govMeasure_frame (s : State) (g : Nat) (ref : Rat) (sp : Spectra) :
    (State.govMeasure s g ref sp).now = s.now ∧
      (State.govMeasure s g ref sp).pending = s.pending ∧
      (State.govMeasure s g ref sp).flt.queue = s.flt.queue ∧
      (State.govMeasure s g ref sp).rcd.waiting = s.rcd.waiting ∧
      (∀ bus, (Table.get ({} : Twb) (State.govMeasure s g ref sp).twb bus).attn = (Table.get ({} : Twb) s.twb bus).attn) := by
  unfold State.govMeasure; dsimp only; repeat' split
  all_goals simp

@[simp] theorem State.oscMute_frame (s : State) (g : Nat) :
    (State.oscMute s g).now = s.now ∧
      (State.oscMute s g).pending = s.pending ∧
      (State.oscMute s g).flt.queue = s.flt.queue ∧
      (State.oscMute s g).rcd.waiting = s.rcd.waiting ∧
      (∀ bus, (Table.get ({} : Twb) (State.oscMute s g).twb bus).attn = (Table.get ({} : Twb) s.twb bus).attn) := by
  simp [State.oscMute]

@[simp] theorem State.startProbe_frame (s : State) (g : Nat) (p : Probe) :
    (State.startProbe s g p).now = s.now ∧
      (State.startProbe s g p).pending = s.pending ∧
      (State.startProbe s g p).flt.queue = s.flt.queue ∧
      (State.startProbe s g p).rcd.waiting = s.rcd.waiting ∧
      (∀ bus, (Table.get ({} : Twb) (State.startProbe s g p).twb bus).attn = (Table.get ({} : Twb) s.twb bus).attn) := by
  simp [State.startProbe]

@[simp] theorem applyCanProbe_frame (ref : CmdRef) (r : Request) (s : State) :
    (applyCanProbe ref r s).now = s.now ∧
      (applyCanProbe ref r s).pending = s.pending ∧
      (applyCanProbe ref r s).flt.queue = s.flt.queue ∧
      (applyCanProbe ref r s).rcd.waiting = s.rcd.waiting ∧
      (∀ bus, (Table.get ({} : Twb) (applyCanProbe ref r s).twb bus).attn = (Table.get ({} : Twb) s.twb bus).attn) := by
  simp [applyCanProbe]

@[simp] theorem State.takeProbe_frame (s : State) (g : Nat) (p : Probe) :
    (State.takeProbe s g p).now = s.now ∧
      (State.takeProbe s g p).pending = s.pending ∧
      (State.takeProbe s g p).flt.queue = s.flt.queue ∧
      (State.takeProbe s g p).rcd.waiting = s.rcd.waiting ∧
      (∀ bus, (Table.get ({} : Twb) (State.takeProbe s g p).twb bus).attn = (Table.get ({} : Twb) s.twb bus).attn) := by
  simp [State.takeProbe]

@[simp] theorem State.keepIso_frame (s : State) (g : Nat) :
    (State.keepIso s g).now = s.now ∧
      (State.keepIso s g).pending = s.pending ∧
      (State.keepIso s g).flt.queue = s.flt.queue ∧
      (State.keepIso s g).rcd.waiting = s.rcd.waiting ∧
      (∀ bus, (Table.get ({} : Twb) (State.keepIso s g).twb bus).attn = (Table.get ({} : Twb) s.twb bus).attn) := by
  unfold State.keepIso; split <;> simp

@[simp] theorem State.storeIso_frame (s : State) :
    (State.storeIso s).now = s.now ∧
      (State.storeIso s).pending = s.pending ∧
      (State.storeIso s).flt.queue = s.flt.queue ∧
      (State.storeIso s).rcd.waiting = s.rcd.waiting ∧
      (∀ bus, (Table.get ({} : Twb) (State.storeIso s).twb bus).attn = (Table.get ({} : Twb) s.twb bus).attn) := by
  simp [State.storeIso]


/-! Control -/

@[simp] theorem State.countLoop_frame (s : State) (g : Nat) (m : LoopMeas) :
    (State.countLoop s g m).now = s.now ∧
      (State.countLoop s g m).pending = s.pending ∧
      (State.countLoop s g m).flt.queue = s.flt.queue ∧
      (State.countLoop s g m).rcd.waiting = s.rcd.waiting ∧
      (∀ bus, (Table.get ({} : Twb) (State.countLoop s g m).twb bus).attn = (Table.get ({} : Twb) s.twb bus).attn) := by
  unfold State.countLoop; dsimp only; repeat' split
  all_goals simp

@[simp] theorem State.loopTick_frame (s : State) (g : Nat) (missed : Bool) :
    (State.loopTick s g missed).now = s.now ∧
      (State.loopTick s g missed).pending = s.pending ∧
      (State.loopTick s g missed).flt.queue = s.flt.queue ∧
      (State.loopTick s g missed).rcd.waiting = s.rcd.waiting ∧
      (∀ bus, (Table.get ({} : Twb) (State.loopTick s g missed).twb bus).attn = (Table.get ({} : Twb) s.twb bus).attn) := by
  simp [State.loopTick]

@[simp] theorem State.setMode_frame (s : State) (ref : CmdRef) (l : Nat) (mode : Nat) :
    (State.setMode s ref l mode).now = s.now ∧
      (State.setMode s ref l mode).pending = s.pending ∧
      (State.setMode s ref l mode).flt.queue = s.flt.queue ∧
      (State.setMode s ref l mode).rcd.waiting = s.rcd.waiting ∧
      (∀ bus, (Table.get ({} : Twb) (State.setMode s ref l mode).twb bus).attn = (Table.get ({} : Twb) s.twb bus).attn) := by
  simp [State.setMode]

@[simp] theorem applyCtlSetMode_frame (ref : CmdRef) (r : Request) (s : State) :
    (applyCtlSetMode ref r s).now = s.now ∧
      (applyCtlSetMode ref r s).pending = s.pending ∧
      (applyCtlSetMode ref r s).flt.queue = s.flt.queue ∧
      (applyCtlSetMode ref r s).rcd.waiting = s.rcd.waiting ∧
      (∀ bus, (Table.get ({} : Twb) (applyCtlSetMode ref r s).twb bus).attn = (Table.get ({} : Twb) s.twb bus).attn) := by
  simp [applyCtlSetMode]

@[simp] theorem State.setPoint_frame (s : State) (ref : CmdRef) (l : Nat) (which : Nat) (v : Int) (slew : Nat) :
    (State.setPoint s ref l which v slew).now = s.now ∧
      (State.setPoint s ref l which v slew).pending = s.pending ∧
      (State.setPoint s ref l which v slew).flt.queue = s.flt.queue ∧
      (State.setPoint s ref l which v slew).rcd.waiting = s.rcd.waiting ∧
      (∀ bus, (Table.get ({} : Twb) (State.setPoint s ref l which v slew).twb bus).attn = (Table.get ({} : Twb) s.twb bus).attn) := by
  simp [State.setPoint]

@[simp] theorem State.pointDone_frame (s : State) (ref : CmdRef) (l : Nat) (which : Nat) (startedAt : Time) :
    (State.pointDone s ref l which startedAt).now = s.now ∧
      (State.pointDone s ref l which startedAt).pending = s.pending ∧
      (State.pointDone s ref l which startedAt).flt.queue = s.flt.queue ∧
      (State.pointDone s ref l which startedAt).rcd.waiting = s.rcd.waiting ∧
      (∀ bus, (Table.get ({} : Twb) (State.pointDone s ref l which startedAt).twb bus).attn = (Table.get ({} : Twb) s.twb bus).attn) := by
  simp [State.pointDone]

@[simp] theorem applyCtlSetPoint_frame (ref : CmdRef) (r : Request) (s : State) :
    (applyCtlSetPoint ref r s).now = s.now ∧
      (applyCtlSetPoint ref r s).pending = s.pending ∧
      (applyCtlSetPoint ref r s).flt.queue = s.flt.queue ∧
      (applyCtlSetPoint ref r s).rcd.waiting = s.rcd.waiting ∧
      (∀ bus, (Table.get ({} : Twb) (applyCtlSetPoint ref r s).twb bus).attn = (Table.get ({} : Twb) s.twb bus).attn) := by
  simp [applyCtlSetPoint]

@[simp] theorem applyCtlSetSchedule_frame (ref : CmdRef) (r : Request) (s : State) :
    (applyCtlSetSchedule ref r s).now = s.now ∧
      (applyCtlSetSchedule ref r s).pending = s.pending ∧
      (applyCtlSetSchedule ref r s).flt.queue = s.flt.queue ∧
      (applyCtlSetSchedule ref r s).rcd.waiting = s.rcd.waiting ∧
      (∀ bus, (Table.get ({} : Twb) (applyCtlSetSchedule ref r s).twb bus).attn = (Table.get ({} : Twb) s.twb bus).attn) := by
  simp [applyCtlSetSchedule]

@[simp] theorem applyCtlInject_frame (ref : CmdRef) (r : Request) (s : State) :
    (applyCtlInject ref r s).now = s.now ∧
      (applyCtlInject ref r s).pending = s.pending ∧
      (applyCtlInject ref r s).flt.queue = s.flt.queue ∧
      (applyCtlInject ref r s).rcd.waiting = s.rcd.waiting ∧
      (∀ bus, (Table.get ({} : Twb) (applyCtlInject ref r s).twb bus).attn = (Table.get ({} : Twb) s.twb bus).attn) := by
  simp [applyCtlInject]

@[simp] theorem applyCtlRepLearn_frame (ref : CmdRef) (r : Request) (s : State) :
    (applyCtlRepLearn ref r s).now = s.now ∧
      (applyCtlRepLearn ref r s).pending = s.pending ∧
      (applyCtlRepLearn ref r s).flt.queue = s.flt.queue ∧
      (applyCtlRepLearn ref r s).rcd.waiting = s.rcd.waiting ∧
      (∀ bus, (Table.get ({} : Twb) (applyCtlRepLearn ref r s).twb bus).attn = (Table.get ({} : Twb) s.twb bus).attn) := by
  unfold applyCtlRepLearn; dsimp only; repeat' split
  all_goals simp

@[simp] theorem writePlaus_frame (c : Nat) (v : Nat) (s : State) :
    (writePlaus c v s).now = s.now ∧
      (writePlaus c v s).pending = s.pending ∧
      (writePlaus c v s).flt.queue = s.flt.queue ∧
      (writePlaus c v s).rcd.waiting = s.rcd.waiting ∧
      (∀ bus, (Table.get ({} : Twb) (writePlaus c v s).twb bus).attn = (Table.get ({} : Twb) s.twb bus).attn) := by
  simp [writePlaus]

@[simp] theorem writeLineup_frame (c : Nat) (v : Nat) (s : State) :
    (writeLineup c v s).now = s.now ∧
      (writeLineup c v s).pending = s.pending ∧
      (writeLineup c v s).flt.queue = s.flt.queue ∧
      (writeLineup c v s).rcd.waiting = s.rcd.waiting ∧
      (∀ bus, (Table.get ({} : Twb) (writeLineup c v s).twb bus).attn = (Table.get ({} : Twb) s.twb bus).attn) := by
  simp [writeLineup]


/-! TwoWire -/

@[simp] theorem State.attend_frame (s : State) (b : Nat) (kind : Nat) (addr : Nat) (data : Nat) :
    (State.attend s b kind addr data).now = s.now ∧
      (State.attend s b kind addr data).pending = s.pending ∧
      (State.attend s b kind addr data).flt.queue = s.flt.queue ∧
      (State.attend s b kind addr data).rcd.waiting = s.rcd.waiting := by
  unfold State.attend; split <;> simp

@[simp] theorem State.busHeld_frame (s : State) (b : Nat) :
    (State.busHeld s b).now = s.now ∧
      (State.busHeld s b).pending = s.pending ∧
      (State.busHeld s b).flt.queue = s.flt.queue ∧
      (State.busHeld s b).rcd.waiting = s.rcd.waiting ∧
      (∀ bus, (Table.get ({} : Twb) (State.busHeld s b).twb bus).attn = (Table.get ({} : Twb) s.twb bus).attn) := by
  simp [State.busHeld]

@[simp] theorem State.beginClear_frame (s : State) (b : Nat) (cmd : Option CmdRef) (sda : Bool) :
    (State.beginClear s b cmd sda).now = s.now ∧
      (State.beginClear s b cmd sda).pending = s.pending ∧
      (State.beginClear s b cmd sda).flt.queue = s.flt.queue ∧
      (State.beginClear s b cmd sda).rcd.waiting = s.rcd.waiting ∧
      (∀ bus, (Table.get ({} : Twb) (State.beginClear s b cmd sda).twb bus).attn = (Table.get ({} : Twb) s.twb bus).attn) := by
  simp [State.beginClear]

@[simp] theorem State.busDisabled_frame (s : State) (b : Nat) :
    (State.busDisabled s b).now = s.now ∧
      (State.busDisabled s b).pending = s.pending ∧
      (State.busDisabled s b).flt.queue = s.flt.queue ∧
      (State.busDisabled s b).rcd.waiting = s.rcd.waiting ∧
      (∀ bus, (Table.get ({} : Twb) (State.busDisabled s b).twb bus).attn = (Table.get ({} : Twb) s.twb bus).attn) := by
  simp [State.busDisabled]

@[simp] theorem State.busRests_frame (s : State) (b : Nat) :
    (State.busRests s b).now = s.now ∧
      (State.busRests s b).pending = s.pending ∧
      (State.busRests s b).flt.queue = s.flt.queue ∧
      (State.busRests s b).rcd.waiting = s.rcd.waiting ∧
      (∀ bus, (Table.get ({} : Twb) (State.busRests s b).twb bus).attn = (Table.get ({} : Twb) s.twb bus).attn) := by
  unfold State.busRests; dsimp only; repeat' split
  all_goals simp

@[simp] theorem State.busOff_frame (s : State) (b : Nat) :
    (State.busOff s b).now = s.now ∧
      (State.busOff s b).pending = s.pending ∧
      (State.busOff s b).flt.queue = s.flt.queue ∧
      (State.busOff s b).rcd.waiting = s.rcd.waiting ∧
      (∀ bus, (Table.get ({} : Twb) (State.busOff s b).twb bus).attn = (Table.get ({} : Twb) s.twb bus).attn) := by
  simp [State.busOff]

@[simp] theorem State.busesOff_frame (s : State) :
    (State.busesOff s).now = s.now ∧
      (State.busesOff s).pending = s.pending ∧
      (State.busesOff s).flt.queue = s.flt.queue ∧
      (State.busesOff s).rcd.waiting = s.rcd.waiting ∧
      (∀ bus, (Table.get ({} : Twb) (State.busesOff s).twb bus).attn = (Table.get ({} : Twb) s.twb bus).attn) := by
  simp [State.busesOff]

@[simp] theorem State.busFailed_frame (s : State) (b : Nat) (cmd : CmdRef) (sub : Nat) :
    (State.busFailed s b cmd sub).now = s.now ∧
      (State.busFailed s b cmd sub).pending = s.pending ∧
      (State.busFailed s b cmd sub).flt.queue = s.flt.queue ∧
      (State.busFailed s b cmd sub).rcd.waiting = s.rcd.waiting ∧
      (∀ bus, (Table.get ({} : Twb) (State.busFailed s b cmd sub).twb bus).attn = (Table.get ({} : Twb) s.twb bus).attn) := by
  simp [State.busFailed]

@[simp] theorem State.popTransfer_frame (s : State) (b : Nat) :
    (State.popTransfer s b).now = s.now ∧
      (State.popTransfer s b).pending = s.pending ∧
      (State.popTransfer s b).flt.queue = s.flt.queue ∧
      (State.popTransfer s b).rcd.waiting = s.rcd.waiting ∧
      (∀ bus, (Table.get ({} : Twb) (State.popTransfer s b).twb bus).attn = (Table.get ({} : Twb) s.twb bus).attn) := by
  simp [State.popTransfer]

@[simp] theorem applyTwbConfigure_frame (ref : CmdRef) (r : Request) (s : State) :
    (applyTwbConfigure ref r s).now = s.now ∧
      (applyTwbConfigure ref r s).pending = s.pending ∧
      (applyTwbConfigure ref r s).flt.queue = s.flt.queue ∧
      (applyTwbConfigure ref r s).rcd.waiting = s.rcd.waiting ∧
      (∀ bus, (Table.get ({} : Twb) (applyTwbConfigure ref r s).twb bus).attn = (Table.get ({} : Twb) s.twb bus).attn) := by
  simp [applyTwbConfigure]

@[simp] theorem applyTwbTransfer_frame (ref : CmdRef) (r : Request) (s : State) :
    (applyTwbTransfer ref r s).now = s.now ∧
      (applyTwbTransfer ref r s).pending = s.pending ∧
      (applyTwbTransfer ref r s).flt.queue = s.flt.queue ∧
      (applyTwbTransfer ref r s).rcd.waiting = s.rcd.waiting := by
  unfold applyTwbTransfer; dsimp only; repeat' split
  all_goals simp

@[simp] theorem State.transferDone_frame (s : State) (t : Transfer) (read : List Byte) :
    (State.transferDone s t read).now = s.now ∧
      (State.transferDone s t read).pending = s.pending ∧
      (State.transferDone s t read).flt.queue = s.flt.queue ∧
      (State.transferDone s t read).rcd.waiting = s.rcd.waiting ∧
      (∀ bus, (Table.get ({} : Twb) (State.transferDone s t read).twb bus).attn = (Table.get ({} : Twb) s.twb bus).attn) := by
  simp [State.transferDone]

@[simp] theorem State.clearFailed_frame (s : State) (b : Nat) (sda : Bool) :
    (State.clearFailed s b sda).now = s.now ∧
      (State.clearFailed s b sda).pending = s.pending ∧
      (State.clearFailed s b sda).flt.queue = s.flt.queue ∧
      (State.clearFailed s b sda).rcd.waiting = s.rcd.waiting ∧
      (∀ bus, (Table.get ({} : Twb) (State.clearFailed s b sda).twb bus).attn = (Table.get ({} : Twb) s.twb bus).attn) := by
  unfold State.clearFailed; dsimp only; repeat' split
  all_goals simp


/-! RadioOps -/

@[simp] theorem State.assertSource_frame (s : State) (m : Nat) :
    (State.assertSource s m).now = s.now ∧
      (State.assertSource s m).pending = s.pending ∧
      (State.assertSource s m).flt.queue = s.flt.queue ∧
      (State.assertSource s m).rcd.waiting = s.rcd.waiting ∧
      (∀ bus, (Table.get ({} : Twb) (State.assertSource s m).twb bus).attn = (Table.get ({} : Twb) s.twb bus).attn) := by
  simp [State.assertSource]

@[simp] theorem State.startMonitor_frame (s : State) (m : Nat) :
    (State.startMonitor s m).now = s.now ∧
      (State.startMonitor s m).pending = s.pending ∧
      (State.startMonitor s m).flt.queue = s.flt.queue ∧
      (State.startMonitor s m).rcd.waiting = s.rcd.waiting ∧
      (∀ bus, (Table.get ({} : Twb) (State.startMonitor s m).twb bus).attn = (Table.get ({} : Twb) s.twb bus).attn) := by
  simp [State.startMonitor]

@[simp] theorem State.stopMonitors_frame (s : State) :
    (State.stopMonitors s).now = s.now ∧
      (State.stopMonitors s).pending = s.pending ∧
      (State.stopMonitors s).flt.queue = s.flt.queue ∧
      (State.stopMonitors s).rcd.waiting = s.rcd.waiting ∧
      (∀ bus, (Table.get ({} : Twb) (State.stopMonitors s).twb bus).attn = (Table.get ({} : Twb) s.twb bus).attn) := by
  simp [State.stopMonitors]

@[simp] theorem State.putPg_frame (s : State) (ch : Nat) (k : PgSet) :
    (State.putPg s ch k).now = s.now ∧
      (State.putPg s ch k).pending = s.pending ∧
      (State.putPg s ch k).flt.queue = s.flt.queue ∧
      (State.putPg s ch k).rcd.waiting = s.rcd.waiting ∧
      (∀ bus, (Table.get ({} : Twb) (State.putPg s ch k).twb bus).attn = (Table.get ({} : Twb) s.twb bus).attn) := by
  simp [State.putPg]

@[simp] theorem State.applyPg_frame (s : State) (ch : Nat) :
    (State.applyPg s ch).now = s.now ∧
      (State.applyPg s ch).pending = s.pending ∧
      (State.applyPg s ch).flt.queue = s.flt.queue ∧
      (State.applyPg s ch).rcd.waiting = s.rcd.waiting ∧
      (∀ bus, (Table.get ({} : Twb) (State.applyPg s ch).twb bus).attn = (Table.get ({} : Twb) s.twb bus).attn) := by
  unfold State.applyPg; split <;> simp

@[simp] theorem State.bringDown_frame (s : State) (c : Nat) :
    (State.bringDown s c).now = s.now ∧
      (State.bringDown s c).pending = s.pending ∧
      (State.bringDown s c).flt.queue = s.flt.queue ∧
      (State.bringDown s c).rcd.waiting = s.rcd.waiting ∧
      (∀ bus, (Table.get ({} : Twb) (State.bringDown s c).twb bus).attn = (Table.get ({} : Twb) s.twb bus).attn) := by
  simp [State.bringDown]

@[simp] theorem State.allDown_frame (s : State) :
    (State.allDown s).now = s.now ∧
      (State.allDown s).pending = s.pending ∧
      (State.allDown s).flt.queue = s.flt.queue ∧
      (State.allDown s).rcd.waiting = s.rcd.waiting ∧
      (∀ bus, (Table.get ({} : Twb) (State.allDown s).twb bus).attn = (Table.get ({} : Twb) s.twb bus).attn) := by
  simp [State.allDown]

@[simp] theorem State.capsRun_frame (s : State) :
    (State.capsRun s).now = s.now ∧
      (State.capsRun s).pending = s.pending ∧
      (State.capsRun s).flt.queue = s.flt.queue ∧
      (State.capsRun s).rcd.waiting = s.rcd.waiting ∧
      (∀ bus, (Table.get ({} : Twb) (State.capsRun s).twb bus).attn = (Table.get ({} : Twb) s.twb bus).attn) := by
  simp [State.capsRun]

@[simp] theorem State.capStop_frame (s : State) (g : Nat) :
    (State.capStop s g).now = s.now ∧
      (State.capStop s g).pending = s.pending ∧
      (State.capStop s g).flt.queue = s.flt.queue ∧
      (State.capStop s g).rcd.waiting = s.rcd.waiting ∧
      (∀ bus, (Table.get ({} : Twb) (State.capStop s g).twb bus).attn = (Table.get ({} : Twb) s.twb bus).attn) := by
  unfold State.capStop; split <;> simp

@[simp] theorem State.capsStop_frame (s : State) :
    (State.capsStop s).now = s.now ∧
      (State.capsStop s).pending = s.pending ∧
      (State.capsStop s).flt.queue = s.flt.queue ∧
      (State.capsStop s).rcd.waiting = s.rcd.waiting ∧
      (∀ bus, (Table.get ({} : Twb) (State.capsStop s).twb bus).attn = (Table.get ({} : Twb) s.twb bus).attn) := by
  simp [State.capsStop]

@[simp] theorem State.toState_frame (s : State) (n : Nat) :
    (State.toState s n).now = s.now ∧
      (State.toState s n).pending = s.pending ∧
      (State.toState s n).flt.queue = s.flt.queue ∧
      (State.toState s n).rcd.waiting = s.rcd.waiting ∧
      (∀ bus, (Table.get ({} : Twb) (State.toState s n).twb bus).attn = (Table.get ({} : Twb) s.twb bus).attn) := by
  simp [State.toState]

@[simp] theorem State.enterSynth_frame (s : State) :
    (State.enterSynth s).now = s.now ∧
      (State.enterSynth s).pending = s.pending ∧
      (State.enterSynth s).flt.queue = s.flt.queue ∧
      (State.enterSynth s).rcd.waiting = s.rcd.waiting ∧
      (∀ bus, (Table.get ({} : Twb) (State.enterSynth s).twb bus).attn = (Table.get ({} : Twb) s.twb bus).attn) := by
  simp [State.enterSynth]

@[simp] theorem State.bandEnters_frame (s : State) (b : Nat) :
    (State.bandEnters s b).now = s.now ∧
      (State.bandEnters s b).pending = s.pending ∧
      (State.bandEnters s b).flt.queue = s.flt.queue ∧
      (State.bandEnters s b).rcd.waiting = s.rcd.waiting ∧
      (∀ bus, (Table.get ({} : Twb) (State.bandEnters s b).twb bus).attn = (Table.get ({} : Twb) s.twb bus).attn) := by
  simp [State.bandEnters]

@[simp] theorem State.chainEnters_frame (s : State) (c : Nat) :
    (State.chainEnters s c).now = s.now ∧
      (State.chainEnters s c).pending = s.pending ∧
      (State.chainEnters s c).flt.queue = s.flt.queue ∧
      (State.chainEnters s c).rcd.waiting = s.rcd.waiting ∧
      (∀ bus, (Table.get ({} : Twb) (State.chainEnters s c).twb bus).attn = (Table.get ({} : Twb) s.twb bus).attn) := by
  simp [State.chainEnters]

@[simp] theorem State.sbEnters_frame (s : State) (g : Nat) :
    (State.sbEnters s g).now = s.now ∧
      (State.sbEnters s g).pending = s.pending ∧
      (State.sbEnters s g).flt.queue = s.flt.queue ∧
      (State.sbEnters s g).rcd.waiting = s.rcd.waiting ∧
      (∀ bus, (Table.get ({} : Twb) (State.sbEnters s g).twb bus).attn = (Table.get ({} : Twb) s.twb bus).attn) := by
  simp [State.sbEnters]

@[simp] theorem State.sbsEnter_frame (s : State) :
    (State.sbsEnter s).now = s.now ∧
      (State.sbsEnter s).pending = s.pending ∧
      (State.sbsEnter s).flt.queue = s.flt.queue ∧
      (State.sbsEnter s).rcd.waiting = s.rcd.waiting ∧
      (∀ bus, (Table.get ({} : Twb) (State.sbsEnter s).twb bus).attn = (Table.get ({} : Twb) s.twb bus).attn) := by
  simp [State.sbsEnter]

@[simp] theorem State.tagFenced_frame (s : State) (gs : List Nat) :
    (State.tagFenced s gs).now = s.now ∧
      (State.tagFenced s gs).pending = s.pending ∧
      (State.tagFenced s gs).flt.queue = s.flt.queue ∧
      (State.tagFenced s gs).rcd.waiting = s.rcd.waiting ∧
      (∀ bus, (Table.get ({} : Twb) (State.tagFenced s gs).twb bus).attn = (Table.get ({} : Twb) s.twb bus).attn) := by
  simp [State.tagFenced]

@[simp] theorem State.outputsBegin_frame (s : State) :
    (State.outputsBegin s).now = s.now ∧
      (State.outputsBegin s).pending = s.pending ∧
      (State.outputsBegin s).flt.queue = s.flt.queue ∧
      (State.outputsBegin s).rcd.waiting = s.rcd.waiting ∧
      (∀ bus, (Table.get ({} : Twb) (State.outputsBegin s).twb bus).attn = (Table.get ({} : Twb) s.twb bus).attn) := by
  simp [State.outputsBegin]

@[simp] theorem State.enterListen_frame (s : State) :
    (State.enterListen s).now = s.now ∧
      (State.enterListen s).pending = s.pending ∧
      (State.enterListen s).flt.queue = s.flt.queue ∧
      (State.enterListen s).rcd.waiting = s.rcd.waiting ∧
      (∀ bus, (Table.get ({} : Twb) (State.enterListen s).twb bus).attn = (Table.get ({} : Twb) s.twb bus).attn) := by
  simp [State.enterListen]

@[simp] theorem State.enterRepeat_frame (s : State) :
    (State.enterRepeat s).now = s.now ∧
      (State.enterRepeat s).pending = s.pending ∧
      (State.enterRepeat s).flt.queue = s.flt.queue ∧
      (State.enterRepeat s).rcd.waiting = s.rcd.waiting ∧
      (∀ bus, (Table.get ({} : Twb) (State.enterRepeat s).twb bus).attn = (Table.get ({} : Twb) s.twb bus).attn) := by
  simp [State.enterRepeat]

@[simp] theorem State.sbLeaves_frame (s : State) (g : Nat) (st : Nat) (sub : Nat) :
    (State.sbLeaves s g st sub).now = s.now ∧
      (State.sbLeaves s g st sub).pending = s.pending ∧
      (State.sbLeaves s g st sub).flt.queue = s.flt.queue ∧
      (State.sbLeaves s g st sub).rcd.waiting = s.rcd.waiting ∧
      (∀ bus, (Table.get ({} : Twb) (State.sbLeaves s g st sub).twb bus).attn = (Table.get ({} : Twb) s.twb bus).attn) := by
  simp [State.sbLeaves]

@[simp] theorem State.endThermalFade_frame (s : State) :
    (State.endThermalFade s).now = s.now ∧
      (State.endThermalFade s).pending = s.pending ∧
      (State.endThermalFade s).flt.queue = s.flt.queue ∧
      (State.endThermalFade s).rcd.waiting = s.rcd.waiting ∧
      (∀ bus, (Table.get ({} : Twb) (State.endThermalFade s).twb bus).attn = (Table.get ({} : Twb) s.twb bus).attn) := by
  simp [State.endThermalFade]

@[simp] theorem State.fadeLeaves_frame (s : State) :
    (State.fadeLeaves s).now = s.now ∧
      (State.fadeLeaves s).pending = s.pending ∧
      (State.fadeLeaves s).flt.queue = s.flt.queue ∧
      (State.fadeLeaves s).rcd.waiting = s.rcd.waiting ∧
      (∀ bus, (Table.get ({} : Twb) (State.fadeLeaves s).twb bus).attn = (Table.get ({} : Twb) s.twb bus).attn) := by
  simp [State.fadeLeaves]

@[simp] theorem State.gateDacs_frame (s : State) :
    (State.gateDacs s).now = s.now ∧
      (State.gateDacs s).pending = s.pending ∧
      (State.gateDacs s).flt.queue = s.flt.queue ∧
      (State.gateDacs s).rcd.waiting = s.rcd.waiting ∧
      (∀ bus, (Table.get ({} : Twb) (State.gateDacs s).twb bus).attn = (Table.get ({} : Twb) s.twb bus).attn) := by
  simp [State.gateDacs]

@[simp] theorem State.chainLeaves_frame (st : Nat) (sub : Nat) (s : State) (c : Nat) :
    (State.chainLeaves st sub s c).now = s.now ∧
      (State.chainLeaves st sub s c).pending = s.pending ∧
      (State.chainLeaves st sub s c).flt.queue = s.flt.queue ∧
      (State.chainLeaves st sub s c).rcd.waiting = s.rcd.waiting ∧
      (∀ bus, (Table.get ({} : Twb) (State.chainLeaves st sub s c).twb bus).attn = (Table.get ({} : Twb) s.twb bus).attn) := by
  simp [State.chainLeaves]

@[simp] theorem State.leaveListen_frame (s : State) (kind : WalkKind) :
    (State.leaveListen s kind).now = s.now ∧
      (State.leaveListen s kind).pending = s.pending ∧
      (State.leaveListen s kind).flt.queue = s.flt.queue ∧
      (State.leaveListen s kind).rcd.waiting = s.rcd.waiting ∧
      (∀ bus, (Table.get ({} : Twb) (State.leaveListen s kind).twb bus).attn = (Table.get ({} : Twb) s.twb bus).attn) := by
  simp [State.leaveListen]

@[simp] theorem State.gateConverter_frame (s : State) (c : Nat) :
    (State.gateConverter s c).now = s.now ∧
      (State.gateConverter s c).pending = s.pending ∧
      (State.gateConverter s c).flt.queue = s.flt.queue ∧
      (State.gateConverter s c).rcd.waiting = s.rcd.waiting ∧
      (∀ bus, (Table.get ({} : Twb) (State.gateConverter s c).twb bus).attn = (Table.get ({} : Twb) s.twb bus).attn) := by
  simp [State.gateConverter]

@[simp] theorem State.scheduleStops_frame (s : State) :
    (State.scheduleStops s).now = s.now ∧
      (State.scheduleStops s).pending = s.pending ∧
      (State.scheduleStops s).flt.queue = s.flt.queue ∧
      (State.scheduleStops s).rcd.waiting = s.rcd.waiting ∧
      (∀ bus, (Table.get ({} : Twb) (State.scheduleStops s).twb bus).attn = (Table.get ({} : Twb) s.twb bus).attn) := by
  simp [State.scheduleStops]

@[simp] theorem State.leaveSynth_frame (s : State) :
    (State.leaveSynth s).now = s.now ∧
      (State.leaveSynth s).pending = s.pending ∧
      (State.leaveSynth s).flt.queue = s.flt.queue ∧
      (State.leaveSynth s).rcd.waiting = s.rcd.waiting ∧
      (∀ bus, (Table.get ({} : Twb) (State.leaveSynth s).twb bus).attn = (Table.get ({} : Twb) s.twb bus).attn) := by
  simp [State.leaveSynth]

@[simp] theorem State.downOne_frame (s : State) (kind : WalkKind) :
    (State.downOne s kind).now = s.now ∧
      (State.downOne s kind).pending = s.pending ∧
      (State.downOne s kind).flt.queue = s.flt.queue ∧
      (State.downOne s kind).rcd.waiting = s.rcd.waiting ∧
      (∀ bus, (Table.get ({} : Twb) (State.downOne s kind).twb bus).attn = (Table.get ({} : Twb) s.twb bus).attn) := by
  simp [State.downOne]

@[simp] theorem State.setRadio_frame (s : State) (f : Radio → Radio) :
    (State.setRadio s f).now = s.now ∧
      (State.setRadio s f).pending = s.pending ∧
      (State.setRadio s f).flt.queue = s.flt.queue ∧
      (State.setRadio s f).rcd.waiting = s.rcd.waiting ∧
      (∀ bus, (Table.get ({} : Twb) (State.setRadio s f).twb bus).attn = (Table.get ({} : Twb) s.twb bus).attn) := by
  simp [State.setRadio]

@[simp] theorem State.pllStart_frame (s : State) :
    (State.pllStart s).now = s.now ∧
      (State.pllStart s).pending = s.pending ∧
      (State.pllStart s).flt.queue = s.flt.queue ∧
      (State.pllStart s).rcd.waiting = s.rcd.waiting ∧
      (∀ bus, (Table.get ({} : Twb) (State.pllStart s).twb bus).attn = (Table.get ({} : Twb) s.twb bus).attn) := by
  simp [State.pllStart]

@[simp] theorem State.pllRest_frame (s : State) :
    (State.pllRest s).now = s.now ∧
      (State.pllRest s).pending = s.pending ∧
      (State.pllRest s).flt.queue = s.flt.queue ∧
      (State.pllRest s).rcd.waiting = s.rcd.waiting ∧
      (∀ bus, (Table.get ({} : Twb) (State.pllRest s).twb bus).attn = (Table.get ({} : Twb) s.twb bus).attn) := by
  simp [State.pllRest]

@[simp] theorem State.stateReached_frame (s : State) (ref : CmdRef) (startedAt : Time) :
    (State.stateReached s ref startedAt).now = s.now ∧
      (State.stateReached s ref startedAt).pending = s.pending ∧
      (State.stateReached s ref startedAt).flt.queue = s.flt.queue ∧
      (State.stateReached s ref startedAt).rcd.waiting = s.rcd.waiting ∧
      (∀ bus, (Table.get ({} : Twb) (State.stateReached s ref startedAt).twb bus).attn = (Table.get ({} : Twb) s.twb bus).attn) := by
  simp [State.stateReached]

@[simp] theorem State.endRadio_frame (s : State) (status : Nat) (sub : Nat) :
    (State.endRadio s status sub).now = s.now ∧
      (State.endRadio s status sub).pending = s.pending ∧
      (State.endRadio s status sub).flt.queue = s.flt.queue ∧
      (State.endRadio s status sub).rcd.waiting = s.rcd.waiting ∧
      (∀ bus, (Table.get ({} : Twb) (State.endRadio s status sub).twb bus).attn = (Table.get ({} : Twb) s.twb bus).attn) := by
  unfold State.endRadio; dsimp only; repeat' split
  all_goals simp

@[simp] theorem State.dropWalk_frame (s : State) :
    (State.dropWalk s).now = s.now ∧
      (State.dropWalk s).pending = s.pending ∧
      (State.dropWalk s).flt.queue = s.flt.queue ∧
      (State.dropWalk s).rcd.waiting = s.rcd.waiting ∧
      (∀ bus, (Table.get ({} : Twb) (State.dropWalk s).twb bus).attn = (Table.get ({} : Twb) s.twb bus).attn) := by
  simp [State.dropWalk]

@[simp] theorem State.finishWalk_frame (s : State) (w : Walk) :
    (State.finishWalk s w).now = s.now ∧
      (State.finishWalk s w).pending = s.pending ∧
      (State.finishWalk s w).flt.queue = s.flt.queue ∧
      (State.finishWalk s w).rcd.waiting = s.rcd.waiting ∧
      (∀ bus, (Table.get ({} : Twb) (State.finishWalk s w).twb bus).attn = (Table.get ({} : Twb) s.twb bus).attn) := by
  unfold State.finishWalk; dsimp only; repeat' split
  all_goals simp

@[simp] theorem State.setStep_frame (s : State) (w : Walk) (n : Nat) :
    (State.setStep s w n).now = s.now ∧
      (State.setStep s w n).pending = s.pending ∧
      (State.setStep s w n).flt.queue = s.flt.queue ∧
      (State.setStep s w n).rcd.waiting = s.rcd.waiting ∧
      (∀ bus, (Table.get ({} : Twb) (State.setStep s w n).twb bus).attn = (Table.get ({} : Twb) s.twb bus).attn) := by
  simp [State.setStep]

@[simp] theorem State.stepEight_frame (s : State) (w : Walk) :
    (State.stepEight s w).now = s.now ∧
      (State.stepEight s w).pending = s.pending ∧
      (State.stepEight s w).flt.queue = s.flt.queue ∧
      (State.stepEight s w).rcd.waiting = s.rcd.waiting ∧
      (∀ bus, (Table.get ({} : Twb) (State.stepEight s w).twb bus).attn = (Table.get ({} : Twb) s.twb bus).attn) := by
  simp [State.stepEight]

@[simp] theorem State.fallWalk_frame (s : State) (kind : WalkKind) (target : Nat) :
    (State.fallWalk s kind target).now = s.now ∧
      (State.fallWalk s kind target).pending = s.pending ∧
      (State.fallWalk s kind target).flt.queue = s.flt.queue ∧
      (State.fallWalk s kind target).rcd.waiting = s.rcd.waiting ∧
      (∀ bus, (Table.get ({} : Twb) (State.fallWalk s kind target).twb bus).attn = (Table.get ({} : Twb) s.twb bus).attn) := by
  simp [State.fallWalk]

@[simp] theorem State.boundaryAfter_frame (s : State) (n : Nat) :
    (State.boundaryAfter s n).now = s.now ∧
      (State.boundaryAfter s n).pending = s.pending ∧
      (State.boundaryAfter s n).flt.queue = s.flt.queue ∧
      (State.boundaryAfter s n).rcd.waiting = s.rcd.waiting ∧
      (∀ bus, (Table.get ({} : Twb) (State.boundaryAfter s n).twb bus).attn = (Table.get ({} : Twb) s.twb bus).attn) := by
  unfold State.boundaryAfter; dsimp only; repeat' split
  all_goals simp

@[simp] theorem State.seqCheck_frame (s : State) :
    (State.seqCheck s).now = s.now ∧
      (State.seqCheck s).pending = s.pending ∧
      (State.seqCheck s).flt.queue = s.flt.queue ∧
      (State.seqCheck s).rcd.waiting = s.rcd.waiting ∧
      (∀ bus, (Table.get ({} : Twb) (State.seqCheck s).twb bus).attn = (Table.get ({} : Twb) s.twb bus).attn) := by
  unfold State.seqCheck; simp; repeat' split
  all_goals simp

@[simp] theorem State.startWalk_frame (s : State) (kind : WalkKind) (cmd : Option CmdRef) (target : Nat) :
    (State.startWalk s kind cmd target).now = s.now ∧
      (State.startWalk s kind cmd target).pending = s.pending ∧
      (State.startWalk s kind cmd target).flt.queue = s.flt.queue ∧
      (State.startWalk s kind cmd target).rcd.waiting = s.rcd.waiting ∧
      (∀ bus, (Table.get ({} : Twb) (State.startWalk s kind cmd target).twb bus).attn = (Table.get ({} : Twb) s.twb bus).attn) := by
  simp [State.startWalk]

@[simp] theorem State.failStep_frame (s : State) :
    (State.failStep s).now = s.now ∧
      (State.failStep s).pending = s.pending ∧
      (State.failStep s).flt.queue = s.flt.queue ∧
      (State.failStep s).rcd.waiting = s.rcd.waiting ∧
      (∀ bus, (Table.get ({} : Twb) (State.failStep s).twb bus).attn = (Table.get ({} : Twb) s.twb bus).attn) := by
  unfold State.failStep; split <;> simp

@[simp] theorem State.forceOff_frame (s : State) :
    (State.forceOff s).now = s.now ∧
      (State.forceOff s).pending = s.pending ∧
      (State.forceOff s).flt.queue = s.flt.queue ∧
      (State.forceOff s).rcd.waiting = s.rcd.waiting ∧
      (∀ bus, (Table.get ({} : Twb) (State.forceOff s).twb bus).attn = (Table.get ({} : Twb) s.twb bus).attn) := by
  simp [State.forceOff]

@[simp] theorem State.fallSafe_frame (s : State) :
    (State.fallSafe s).now = s.now ∧
      (State.fallSafe s).pending = s.pending ∧
      (State.fallSafe s).flt.queue = s.flt.queue ∧
      (State.fallSafe s).rcd.waiting = s.rcd.waiting ∧
      (∀ bus, (Table.get ({} : Twb) (State.fallSafe s).twb bus).attn = (Table.get ({} : Twb) s.twb bus).attn) := by
  unfold State.fallSafe; split <;> simp

@[simp] theorem State.safeState_frame (s : State) :
    (State.safeState s).now = s.now ∧
      (State.safeState s).pending = s.pending ∧
      (State.safeState s).flt.queue = s.flt.queue ∧
      (State.safeState s).rcd.waiting = s.rcd.waiting ∧
      (∀ bus, (Table.get ({} : Twb) (State.safeState s).twb bus).attn = (Table.get ({} : Twb) s.twb bus).attn) := by
  simp [State.safeState]

@[simp] theorem State.clockStops_frame (s : State) (step : Nat) :
    (State.clockStops s step).now = s.now ∧
      (State.clockStops s step).pending = s.pending ∧
      (State.clockStops s step).flt.queue = s.flt.queue ∧
      (State.clockStops s step).rcd.waiting = s.rcd.waiting ∧
      (∀ bus, (Table.get ({} : Twb) (State.clockStops s step).twb bus).attn = (Table.get ({} : Twb) s.twb bus).attn) := by
  simp [State.clockStops]

@[simp] theorem State.clockSteps_frame (s : State) :
    (State.clockSteps s).now = s.now ∧
      (State.clockSteps s).pending = s.pending ∧
      (State.clockSteps s).flt.queue = s.flt.queue ∧
      (State.clockSteps s).rcd.waiting = s.rcd.waiting ∧
      (∀ bus, (Table.get ({} : Twb) (State.clockSteps s).twb bus).attn = (Table.get ({} : Twb) s.twb bus).attn) := by
  simp [State.clockSteps]

@[simp] theorem State.clockFall_frame (s : State) :
    (State.clockFall s).now = s.now ∧
      (State.clockFall s).pending = s.pending ∧
      (State.clockFall s).flt.queue = s.flt.queue ∧
      (State.clockFall s).rcd.waiting = s.rcd.waiting ∧
      (∀ bus, (Table.get ({} : Twb) (State.clockFall s).twb bus).attn = (Table.get ({} : Twb) s.twb bus).attn) := by
  unfold State.clockFall; split <;> simp

@[simp] theorem State.stopWalk_frame (s : State) :
    (State.stopWalk s).now = s.now ∧
      (State.stopWalk s).pending = s.pending ∧
      (State.stopWalk s).flt.queue = s.flt.queue ∧
      (State.stopWalk s).rcd.waiting = s.rcd.waiting ∧
      (∀ bus, (Table.get ({} : Twb) (State.stopWalk s).twb bus).attn = (Table.get ({} : Twb) s.twb bus).attn) := by
  simp [State.stopWalk]

@[simp] theorem State.thermalFall_frame (s : State) :
    (State.thermalFall s).now = s.now ∧
      (State.thermalFall s).pending = s.pending ∧
      (State.thermalFall s).flt.queue = s.flt.queue ∧
      (State.thermalFall s).rcd.waiting = s.rcd.waiting ∧
      (∀ bus, (Table.get ({} : Twb) (State.thermalFall s).twb bus).attn = (Table.get ({} : Twb) s.twb bus).attn) := by
  simp [State.thermalFall]

@[simp] theorem State.relockTry_frame (s : State) (n : Nat) (first : Time) :
    (State.relockTry s n first).now = s.now ∧
      (State.relockTry s n first).pending = s.pending ∧
      (State.relockTry s n first).flt.queue = s.flt.queue ∧
      (State.relockTry s n first).rcd.waiting = s.rcd.waiting ∧
      (∀ bus, (Table.get ({} : Twb) (State.relockTry s n first).twb bus).attn = (Table.get ({} : Twb) s.twb bus).attn) := by
  simp [State.relockTry]

@[simp] theorem State.relockBegin_frame (s : State) :
    (State.relockBegin s).now = s.now ∧
      (State.relockBegin s).pending = s.pending ∧
      (State.relockBegin s).flt.queue = s.flt.queue ∧
      (State.relockBegin s).rcd.waiting = s.rcd.waiting ∧
      (∀ bus, (Table.get ({} : Twb) (State.relockBegin s).twb bus).attn = (Table.get ({} : Twb) s.twb bus).attn) := by
  simp [State.relockBegin]

@[simp] theorem State.relockFailed_frame (s : State) :
    (State.relockFailed s).now = s.now ∧
      (State.relockFailed s).pending = s.pending ∧
      (State.relockFailed s).flt.queue = s.flt.queue ∧
      (State.relockFailed s).rcd.waiting = s.rcd.waiting ∧
      (∀ bus, (Table.get ({} : Twb) (State.relockFailed s).twb bus).attn = (Table.get ({} : Twb) s.twb bus).attn) := by
  unfold State.relockFailed; split <;> simp


/-! Housekeep -/

@[simp] theorem applyHkConfigure_frame (ref : CmdRef) (r : Request) (s : State) :
    (applyHkConfigure ref r s).now = s.now ∧
      (applyHkConfigure ref r s).pending = s.pending ∧
      (applyHkConfigure ref r s).flt.queue = s.flt.queue ∧
      (applyHkConfigure ref r s).rcd.waiting = s.rcd.waiting ∧
      (∀ bus, (Table.get ({} : Twb) (applyHkConfigure ref r s).twb bus).attn = (Table.get ({} : Twb) s.twb bus).attn) := by
  simp [applyHkConfigure]

@[simp] theorem State.modTh_frame (s : State) (f : Th → Th) :
    (State.modTh s f).now = s.now ∧
      (State.modTh s f).pending = s.pending ∧
      (State.modTh s f).flt.queue = s.flt.queue ∧
      (State.modTh s f).rcd.waiting = s.rcd.waiting ∧
      (∀ bus, (Table.get ({} : Twb) (State.modTh s f).twb bus).attn = (Table.get ({} : Twb) s.twb bus).attn) := by
  simp [State.modTh]

@[simp] theorem State.roundsBegin_frame (s : State) :
    (State.roundsBegin s).now = s.now ∧
      (State.roundsBegin s).pending = s.pending ∧
      (State.roundsBegin s).flt.queue = s.flt.queue ∧
      (State.roundsBegin s).rcd.waiting = s.rcd.waiting ∧
      (∀ bus, (Table.get ({} : Twb) (State.roundsBegin s).twb bus).attn = (Table.get ({} : Twb) s.twb bus).attn) := by
  simp [State.roundsBegin]

@[simp] theorem State.modHk_frame (s : State) (f : Hk → Hk) :
    (State.modHk s f).now = s.now ∧
      (State.modHk s f).pending = s.pending ∧
      (State.modHk s f).flt.queue = s.flt.queue ∧
      (State.modHk s f).rcd.waiting = s.rcd.waiting ∧
      (∀ bus, (Table.get ({} : Twb) (State.modHk s f).twb bus).attn = (Table.get ({} : Twb) s.twb bus).attn) := by
  simp [State.modHk]

@[simp] theorem State.hkAsk_frame (s : State) (q : HkReq) :
    (State.hkAsk s q).now = s.now ∧
      (State.hkAsk s q).pending = s.pending ∧
      (State.hkAsk s q).flt.queue = s.flt.queue ∧
      (State.hkAsk s q).rcd.waiting = s.rcd.waiting ∧
      (∀ bus, (Table.get ({} : Twb) (State.hkAsk s q).twb bus).attn = (Table.get ({} : Twb) s.twb bus).attn) := by
  simp [State.hkAsk]

@[simp] theorem State.hkTrigger_frame (s : State) (kind : Nat) (idx : Nat) :
    (State.hkTrigger s kind idx).now = s.now ∧
      (State.hkTrigger s kind idx).pending = s.pending ∧
      (State.hkTrigger s kind idx).flt.queue = s.flt.queue ∧
      (State.hkTrigger s kind idx).rcd.waiting = s.rcd.waiting ∧
      (∀ bus, (Table.get ({} : Twb) (State.hkTrigger s kind idx).twb bus).attn = (Table.get ({} : Twb) s.twb bus).attn) := by
  simp [State.hkTrigger]

@[simp] theorem State.detector_frame (s : State) (channel : Nat) (code : Nat) :
    (State.detector s channel code).now = s.now ∧
      (State.detector s channel code).pending = s.pending ∧
      (State.detector s channel code).flt.queue = s.flt.queue ∧
      (State.detector s channel code).rcd.waiting = s.rcd.waiting ∧
      (∀ bus, (Table.get ({} : Twb) (State.detector s channel code).twb bus).attn = (Table.get ({} : Twb) s.twb bus).attn) := by
  simp [State.detector]

@[simp] theorem State.loseRound_frame (s : State) :
    (State.loseRound s).now = s.now ∧
      (State.loseRound s).pending = s.pending ∧
      (State.loseRound s).flt.queue = s.flt.queue ∧
      (State.loseRound s).rcd.waiting = s.rcd.waiting ∧
      (∀ bus, (Table.get ({} : Twb) (State.loseRound s).twb bus).attn = (Table.get ({} : Twb) s.twb bus).attn) := by
  simp [State.loseRound]

@[simp] theorem State.putResult_frame (s : State) (q : HkReq) (t : Time) (code : Nat) :
    (State.putResult s q t code).now = s.now ∧
      (State.putResult s q t code).pending = s.pending ∧
      (State.putResult s q t code).flt.queue = s.flt.queue ∧
      (State.putResult s q t code).rcd.waiting = s.rcd.waiting ∧
      (∀ bus, (Table.get ({} : Twb) (State.putResult s q t code).twb bus).attn = (Table.get ({} : Twb) s.twb bus).attn) := by
  simp [State.putResult]

@[simp] theorem State.useCode_frame (s : State) (q : HkReq) (code : Nat) :
    (State.useCode s q code).now = s.now ∧
      (State.useCode s q code).pending = s.pending ∧
      (State.useCode s q code).flt.queue = s.flt.queue ∧
      (State.useCode s q code).rcd.waiting = s.rcd.waiting ∧
      (∀ bus, (Table.get ({} : Twb) (State.useCode s q code).twb bus).attn = (Table.get ({} : Twb) s.twb bus).attn) := by
  simp [State.useCode]

@[simp] theorem State.fenceHk_frame (s : State) :
    (State.fenceHk s).now = s.now ∧
      (State.fenceHk s).pending = s.pending ∧
      (State.fenceHk s).flt.queue = s.flt.queue ∧
      (State.fenceHk s).rcd.waiting = s.rcd.waiting ∧
      (∀ bus, (Table.get ({} : Twb) (State.fenceHk s).twb bus).attn = (Table.get ({} : Twb) s.twb bus).attn) := by
  simp [State.fenceHk]

@[simp] theorem State.nextConversion_frame (s : State) :
    (State.nextConversion s).now = s.now ∧
      (State.nextConversion s).pending = s.pending ∧
      (State.nextConversion s).flt.queue = s.flt.queue ∧
      (State.nextConversion s).rcd.waiting = s.rcd.waiting ∧
      (∀ bus, (Table.get ({} : Twb) (State.nextConversion s).twb bus).attn = (Table.get ({} : Twb) s.twb bus).attn) := by
  unfold State.nextConversion; split <;> simp


/-! Thermal -/

@[simp] theorem applyThConfigure_frame (ref : CmdRef) (r : Request) (s : State) :
    (applyThConfigure ref r s).now = s.now ∧
      (applyThConfigure ref r s).pending = s.pending ∧
      (applyThConfigure ref r s).flt.queue = s.flt.queue ∧
      (applyThConfigure ref r s).rcd.waiting = s.rcd.waiting ∧
      (∀ bus, (Table.get ({} : Twb) (applyThConfigure ref r s).twb bus).attn = (Table.get ({} : Twb) s.twb bus).attn) := by
  simp [applyThConfigure]

@[simp] theorem State.checkSensors_frame (s : State) (m : RoundMeas) :
    (State.checkSensors s m).now = s.now ∧
      (State.checkSensors s m).pending = s.pending ∧
      (State.checkSensors s m).flt.queue = s.flt.queue ∧
      (State.checkSensors s m).rcd.waiting = s.rcd.waiting ∧
      (∀ bus, (Table.get ({} : Twb) (State.checkSensors s m).twb bus).attn = (Table.get ({} : Twb) s.twb bus).attn) := by
  simp [State.checkSensors]

@[simp] theorem State.stopBegins_frame (s : State) (resume : Nat × BitVec 8 × BitVec 2) :
    (State.stopBegins s resume).now = s.now ∧
      (State.stopBegins s resume).pending = s.pending ∧
      (State.stopBegins s resume).flt.queue = s.flt.queue ∧
      (State.stopBegins s resume).rcd.waiting = s.rcd.waiting ∧
      (∀ bus, (Table.get ({} : Twb) (State.stopBegins s resume).twb bus).attn = (Table.get ({} : Twb) s.twb bus).attn) := by
  simp [State.stopBegins]

@[simp] theorem State.stopGoesOn_frame (s : State) :
    (State.stopGoesOn s).now = s.now ∧
      (State.stopGoesOn s).pending = s.pending ∧
      (State.stopGoesOn s).flt.queue = s.flt.queue ∧
      (State.stopGoesOn s).rcd.waiting = s.rcd.waiting ∧
      (∀ bus, (Table.get ({} : Twb) (State.stopGoesOn s).twb bus).attn = (Table.get ({} : Twb) s.twb bus).attn) := by
  simp [State.stopGoesOn]

@[simp] theorem State.immediateStop_frame (s : State) (z : Nat) :
    (State.immediateStop s z).now = s.now ∧
      (State.immediateStop s z).pending = s.pending ∧
      (State.immediateStop s z).flt.queue = s.flt.queue ∧
      (State.immediateStop s z).rcd.waiting = s.rcd.waiting ∧
      (∀ bus, (Table.get ({} : Twb) (State.immediateStop s z).twb bus).attn = (Table.get ({} : Twb) s.twb bus).attn) := by
  simp [State.immediateStop]

@[simp] theorem State.dropRise_frame (s : State) (c : Nat) :
    (State.dropRise s c).now = s.now ∧
      (State.dropRise s c).pending = s.pending ∧
      (State.dropRise s c).flt.queue = s.flt.queue ∧
      (State.dropRise s c).rcd.waiting = s.rcd.waiting ∧
      (∀ bus, (Table.get ({} : Twb) (State.dropRise s c).twb bus).attn = (Table.get ({} : Twb) s.twb bus).attn) := by
  unfold State.dropRise; split <;> simp

@[simp] theorem State.orderlyStop_frame (s : State) (z : Nat) :
    (State.orderlyStop s z).now = s.now ∧
      (State.orderlyStop s z).pending = s.pending ∧
      (State.orderlyStop s z).flt.queue = s.flt.queue ∧
      (State.orderlyStop s z).rcd.waiting = s.rcd.waiting ∧
      (∀ bus, (Table.get ({} : Twb) (State.orderlyStop s z).twb bus).attn = (Table.get ({} : Twb) s.twb bus).attn) := by
  simp [State.orderlyStop]

@[simp] theorem State.checkRail_frame (s : State) (ch : Nat) :
    (State.checkRail s ch).now = s.now ∧
      (State.checkRail s ch).pending = s.pending ∧
      (State.checkRail s ch).flt.queue = s.flt.queue ∧
      (State.checkRail s ch).rcd.waiting = s.rcd.waiting ∧
      (∀ bus, (Table.get ({} : Twb) (State.checkRail s ch).twb bus).attn = (Table.get ({} : Twb) s.twb bus).attn) := by
  unfold State.checkRail; split <;> simp

@[simp] theorem State.checkSupplies_frame (s : State) :
    (State.checkSupplies s).now = s.now ∧
      (State.checkSupplies s).pending = s.pending ∧
      (State.checkSupplies s).flt.queue = s.flt.queue ∧
      (State.checkSupplies s).rcd.waiting = s.rcd.waiting ∧
      (∀ bus, (Table.get ({} : Twb) (State.checkSupplies s).twb bus).attn = (Table.get ({} : Twb) s.twb bus).attn) := by
  simp [State.checkSupplies]

@[simp] theorem State.checkMonitors_frame (s : State) (failed : List Nat) :
    (State.checkMonitors s failed).now = s.now ∧
      (State.checkMonitors s failed).pending = s.pending ∧
      (State.checkMonitors s failed).flt.queue = s.flt.queue ∧
      (State.checkMonitors s failed).rcd.waiting = s.rcd.waiting ∧
      (∀ bus, (Table.get ({} : Twb) (State.checkMonitors s failed).twb bus).attn = (Table.get ({} : Twb) s.twb bus).attn) := by
  simp [State.checkMonitors]

@[simp] theorem State.noteZone_frame (m : RoundMeas) (s : State) (z : Nat) :
    (State.noteZone m s z).now = s.now ∧
      (State.noteZone m s z).pending = s.pending ∧
      (State.noteZone m s z).flt.queue = s.flt.queue ∧
      (State.noteZone m s z).rcd.waiting = s.rcd.waiting ∧
      (∀ bus, (Table.get ({} : Twb) (State.noteZone m s z).twb bus).attn = (Table.get ({} : Twb) s.twb bus).attn) := by
  unfold State.noteZone; dsimp only; repeat' split
  all_goals simp

@[simp] theorem State.noteZones_frame (s : State) (m : RoundMeas) :
    (State.noteZones s m).now = s.now ∧
      (State.noteZones s m).pending = s.pending ∧
      (State.noteZones s m).flt.queue = s.flt.queue ∧
      (State.noteZones s m).rcd.waiting = s.rcd.waiting ∧
      (∀ bus, (Table.get ({} : Twb) (State.noteZones s m).twb bus).attn = (Table.get ({} : Twb) s.twb bus).attn) := by
  simp [State.noteZones]

@[simp] theorem State.takeStop_frame (s : State) (target : Nat × BitVec 8 × BitVec 2) (z : Nat) (hot : Bool) (slow : Bool) (cool : Bool) (first : Bool) :
    (State.takeStop s target z hot slow cool first).now = s.now ∧
      (State.takeStop s target z hot slow cool first).pending = s.pending ∧
      (State.takeStop s target z hot slow cool first).flt.queue = s.flt.queue ∧
      (State.takeStop s target z hot slow cool first).rcd.waiting = s.rcd.waiting ∧
      (∀ bus, (Table.get ({} : Twb) (State.takeStop s target z hot slow cool first).twb bus).attn = (Table.get ({} : Twb) s.twb bus).attn) := by
  simp [State.takeStop]

@[simp] theorem State.decideStop_frame (s : State) (m : RoundMeas) (first : Bool) :
    (State.decideStop s m first).now = s.now ∧
      (State.decideStop s m first).pending = s.pending ∧
      (State.decideStop s m first).flt.queue = s.flt.queue ∧
      (State.decideStop s m first).rcd.waiting = s.rcd.waiting ∧
      (∀ bus, (Table.get ({} : Twb) (State.decideStop s m first).twb bus).attn = (Table.get ({} : Twb) s.twb bus).attn) := by
  simp [State.decideStop]

@[simp] theorem State.warmStart_frame (s : State) (m : RoundMeas) :
    (State.warmStart s m).now = s.now ∧
      (State.warmStart s m).pending = s.pending ∧
      (State.warmStart s m).flt.queue = s.flt.queue ∧
      (State.warmStart s m).rcd.waiting = s.rcd.waiting ∧
      (∀ bus, (Table.get ({} : Twb) (State.warmStart s m).twb bus).attn = (Table.get ({} : Twb) s.twb bus).attn) := by
  simp [State.warmStart]

@[simp] theorem State.takeBand_frame (s : State) (m : RoundMeas) (first : Bool) :
    (State.takeBand s m first).now = s.now ∧
      (State.takeBand s m first).pending = s.pending ∧
      (State.takeBand s m first).flt.queue = s.flt.queue ∧
      (State.takeBand s m first).rcd.waiting = s.rcd.waiting ∧
      (∀ bus, (Table.get ({} : Twb) (State.takeBand s m first).twb bus).attn = (Table.get ({} : Twb) s.twb bus).attn) := by
  simp [State.takeBand]

@[simp] theorem State.takeThrottle_frame (s : State) (m : RoundMeas) (first : Bool) :
    (State.takeThrottle s m first).now = s.now ∧
      (State.takeThrottle s m first).pending = s.pending ∧
      (State.takeThrottle s m first).flt.queue = s.flt.queue ∧
      (State.takeThrottle s m first).rcd.waiting = s.rcd.waiting ∧
      (∀ bus, (Table.get ({} : Twb) (State.takeThrottle s m first).twb bus).attn = (Table.get ({} : Twb) s.twb bus).attn) := by
  simp [State.takeThrottle]


/-! FrontEnd -/

@[simp] theorem applyFeSeq_frame (ref : CmdRef) (r : Request) (s : State) :
    (applyFeSeq ref r s).now = s.now ∧
      (applyFeSeq ref r s).pending = s.pending ∧
      (applyFeSeq ref r s).flt.queue = s.flt.queue ∧
      (applyFeSeq ref r s).rcd.waiting = s.rcd.waiting ∧
      (∀ bus, (Table.get ({} : Twb) (applyFeSeq ref r s).twb bus).attn = (Table.get ({} : Twb) s.twb bus).attn) := by
  simp [applyFeSeq]

@[simp] theorem State.pgEdge_frame (s : State) (ch : Nat) (asserting : Bool) :
    (State.pgEdge s ch asserting).now = s.now ∧
      (State.pgEdge s ch asserting).pending = s.pending ∧
      (State.pgEdge s ch asserting).flt.queue = s.flt.queue ∧
      (State.pgEdge s ch asserting).rcd.waiting = s.rcd.waiting ∧
      (∀ bus, (Table.get ({} : Twb) (State.pgEdge s ch asserting).twb bus).attn = (Table.get ({} : Twb) s.twb bus).attn) := by
  simp [State.pgEdge]

@[simp] theorem State.levelEdge_frame (s : State) (ch : Nat) (was : Bool) :
    (State.levelEdge s ch was).now = s.now ∧
      (State.levelEdge s ch was).pending = s.pending ∧
      (State.levelEdge s ch was).flt.queue = s.flt.queue ∧
      (State.levelEdge s ch was).rcd.waiting = s.rcd.waiting ∧
      (∀ bus, (Table.get ({} : Twb) (State.levelEdge s ch was).twb bus).attn = (Table.get ({} : Twb) s.twb bus).attn) := by
  simp [State.levelEdge]

@[simp] theorem State.usePg_frame (s : State) (ch : Nat) (k : PgSet) :
    (State.usePg s ch k).now = s.now ∧
      (State.usePg s ch k).pending = s.pending ∧
      (State.usePg s ch k).flt.queue = s.flt.queue ∧
      (State.usePg s ch k).rcd.waiting = s.rcd.waiting ∧
      (∀ bus, (Table.get ({} : Twb) (State.usePg s ch k).twb bus).attn = (Table.get ({} : Twb) s.twb bus).attn) := by
  simp [State.usePg]

@[simp] theorem applyPgConfigure_frame (ref : CmdRef) (r : Request) (s : State) :
    (applyPgConfigure ref r s).now = s.now ∧
      (applyPgConfigure ref r s).pending = s.pending ∧
      (applyPgConfigure ref r s).flt.queue = s.flt.queue ∧
      (applyPgConfigure ref r s).rcd.waiting = s.rcd.waiting ∧
      (∀ bus, (Table.get ({} : Twb) (applyPgConfigure ref r s).twb bus).attn = (Table.get ({} : Twb) s.twb bus).attn) := by
  unfold applyPgConfigure; dsimp only; repeat' split
  all_goals simp

@[simp] theorem State.judgeSource_frame (s : State) (m : Nat) (fresh : Bool) :
    (State.judgeSource s m fresh).now = s.now ∧
      (State.judgeSource s m fresh).pending = s.pending ∧
      (State.judgeSource s m fresh).flt.queue = s.flt.queue ∧
      (State.judgeSource s m fresh).rcd.waiting = s.rcd.waiting ∧
      (∀ bus, (Table.get ({} : Twb) (State.judgeSource s m fresh).twb bus).attn = (Table.get ({} : Twb) s.twb bus).attn) := by
  simp [State.judgeSource]

@[simp] theorem applyWmConfigure_frame (ref : CmdRef) (r : Request) (s : State) :
    (applyWmConfigure ref r s).now = s.now ∧
      (applyWmConfigure ref r s).pending = s.pending ∧
      (applyWmConfigure ref r s).flt.queue = s.flt.queue ∧
      (applyWmConfigure ref r s).rcd.waiting = s.rcd.waiting ∧
      (∀ bus, (Table.get ({} : Twb) (applyWmConfigure ref r s).twb bus).attn = (Table.get ({} : Twb) s.twb bus).attn) := by
  simp [applyWmConfigure]

@[simp] theorem applyWmClear_frame (ref : CmdRef) (r : Request) (s : State) :
    (applyWmClear ref r s).now = s.now ∧
      (applyWmClear ref r s).pending = s.pending ∧
      (applyWmClear ref r s).flt.queue = s.flt.queue ∧
      (applyWmClear ref r s).rcd.waiting = s.rcd.waiting ∧
      (∀ bus, (Table.get ({} : Twb) (applyWmClear ref r s).twb bus).attn = (Table.get ({} : Twb) s.twb bus).attn) := by
  simp [applyWmClear]

@[simp] theorem applyPinAssign_frame (ref : CmdRef) (r : Request) (s : State) :
    (applyPinAssign ref r s).now = s.now ∧
      (applyPinAssign ref r s).pending = s.pending ∧
      (applyPinAssign ref r s).flt.queue = s.flt.queue ∧
      (applyPinAssign ref r s).rcd.waiting = s.rcd.waiting ∧
      (∀ bus, (Table.get ({} : Twb) (applyPinAssign ref r s).twb bus).attn = (Table.get ({} : Twb) s.twb bus).attn) := by
  simp [applyPinAssign]


end Sys2Proof.Machine
end

