-- ==== Sys2Proof/Laws/FramesSystem.lean ====
section
/-!
SUPPORT. What each operation of the link, recorder, fault, boot, radio, capture, object and ring families leaves alone: the time, the waiting commands, and
the bounded queues of the collector, the recorder and the two-wire buses.
-/

namespace Sys2Proof.Machine

/-! HostOps -/

@[simp] theorem State.modLink_frame (s : State) (f : Link → Link) :
    (State.modLink s f).now = s.now ∧
      (State.modLink s f).pending = s.pending ∧
      (State.modLink s f).flt.queue = s.flt.queue ∧
      (State.modLink s f).rcd.waiting = s.rcd.waiting ∧
      (∀ bus, (Table.get ({} : Twb) (State.modLink s f).twb bus).attn = (Table.get ({} : Twb) s.twb bus).attn) := by
  simp [State.modLink]

@[simp] theorem State.modJcp_frame (s : State) (f : Jcp → Jcp) :
    (State.modJcp s f).now = s.now ∧
      (State.modJcp s f).pending = s.pending ∧
      (State.modJcp s f).flt.queue = s.flt.queue ∧
      (State.modJcp s f).rcd.waiting = s.rcd.waiting ∧
      (∀ bus, (Table.get ({} : Twb) (State.modJcp s f).twb bus).attn = (Table.get ({} : Twb) s.twb bus).attn) := by
  simp [State.modJcp]

@[simp] theorem State.phaseBegins_frame (s : State) :
    (State.phaseBegins s).now = s.now ∧
      (State.phaseBegins s).pending = s.pending ∧
      (State.phaseBegins s).flt.queue = s.flt.queue ∧
      (State.phaseBegins s).rcd.waiting = s.rcd.waiting ∧
      (∀ bus, (Table.get ({} : Twb) (State.phaseBegins s).twb bus).attn = (Table.get ({} : Twb) s.twb bus).attn) := by
  simp [State.phaseBegins]

@[simp] theorem State.fillBuffer_frame (s : State) (slot : Nat) (nbytes : Nat) (last : Bool) :
    (State.fillBuffer s slot nbytes last).now = s.now ∧
      (State.fillBuffer s slot nbytes last).pending = s.pending ∧
      (State.fillBuffer s slot nbytes last).flt.queue = s.flt.queue ∧
      (State.fillBuffer s slot nbytes last).rcd.waiting = s.rcd.waiting ∧
      (∀ bus, (Table.get ({} : Twb) (State.fillBuffer s slot nbytes last).twb bus).attn = (Table.get ({} : Twb) s.twb bus).attn) := by
  unfold State.fillBuffer; split <;> simp

@[simp] theorem State.endStream_frame (s : State) (slot : Nat) (status : Nat) (sub : Nat) :
    (State.endStream s slot status sub).now = s.now ∧
      (State.endStream s slot status sub).pending = s.pending ∧
      (State.endStream s slot status sub).flt.queue = s.flt.queue ∧
      (State.endStream s slot status sub).rcd.waiting = s.rcd.waiting ∧
      (∀ bus, (Table.get ({} : Twb) (State.endStream s slot status sub).twb bus).attn = (Table.get ({} : Twb) s.twb bus).attn) := by
  simp [State.endStream]

@[simp] theorem State.dropStream_frame (s : State) (slot : Nat) :
    (State.dropStream s slot).now = s.now ∧
      (State.dropStream s slot).pending = s.pending ∧
      (State.dropStream s slot).flt.queue = s.flt.queue ∧
      (State.dropStream s slot).rcd.waiting = s.rcd.waiting ∧
      (∀ bus, (Table.get ({} : Twb) (State.dropStream s slot).twb bus).attn = (Table.get ({} : Twb) s.twb bus).attn) := by
  unfold State.dropStream; dsimp only; repeat' split
  all_goals simp

@[simp] theorem State.cutStream_frame (s : State) (slot : Nat) (status : Nat) (sub : Nat) :
    (State.cutStream s slot status sub).now = s.now ∧
      (State.cutStream s slot status sub).pending = s.pending ∧
      (State.cutStream s slot status sub).flt.queue = s.flt.queue ∧
      (State.cutStream s slot status sub).rcd.waiting = s.rcd.waiting ∧
      (∀ bus, (Table.get ({} : Twb) (State.cutStream s slot status sub).twb bus).attn = (Table.get ({} : Twb) s.twb bus).attn) := by
  simp [State.cutStream]

@[simp] theorem State.fitStreams_frame (s : State) :
    (State.fitStreams s).now = s.now ∧
      (State.fitStreams s).pending = s.pending ∧
      (State.fitStreams s).flt.queue = s.flt.queue ∧
      (State.fitStreams s).rcd.waiting = s.rcd.waiting ∧
      (∀ bus, (Table.get ({} : Twb) (State.fitStreams s).twb bus).attn = (Table.get ({} : Twb) s.twb bus).attn) := by
  simp [State.fitStreams]

@[simp] theorem State.suspendRings_frame (s : State) :
    (State.suspendRings s).now = s.now ∧
      (State.suspendRings s).pending = s.pending ∧
      (State.suspendRings s).flt.queue = s.flt.queue ∧
      (State.suspendRings s).rcd.waiting = s.rcd.waiting ∧
      (∀ bus, (Table.get ({} : Twb) (State.suspendRings s).twb bus).attn = (Table.get ({} : Twb) s.twb bus).attn) := by
  simp [State.suspendRings]

@[simp] theorem State.usbLost_frame (s : State) (usb2 : Bool) :
    (State.usbLost s usb2).now = s.now ∧
      (State.usbLost s usb2).pending = s.pending ∧
      (State.usbLost s usb2).flt.queue = s.flt.queue ∧
      (State.usbLost s usb2).rcd.waiting = s.rcd.waiting ∧
      (∀ bus, (Table.get ({} : Twb) (State.usbLost s usb2).twb bus).attn = (Table.get ({} : Twb) s.twb bus).attn) := by
  simp [State.usbLost]

@[simp] theorem State.linkLost_frame (s : State) :
    (State.linkLost s).now = s.now ∧
      (State.linkLost s).pending = s.pending ∧
      (State.linkLost s).flt.queue = s.flt.queue ∧
      (State.linkLost s).rcd.waiting = s.rcd.waiting ∧
      (∀ bus, (Table.get ({} : Twb) (State.linkLost s).twb bus).attn = (Table.get ({} : Twb) s.twb bus).attn) := by
  simp [State.linkLost]

@[simp] theorem State.excludeLane_frame (s : State) (lane : Nat) :
    (State.excludeLane s lane).now = s.now ∧
      (State.excludeLane s lane).pending = s.pending ∧
      (State.excludeLane s lane).flt.queue = s.flt.queue ∧
      (State.excludeLane s lane).rcd.waiting = s.rcd.waiting ∧
      (∀ bus, (Table.get ({} : Twb) (State.excludeLane s lane).twb bus).attn = (Table.get ({} : Twb) s.twb bus).attn) := by
  simp [State.excludeLane]

@[simp] theorem State.postLink_frame (s : State) :
    (State.postLink s).now = s.now ∧
      (State.postLink s).pending = s.pending ∧
      (State.postLink s).flt.queue = s.flt.queue ∧
      (State.postLink s).rcd.waiting = s.rcd.waiting ∧
      (∀ bus, (Table.get ({} : Twb) (State.postLink s).twb bus).attn = (Table.get ({} : Twb) s.twb bus).attn) := by
  simp [State.postLink]

@[simp] theorem State.discardRings_frame (s : State) :
    (State.discardRings s).now = s.now ∧
      (State.discardRings s).pending = s.pending ∧
      (State.discardRings s).flt.queue = s.flt.queue ∧
      (State.discardRings s).rcd.waiting = s.rcd.waiting ∧
      (∀ bus, (Table.get ({} : Twb) (State.discardRings s).twb bus).attn = (Table.get ({} : Twb) s.twb bus).attn) := by
  simp [State.discardRings]

@[simp] theorem State.stopRing_frame (s : State) (n : Nat) (e : Nat) :
    (State.stopRing s n e).now = s.now ∧
      (State.stopRing s n e).pending = s.pending ∧
      (State.stopRing s n e).flt.queue = s.flt.queue ∧
      (State.stopRing s n e).rcd.waiting = s.rcd.waiting ∧
      (∀ bus, (Table.get ({} : Twb) (State.stopRing s n e).twb bus).attn = (Table.get ({} : Twb) s.twb bus).attn) := by
  simp [State.stopRing]

@[simp] theorem State.openBarrier_frame (s : State) (cause : Nat) (ring : Nat) :
    (State.openBarrier s cause ring).now = s.now ∧
      (State.openBarrier s cause ring).pending = s.pending ∧
      (State.openBarrier s cause ring).flt.queue = s.flt.queue ∧
      (State.openBarrier s cause ring).rcd.waiting = s.rcd.waiting ∧
      (∀ bus, (Table.get ({} : Twb) (State.openBarrier s cause ring).twb bus).attn = (Table.get ({} : Twb) s.twb bus).attn) := by
  simp [State.openBarrier]

@[simp] theorem State.modSetup_frame (s : State) (sel : Nat) (f : Setup → Setup) :
    (State.modSetup s sel f).now = s.now ∧
      (State.modSetup s sel f).pending = s.pending ∧
      (State.modSetup s sel f).flt.queue = s.flt.queue ∧
      (State.modSetup s sel f).rcd.waiting = s.rcd.waiting ∧
      (∀ bus, (Table.get ({} : Twb) (State.modSetup s sel f).twb bus).attn = (Table.get ({} : Twb) s.twb bus).attn) := by
  simp [State.modSetup]

@[simp] theorem State.clearSetup_frame (s : State) :
    (State.clearSetup s).now = s.now ∧
      (State.clearSetup s).pending = s.pending ∧
      (State.clearSetup s).flt.queue = s.flt.queue ∧
      (State.clearSetup s).rcd.waiting = s.rcd.waiting ∧
      (∀ bus, (Table.get ({} : Twb) (State.clearSetup s).twb bus).attn = (Table.get ({} : Twb) s.twb bus).attn) := by
  simp [State.clearSetup]

@[simp] theorem State.adminReady_frame (s : State) :
    (State.adminReady s).now = s.now ∧
      (State.adminReady s).pending = s.pending ∧
      (State.adminReady s).flt.queue = s.flt.queue ∧
      (State.adminReady s).rcd.waiting = s.rcd.waiting ∧
      (∀ bus, (Table.get ({} : Twb) (State.adminReady s).twb bus).attn = (Table.get ({} : Twb) s.twb bus).attn) := by
  simp [State.adminReady]

@[simp] theorem State.setupGo_frame (s : State) :
    (State.setupGo s).now = s.now ∧
      (State.setupGo s).pending = s.pending ∧
      (State.setupGo s).flt.queue = s.flt.queue ∧
      (State.setupGo s).rcd.waiting = s.rcd.waiting ∧
      (∀ bus, (Table.get ({} : Twb) (State.setupGo s).twb bus).attn = (Table.get ({} : Twb) s.twb bus).attn) := by
  unfold State.setupGo; split <;> simp

@[simp] theorem State.drainRings_frame (s : State) (ns : List Nat) :
    (State.drainRings s ns).now = s.now ∧
      (State.drainRings s ns).pending = s.pending ∧
      (State.drainRings s ns).flt.queue = s.flt.queue ∧
      (State.drainRings s ns).rcd.waiting = s.rcd.waiting ∧
      (∀ bus, (Table.get ({} : Twb) (State.drainRings s ns).twb bus).attn = (Table.get ({} : Twb) s.twb bus).attn) := by
  simp [State.drainRings]

@[simp] theorem State.setupResume_frame (s : State) (session : Nat) :
    (State.setupResume s session).now = s.now ∧
      (State.setupResume s session).pending = s.pending ∧
      (State.setupResume s session).flt.queue = s.flt.queue ∧
      (State.setupResume s session).rcd.waiting = s.rcd.waiting ∧
      (∀ bus, (Table.get ({} : Twb) (State.setupResume s session).twb bus).attn = (Table.get ({} : Twb) s.twb bus).attn) := by
  simp [State.setupResume]

@[simp] theorem State.setupWord_frame (s : State) (code : Nat) (sel : Nat) (value : Nat) :
    (State.setupWord s code sel value).now = s.now ∧
      (State.setupWord s code sel value).pending = s.pending ∧
      (State.setupWord s code sel value).flt.queue = s.flt.queue ∧
      (State.setupWord s code sel value).rcd.waiting = s.rcd.waiting ∧
      (∀ bus, (Table.get ({} : Twb) (State.setupWord s code sel value).twb bus).attn = (Table.get ({} : Twb) s.twb bus).attn) := by
  simp [State.setupWord]

@[simp] theorem State.doorbell_frame (s : State) (off : Nat) (size : Nat) (v : Nat) :
    (State.doorbell s off size v).now = s.now ∧
      (State.doorbell s off size v).pending = s.pending ∧
      (State.doorbell s off size v).flt.queue = s.flt.queue ∧
      (State.doorbell s off size v).rcd.waiting = s.rcd.waiting ∧
      (∀ bus, (Table.get ({} : Twb) (State.doorbell s off size v).twb bus).attn = (Table.get ({} : Twb) s.twb bus).attn) := by
  simp [State.doorbell]

@[simp] theorem State.resetRings_frame (s : State) :
    (State.resetRings s).now = s.now ∧
      (State.resetRings s).pending = s.pending ∧
      (State.resetRings s).flt.queue = s.flt.queue ∧
      (State.resetRings s).rcd.waiting = s.rcd.waiting ∧
      (∀ bus, (Table.get ({} : Twb) (State.resetRings s).twb bus).attn = (Table.get ({} : Twb) s.twb bus).attn) := by
  simp [State.resetRings]


/-! RecOps -/

@[simp] theorem State.modRec_frame (s : State) (f : Rec → Rec) :
    (State.modRec s f).now = s.now ∧
      (State.modRec s f).pending = s.pending ∧
      (State.modRec s f).flt.queue = s.flt.queue ∧
      (∀ bus, (Table.get ({} : Twb) (State.modRec s f).twb bus).attn = (Table.get ({} : Twb) s.twb bus).attn) := by
  simp [State.modRec]

@[simp] theorem State.putSnap_frame (s : State) (x : Snap) :
    (State.putSnap s x).now = s.now ∧
      (State.putSnap s x).pending = s.pending ∧
      (State.putSnap s x).flt.queue = s.flt.queue ∧
      (∀ bus, (Table.get ({} : Twb) (State.putSnap s x).twb bus).attn = (Table.get ({} : Twb) s.twb bus).attn) := by
  simp [State.putSnap]

@[simp] theorem State.putFixed_frame (s : State) (trigger : Nat) (source : Nat) (payload : List Byte) :
    (State.putFixed s trigger source payload).now = s.now ∧
      (State.putFixed s trigger source payload).pending = s.pending ∧
      (State.putFixed s trigger source payload).flt.queue = s.flt.queue ∧
      (∀ bus, (Table.get ({} : Twb) (State.putFixed s trigger source payload).twb bus).attn = (Table.get ({} : Twb) s.twb bus).attn) := by
  simp [State.putFixed]

@[simp] theorem State.writeRecord_frame (s : State) (x : Snap) :
    (State.writeRecord s x).now = s.now ∧
      (State.writeRecord s x).pending = s.pending ∧
      (State.writeRecord s x).flt.queue = s.flt.queue ∧
      (State.writeRecord s x).rcd.waiting = s.rcd.waiting ∧
      (∀ bus, (Table.get ({} : Twb) (State.writeRecord s x).twb bus).attn = (Table.get ({} : Twb) s.twb bus).attn) := by
  simp [State.writeRecord]

@[simp] theorem State.flushRepeats_frame (s : State) :
    (State.flushRepeats s).now = s.now ∧
      (State.flushRepeats s).pending = s.pending ∧
      (State.flushRepeats s).flt.queue = s.flt.queue ∧
      (State.flushRepeats s).rcd.waiting = s.rcd.waiting ∧
      (∀ bus, (Table.get ({} : Twb) (State.flushRepeats s).twb bus).attn = (Table.get ({} : Twb) s.twb bus).attn) := by
  simp [State.flushRepeats]

@[simp] theorem State.storeHour_frame (s : State) (hour : Nat) (partial_ : Bool) (e : Nat × Hist) :
    (State.storeHour s hour partial_ e).now = s.now ∧
      (State.storeHour s hour partial_ e).pending = s.pending ∧
      (State.storeHour s hour partial_ e).flt.queue = s.flt.queue ∧
      (State.storeHour s hour partial_ e).rcd.waiting = s.rcd.waiting ∧
      (∀ bus, (Table.get ({} : Twb) (State.storeHour s hour partial_ e).twb bus).attn = (Table.get ({} : Twb) s.twb bus).attn) := by
  simp [State.storeHour]

@[simp] theorem State.newHour_frame (s : State) :
    (State.newHour s).now = s.now ∧
      (State.newHour s).pending = s.pending ∧
      (State.newHour s).flt.queue = s.flt.queue ∧
      (State.newHour s).rcd.waiting = s.rcd.waiting ∧
      (∀ bus, (Table.get ({} : Twb) (State.newHour s).twb bus).attn = (Table.get ({} : Twb) s.twb bus).attn) := by
  simp [State.newHour]

@[simp] theorem State.closeHour_frame (s : State) (partial_ : Bool) :
    (State.closeHour s partial_).now = s.now ∧
      (State.closeHour s partial_).pending = s.pending ∧
      (State.closeHour s partial_).flt.queue = s.flt.queue ∧
      (State.closeHour s partial_).rcd.waiting = s.rcd.waiting ∧
      (∀ bus, (Table.get ({} : Twb) (State.closeHour s partial_).twb bus).attn = (Table.get ({} : Twb) s.twb bus).attn) := by
  simp [State.closeHour]

@[simp] theorem State.releaseFreeze_frame (s : State) :
    (State.releaseFreeze s).now = s.now ∧
      (State.releaseFreeze s).pending = s.pending ∧
      (State.releaseFreeze s).flt.queue = s.flt.queue ∧
      (∀ bus, (Table.get ({} : Twb) (State.releaseFreeze s).twb bus).attn = (Table.get ({} : Twb) s.twb bus).attn) := by
  simp [State.releaseFreeze]

@[simp] theorem State.recorderRest_frame (s : State) :
    (State.recorderRest s).now = s.now ∧
      (State.recorderRest s).pending = s.pending ∧
      (State.recorderRest s).flt.queue = s.flt.queue ∧
      (∀ bus, (Table.get ({} : Twb) (State.recorderRest s).twb bus).attn = (Table.get ({} : Twb) s.twb bus).attn) := by
  simp [State.recorderRest]

@[simp] theorem writeRecTrig_frame (t : Nat) (v : Nat) (s : State) :
    (writeRecTrig t v s).now = s.now ∧
      (writeRecTrig t v s).pending = s.pending ∧
      (writeRecTrig t v s).flt.queue = s.flt.queue ∧
      (writeRecTrig t v s).rcd.waiting = s.rcd.waiting ∧
      (∀ bus, (Table.get ({} : Twb) (writeRecTrig t v s).twb bus).attn = (Table.get ({} : Twb) s.twb bus).attn) := by
  simp [writeRecTrig]

@[simp] theorem writeRecSnap_frame (n : Nat) (v : Nat) (s : State) :
    (writeRecSnap n v s).now = s.now ∧
      (writeRecSnap n v s).pending = s.pending ∧
      (writeRecSnap n v s).flt.queue = s.flt.queue ∧
      (writeRecSnap n v s).rcd.waiting = s.rcd.waiting ∧
      (∀ bus, (Table.get ({} : Twb) (writeRecSnap n v s).twb bus).attn = (Table.get ({} : Twb) s.twb bus).attn) := by
  simp [writeRecSnap]

@[simp] theorem writeRecCmdSel_frame (g : Nat) (v : Nat) (s : State) :
    (writeRecCmdSel g v s).now = s.now ∧
      (writeRecCmdSel g v s).pending = s.pending ∧
      (writeRecCmdSel g v s).flt.queue = s.flt.queue ∧
      (writeRecCmdSel g v s).rcd.waiting = s.rcd.waiting ∧
      (∀ bus, (Table.get ({} : Twb) (writeRecCmdSel g v s).twb bus).attn = (Table.get ({} : Twb) s.twb bus).attn) := by
  simp [writeRecCmdSel]

@[simp] theorem writeRecStats_frame (g : Nat) (v : Nat) (s : State) :
    (writeRecStats g v s).now = s.now ∧
      (writeRecStats g v s).pending = s.pending ∧
      (writeRecStats g v s).flt.queue = s.flt.queue ∧
      (writeRecStats g v s).rcd.waiting = s.rcd.waiting ∧
      (∀ bus, (Table.get ({} : Twb) (writeRecStats g v s).twb bus).attn = (Table.get ({} : Twb) s.twb bus).attn) := by
  simp [writeRecStats]


/-! FltOps -/

@[simp] theorem State.modFlt_frame (s : State) (f : Flt → Flt) :
    (State.modFlt s f).now = s.now ∧
      (State.modFlt s f).pending = s.pending ∧
      (State.modFlt s f).rcd.waiting = s.rcd.waiting ∧
      (∀ bus, (Table.get ({} : Twb) (State.modFlt s f).twb bus).attn = (Table.get ({} : Twb) s.twb bus).attn) := by
  simp [State.modFlt]

@[simp] theorem State.aliveFrom_frame (s : State) (old : State) :
    (State.aliveFrom s old).now = s.now ∧
      (State.aliveFrom s old).pending = s.pending ∧
      (State.aliveFrom s old).flt.queue = s.flt.queue ∧
      (State.aliveFrom s old).rcd.waiting = s.rcd.waiting ∧
      (∀ bus, (Table.get ({} : Twb) (State.aliveFrom s old).twb bus).attn = (Table.get ({} : Twb) s.twb bus).attn) := by
  simp [State.aliveFrom]

@[simp] theorem State.fenceTx_frame (s : State) (c : Nat) :
    (State.fenceTx s c).now = s.now ∧
      (State.fenceTx s c).pending = s.pending ∧
      (State.fenceTx s c).flt.queue = s.flt.queue ∧
      (State.fenceTx s c).rcd.waiting = s.rcd.waiting ∧
      (∀ bus, (Table.get ({} : Twb) (State.fenceTx s c).twb bus).attn = (Table.get ({} : Twb) s.twb bus).attn) := by
  simp [State.fenceTx]

@[simp] theorem State.fenceCan_frame (s : State) (c : Nat) :
    (State.fenceCan s c).now = s.now ∧
      (State.fenceCan s c).pending = s.pending ∧
      (State.fenceCan s c).flt.queue = s.flt.queue ∧
      (State.fenceCan s c).rcd.waiting = s.rcd.waiting ∧
      (∀ bus, (Table.get ({} : Twb) (State.fenceCan s c).twb bus).attn = (Table.get ({} : Twb) s.twb bus).attn) := by
  simp [State.fenceCan]

@[simp] theorem State.loseLane_frame (s : State) (c : Nat) (lane : Nat) :
    (State.loseLane s c lane).now = s.now ∧
      (State.loseLane s c lane).pending = s.pending ∧
      (State.loseLane s c lane).flt.queue = s.flt.queue ∧
      (State.loseLane s c lane).rcd.waiting = s.rcd.waiting ∧
      (∀ bus, (Table.get ({} : Twb) (State.loseLane s c lane).twb bus).attn = (Table.get ({} : Twb) s.twb bus).attn) := by
  simp [State.loseLane]

@[simp] theorem State.loseCanLane_frame (s : State) (c : Nat) (lane : Nat) :
    (State.loseCanLane s c lane).now = s.now ∧
      (State.loseCanLane s c lane).pending = s.pending ∧
      (State.loseCanLane s c lane).flt.queue = s.flt.queue ∧
      (State.loseCanLane s c lane).rcd.waiting = s.rcd.waiting ∧
      (∀ bus, (Table.get ({} : Twb) (State.loseCanLane s c lane).twb bus).attn = (Table.get ({} : Twb) s.twb bus).attn) := by
  simp [State.loseCanLane]

@[simp] theorem State.fenceMonitor_frame (s : State) (m : Nat) :
    (State.fenceMonitor s m).now = s.now ∧
      (State.fenceMonitor s m).pending = s.pending ∧
      (State.fenceMonitor s m).flt.queue = s.flt.queue ∧
      (State.fenceMonitor s m).rcd.waiting = s.rcd.waiting ∧
      (∀ bus, (Table.get ({} : Twb) (State.fenceMonitor s m).twb bus).attn = (Table.get ({} : Twb) s.twb bus).attn) := by
  simp [State.fenceMonitor]

@[simp] theorem State.fenceRing_frame (s : State) (n : Nat) :
    (State.fenceRing s n).now = s.now ∧
      (State.fenceRing s n).pending = s.pending ∧
      (State.fenceRing s n).flt.queue = s.flt.queue ∧
      (State.fenceRing s n).rcd.waiting = s.rcd.waiting ∧
      (∀ bus, (Table.get ({} : Twb) (State.fenceRing s n).twb bus).attn = (Table.get ({} : Twb) s.twb bus).attn) := by
  simp [State.fenceRing]

@[simp] theorem State.fencePair_frame (s : State) (p : Nat) :
    (State.fencePair s p).now = s.now ∧
      (State.fencePair s p).pending = s.pending ∧
      (State.fencePair s p).flt.queue = s.flt.queue ∧
      (State.fencePair s p).rcd.waiting = s.rcd.waiting ∧
      (∀ bus, (Table.get ({} : Twb) (State.fencePair s p).twb bus).attn = (Table.get ({} : Twb) s.twb bus).attn) := by
  simp [State.fencePair]

@[simp] theorem State.fenceBus_frame (s : State) (b : Nat) :
    (State.fenceBus s b).now = s.now ∧
      (State.fenceBus s b).pending = s.pending ∧
      (State.fenceBus s b).flt.queue = s.flt.queue ∧
      (State.fenceBus s b).rcd.waiting = s.rcd.waiting ∧
      (∀ bus, (Table.get ({} : Twb) (State.fenceBus s b).twb bus).attn = (Table.get ({} : Twb) s.twb bus).attn) := by
  simp [State.fenceBus]

@[simp] theorem State.fenceUnit_frame (s : State) (d : Due) :
    (State.fenceUnit s d).now = s.now ∧
      (State.fenceUnit s d).pending = s.pending ∧
      (State.fenceUnit s d).flt.queue = s.flt.queue ∧
      (State.fenceUnit s d).rcd.waiting = s.rcd.waiting ∧
      (∀ bus, (Table.get ({} : Twb) (State.fenceUnit s d).twb bus).attn = (Table.get ({} : Twb) s.twb bus).attn) := by
  simp [State.fenceUnit]

@[simp] theorem State.noteFault_frame (s : State) (d : Due) (level : Option Nat) (forced : Bool) :
    (State.noteFault s d level forced).now = s.now ∧
      (State.noteFault s d level forced).pending = s.pending ∧
      (State.noteFault s d level forced).rcd.waiting = s.rcd.waiting ∧
      (∀ bus, (Table.get ({} : Twb) (State.noteFault s d level forced).twb bus).attn = (Table.get ({} : Twb) s.twb bus).attn) := by
  simp [State.noteFault]

@[simp] theorem State.react_frame (s : State) (d : Due) (level : Nat) (forced : Bool) :
    (State.react s d level forced).now = s.now ∧
      (State.react s d level forced).pending = s.pending ∧
      (State.react s d level forced).flt.queue = s.flt.queue ∧
      (State.react s d level forced).rcd.waiting = s.rcd.waiting ∧
      (∀ bus, (Table.get ({} : Twb) (State.react s d level forced).twb bus).attn = (Table.get ({} : Twb) s.twb bus).attn) := by
  simp [State.react]

@[simp] theorem State.detect_frame (s : State) (d : Due) (forced : Bool) :
    (State.detect s d forced).now = s.now ∧
      (State.detect s d forced).pending = s.pending ∧
      (State.detect s d forced).rcd.waiting = s.rcd.waiting ∧
      (∀ bus, (Table.get ({} : Twb) (State.detect s d forced).twb bus).attn = (Table.get ({} : Twb) s.twb bus).attn) := by
  unfold State.detect; dsimp only; repeat' split
  all_goals simp

@[simp] theorem State.fixedAction_frame (s : State) (d : Due) :
    (State.fixedAction s d).now = s.now ∧
      (State.fixedAction s d).pending = s.pending ∧
      (State.fixedAction s d).flt.queue = s.flt.queue ∧
      (State.fixedAction s d).rcd.waiting = s.rcd.waiting ∧
      (∀ bus, (Table.get ({} : Twb) (State.fixedAction s d).twb bus).attn = (Table.get ({} : Twb) s.twb bus).attn) := by
  simp [State.fixedAction]

@[simp] theorem State.detectAfresh_frame (s : State) (bs : List Nat) :
    (State.detectAfresh s bs).now = s.now ∧
      (State.detectAfresh s bs).pending = s.pending ∧
      (State.detectAfresh s bs).rcd.waiting = s.rcd.waiting ∧
      (∀ bus, (Table.get ({} : Twb) (State.detectAfresh s bs).twb bus).attn = (Table.get ({} : Twb) s.twb bus).attn) := by
  simp [State.detectAfresh]

@[simp] theorem State.refreshMerged_frame (s : State) (cls : Nat → Bool) :
    (State.refreshMerged s cls).now = s.now ∧
      (State.refreshMerged s cls).pending = s.pending ∧
      (State.refreshMerged s cls).rcd.waiting = s.rcd.waiting ∧
      (∀ bus, (Table.get ({} : Twb) (State.refreshMerged s cls).twb bus).attn = (Table.get ({} : Twb) s.twb bus).attn) := by
  simp [State.refreshMerged]

@[simp] theorem State.acknowledge_frame (s : State) (mask : BitVec 64) (rearm : Bool) :
    (State.acknowledge s mask rearm).now = s.now ∧
      (State.acknowledge s mask rearm).pending = s.pending ∧
      (State.acknowledge s mask rearm).rcd.waiting = s.rcd.waiting ∧
      (∀ bus, (Table.get ({} : Twb) (State.acknowledge s mask rearm).twb bus).attn = (Table.get ({} : Twb) s.twb bus).attn) := by
  simp [State.acknowledge]


/-! BootOps -/

@[simp] theorem State.modBoot_frame (s : State) (f : Boot → Boot) :
    (State.modBoot s f).now = s.now ∧
      (State.modBoot s f).pending = s.pending ∧
      (State.modBoot s f).flt.queue = s.flt.queue ∧
      (State.modBoot s f).rcd.waiting = s.rcd.waiting ∧
      (∀ bus, (Table.get ({} : Twb) (State.modBoot s f).twb bus).attn = (Table.get ({} : Twb) s.twb bus).attn) := by
  simp [State.modBoot]

@[simp] theorem State.wholeReset_frame (s : State) (src : Nat) :
    (State.wholeReset s src).now = s.now ∧
      (State.wholeReset s src).pending = s.pending := by
  simp [State.wholeReset]

@[simp] theorem State.holdReset_frame (s : State) :
    (State.holdReset s).now = s.now ∧
      (State.holdReset s).pending = s.pending ∧
      (State.holdReset s).flt.queue = s.flt.queue ∧
      (State.holdReset s).rcd.waiting = s.rcd.waiting ∧
      (∀ bus, (Table.get ({} : Twb) (State.holdReset s).twb bus).attn = (Table.get ({} : Twb) s.twb bus).attn) := by
  simp [State.holdReset]

@[simp] theorem State.releaseReset_frame (s : State) (clksel : Bool) :
    (State.releaseReset s clksel).now = s.now ∧
      (State.releaseReset s clksel).pending = s.pending ∧
      (State.releaseReset s clksel).flt.queue = s.flt.queue ∧
      (State.releaseReset s clksel).rcd.waiting = s.rcd.waiting ∧
      (∀ bus, (Table.get ({} : Twb) (State.releaseReset s clksel).twb bus).attn = (Table.get ({} : Twb) s.twb bus).attn) := by
  simp [State.releaseReset]

@[simp] theorem State.writeWaiting_frame (s : State) :
    (State.writeWaiting s).now = s.now ∧
      (State.writeWaiting s).pending = s.pending ∧
      (State.writeWaiting s).flt.queue = s.flt.queue ∧
      (∀ bus, (Table.get ({} : Twb) (State.writeWaiting s).twb bus).attn = (Table.get ({} : Twb) s.twb bus).attn) := by
  simp [State.writeWaiting]

@[simp] theorem State.endFreeze_frame (s : State) :
    (State.endFreeze s).now = s.now ∧
      (State.endFreeze s).pending = s.pending ∧
      (State.endFreeze s).flt.queue = s.flt.queue ∧
      (∀ bus, (Table.get ({} : Twb) (State.endFreeze s).twb bus).attn = (Table.get ({} : Twb) s.twb bus).attn) := by
  simp [State.endFreeze]

@[simp] theorem State.restore_frame (s : State) (k : Settings) :
    (State.restore s k).now = s.now ∧
      (State.restore s k).pending = s.pending ∧
      (State.restore s k).flt.queue = s.flt.queue ∧
      (State.restore s k).rcd.waiting = s.rcd.waiting ∧
      (∀ bus, (Table.get ({} : Twb) (State.restore s k).twb bus).attn = (Table.get ({} : Twb) s.twb bus).attn) := by
  simp [State.restore]

@[simp] theorem State.powerGated_frame (s : State) :
    (State.powerGated s).now = s.now ∧
      (State.powerGated s).pending = s.pending ∧
      (State.powerGated s).flt.queue = s.flt.queue ∧
      (State.powerGated s).rcd.waiting = s.rcd.waiting := by
  simp [State.powerGated]

@[simp] theorem State.modLedger_frame (s : State) (f : Ledger → Ledger) :
    (State.modLedger s f).now = s.now ∧
      (State.modLedger s f).pending = s.pending ∧
      (State.modLedger s f).flt.queue = s.flt.queue ∧
      (State.modLedger s f).rcd.waiting = s.rcd.waiting ∧
      (∀ bus, (Table.get ({} : Twb) (State.modLedger s f).twb bus).attn = (Table.get ({} : Twb) s.twb bus).attn) := by
  simp [State.modLedger]

@[simp] theorem State.noteStep_frame (s : State) (n : Nat) (code : Nat) (detail : Nat) :
    (State.noteStep s n code detail).now = s.now ∧
      (State.noteStep s n code detail).pending = s.pending ∧
      (State.noteStep s n code detail).flt.queue = s.flt.queue ∧
      (State.noteStep s n code detail).rcd.waiting = s.rcd.waiting ∧
      (∀ bus, (Table.get ({} : Twb) (State.noteStep s n code detail).twb bus).attn = (Table.get ({} : Twb) s.twb bus).attn) := by
  simp [State.noteStep]

@[simp] theorem State.runStep_frame (s : State) (n : Nat) :
    (State.runStep s n).now = s.now ∧
      (State.runStep s n).pending = s.pending ∧
      (State.runStep s n).flt.queue = s.flt.queue ∧
      (State.runStep s n).rcd.waiting = s.rcd.waiting ∧
      (∀ bus, (Table.get ({} : Twb) (State.runStep s n).twb bus).attn = (Table.get ({} : Twb) s.twb bus).attn) := by
  simp [State.runStep]

@[simp] theorem State.skipStep_frame (s : State) (n : Nat) :
    (State.skipStep s n).now = s.now ∧
      (State.skipStep s n).pending = s.pending ∧
      (State.skipStep s n).flt.queue = s.flt.queue ∧
      (State.skipStep s n).rcd.waiting = s.rcd.waiting ∧
      (∀ bus, (Table.get ({} : Twb) (State.skipStep s n).twb bus).attn = (Table.get ({} : Twb) s.twb bus).attn) := by
  simp [State.skipStep]

@[simp] theorem State.setResult_frame (s : State) (v : Nat) :
    (State.setResult s v).now = s.now ∧
      (State.setResult s v).pending = s.pending ∧
      (State.setResult s v).flt.queue = s.flt.queue ∧
      (State.setResult s v).rcd.waiting = s.rcd.waiting ∧
      (∀ bus, (Table.get ({} : Twb) (State.setResult s v).twb bus).attn = (Table.get ({} : Twb) s.twb bus).attn) := by
  simp [State.setResult]

@[simp] theorem State.newEntry_frame (s : State) (src : Nat) (result : Nat) :
    (State.newEntry s src result).now = s.now ∧
      (State.newEntry s src result).pending = s.pending ∧
      (State.newEntry s src result).flt.queue = s.flt.queue ∧
      (State.newEntry s src result).rcd.waiting = s.rcd.waiting ∧
      (∀ bus, (Table.get ({} : Twb) (State.newEntry s src result).twb bus).attn = (Table.get ({} : Twb) s.twb bus).attn) := by
  simp [State.newEntry]

@[simp] theorem State.failBoot_frame (s : State) (n : Nat) :
    (State.failBoot s n).now = s.now ∧
      (State.failBoot s n).pending = s.pending ∧
      (State.failBoot s n).flt.queue = s.flt.queue ∧
      (State.failBoot s n).rcd.waiting = s.rcd.waiting ∧
      (∀ bus, (Table.get ({} : Twb) (State.failBoot s n).twb bus).attn = (Table.get ({} : Twb) s.twb bus).attn) := by
  simp [State.failBoot]

@[simp] theorem State.startStateWalk_frame (s : State) :
    (State.startStateWalk s).now = s.now ∧
      (State.startStateWalk s).pending = s.pending ∧
      (State.startStateWalk s).flt.queue = s.flt.queue ∧
      (State.startStateWalk s).rcd.waiting = s.rcd.waiting ∧
      (∀ bus, (Table.get ({} : Twb) (State.startStateWalk s).twb bus).attn = (Table.get ({} : Twb) s.twb bus).attn) := by
  simp [State.startStateWalk]

@[simp] theorem State.beginStart_frame (s : State) :
    (State.beginStart s).now = s.now ∧
      (State.beginStart s).pending = s.pending ∧
      (State.beginStart s).flt.queue = s.flt.queue ∧
      (State.beginStart s).rcd.waiting = s.rcd.waiting ∧
      (∀ bus, (Table.get ({} : Twb) (State.beginStart s).twb bus).attn = (Table.get ({} : Twb) s.twb bus).attn) := by
  simp [State.beginStart]

@[simp] theorem State.beginFgCal_frame (s : State) :
    (State.beginFgCal s).now = s.now ∧
      (State.beginFgCal s).pending = s.pending ∧
      (State.beginFgCal s).flt.queue = s.flt.queue ∧
      (State.beginFgCal s).rcd.waiting = s.rcd.waiting ∧
      (∀ bus, (Table.get ({} : Twb) (State.beginFgCal s).twb bus).attn = (Table.get ({} : Twb) s.twb bus).attn) := by
  simp [State.beginFgCal]

@[simp] theorem State.beginEarly_frame (s : State) :
    (State.beginEarly s).now = s.now ∧
      (State.beginEarly s).pending = s.pending ∧
      (State.beginEarly s).flt.queue = s.flt.queue ∧
      (State.beginEarly s).rcd.waiting = s.rcd.waiting ∧
      (∀ bus, (Table.get ({} : Twb) (State.beginEarly s).twb bus).attn = (Table.get ({} : Twb) s.twb bus).attn) := by
  simp [State.beginEarly]

@[simp] theorem State.beginProfile_frame (s : State) :
    (State.beginProfile s).now = s.now ∧
      (State.beginProfile s).pending = s.pending ∧
      (State.beginProfile s).flt.queue = s.flt.queue ∧
      (State.beginProfile s).rcd.waiting = s.rcd.waiting ∧
      (∀ bus, (Table.get ({} : Twb) (State.beginProfile s).twb bus).attn = (Table.get ({} : Twb) s.twb bus).attn) := by
  simp [State.beginProfile]

@[simp] theorem State.beginUsb2_frame (s : State) :
    (State.beginUsb2 s).now = s.now ∧
      (State.beginUsb2 s).pending = s.pending ∧
      (State.beginUsb2 s).flt.queue = s.flt.queue ∧
      (State.beginUsb2 s).rcd.waiting = s.rcd.waiting ∧
      (∀ bus, (Table.get ({} : Twb) (State.beginUsb2 s).twb bus).attn = (Table.get ({} : Twb) s.twb bus).attn) := by
  simp [State.beginUsb2]

@[simp] theorem State.endLedger_frame (s : State) (res : StepResult) :
    (State.endLedger s res).now = s.now ∧
      (State.endLedger s res).pending = s.pending ∧
      (State.endLedger s res).flt.queue = s.flt.queue ∧
      (State.endLedger s res).rcd.waiting = s.rcd.waiting ∧
      (∀ bus, (Table.get ({} : Twb) (State.endLedger s res).twb bus).attn = (Table.get ({} : Twb) s.twb bus).attn) := by
  simp [State.endLedger]

@[simp] theorem State.endImage_frame (s : State) (res : StepResult) :
    (State.endImage s res).now = s.now ∧
      (State.endImage s res).pending = s.pending ∧
      (State.endImage s res).flt.queue = s.flt.queue ∧
      (State.endImage s res).rcd.waiting = s.rcd.waiting ∧
      (∀ bus, (Table.get ({} : Twb) (State.endImage s res).twb bus).attn = (Table.get ({} : Twb) s.twb bus).attn) := by
  unfold State.endImage; split <;> simp

@[simp] theorem State.endPair_frame (s : State) (res : StepResult) :
    (State.endPair s res).now = s.now ∧
      (State.endPair s res).pending = s.pending ∧
      (State.endPair s res).flt.queue = s.flt.queue ∧
      (State.endPair s res).rcd.waiting = s.rcd.waiting ∧
      (∀ bus, (Table.get ({} : Twb) (State.endPair s res).twb bus).attn = (Table.get ({} : Twb) s.twb bus).attn) := by
  unfold State.endPair; split <;> simp

@[simp] theorem State.usb4Begins_frame (s : State) :
    (State.usb4Begins s).now = s.now ∧
      (State.usb4Begins s).pending = s.pending ∧
      (State.usb4Begins s).flt.queue = s.flt.queue ∧
      (State.usb4Begins s).rcd.waiting = s.rcd.waiting ∧
      (∀ bus, (Table.get ({} : Twb) (State.usb4Begins s).twb bus).attn = (Table.get ({} : Twb) s.twb bus).attn) := by
  simp [State.usb4Begins]

@[simp] theorem State.beginSynth_frame (s : State) :
    (State.beginSynth s).now = s.now ∧
      (State.beginSynth s).pending = s.pending ∧
      (State.beginSynth s).flt.queue = s.flt.queue ∧
      (State.beginSynth s).rcd.waiting = s.rcd.waiting ∧
      (∀ bus, (Table.get ({} : Twb) (State.beginSynth s).twb bus).attn = (Table.get ({} : Twb) s.twb bus).attn) := by
  simp [State.beginSynth]

@[simp] theorem State.takeProfile_frame (s : State) (primary : Bool) :
    (State.takeProfile s primary).now = s.now ∧
      (State.takeProfile s primary).pending = s.pending ∧
      (State.takeProfile s primary).flt.queue = s.flt.queue ∧
      (State.takeProfile s primary).rcd.waiting = s.rcd.waiting ∧
      (∀ bus, (Table.get ({} : Twb) (State.takeProfile s primary).twb bus).attn = (Table.get ({} : Twb) s.twb bus).attn) := by
  simp [State.takeProfile]

@[simp] theorem State.endProfile_frame (s : State) (res : StepResult) :
    (State.endProfile s res).now = s.now ∧
      (State.endProfile s res).pending = s.pending ∧
      (State.endProfile s res).flt.queue = s.flt.queue ∧
      (State.endProfile s res).rcd.waiting = s.rcd.waiting ∧
      (∀ bus, (Table.get ({} : Twb) (State.endProfile s res).twb bus).attn = (Table.get ({} : Twb) s.twb bus).attn) := by
  simp [State.endProfile]

@[simp] theorem State.endSlice_frame (s : State) (res : StepResult) :
    (State.endSlice s res).now = s.now ∧
      (State.endSlice s res).pending = s.pending ∧
      (State.endSlice s res).flt.queue = s.flt.queue ∧
      (State.endSlice s res).rcd.waiting = s.rcd.waiting ∧
      (∀ bus, (Table.get ({} : Twb) (State.endSlice s res).twb bus).attn = (Table.get ({} : Twb) s.twb bus).attn) := by
  unfold State.endSlice; split <;> simp

@[simp] theorem State.failEarly_frame (s : State) :
    (State.failEarly s).now = s.now ∧
      (State.failEarly s).pending = s.pending ∧
      (State.failEarly s).flt.queue = s.flt.queue ∧
      (State.failEarly s).rcd.waiting = s.rcd.waiting ∧
      (∀ bus, (Table.get ({} : Twb) (State.failEarly s).twb bus).attn = (Table.get ({} : Twb) s.twb bus).attn) := by
  simp [State.failEarly]

@[simp] theorem State.endEarly_frame (s : State) :
    (State.endEarly s).now = s.now ∧
      (State.endEarly s).pending = s.pending ∧
      (State.endEarly s).flt.queue = s.flt.queue ∧
      (State.endEarly s).rcd.waiting = s.rcd.waiting ∧
      (∀ bus, (Table.get ({} : Twb) (State.endEarly s).twb bus).attn = (Table.get ({} : Twb) s.twb bus).attn) := by
  simp [State.endEarly]

@[simp] theorem State.leaveEarly_frame (s : State) :
    (State.leaveEarly s).now = s.now ∧
      (State.leaveEarly s).pending = s.pending ∧
      (State.leaveEarly s).flt.queue = s.flt.queue ∧
      (State.leaveEarly s).rcd.waiting = s.rcd.waiting ∧
      (∀ bus, (Table.get ({} : Twb) (State.leaveEarly s).twb bus).attn = (Table.get ({} : Twb) s.twb bus).attn) := by
  simp [State.leaveEarly]

@[simp] theorem State.endClose_frame (s : State) :
    (State.endClose s).now = s.now ∧
      (State.endClose s).pending = s.pending ∧
      (State.endClose s).flt.queue = s.flt.queue ∧
      (State.endClose s).rcd.waiting = s.rcd.waiting ∧
      (∀ bus, (Table.get ({} : Twb) (State.endClose s).twb bus).attn = (Table.get ({} : Twb) s.twb bus).attn) := by
  simp [State.endClose]

@[simp] theorem State.endUsb4_frame (s : State) (ok : Bool) :
    (State.endUsb4 s ok).now = s.now ∧
      (State.endUsb4 s ok).pending = s.pending ∧
      (State.endUsb4 s ok).flt.queue = s.flt.queue ∧
      (State.endUsb4 s ok).rcd.waiting = s.rcd.waiting ∧
      (∀ bus, (Table.get ({} : Twb) (State.endUsb4 s ok).twb bus).attn = (Table.get ({} : Twb) s.twb bus).attn) := by
  simp [State.endUsb4]

@[simp] theorem State.endUsb2_frame (s : State) (res : StepResult) :
    (State.endUsb2 s res).now = s.now ∧
      (State.endUsb2 s res).pending = s.pending ∧
      (State.endUsb2 s res).flt.queue = s.flt.queue ∧
      (State.endUsb2 s res).rcd.waiting = s.rcd.waiting ∧
      (∀ bus, (Table.get ({} : Twb) (State.endUsb2 s res).twb bus).attn = (Table.get ({} : Twb) s.twb bus).attn) := by
  unfold State.endUsb2; split <;> simp

@[simp] theorem State.endSynth_frame (s : State) :
    (State.endSynth s).now = s.now ∧
      (State.endSynth s).pending = s.pending ∧
      (State.endSynth s).flt.queue = s.flt.queue ∧
      (State.endSynth s).rcd.waiting = s.rcd.waiting ∧
      (∀ bus, (Table.get ({} : Twb) (State.endSynth s).twb bus).attn = (Table.get ({} : Twb) s.twb bus).attn) := by
  simp [State.endSynth]

@[simp] theorem State.endEngine_frame (s : State) (res : StepResult) :
    (State.endEngine s res).now = s.now ∧
      (State.endEngine s res).pending = s.pending ∧
      (State.endEngine s res).flt.queue = s.flt.queue ∧
      (State.endEngine s res).rcd.waiting = s.rcd.waiting ∧
      (∀ bus, (Table.get ({} : Twb) (State.endEngine s res).twb bus).attn = (Table.get ({} : Twb) s.twb bus).attn) := by
  unfold State.endEngine; split <;> simp

@[simp] theorem State.endFgCal_frame (s : State) (res : StepResult) :
    (State.endFgCal s res).now = s.now ∧
      (State.endFgCal s res).pending = s.pending ∧
      (State.endFgCal s res).flt.queue = s.flt.queue ∧
      (State.endFgCal s res).rcd.waiting = s.rcd.waiting ∧
      (∀ bus, (Table.get ({} : Twb) (State.endFgCal s res).twb bus).attn = (Table.get ({} : Twb) s.twb bus).attn) := by
  unfold State.endFgCal; split <;> simp

@[simp] theorem State.endStart_frame (s : State) :
    (State.endStart s).now = s.now ∧
      (State.endStart s).pending = s.pending ∧
      (State.endStart s).flt.queue = s.flt.queue ∧
      (State.endStart s).rcd.waiting = s.rcd.waiting ∧
      (∀ bus, (Table.get ({} : Twb) (State.endStart s).twb bus).attn = (Table.get ({} : Twb) s.twb bus).attn) := by
  simp [State.endStart]

@[simp] theorem State.endStep_frame (s : State) (res : StepResult) :
    (State.endStep s res).now = s.now ∧
      (State.endStep s res).pending = s.pending ∧
      (State.endStep s res).flt.queue = s.flt.queue ∧
      (State.endStep s res).rcd.waiting = s.rcd.waiting ∧
      (∀ bus, (Table.get ({} : Twb) (State.endStep s res).twb bus).attn = (Table.get ({} : Twb) s.twb bus).attn) := by
  simp [State.endStep]

@[simp] theorem State.cutFgCal_frame (s : State) :
    (State.cutFgCal s).now = s.now ∧
      (State.cutFgCal s).pending = s.pending ∧
      (State.cutFgCal s).flt.queue = s.flt.queue ∧
      (State.cutFgCal s).rcd.waiting = s.rcd.waiting ∧
      (∀ bus, (Table.get ({} : Twb) (State.cutFgCal s).twb bus).attn = (Table.get ({} : Twb) s.twb bus).attn) := by
  simp [State.cutFgCal]


/-! Radio -/

@[simp] theorem State.moveTo_frame (s : State) (ref : CmdRef) (target : Nat) (tx : BitVec 8) (dir : BitVec 2) :
    (State.moveTo s ref target tx dir).now = s.now ∧
      (State.moveTo s ref target tx dir).pending = s.pending ∧
      (State.moveTo s ref target tx dir).flt.queue = s.flt.queue ∧
      (State.moveTo s ref target tx dir).rcd.waiting = s.rcd.waiting ∧
      (∀ bus, (Table.get ({} : Twb) (State.moveTo s ref target tx dir).twb bus).attn = (Table.get ({} : Twb) s.twb bus).attn) := by
  simp [State.moveTo]

@[simp] theorem State.redirect_frame (s : State) (w : Walk) (ref : CmdRef) (target : Nat) (tx : BitVec 8) (dir : BitVec 2) :
    (State.redirect s w ref target tx dir).now = s.now ∧
      (State.redirect s w ref target tx dir).pending = s.pending ∧
      (State.redirect s w ref target tx dir).flt.queue = s.flt.queue ∧
      (State.redirect s w ref target tx dir).rcd.waiting = s.rcd.waiting ∧
      (∀ bus, (Table.get ({} : Twb) (State.redirect s w ref target tx dir).twb bus).attn = (Table.get ({} : Twb) s.twb bus).attn) := by
  simp [State.redirect]

@[simp] theorem applyRadio_frame (ref : CmdRef) (r : Request) (s : State) :
    (applyRadio ref r s).now = s.now ∧
      (applyRadio ref r s).pending = s.pending ∧
      (applyRadio ref r s).flt.queue = s.flt.queue ∧
      (applyRadio ref r s).rcd.waiting = s.rcd.waiting ∧
      (∀ bus, (Table.get ({} : Twb) (applyRadio ref r s).twb bus).attn = (Table.get ({} : Twb) s.twb bus).attn) := by
  unfold applyRadio; dsimp only; repeat' split
  all_goals simp

@[simp] theorem State.sourceGone_frame (s : State) :
    (State.sourceGone s).now = s.now ∧
      (State.sourceGone s).pending = s.pending ∧
      (State.sourceGone s).flt.queue = s.flt.queue ∧
      (State.sourceGone s).rcd.waiting = s.rcd.waiting ∧
      (∀ bus, (Table.get ({} : Twb) (State.sourceGone s).twb bus).attn = (Table.get ({} : Twb) s.twb bus).attn) := by
  simp [State.sourceGone]

@[simp] theorem State.wakesUp_frame (s : State) :
    (State.wakesUp s).now = s.now ∧
      (State.wakesUp s).pending = s.pending ∧
      (State.wakesUp s).flt.queue = s.flt.queue ∧
      (State.wakesUp s).rcd.waiting = s.rcd.waiting ∧
      (∀ bus, (Table.get ({} : Twb) (State.wakesUp s).twb bus).attn = (Table.get ({} : Twb) s.twb bus).attn) := by
  simp [State.wakesUp]

@[simp] theorem State.sleptOn_frame (s : State) :
    (State.sleptOn s).now = s.now ∧
      (State.sleptOn s).pending = s.pending ∧
      (State.sleptOn s).flt.queue = s.flt.queue ∧
      (State.sleptOn s).rcd.waiting = s.rcd.waiting ∧
      (∀ bus, (Table.get ({} : Twb) (State.sleptOn s).twb bus).attn = (Table.get ({} : Twb) s.twb bus).attn) := by
  simp [State.sleptOn]

@[simp] theorem State.awake_frame (s : State) (src : Nat) :
    (State.awake s src).now = s.now ∧
      (State.awake s src).pending = s.pending ∧
      (State.awake s src).flt.queue = s.flt.queue ∧
      (State.awake s src).rcd.waiting = s.rcd.waiting ∧
      (∀ bus, (Table.get ({} : Twb) (State.awake s src).twb bus).attn = (Table.get ({} : Twb) s.twb bus).attn) := by
  simp [State.awake]

@[simp] theorem State.beginWake_frame (s : State) (src : Nat) :
    (State.beginWake s src).now = s.now ∧
      (State.beginWake s src).pending = s.pending ∧
      (State.beginWake s src).flt.queue = s.flt.queue ∧
      (State.beginWake s src).rcd.waiting = s.rcd.waiting ∧
      (∀ bus, (Table.get ({} : Twb) (State.beginWake s src).twb bus).attn = (Table.get ({} : Twb) s.twb bus).attn) := by
  simp [State.beginWake]

@[simp] theorem State.fallsAsleep_frame (s : State) :
    (State.fallsAsleep s).now = s.now ∧
      (State.fallsAsleep s).pending = s.pending ∧
      (State.fallsAsleep s).flt.queue = s.flt.queue ∧
      (State.fallsAsleep s).rcd.waiting = s.rcd.waiting := by
  simp [State.fallsAsleep]

@[simp] theorem State.stepEnds_frame (s : State) (w : Walk) :
    (State.stepEnds s w).now = s.now ∧
      (State.stepEnds s w).pending = s.pending ∧
      (State.stepEnds s w).flt.queue = s.flt.queue ∧
      (State.stepEnds s w).rcd.waiting = s.rcd.waiting ∧
      (∀ bus, (Table.get ({} : Twb) (State.stepEnds s w).twb bus).attn = (Table.get ({} : Twb) s.twb bus).attn) := by
  simp [State.stepEnds]

@[simp] theorem State.stepFails_frame (s : State) (w : Walk) :
    (State.stepFails s w).now = s.now ∧
      (State.stepFails s w).pending = s.pending ∧
      (State.stepFails s w).flt.queue = s.flt.queue ∧
      (State.stepFails s w).rcd.waiting = s.rcd.waiting ∧
      (∀ bus, (Table.get ({} : Twb) (State.stepFails s w).twb bus).attn = (Table.get ({} : Twb) s.twb bus).attn) := by
  simp [State.stepFails]

@[simp] theorem State.dividerStart_frame (s : State) :
    (State.dividerStart s).now = s.now ∧
      (State.dividerStart s).pending = s.pending ∧
      (State.dividerStart s).flt.queue = s.flt.queue ∧
      (State.dividerStart s).rcd.waiting = s.rcd.waiting ∧
      (∀ bus, (Table.get ({} : Twb) (State.dividerStart s).twb bus).attn = (Table.get ({} : Twb) s.twb bus).attn) := by
  simp [State.dividerStart]

@[simp] theorem State.setTap_frame (s : State) (code : BitVec 8) :
    (State.setTap s code).now = s.now ∧
      (State.setTap s code).pending = s.pending ∧
      (State.setTap s code).flt.queue = s.flt.queue ∧
      (State.setTap s code).rcd.waiting = s.rcd.waiting ∧
      (∀ bus, (Table.get ({} : Twb) (State.setTap s code).twb bus).attn = (Table.get ({} : Twb) s.twb bus).attn) := by
  simp [State.setTap]

@[simp] theorem writeRadioConfig_frame (v : Nat) (s : State) :
    (writeRadioConfig v s).now = s.now ∧
      (writeRadioConfig v s).pending = s.pending ∧
      (writeRadioConfig v s).flt.queue = s.flt.queue ∧
      (writeRadioConfig v s).rcd.waiting = s.rcd.waiting ∧
      (∀ bus, (Table.get ({} : Twb) (writeRadioConfig v s).twb bus).attn = (Table.get ({} : Twb) s.twb bus).attn) := by
  simp [writeRadioConfig]


/-! Boot -/

@[simp] theorem State.restartImage_frame (s : State) :
    (State.restartImage s).now = s.now ∧
      (State.restartImage s).pending = s.pending ∧
      (State.restartImage s).flt.queue = s.flt.queue ∧
      (State.restartImage s).rcd.waiting = s.rcd.waiting ∧
      (∀ bus, (Table.get ({} : Twb) (State.restartImage s).twb bus).attn = (Table.get ({} : Twb) s.twb bus).attn) := by
  simp [State.restartImage]

@[simp] theorem applyLedgerRead_frame (ref : CmdRef) (r : Request) (s : State) :
    (applyLedgerRead ref r s).now = s.now ∧
      (applyLedgerRead ref r s).pending = s.pending ∧
      (applyLedgerRead ref r s).flt.queue = s.flt.queue ∧
      (applyLedgerRead ref r s).rcd.waiting = s.rcd.waiting ∧
      (∀ bus, (Table.get ({} : Twb) (applyLedgerRead ref r s).twb bus).attn = (Table.get ({} : Twb) s.twb bus).attn) := by
  simp [applyLedgerRead]

@[simp] theorem applyFwUpdate_frame (ref : CmdRef) (r : Request) (s : State) :
    (applyFwUpdate ref r s).now = s.now ∧
      (applyFwUpdate ref r s).pending = s.pending ∧
      (applyFwUpdate ref r s).flt.queue = s.flt.queue ∧
      (applyFwUpdate ref r s).rcd.waiting = s.rcd.waiting ∧
      (∀ bus, (Table.get ({} : Twb) (applyFwUpdate ref r s).twb bus).attn = (Table.get ({} : Twb) s.twb bus).attn) := by
  simp [applyFwUpdate]

@[simp] theorem writeBootConfig_frame (v : Nat) (s : State) :
    (writeBootConfig v s).now = s.now ∧
      (writeBootConfig v s).pending = s.pending ∧
      (writeBootConfig v s).flt.queue = s.flt.queue ∧
      (writeBootConfig v s).rcd.waiting = s.rcd.waiting ∧
      (∀ bus, (Table.get ({} : Twb) (writeBootConfig v s).twb bus).attn = (Table.get ({} : Twb) s.twb bus).attn) := by
  simp [writeBootConfig]


/-! Link -/

@[simp] theorem State.drainAll_frame (s : State) :
    (State.drainAll s).now = s.now ∧
      (State.drainAll s).pending = s.pending ∧
      (State.drainAll s).flt.queue = s.flt.queue ∧
      (State.drainAll s).rcd.waiting = s.rcd.waiting ∧
      (∀ bus, (Table.get ({} : Twb) (State.drainAll s).twb bus).attn = (Table.get ({} : Twb) s.twb bus).attn) := by
  simp [State.drainAll]

@[simp] theorem State.sendPending_frame (s : State) :
    (State.sendPending s).now = s.now ∧
      (State.sendPending s).pending = s.pending ∧
      (State.sendPending s).flt.queue = s.flt.queue ∧
      (State.sendPending s).rcd.waiting = s.rcd.waiting ∧
      (∀ bus, (Table.get ({} : Twb) (State.sendPending s).twb bus).attn = (Table.get ({} : Twb) s.twb bus).attn) := by
  simp [State.sendPending]

@[simp] theorem State.takeItem_frame (s : State) (k : Nat) :
    (State.takeItem s k).now = s.now ∧
      (State.takeItem s k).pending = s.pending ∧
      (State.takeItem s k).flt.queue = s.flt.queue ∧
      (State.takeItem s k).rcd.waiting = s.rcd.waiting ∧
      (∀ bus, (Table.get ({} : Twb) (State.takeItem s k).twb bus).attn = (Table.get ({} : Twb) s.twb bus).attn) := by
  unfold State.takeItem; split <;> simp

@[simp] theorem State.setEpBlocks_frame (s : State) (ep : Nat) (l : List (Nat × List Byte)) :
    (State.setEpBlocks s ep l).now = s.now ∧
      (State.setEpBlocks s ep l).pending = s.pending ∧
      (State.setEpBlocks s ep l).flt.queue = s.flt.queue ∧
      (State.setEpBlocks s ep l).rcd.waiting = s.rcd.waiting ∧
      (∀ bus, (Table.get ({} : Twb) (State.setEpBlocks s ep l).twb bus).attn = (Table.get ({} : Twb) s.twb bus).attn) := by
  simp [State.setEpBlocks]

@[simp] theorem State.takeBlock_frame (s : State) (ep : Nat) :
    (State.takeBlock s ep).now = s.now ∧
      (State.takeBlock s ep).pending = s.pending ∧
      (State.takeBlock s ep).flt.queue = s.flt.queue ∧
      (State.takeBlock s ep).rcd.waiting = s.rcd.waiting ∧
      (∀ bus, (Table.get ({} : Twb) (State.takeBlock s ep).twb bus).attn = (Table.get ({} : Twb) s.twb bus).attn) := by
  unfold State.takeBlock; split <;> simp

@[simp] theorem clearLinkStatus_frame (s : State) :
    (clearLinkStatus s).now = s.now ∧
      (clearLinkStatus s).pending = s.pending ∧
      (clearLinkStatus s).flt.queue = s.flt.queue ∧
      (clearLinkStatus s).rcd.waiting = s.rcd.waiting ∧
      (∀ bus, (Table.get ({} : Twb) (clearLinkStatus s).twb bus).attn = (Table.get ({} : Twb) s.twb bus).attn) := by
  simp [clearLinkStatus]


/-! Capture -/

@[simp] theorem applyCapConfigure_frame (ref : CmdRef) (r : Request) (s : State) :
    (applyCapConfigure ref r s).now = s.now ∧
      (applyCapConfigure ref r s).pending = s.pending ∧
      (applyCapConfigure ref r s).flt.queue = s.flt.queue ∧
      (applyCapConfigure ref r s).rcd.waiting = s.rcd.waiting ∧
      (∀ bus, (Table.get ({} : Twb) (applyCapConfigure ref r s).twb bus).attn = (Table.get ({} : Twb) s.twb bus).attn) := by
  simp [applyCapConfigure]

@[simp] theorem applyCapStart_frame (ref : CmdRef) (r : Request) (s : State) :
    (applyCapStart ref r s).now = s.now ∧
      (applyCapStart ref r s).pending = s.pending ∧
      (applyCapStart ref r s).flt.queue = s.flt.queue ∧
      (applyCapStart ref r s).rcd.waiting = s.rcd.waiting ∧
      (∀ bus, (Table.get ({} : Twb) (applyCapStart ref r s).twb bus).attn = (Table.get ({} : Twb) s.twb bus).attn) := by
  simp [applyCapStart]

@[simp] theorem State.cutCapture_frame (s : State) (status : Nat) (sub : Nat) :
    (State.cutCapture s status sub).now = s.now ∧
      (State.cutCapture s status sub).pending = s.pending ∧
      (State.cutCapture s status sub).flt.queue = s.flt.queue ∧
      (State.cutCapture s status sub).rcd.waiting = s.rcd.waiting ∧
      (∀ bus, (Table.get ({} : Twb) (State.cutCapture s status sub).twb bus).attn = (Table.get ({} : Twb) s.twb bus).attn) := by
  simp [State.cutCapture]

@[simp] theorem State.capTriggered_frame (s : State) (at_ : Nat) :
    (State.capTriggered s at_).now = s.now ∧
      (State.capTriggered s at_).pending = s.pending ∧
      (State.capTriggered s at_).flt.queue = s.flt.queue ∧
      (State.capTriggered s at_).rcd.waiting = s.rcd.waiting ∧
      (∀ bus, (Table.get ({} : Twb) (State.capTriggered s at_).twb bus).attn = (Table.get ({} : Twb) s.twb bus).attn) := by
  simp [State.capTriggered]

@[simp] theorem applyCapStop_frame (ref : CmdRef) (r : Request) (s : State) :
    (applyCapStop ref r s).now = s.now ∧
      (applyCapStop ref r s).pending = s.pending ∧
      (applyCapStop ref r s).flt.queue = s.flt.queue ∧
      (applyCapStop ref r s).rcd.waiting = s.rcd.waiting ∧
      (∀ bus, (Table.get ({} : Twb) (applyCapStop ref r s).twb bus).attn = (Table.get ({} : Twb) s.twb bus).attn) := by
  simp [applyCapStop]

@[simp] theorem applyCapRead_frame (ref : CmdRef) (r : Request) (s : State) :
    (applyCapRead ref r s).now = s.now ∧
      (applyCapRead ref r s).pending = s.pending ∧
      (applyCapRead ref r s).flt.queue = s.flt.queue ∧
      (applyCapRead ref r s).rcd.waiting = s.rcd.waiting ∧
      (∀ bus, (Table.get ({} : Twb) (applyCapRead ref r s).twb bus).attn = (Table.get ({} : Twb) s.twb bus).attn) := by
  simp [applyCapRead]

@[simp] theorem State.giveBlock_frame (s : State) (slot : Nat) (bytes : List Byte) (last : Bool) :
    (State.giveBlock s slot bytes last).now = s.now ∧
      (State.giveBlock s slot bytes last).pending = s.pending ∧
      (State.giveBlock s slot bytes last).flt.queue = s.flt.queue ∧
      (State.giveBlock s slot bytes last).rcd.waiting = s.rcd.waiting ∧
      (∀ bus, (Table.get ({} : Twb) (State.giveBlock s slot bytes last).twb bus).attn = (Table.get ({} : Twb) s.twb bus).attn) := by
  simp [State.giveBlock]

@[simp] theorem State.dropBlock_frame (s : State) (slot : Nat) :
    (State.dropBlock s slot).now = s.now ∧
      (State.dropBlock s slot).pending = s.pending ∧
      (State.dropBlock s slot).flt.queue = s.flt.queue ∧
      (State.dropBlock s slot).rcd.waiting = s.rcd.waiting ∧
      (∀ bus, (Table.get ({} : Twb) (State.dropBlock s slot).twb bus).attn = (Table.get ({} : Twb) s.twb bus).attn) := by
  simp [State.dropBlock]


/-! Brass -/

@[simp] theorem State.outerAction_frame (s : State) (d : Due) :
    (State.outerAction s d).now = s.now ∧
      (State.outerAction s d).pending = s.pending ∧
      (State.outerAction s d).flt.queue = s.flt.queue ∧
      (State.outerAction s d).rcd.waiting = s.rcd.waiting ∧
      (∀ bus, (Table.get ({} : Twb) (State.outerAction s d).twb bus).attn = (Table.get ({} : Twb) s.twb bus).attn) := by
  simp [State.outerAction]

@[simp] theorem State.ctlRestarts_frame (s : State) :
    (State.ctlRestarts s).now = s.now ∧
      (State.ctlRestarts s).pending = s.pending ∧
      (State.ctlRestarts s).flt.queue = s.flt.queue ∧
      (State.ctlRestarts s).rcd.waiting = s.rcd.waiting ∧
      (∀ bus, (Table.get ({} : Twb) (State.ctlRestarts s).twb bus).attn = (Table.get ({} : Twb) s.twb bus).attn) := by
  simp [State.ctlRestarts]

@[simp] theorem applyFltConfigure_frame (ref : CmdRef) (r : Request) (s : State) :
    (applyFltConfigure ref r s).now = s.now ∧
      (applyFltConfigure ref r s).pending = s.pending ∧
      (applyFltConfigure ref r s).flt.queue = s.flt.queue ∧
      (applyFltConfigure ref r s).rcd.waiting = s.rcd.waiting ∧
      (∀ bus, (Table.get ({} : Twb) (applyFltConfigure ref r s).twb bus).attn = (Table.get ({} : Twb) s.twb bus).attn) := by
  simp [applyFltConfigure]

@[simp] theorem applyFltAck_frame (ref : CmdRef) (r : Request) (s : State) :
    (applyFltAck ref r s).now = s.now ∧
      (applyFltAck ref r s).pending = s.pending ∧
      (applyFltAck ref r s).rcd.waiting = s.rcd.waiting ∧
      (∀ bus, (Table.get ({} : Twb) (applyFltAck ref r s).twb bus).attn = (Table.get ({} : Twb) s.twb bus).attn) := by
  simp [applyFltAck]

@[simp] theorem applyFltForce_frame (ref : CmdRef) (r : Request) (s : State) :
    (applyFltForce ref r s).now = s.now ∧
      (applyFltForce ref r s).pending = s.pending ∧
      (applyFltForce ref r s).rcd.waiting = s.rcd.waiting ∧
      (∀ bus, (Table.get ({} : Twb) (applyFltForce ref r s).twb bus).attn = (Table.get ({} : Twb) s.twb bus).attn) := by
  simp [applyFltForce]

@[simp] theorem State.report_frame (s : State) (injected : Bool) (b : Nat) (addr : Nat) (kind : Nat) :
    (State.report s injected b addr kind).now = s.now ∧
      (State.report s injected b addr kind).pending = s.pending ∧
      (State.report s injected b addr kind).rcd.waiting = s.rcd.waiting ∧
      (∀ bus, (Table.get ({} : Twb) (State.report s injected b addr kind).twb bus).attn = (Table.get ({} : Twb) s.twb bus).attn) := by
  simp [State.report]

@[simp] theorem State.replaceRow_frame (s : State) (injected : Bool) (bank : Nat) :
    (State.replaceRow s injected bank).now = s.now ∧
      (State.replaceRow s injected bank).pending = s.pending ∧
      (State.replaceRow s injected bank).rcd.waiting = s.rcd.waiting ∧
      (∀ bus, (Table.get ({} : Twb) (State.replaceRow s injected bank).twb bus).attn = (Table.get ({} : Twb) s.twb bus).attn) := by
  simp [State.replaceRow]

@[simp] theorem State.storeCorrected_frame (s : State) (injected : Bool) (word : Nat) :
    (State.storeCorrected s injected word).now = s.now ∧
      (State.storeCorrected s injected word).pending = s.pending ∧
      (State.storeCorrected s injected word).rcd.waiting = s.rcd.waiting ∧
      (∀ bus, (Table.get ({} : Twb) (State.storeCorrected s injected word).twb bus).attn = (Table.get ({} : Twb) s.twb bus).attn) := by
  simp [State.storeCorrected]

@[simp] theorem State.storeBroken_frame (s : State) (word : Nat) :
    (State.storeBroken s word).now = s.now ∧
      (State.storeBroken s word).pending = s.pending ∧
      (State.storeBroken s word).flt.queue = s.flt.queue ∧
      (State.storeBroken s word).rcd.waiting = s.rcd.waiting ∧
      (∀ bus, (Table.get ({} : Twb) (State.storeBroken s word).twb bus).attn = (Table.get ({} : Twb) s.twb bus).attn) := by
  simp [State.storeBroken]

@[simp] theorem State.loseBank_frame (s : State) (g : Nat) (tx : Bool) (b : Nat) :
    (State.loseBank s g tx b).now = s.now ∧
      (State.loseBank s g tx b).pending = s.pending ∧
      (State.loseBank s g tx b).flt.queue = s.flt.queue ∧
      (State.loseBank s g tx b).rcd.waiting = s.rcd.waiting ∧
      (∀ bus, (Table.get ({} : Twb) (State.loseBank s g tx b).twb bus).attn = (Table.get ({} : Twb) s.twb bus).attn) := by
  simp [State.loseBank]

@[simp] theorem State.uncorrectable_frame (s : State) (injected : Bool) (mem : Nat) (word : Nat) :
    (State.uncorrectable s injected mem word).now = s.now ∧
      (State.uncorrectable s injected mem word).pending = s.pending ∧
      (State.uncorrectable s injected mem word).rcd.waiting = s.rcd.waiting ∧
      (∀ bus, (Table.get ({} : Twb) (State.uncorrectable s injected mem word).twb bus).attn = (Table.get ({} : Twb) s.twb bus).attn) := by
  unfold State.uncorrectable; simp; repeat' split
  all_goals simp

@[simp] theorem State.memoryError_frame (s : State) (mem : Nat) (word : Nat) (double : Bool) (injected : Bool) :
    (State.memoryError s mem word double injected).now = s.now ∧
      (State.memoryError s mem word double injected).pending = s.pending ∧
      (State.memoryError s mem word double injected).rcd.waiting = s.rcd.waiting ∧
      (∀ bus, (Table.get ({} : Twb) (State.memoryError s mem word double injected).twb bus).attn = (Table.get ({} : Twb) s.twb bus).attn) := by
  simp [State.memoryError]

@[simp] theorem State.scrub_frame (s : State) (here : Nat → Bool) :
    (State.scrub s here).now = s.now ∧
      (State.scrub s here).pending = s.pending ∧
      (State.scrub s here).rcd.waiting = s.rcd.waiting ∧
      (∀ bus, (Table.get ({} : Twb) (State.scrub s here).twb bus).attn = (Table.get ({} : Twb) s.twb bus).attn) := by
  simp [State.scrub]

@[simp] theorem State.ncoChecked_frame (s : State) :
    (State.ncoChecked s).now = s.now ∧
      (State.ncoChecked s).pending = s.pending ∧
      (State.ncoChecked s).flt.queue = s.flt.queue ∧
      (State.ncoChecked s).rcd.waiting = s.rcd.waiting ∧
      (∀ bus, (Table.get ({} : Twb) (State.ncoChecked s).twb bus).attn = (Table.get ({} : Twb) s.twb bus).attn) := by
  simp [State.ncoChecked]


/-! Objects -/

@[simp] theorem State.objClear_frame (s : State) (o : Nat) (i : Nat) :
    (State.objClear s o i).now = s.now ∧
      (State.objClear s o i).pending = s.pending ∧
      (State.objClear s o i).flt.queue = s.flt.queue ∧
      (State.objClear s o i).rcd.waiting = s.rcd.waiting ∧
      (∀ bus, (Table.get ({} : Twb) (State.objClear s o i).twb bus).attn = (Table.get ({} : Twb) s.twb bus).attn) := by
  unfold State.objClear; split
  all_goals first | (simp; done) | (refine ⟨by simp, by simp, by simp, by simp, fun bus => ?_⟩; exact State.modTwb_attn _ _ _ _ (fun _ => rfl))

@[simp] theorem State.readObjects_frame (s : State) (o first n : Nat) :
    (State.readObjects s o first n).2.now = s.now ∧
      (State.readObjects s o first n).2.pending = s.pending ∧
      (State.readObjects s o first n).2.flt.queue = s.flt.queue ∧
      (State.readObjects s o first n).2.rcd.waiting = s.rcd.waiting ∧
      (∀ bus, (Table.get ({} : Twb) (State.readObjects s o first n).2.twb bus).attn = (Table.get ({} : Twb) s.twb bus).attn) := by
  induction n generalizing s first with
  | zero => simp [State.readObjects]
  | succ n ih => simp [State.readObjects, ih]

@[simp] theorem applyObjRead_frame (ref : CmdRef) (r : Request) (s : State) :
    (applyObjRead ref r s).now = s.now ∧
      (applyObjRead ref r s).pending = s.pending ∧
      (applyObjRead ref r s).flt.queue = s.flt.queue ∧
      (applyObjRead ref r s).rcd.waiting = s.rcd.waiting ∧
      (∀ bus, (Table.get ({} : Twb) (applyObjRead ref r s).twb bus).attn = (Table.get ({} : Twb) s.twb bus).attn) := by
  unfold applyObjRead; dsimp only; split <;> simp

@[simp] theorem State.objPut_frame (s : State) (o : Nat) (i : Nat) (v : Nat) :
    (State.objPut s o i v).now = s.now ∧
      (State.objPut s o i v).pending = s.pending ∧
      (State.objPut s o i v).flt.queue = s.flt.queue ∧
      (State.objPut s o i v).rcd.waiting = s.rcd.waiting ∧
      (∀ bus, (Table.get ({} : Twb) (State.objPut s o i v).twb bus).attn = (Table.get ({} : Twb) s.twb bus).attn) := by
  unfold State.objPut; split <;> simp

@[simp] theorem State.objW1cClear_frame (s : State) (o : Nat) (i : Nat) (m : Nat) :
    (State.objW1cClear s o i m).now = s.now ∧
      (State.objW1cClear s o i m).pending = s.pending ∧
      (State.objW1cClear s o i m).rcd.waiting = s.rcd.waiting ∧
      (∀ bus, (Table.get ({} : Twb) (State.objW1cClear s o i m).twb bus).attn = (Table.get ({} : Twb) s.twb bus).attn) := by
  unfold State.objW1cClear; split <;> simp

@[simp] theorem applyObjWrite_frame (ref : CmdRef) (r : Request) (s : State) :
    (applyObjWrite ref r s).now = s.now ∧
      (applyObjWrite ref r s).pending = s.pending ∧
      (applyObjWrite ref r s).rcd.waiting = s.rcd.waiting ∧
      (∀ bus, (Table.get ({} : Twb) (applyObjWrite ref r s).twb bus).attn = (Table.get ({} : Twb) s.twb bus).attn) := by
  simp [applyObjWrite]

@[simp] theorem applyIdentify_frame (ref : CmdRef) (r : Request) (s : State) :
    (applyIdentify ref r s).now = s.now ∧
      (applyIdentify ref r s).pending = s.pending ∧
      (applyIdentify ref r s).flt.queue = s.flt.queue ∧
      (applyIdentify ref r s).rcd.waiting = s.rcd.waiting ∧
      (∀ bus, (Table.get ({} : Twb) (applyIdentify ref r s).twb bus).attn = (Table.get ({} : Twb) s.twb bus).attn) := by
  simp [applyIdentify]

@[simp] theorem applyTlm_frame (ref : CmdRef) (r : Request) (s : State) :
    (applyTlm ref r s).now = s.now ∧
      (applyTlm ref r s).pending = s.pending ∧
      (applyTlm ref r s).flt.queue = s.flt.queue ∧
      (applyTlm ref r s).rcd.waiting = s.rcd.waiting ∧
      (∀ bus, (Table.get ({} : Twb) (applyTlm ref r s).twb bus).attn = (Table.get ({} : Twb) s.twb bus).attn) := by
  simp [applyTlm]

@[simp] theorem State.bar2Write_frame (s : State) (_off : Nat) (_v : Nat) :
    (State.bar2Write s _off _v).now = s.now ∧
      (State.bar2Write s _off _v).pending = s.pending ∧
      (State.bar2Write s _off _v).flt.queue = s.flt.queue ∧
      (State.bar2Write s _off _v).rcd.waiting = s.rcd.waiting ∧
      (∀ bus, (Table.get ({} : Twb) (State.bar2Write s _off _v).twb bus).attn = (Table.get ({} : Twb) s.twb bus).attn) := by
  simp [State.bar2Write]


/-! Jcp -/

@[simp] theorem State.setupDoorbell_frame (s : State) (code : Nat) (sel : BitVec 2) (value : BitVec 26) :
    (State.setupDoorbell s code sel value).now = s.now ∧
      (State.setupDoorbell s code sel value).pending = s.pending ∧
      (State.setupDoorbell s code sel value).flt.queue = s.flt.queue ∧
      (State.setupDoorbell s code sel value).rcd.waiting = s.rcd.waiting ∧
      (∀ bus, (Table.get ({} : Twb) (State.setupDoorbell s code sel value).twb bus).attn = (Table.get ({} : Twb) s.twb bus).attn) := by
  simp [State.setupDoorbell]

@[simp] theorem applyRingCreate_frame (ref : CmdRef) (r : Request) (s : State) :
    (applyRingCreate ref r s).now = s.now ∧
      (applyRingCreate ref r s).pending = s.pending ∧
      (applyRingCreate ref r s).flt.queue = s.flt.queue ∧
      (applyRingCreate ref r s).rcd.waiting = s.rcd.waiting ∧
      (∀ bus, (Table.get ({} : Twb) (applyRingCreate ref r s).twb bus).attn = (Table.get ({} : Twb) s.twb bus).attn) := by
  simp [applyRingCreate]

@[simp] theorem applyRingDelete_frame (ref : CmdRef) (r : Request) (s : State) :
    (applyRingDelete ref r s).now = s.now ∧
      (applyRingDelete ref r s).pending = s.pending ∧
      (applyRingDelete ref r s).flt.queue = s.flt.queue ∧
      (applyRingDelete ref r s).rcd.waiting = s.rcd.waiting ∧
      (∀ bus, (Table.get ({} : Twb) (applyRingDelete ref r s).twb bus).attn = (Table.get ({} : Twb) s.twb bus).attn) := by
  simp [applyRingDelete]

@[simp] theorem applyAbort_frame (ref : CmdRef) (r : Request) (s : State) :
    (applyAbort ref r s).now = s.now ∧
      (applyAbort ref r s).pending = s.pending ∧
      (applyAbort ref r s).flt.queue = s.flt.queue ∧
      (applyAbort ref r s).rcd.waiting = s.rcd.waiting ∧
      (∀ bus, (Table.get ({} : Twb) (applyAbort ref r s).twb bus).attn = (Table.get ({} : Twb) s.twb bus).attn) := by
  unfold applyAbort; dsimp only; repeat' split
  all_goals simp

@[simp] theorem State.busStops_frame (s : State) (b : Nat) :
    (State.busStops s b).now = s.now ∧
      (State.busStops s b).pending = s.pending ∧
      (State.busStops s b).flt.queue = s.flt.queue ∧
      (State.busStops s b).rcd.waiting = s.rcd.waiting ∧
      (∀ bus, (Table.get ({} : Twb) (State.busStops s b).twb bus).attn = (Table.get ({} : Twb) s.twb bus).attn) := by
  unfold State.busStops; dsimp only; repeat' split
  all_goals simp

@[simp] theorem State.mgmtRestart_frame (s : State) :
    (State.mgmtRestart s).now = s.now ∧
      (State.mgmtRestart s).pending = s.pending ∧
      (State.mgmtRestart s).flt.queue = s.flt.queue ∧
      (∀ bus, (Table.get ({} : Twb) (State.mgmtRestart s).twb bus).attn = (Table.get ({} : Twb) s.twb bus).attn) := by
  simp [State.mgmtRestart]

@[simp] theorem applyTestEcho_frame (ref : CmdRef) (r : Request) (s : State) :
    (applyTestEcho ref r s).now = s.now ∧
      (applyTestEcho ref r s).pending = s.pending ∧
      (applyTestEcho ref r s).flt.queue = s.flt.queue ∧
      (applyTestEcho ref r s).rcd.waiting = s.rcd.waiting ∧
      (∀ bus, (Table.get ({} : Twb) (applyTestEcho ref r s).twb bus).attn = (Table.get ({} : Twb) s.twb bus).attn) := by
  simp [applyTestEcho]

@[simp] theorem applyTestEccInject_frame (ref : CmdRef) (r : Request) (s : State) :
    (applyTestEccInject ref r s).now = s.now ∧
      (applyTestEccInject ref r s).pending = s.pending ∧
      (applyTestEccInject ref r s).flt.queue = s.flt.queue ∧
      (applyTestEccInject ref r s).rcd.waiting = s.rcd.waiting ∧
      (∀ bus, (Table.get ({} : Twb) (applyTestEccInject ref r s).twb bus).attn = (Table.get ({} : Twb) s.twb bus).attn) := by
  simp [applyTestEccInject]


/-! Recorder -/

/-- What a repeat counted into an earlier snapshot leaves alone. -/
theorem State.coalesce_frame {s t : State} {code source ms : Nat} (h : s.coalesce code source ms = some t) :
    t.now = s.now ∧
      t.pending = s.pending ∧
      t.flt.queue = s.flt.queue ∧
      (∀ bus, (Table.get ({} : Twb) t.twb bus).attn = (Table.get ({} : Twb) s.twb bus).attn) := by
  unfold State.coalesce at h; dsimp only at h
  split at h
  · cases h
  · split at h
    · split at h
      · split at h
        · cases h; simp
        · cases h
      · cases h
    · split at h
      · split at h
        · cases h; simp
        · cases h
      · cases h

@[simp] theorem State.takeSnapshot_frame (s : State) (code : Nat) (source : Nat) (injected : Bool) :
    (State.takeSnapshot s code source injected).now = s.now ∧
      (State.takeSnapshot s code source injected).pending = s.pending ∧
      (State.takeSnapshot s code source injected).flt.queue = s.flt.queue ∧
      (∀ bus, (Table.get ({} : Twb) (State.takeSnapshot s code source injected).twb bus).attn = (Table.get ({} : Twb) s.twb bus).attn) := by
  unfold State.takeSnapshot; dsimp only
  split
  · simp
  · split
    · simp
    · split
      · rename_i t h; exact State.coalesce_frame h
      · simp

@[simp] theorem State.takeTrigger_frame (s : State) :
    (State.takeTrigger s).now = s.now ∧
      (State.takeTrigger s).pending = s.pending ∧
      (State.takeTrigger s).flt.queue = s.flt.queue ∧
      (∀ bus, (Table.get ({} : Twb) (State.takeTrigger s).twb bus).attn = (Table.get ({} : Twb) s.twb bus).attn) := by
  unfold State.takeTrigger; split <;> simp

@[simp] theorem State.noteMissed_frame (s : State) :
    (State.noteMissed s).now = s.now ∧
      (State.noteMissed s).pending = s.pending ∧
      (State.noteMissed s).flt.queue = s.flt.queue ∧
      (∀ bus, (Table.get ({} : Twb) (State.noteMissed s).twb bus).attn = (Table.get ({} : Twb) s.twb bus).attn) := by
  simp [State.noteMissed]

@[simp] theorem State.freeze_frame (s : State) :
    (State.freeze s).now = s.now ∧
      (State.freeze s).pending = s.pending ∧
      (State.freeze s).flt.queue = s.flt.queue ∧
      (∀ bus, (Table.get ({} : Twb) (State.freeze s).twb bus).attn = (Table.get ({} : Twb) s.twb bus).attn) := by
  simp [State.freeze]

@[simp] theorem applyRecFreeze_frame (ref : CmdRef) (r : Request) (s : State) :
    (applyRecFreeze ref r s).now = s.now ∧
      (applyRecFreeze ref r s).pending = s.pending ∧
      (applyRecFreeze ref r s).flt.queue = s.flt.queue ∧
      (∀ bus, (Table.get ({} : Twb) (applyRecFreeze ref r s).twb bus).attn = (Table.get ({} : Twb) s.twb bus).attn) := by
  simp [applyRecFreeze]

@[simp] theorem applyRecRead_frame (ref : CmdRef) (r : Request) (s : State) :
    (applyRecRead ref r s).now = s.now ∧
      (applyRecRead ref r s).pending = s.pending ∧
      (applyRecRead ref r s).flt.queue = s.flt.queue ∧
      (applyRecRead ref r s).rcd.waiting = s.rcd.waiting ∧
      (∀ bus, (Table.get ({} : Twb) (applyRecRead ref r s).twb bus).attn = (Table.get ({} : Twb) s.twb bus).attn) := by
  simp [applyRecRead]

@[simp] theorem applyHosttime_frame (ref : CmdRef) (r : Request) (s : State) :
    (applyHosttime ref r s).now = s.now ∧
      (applyHosttime ref r s).pending = s.pending ∧
      (applyHosttime ref r s).flt.queue = s.flt.queue ∧
      (∀ bus, (Table.get ({} : Twb) (applyHosttime ref r s).twb bus).attn = (Table.get ({} : Twb) s.twb bus).attn) := by
  simp [applyHosttime]

@[simp] theorem applyClearArm_frame (ref : CmdRef) (r : Request) (s : State) :
    (applyClearArm ref r s).now = s.now ∧
      (applyClearArm ref r s).pending = s.pending ∧
      (applyClearArm ref r s).flt.queue = s.flt.queue ∧
      (applyClearArm ref r s).rcd.waiting = s.rcd.waiting ∧
      (∀ bus, (Table.get ({} : Twb) (applyClearArm ref r s).twb bus).attn = (Table.get ({} : Twb) s.twb bus).attn) := by
  simp [applyClearArm]

@[simp] theorem State.clearRecords_frame (s : State) (stats : Bool) :
    (State.clearRecords s stats).now = s.now ∧
      (State.clearRecords s stats).pending = s.pending ∧
      (State.clearRecords s stats).flt.queue = s.flt.queue ∧
      (State.clearRecords s stats).rcd.waiting = s.rcd.waiting ∧
      (∀ bus, (Table.get ({} : Twb) (State.clearRecords s stats).twb bus).attn = (Table.get ({} : Twb) s.twb bus).attn) := by
  simp [State.clearRecords]

@[simp] theorem applyClearExec_frame (ref : CmdRef) (r : Request) (s : State) :
    (applyClearExec ref r s).now = s.now ∧
      (applyClearExec ref r s).pending = s.pending ∧
      (applyClearExec ref r s).flt.queue = s.flt.queue ∧
      (applyClearExec ref r s).rcd.waiting = s.rcd.waiting ∧
      (∀ bus, (Table.get ({} : Twb) (applyClearExec ref r s).twb bus).attn = (Table.get ({} : Twb) s.twb bus).attn) := by
  simp [applyClearExec]

@[simp] theorem State.giveItems_frame (s : State) (k : Nat) :
    (State.giveItems s k).now = s.now ∧
      (State.giveItems s k).pending = s.pending ∧
      (State.giveItems s k).flt.queue = s.flt.queue ∧
      (State.giveItems s k).rcd.waiting = s.rcd.waiting ∧
      (∀ bus, (Table.get ({} : Twb) (State.giveItems s k).twb bus).attn = (Table.get ({} : Twb) s.twb bus).attn) := by
  simp [State.giveItems]

@[simp] theorem State.recorderCloses_frame (s : State) :
    (State.recorderCloses s).now = s.now ∧
      (State.recorderCloses s).pending = s.pending ∧
      (State.recorderCloses s).flt.queue = s.flt.queue ∧
      (∀ bus, (Table.get ({} : Twb) (State.recorderCloses s).twb bus).attn = (Table.get ({} : Twb) s.twb bus).attn) := by
  simp [State.recorderCloses]

@[simp] theorem State.postHeld_frame (s : State) (ref : CmdRef) :
    (State.postHeld s ref).now = s.now ∧
      (State.postHeld s ref).pending = s.pending ∧
      (State.postHeld s ref).flt.queue = s.flt.queue ∧
      (State.postHeld s ref).rcd.waiting = s.rcd.waiting ∧
      (∀ bus, (Table.get ({} : Twb) (State.postHeld s ref).twb bus).attn = (Table.get ({} : Twb) s.twb bus).attn) := by
  unfold State.postHeld; split <;> simp

@[simp] theorem applyDeviceReset_frame (ref : CmdRef) (q : Request) (s : State) :
    (applyDeviceReset ref q s).now = s.now ∧
      (applyDeviceReset ref q s).pending = s.pending := by
  simp [applyDeviceReset]


/-! Commands -/

@[simp] theorem State.receive_frame (s : State) (op : Nat) (r : Request) :
    (State.receive s op r).now = s.now ∧
      (State.receive s op r).pending = s.pending ∧
      (State.receive s op r).flt.queue = s.flt.queue ∧
      (State.receive s op r).rcd.waiting = s.rcd.waiting ∧
      (∀ bus, (Table.get ({} : Twb) (State.receive s op r).twb bus).attn = (Table.get ({} : Twb) s.twb bus).attn) := by
  unfold State.receive; dsimp only; repeat' split
  all_goals simp


end Sys2Proof.Machine
end

