-- ==== Sys2Proof/Laws/Issue.lean ====
section
/-!
SUPPORT. How a command packet that starts as it arrives is applied.
-/

namespace Sys2Proof.Machine

/-- Spending a ring's credit leaves the queues of commands alone. -/
@[simp] theorem State.spend_queues (s : State) (n : Nat) : (s.spend n).jcp.queues = s.jcp.queues := by
  have each : ∀ (l : List Nat) (f : Ring → Ring) (t : State),
      (l.foldl (fun (s : State) m => s.modRing m f) t).jcp.queues = t.jcp.queues := by
    intro l f
    induction l with
    | nil => intro t; rfl
    | cons x l ih => intro t; rw [List.foldl_cons, ih]; rfl
  unfold State.spend
  by_cases h : 0 < (s.ring n).credit ∨ n = 0
  · simp only [h, if_true]; rfl
  · simp only [h, if_false, State.each]
    exact each _ _ s

/-- A delivered packet is the last of its source's queue. -/
theorem State.deliver_queue (s : State) (op : Nat) (r : Request) :
    (s.deliver op r).queue (srcKey r.src) =
      s.queue (srcKey r.src) ++ [{ id := s.jcp.nextId, op := op, req := r, fetchedAt := s.now }] := by
  unfold State.deliver State.queue
  dsimp only
  split
  · simp only [State.emit, State.modRing, State.spend_queues, State.setQueue]; simp
  · simp only [State.setQueue]; simp

/-- A packet that starts as it arrives: its command's first effect, on the state in which it has started. -/
theorem State.issue_takes {s : State} {d : CmdDef} {r : Request} (h : s.takes d r = true) :
    s.issue d r = d.apply (s.nextRef r) r (s.started d.op r) := by
  simp only [State.takes, Bool.and_eq_true, decide_eq_true_eq, Option.isNone_iff_eq_none] at h
  obtain ⟨⟨⟨⟨hc, hq⟩, hd⟩, hm⟩, hv⟩ := h
  have hw : (s.deliver d.op r).firstWaiting (srcKey r.src) =
      some { id := s.jcp.nextId, op := d.op, req := r, fetchedAt := s.now } := by
    unfold State.firstWaiting
    rw [State.deliver_queue, List.find?_append]
    have : (s.queue (srcKey r.src)).find? (fun e => !e.phase.begun) = none := by
      simp only [List.find?_eq_none]; intro e he; simp [List.all_eq_true.mp hq e he]
    rw [this]; simp [Phase.begun]
  simp only [State.issue, hc, if_true, hd, hw, hm, and_self, State.begin, hv]
  rfl

/-! The commands of the index: opcode, length and first effect. -/

@[simp] theorem cmdTddConfigure_op : cmdTddConfigure.op = 0x0501 := rfl
@[simp] theorem cmdTddConfigure_plen : cmdTddConfigure.plen = 48 := rfl
@[simp] theorem cmdTddConfigure_apply : cmdTddConfigure.apply = applyTddConfigure := by simp only [cmdTddConfigure]
@[simp] theorem cmdTddSetGates_op : cmdTddSetGates.op = 0x0502 := rfl
@[simp] theorem cmdTddSetGates_plen : cmdTddSetGates.plen = 24 := rfl
@[simp] theorem cmdTddSetGates_apply : cmdTddSetGates.apply = applyTddSetGates := by simp only [cmdTddSetGates]
@[simp] theorem cmdNpSetLimits_op : cmdNpSetLimits.op = 0x0510 := rfl
@[simp] theorem cmdNpSetLimits_plen : cmdNpSetLimits.plen = 16 := rfl
@[simp] theorem cmdNpSetLimits_apply : cmdNpSetLimits.apply = applyNpSetLimits := by simp only [cmdNpSetLimits]
@[simp] theorem cmdSbConfigure_op : cmdSbConfigure.op = 0x0201 := rfl
@[simp] theorem cmdSbConfigure_plen : cmdSbConfigure.plen = 24 := rfl
@[simp] theorem cmdSbConfigure_apply : cmdSbConfigure.apply = applySbConfigure := by simp only [cmdSbConfigure]
@[simp] theorem cmdSbRetune_op : cmdSbRetune.op = 0x0204 := rfl
@[simp] theorem cmdSbRetune_plen : cmdSbRetune.plen = 12 := rfl
@[simp] theorem cmdSbRetune_apply : cmdSbRetune.apply = applySbRetune := by simp only [cmdSbRetune]
@[simp] theorem cmdSbLoadCoef_op : cmdSbLoadCoef.op = 0x0202 := rfl
@[simp] theorem cmdSbLoadCoef_plen : cmdSbLoadCoef.plen = 24 := rfl
@[simp] theorem cmdSbLoadCoef_apply : cmdSbLoadCoef.apply = applySbLoadCoef := by simp only [cmdSbLoadCoef]
@[simp] theorem cmdSbSwitchBank_op : cmdSbSwitchBank.op = 0x0203 := rfl
@[simp] theorem cmdSbSwitchBank_plen : cmdSbSwitchBank.plen = 8 := rfl
@[simp] theorem cmdSbSwitchBank_apply : cmdSbSwitchBank.apply = applySbSwitchBank := by simp only [cmdSbSwitchBank]
@[simp] theorem cmdSbSyncReset_op : cmdSbSyncReset.op = 0x0205 := rfl
@[simp] theorem cmdSbSyncReset_plen : cmdSbSyncReset.plen = 4 := rfl
@[simp] theorem cmdSbSyncReset_apply : cmdSbSyncReset.apply = applySbSyncReset := by simp only [cmdSbSyncReset]
@[simp] theorem cmdSbDcb_op : cmdSbDcb.op = 0x0206 := rfl
@[simp] theorem cmdSbDcb_plen : cmdSbDcb.plen = 4 := rfl
@[simp] theorem cmdSbDcb_apply : cmdSbDcb.apply = applySbDcb := by simp only [cmdSbDcb]
@[simp] theorem cmdCanConfigure_op : cmdCanConfigure.op = 0x0301 := rfl
@[simp] theorem cmdCanConfigure_plen : cmdCanConfigure.plen = 16 := rfl
@[simp] theorem cmdCanConfigure_apply : cmdCanConfigure.apply = applyCanConfigure := by simp only [cmdCanConfigure]
@[simp] theorem cmdCanFreeze_op : cmdCanFreeze.op = 0x0302 := rfl
@[simp] theorem cmdCanFreeze_plen : cmdCanFreeze.plen = 4 := rfl
@[simp] theorem cmdCanFreeze_apply : cmdCanFreeze.apply = applyCanFreeze := by simp only [cmdCanFreeze]
@[simp] theorem cmdCanMapRead_op : cmdCanMapRead.op = 0x0304 := rfl
@[simp] theorem cmdCanMapRead_plen : cmdCanMapRead.plen = 24 := rfl
@[simp] theorem cmdCanMapRead_apply : cmdCanMapRead.apply = applyCanMapRead := by simp only [cmdCanMapRead]
@[simp] theorem cmdCanMapWrite_op : cmdCanMapWrite.op = 0x0305 := rfl
@[simp] theorem cmdCanMapWrite_plen : cmdCanMapWrite.plen = 24 := rfl
@[simp] theorem cmdCanMapWrite_apply : cmdCanMapWrite.apply = applyCanMapWrite := by simp only [cmdCanMapWrite]
@[simp] theorem cmdGovConfigure_op : cmdGovConfigure.op = 0x0310 := rfl
@[simp] theorem cmdGovConfigure_plen : cmdGovConfigure.plen = 24 := rfl
@[simp] theorem cmdGovConfigure_apply : cmdGovConfigure.apply = applyGovConfigure := by simp only [cmdGovConfigure]
@[simp] theorem cmdGovRestart_op : cmdGovRestart.op = 0x0311 := rfl
@[simp] theorem cmdGovRestart_plen : cmdGovRestart.plen = 4 := rfl
@[simp] theorem cmdGovRestart_apply : cmdGovRestart.apply = applyGovRestart := by simp only [cmdGovRestart]
@[simp] theorem cmdCanProbe_op : cmdCanProbe.op = 0x0303 := rfl
@[simp] theorem cmdCanProbe_plen : cmdCanProbe.plen = 4 := rfl
@[simp] theorem cmdCanProbe_apply : cmdCanProbe.apply = applyCanProbe := by simp only [cmdCanProbe]
@[simp] theorem cmdCtlSetMode_op : cmdCtlSetMode.op = 0x0401 := rfl
@[simp] theorem cmdCtlSetMode_plen : cmdCtlSetMode.plen = 4 := rfl
@[simp] theorem cmdCtlSetMode_apply : cmdCtlSetMode.apply = applyCtlSetMode := by simp only [cmdCtlSetMode]
@[simp] theorem cmdCtlSetPoint_op : cmdCtlSetPoint.op = 0x0402 := rfl
@[simp] theorem cmdCtlSetPoint_plen : cmdCtlSetPoint.plen = 8 := rfl
@[simp] theorem cmdCtlSetPoint_apply : cmdCtlSetPoint.apply = applyCtlSetPoint := by simp only [cmdCtlSetPoint]
@[simp] theorem cmdCtlSetSchedule_op : cmdCtlSetSchedule.op = 0x0403 := rfl
@[simp] theorem cmdCtlSetSchedule_plen : cmdCtlSetSchedule.plen = 24 := rfl
@[simp] theorem cmdCtlSetSchedule_apply : cmdCtlSetSchedule.apply = applyCtlSetSchedule := by simp only [cmdCtlSetSchedule]
@[simp] theorem cmdCtlInject_op : cmdCtlInject.op = 0x0404 := rfl
@[simp] theorem cmdCtlInject_plen : cmdCtlInject.plen = 24 := rfl
@[simp] theorem cmdCtlInject_apply : cmdCtlInject.apply = applyCtlInject := by simp only [cmdCtlInject]
@[simp] theorem cmdCtlRepLearn_op : cmdCtlRepLearn.op = 0x0405 := rfl
@[simp] theorem cmdCtlRepLearn_plen : cmdCtlRepLearn.plen = 16 := rfl
@[simp] theorem cmdCtlRepLearn_apply : cmdCtlRepLearn.apply = applyCtlRepLearn := by simp only [cmdCtlRepLearn]
@[simp] theorem cmdTwbConfigure_op : cmdTwbConfigure.op = 0x0B01 := rfl
@[simp] theorem cmdTwbConfigure_plen : cmdTwbConfigure.plen = 8 := rfl
@[simp] theorem cmdTwbConfigure_apply : cmdTwbConfigure.apply = applyTwbConfigure := by simp only [cmdTwbConfigure]
@[simp] theorem cmdTwbTransfer_op : cmdTwbTransfer.op = 0x0B02 := rfl
@[simp] theorem cmdTwbTransfer_plen : cmdTwbTransfer.plen = 48 := rfl
@[simp] theorem cmdTwbTransfer_apply : cmdTwbTransfer.apply = applyTwbTransfer := by simp only [cmdTwbTransfer]
@[simp] theorem cmdHkConfigure_op : cmdHkConfigure.op = 0x0701 := rfl
@[simp] theorem cmdHkConfigure_plen : cmdHkConfigure.plen = 16 := rfl
@[simp] theorem cmdHkConfigure_apply : cmdHkConfigure.apply = applyHkConfigure := by simp only [cmdHkConfigure]
@[simp] theorem cmdThConfigure_op : cmdThConfigure.op = 0x0710 := rfl
@[simp] theorem cmdThConfigure_plen : cmdThConfigure.plen = 16 := rfl
@[simp] theorem cmdThConfigure_apply : cmdThConfigure.apply = applyThConfigure := by simp only [cmdThConfigure]
@[simp] theorem cmdFeSeq_op : cmdFeSeq.op = 0x0601 := rfl
@[simp] theorem cmdFeSeq_plen : cmdFeSeq.plen = 24 := rfl
@[simp] theorem cmdFeSeq_apply : cmdFeSeq.apply = applyFeSeq := by simp only [cmdFeSeq]
@[simp] theorem cmdPgConfigure_op : cmdPgConfigure.op = 0x0610 := rfl
@[simp] theorem cmdPgConfigure_plen : cmdPgConfigure.plen = 24 := rfl
@[simp] theorem cmdPgConfigure_apply : cmdPgConfigure.apply = applyPgConfigure := by simp only [cmdPgConfigure]
@[simp] theorem cmdWmConfigure_op : cmdWmConfigure.op = 0x0620 := rfl
@[simp] theorem cmdWmConfigure_plen : cmdWmConfigure.plen = 16 := rfl
@[simp] theorem cmdWmConfigure_apply : cmdWmConfigure.apply = applyWmConfigure := by simp only [cmdWmConfigure]
@[simp] theorem cmdWmClear_op : cmdWmClear.op = 0x0621 := rfl
@[simp] theorem cmdWmClear_plen : cmdWmClear.plen = 4 := rfl
@[simp] theorem cmdWmClear_apply : cmdWmClear.apply = applyWmClear := by simp only [cmdWmClear]
@[simp] theorem cmdPinAssign_op : cmdPinAssign.op = 0x0630 := rfl
@[simp] theorem cmdPinAssign_plen : cmdPinAssign.plen = 4 := rfl
@[simp] theorem cmdPinAssign_apply : cmdPinAssign.apply = applyPinAssign := by simp only [cmdPinAssign]
@[simp] theorem cmdRadio_op : cmdRadio.op = 0x0101 := rfl
@[simp] theorem cmdRadio_plen : cmdRadio.plen = 4 := rfl
@[simp] theorem cmdRadio_apply : cmdRadio.apply = applyRadio := by simp only [cmdRadio]
@[simp] theorem cmdLedgerRead_op : cmdLedgerRead.op = 0x0C02 := rfl
@[simp] theorem cmdLedgerRead_plen : cmdLedgerRead.plen = 24 := rfl
@[simp] theorem cmdLedgerRead_apply : cmdLedgerRead.apply = applyLedgerRead := by simp only [cmdLedgerRead]
@[simp] theorem cmdFwUpdate_op : cmdFwUpdate.op = 0x0C01 := rfl
@[simp] theorem cmdFwUpdate_plen : cmdFwUpdate.plen = 24 := rfl
@[simp] theorem cmdFwUpdate_apply : cmdFwUpdate.apply = applyFwUpdate := by simp only [cmdFwUpdate]
@[simp] theorem cmdCapConfigure_op : cmdCapConfigure.op = 0x0801 := rfl
@[simp] theorem cmdCapConfigure_plen : cmdCapConfigure.plen = 32 := rfl
@[simp] theorem cmdCapConfigure_apply : cmdCapConfigure.apply = applyCapConfigure := by simp only [cmdCapConfigure]
@[simp] theorem cmdCapStart_op : cmdCapStart.op = 0x0802 := rfl
@[simp] theorem cmdCapStart_plen : cmdCapStart.plen = 4 := rfl
@[simp] theorem cmdCapStart_apply : cmdCapStart.apply = applyCapStart := by simp only [cmdCapStart]
@[simp] theorem cmdCapStop_op : cmdCapStop.op = 0x0803 := rfl
@[simp] theorem cmdCapStop_plen : cmdCapStop.plen = 4 := rfl
@[simp] theorem cmdCapStop_apply : cmdCapStop.apply = applyCapStop := by simp only [cmdCapStop]
@[simp] theorem cmdCapRead_op : cmdCapRead.op = 0x0804 := rfl
@[simp] theorem cmdCapRead_plen : cmdCapRead.plen = 24 := rfl
@[simp] theorem cmdCapRead_apply : cmdCapRead.apply = applyCapRead := by simp only [cmdCapRead]
@[simp] theorem cmdFltConfigure_op : cmdFltConfigure.op = 0x0901 := rfl
@[simp] theorem cmdFltConfigure_plen : cmdFltConfigure.plen = 8 := rfl
@[simp] theorem cmdFltConfigure_apply : cmdFltConfigure.apply = applyFltConfigure := by simp only [cmdFltConfigure]
@[simp] theorem cmdFltAck_op : cmdFltAck.op = 0x0902 := rfl
@[simp] theorem cmdFltAck_plen : cmdFltAck.plen = 16 := rfl
@[simp] theorem cmdFltAck_apply : cmdFltAck.apply = applyFltAck := by simp only [cmdFltAck]
@[simp] theorem cmdFltForce_op : cmdFltForce.op = 0x0903 := rfl
@[simp] theorem cmdFltForce_plen : cmdFltForce.plen = 8 := rfl
@[simp] theorem cmdFltForce_apply : cmdFltForce.apply = applyFltForce := by simp only [cmdFltForce]
@[simp] theorem cmdObjRead_op : cmdObjRead.op = 0x0003 := rfl
@[simp] theorem cmdObjRead_plen : cmdObjRead.plen = 16 := rfl
@[simp] theorem cmdObjRead_apply : cmdObjRead.apply = applyObjRead := by simp only [cmdObjRead]
@[simp] theorem cmdObjWrite_op : cmdObjWrite.op = 0x0004 := rfl
@[simp] theorem cmdObjWrite_plen : cmdObjWrite.plen = 32 := rfl
@[simp] theorem cmdObjWrite_apply : cmdObjWrite.apply = applyObjWrite := by simp only [cmdObjWrite]
@[simp] theorem cmdNop_op : cmdNop.op = 0x0001 := rfl
@[simp] theorem cmdNop_plen : cmdNop.plen = 0 := rfl
@[simp] theorem cmdIdentify_op : cmdIdentify.op = 0x0002 := rfl
@[simp] theorem cmdIdentify_plen : cmdIdentify.plen = 16 := rfl
@[simp] theorem cmdIdentify_apply : cmdIdentify.apply = applyIdentify := by simp only [cmdIdentify]
@[simp] theorem cmdTlmConfigure_op : cmdTlmConfigure.op = 0x0014 := rfl
@[simp] theorem cmdTlmConfigure_plen : cmdTlmConfigure.plen = 48 := rfl
@[simp] theorem cmdTlmConfigure_apply : cmdTlmConfigure.apply = applyTlm := by simp only [cmdTlmConfigure]
@[simp] theorem cmdRingCreate_op : cmdRingCreate.op = 0x0010 := rfl
@[simp] theorem cmdRingCreate_plen : cmdRingCreate.plen = 24 := rfl
@[simp] theorem cmdRingCreate_apply : cmdRingCreate.apply = applyRingCreate := by simp only [cmdRingCreate]
@[simp] theorem cmdRingDelete_op : cmdRingDelete.op = 0x0011 := rfl
@[simp] theorem cmdRingDelete_plen : cmdRingDelete.plen = 4 := rfl
@[simp] theorem cmdRingDelete_apply : cmdRingDelete.apply = applyRingDelete := by simp only [cmdRingDelete]
@[simp] theorem cmdAbort_op : cmdAbort.op = 0x0020 := rfl
@[simp] theorem cmdAbort_plen : cmdAbort.plen = 8 := rfl
@[simp] theorem cmdAbort_apply : cmdAbort.apply = applyAbort := by simp only [cmdAbort]
@[simp] theorem cmdMgmtReset_op : cmdMgmtReset.op = 0x0031 := rfl
@[simp] theorem cmdMgmtReset_plen : cmdMgmtReset.plen = 4 := rfl
@[simp] theorem cmdTestEcho_op : cmdTestEcho.op = 0x0D01 := rfl
@[simp] theorem cmdTestEcho_plen : cmdTestEcho.plen = 24 := rfl
@[simp] theorem cmdTestEcho_apply : cmdTestEcho.apply = applyTestEcho := by simp only [cmdTestEcho]
@[simp] theorem cmdTestEccInject_op : cmdTestEccInject.op = 0x0D02 := rfl
@[simp] theorem cmdTestEccInject_plen : cmdTestEccInject.plen = 16 := rfl
@[simp] theorem cmdTestEccInject_apply : cmdTestEccInject.apply = applyTestEccInject := by simp only [cmdTestEccInject]
@[simp] theorem cmdRecFreeze_op : cmdRecFreeze.op = 0x0A01 := rfl
@[simp] theorem cmdRecFreeze_plen : cmdRecFreeze.plen = 4 := rfl
@[simp] theorem cmdRecFreeze_apply : cmdRecFreeze.apply = applyRecFreeze := by simp only [cmdRecFreeze]
@[simp] theorem cmdRecRead_op : cmdRecRead.op = 0x0A02 := rfl
@[simp] theorem cmdRecRead_plen : cmdRecRead.plen = 24 := rfl
@[simp] theorem cmdRecRead_apply : cmdRecRead.apply = applyRecRead := by simp only [cmdRecRead]
@[simp] theorem cmdHosttime_op : cmdHosttime.op = 0x0A05 := rfl
@[simp] theorem cmdHosttime_plen : cmdHosttime.plen = 16 := rfl
@[simp] theorem cmdHosttime_apply : cmdHosttime.apply = applyHosttime := by simp only [cmdHosttime]
@[simp] theorem cmdClearArm_op : cmdClearArm.op = 0x0A03 := rfl
@[simp] theorem cmdClearArm_plen : cmdClearArm.plen = 8 := rfl
@[simp] theorem cmdClearArm_apply : cmdClearArm.apply = applyClearArm := by simp only [cmdClearArm]
@[simp] theorem cmdClearExec_op : cmdClearExec.op = 0x0A04 := rfl
@[simp] theorem cmdClearExec_plen : cmdClearExec.plen = 8 := rfl
@[simp] theorem cmdClearExec_apply : cmdClearExec.apply = applyClearExec := by simp only [cmdClearExec]
@[simp] theorem cmdDeviceReset_op : cmdDeviceReset.op = 0x0030 := rfl
@[simp] theorem cmdDeviceReset_plen : cmdDeviceReset.plen = 4 := rfl
@[simp] theorem cmdDeviceReset_apply : cmdDeviceReset.apply = applyDeviceReset := by simp only [cmdDeviceReset]

end Sys2Proof.Machine
end

