-- ==== Sys2Proof/Laws/Depths.lean ====
section
/-!
SUPPORT. The bounded message queues (R588, R605, R650): the operations that change one keep its bound.
-/

namespace Sys2Proof.Machine

/-! The attention queues. -/

theorem State.modTwb_get (s : State) (b : Nat) (f : Twb → Twb) (bus : Nat) :
    Table.get ({} : Twb) (s.modTwb b f).twb bus =
      if bus = b then f (Table.get {} s.twb b) else Table.get {} s.twb bus := by
  simp [State.modTwb]

theorem State.attend_attn (s : State) (b kind addr data bus : Nat)
    (h : ∀ k, (Table.get ({} : Twb) s.twb k).attn.length ≤ 16) :
    (Table.get ({} : Twb) (s.attend b kind addr data).twb bus).attn.length ≤ 16 := by
  unfold State.attend; dsimp only
  split
  · simpa using h bus
  · split
    · rename_i hl
      rw [State.modTwb_get]
      split
      · simp only [State.twbOf] at hl; simp; omega
      · exact h bus
    · simpa using h bus

theorem applyTwbTransfer_attn (ref : CmdRef) (r : Request) (s : State) (bus : Nat)
    (h : ∀ k, (Table.get ({} : Twb) s.twb k).attn.length ≤ 16) :
    (Table.get ({} : Twb) (applyTwbTransfer ref r s).twb bus).attn.length ≤ 16 := by
  unfold applyTwbTransfer; dsimp only
  split
  · split
    · rename_i a rest ha
      simp only [State.complete_frame]
      rw [State.modTwb_get]
      split
      · have := h (instOf r); simp only [State.twbOf] at ha; rw [ha] at this; simp at this ⊢; omega
      · exact h bus
    · simpa using h bus
  · simpa using h bus

theorem State.powerGated_attn (s : State) (bus : Nat) :
    (Table.get ({} : Twb) (s.powerGated).twb bus).attn.length ≤ 16 := by
  simp only [State.powerGated, State.twbOf, show List.range 2 = [0, 1] from rfl, List.foldl_cons, List.foldl_nil]
  simp [Twb.asleep]

theorem State.wholeReset_attn (s : State) (src bus : Nat) :
    (Table.get ({} : Twb) (s.wholeReset src).twb bus).attn.length ≤ 16 := by
  simp [State.wholeReset]

/-! The queue of FAULT messages. -/

theorem State.foldl_queue_le {α : Type} (f : State → α → State)
    (hf : ∀ s x, s.flt.queue.length ≤ 256 → (f s x).flt.queue.length ≤ 256) (l : List α) (s : State)
    (h : s.flt.queue.length ≤ 256) : (l.foldl f s).flt.queue.length ≤ 256 := by
  induction l generalizing s with
  | nil => exact h
  | cons x l ih => exact ih _ (hf s x h)

theorem State.noteFault_queue (s : State) (d : Due) (level : Option Nat) (forced : Bool)
    (h : s.flt.queue.length ≤ 256) : (s.noteFault d level forced).flt.queue.length ≤ 256 := by
  simp only [State.noteFault, State.modFlt]
  split
  · exact h
  · rename_i hn; simp at hn ⊢; omega

theorem State.detect_queue (s : State) (d : Due) (forced : Bool) (h : s.flt.queue.length ≤ 256) :
    (s.detect d forced).flt.queue.length ≤ 256 := by
  have hn := fun l => s.noteFault_queue d l forced h
  unfold State.detect; dsimp only
  split <;> simpa using hn _

theorem State.detectAfresh_queue (s : State) (bs : List Nat) (h : s.flt.queue.length ≤ 256) :
    (s.detectAfresh bs).flt.queue.length ≤ 256 :=
  State.foldl_queue_le _ (fun s _ hs =>
    State.foldl_queue_le _ (fun s d hs => s.detect_queue d _ hs) _ s hs) _ s h

theorem State.refreshMerged_queue (s : State) (cls : Nat → Bool) (h : s.flt.queue.length ≤ 256) :
    (s.refreshMerged cls).flt.queue.length ≤ 256 := by
  unfold State.refreshMerged; exact State.detectAfresh_queue _ _ (by simpa using h)

theorem State.acknowledge_queue (s : State) (mask : BitVec 64) (rearm : Bool) (h : s.flt.queue.length ≤ 256) :
    (s.acknowledge mask rearm).flt.queue.length ≤ 256 := by
  unfold State.acknowledge; dsimp only
  simp only [State.ite_flt, Flt.ite_queue, State.restartWaiting_frame, State.aliveFrom_frame, ite_self]
  exact State.detectAfresh_queue _ _ (by simpa using h)

theorem applyFltAck_queue (ref : CmdRef) (r : Request) (s : State) (h : s.flt.queue.length ≤ 256) :
    (applyFltAck ref r s).flt.queue.length ≤ 256 := by
  simpa [applyFltAck] using s.acknowledge_queue _ _ h

theorem applyFltForce_queue (ref : CmdRef) (r : Request) (s : State) (h : s.flt.queue.length ≤ 256) :
    (applyFltForce ref r s).flt.queue.length ≤ 256 := by
  unfold applyFltForce; dsimp only
  split
  · simpa using h
  · simp only [State.complete_frame]
    split <;> exact State.detect_queue _ _ _ (by simpa using h)

theorem State.report_queue (s : State) (injected : Bool) (b addr kind : Nat) (h : s.flt.queue.length ≤ 256) :
    (s.report injected b addr kind).flt.queue.length ≤ 256 := by
  unfold State.report
  split
  · exact s.detect_queue _ _ h
  · simpa using h

theorem State.replaceRow_queue (s : State) (injected : Bool) (bank : Nat) (h : s.flt.queue.length ≤ 256) :
    (s.replaceRow injected bank).flt.queue.length ≤ 256 := by
  unfold State.replaceRow
  split <;> exact State.report_queue _ _ _ _ _ (by simpa using h)

theorem State.storeCorrected_queue (s : State) (injected : Bool) (word : Nat) (h : s.flt.queue.length ≤ 256) :
    (s.storeCorrected injected word).flt.queue.length ≤ 256 := by
  unfold State.storeCorrected; dsimp only
  split
  · simpa using h
  · exact State.replaceRow_queue _ _ _ (by simpa using h)

theorem State.uncorrectable_queue (s : State) (injected : Bool) (mem word : Nat) (h : s.flt.queue.length ≤ 256) :
    (s.uncorrectable injected mem word).flt.queue.length ≤ 256 := by
  unfold State.uncorrectable; dsimp only
  repeat' split
  all_goals first
    | exact h
    | exact State.report_queue _ _ _ _ _ (by simpa using h)
    | (refine State.report_queue _ _ _ _ _ ?_; simp [State.modFlt, List.length_eraseIdx]; split <;> omega)

theorem State.memoryError_queue (s : State) (mem word : Nat) (double injected : Bool) (h : s.flt.queue.length ≤ 256) :
    (s.memoryError mem word double injected).flt.queue.length ≤ 256 := by
  unfold State.memoryError; dsimp only
  split
  · exact s.uncorrectable_queue _ _ _ h
  · refine State.report_queue _ _ _ _ _ ?_
    split
    · exact s.storeCorrected_queue _ _ h
    · exact h

theorem State.objW1cClear_queue (s : State) (o i m : Nat) (h : s.flt.queue.length ≤ 256) :
    (s.objW1cClear o i m).flt.queue.length ≤ 256 := by
  unfold State.objW1cClear
  split <;> first
    | exact s.acknowledge_queue _ _ h
    | simpa using h

theorem applyObjWrite_queue (ref : CmdRef) (r : Request) (s : State) (h : s.flt.queue.length ≤ 256) :
    (applyObjWrite ref r s).flt.queue.length ≤ 256 := by
  simpa [applyObjWrite] using State.objW1cClear_queue _ _ _ _ (by simpa using h)

theorem State.wholeReset_queue (s : State) (src : Nat) : (s.wholeReset src).flt.queue.length ≤ 256 := by
  simp [State.wholeReset]

/-! The snapshots that wait. -/

theorem State.putSnap_waiting (s : State) (x : Snap) (h : s.rcd.waiting.length ≤ 64) :
    (s.putSnap x).rcd.waiting.length ≤ 64 := by
  unfold State.putSnap
  split
  · simpa [Rec.missFreeze] using h
  · split
    · simpa [Rec.missQueue] using h
    · simp [State.modRec]; omega

theorem State.putFixed_waiting (s : State) (trigger source : Nat) (payload : List Byte) (h : s.rcd.waiting.length ≤ 64) :
    (s.putFixed trigger source payload).rcd.waiting.length ≤ 64 := s.putSnap_waiting _ h

theorem State.releaseFreeze_waiting (s : State) (h : s.rcd.waiting.length ≤ 64) :
    (s.releaseFreeze).rcd.waiting.length ≤ 64 := by
  unfold State.releaseFreeze; dsimp only
  split
  · exact State.putFixed_waiting _ _ _ _ (by simpa using h)
  · simpa using h

theorem State.writeWaiting_waiting (s : State) : (s.writeWaiting).rcd.waiting.length ≤ 64 := by
  simp [State.writeWaiting, State.modRec]

theorem State.endFreeze_waiting (s : State) (h : s.rcd.waiting.length ≤ 64) :
    (s.endFreeze).rcd.waiting.length ≤ 64 := by
  unfold State.endFreeze
  split
  · exact State.writeWaiting_waiting _
  · exact h

theorem State.recorderRest_waiting (s : State) (h : s.rcd.waiting.length ≤ 64) :
    (s.recorderRest).rcd.waiting.length ≤ 64 := by
  unfold State.recorderRest; dsimp only
  split
  · simpa using s.releaseFreeze_waiting h
  · simpa using h

theorem State.mgmtRestart_waiting (s : State) (h : s.rcd.waiting.length ≤ 64) :
    (s.mgmtRestart).rcd.waiting.length ≤ 64 := by
  simpa [State.mgmtRestart] using s.endFreeze_waiting h

theorem State.noteMissed_waiting (s : State) (h : s.rcd.waiting.length ≤ 64) :
    (s.noteMissed).rcd.waiting.length ≤ 64 := by
  unfold State.noteMissed; dsimp only
  split
  · exact h
  · exact State.putFixed_waiting _ _ _ _ (by simpa using h)

theorem State.freeze_waiting (s : State) (h : s.rcd.waiting.length ≤ 64) : (s.freeze).rcd.waiting.length ≤ 64 := by
  unfold State.freeze; dsimp only
  split
  · simpa using h
  · simpa using State.writeWaiting_waiting s

theorem applyRecFreeze_waiting (ref : CmdRef) (r : Request) (s : State) (h : s.rcd.waiting.length ≤ 64) :
    (applyRecFreeze ref r s).rcd.waiting.length ≤ 64 := by
  unfold applyRecFreeze
  split
  · simpa using s.freeze_waiting h
  · split
    · simpa using s.releaseFreeze_waiting h
    · simpa using h

theorem applyHosttime_waiting (ref : CmdRef) (r : Request) (s : State) (h : s.rcd.waiting.length ≤ 64) :
    (applyHosttime ref r s).rcd.waiting.length ≤ 64 := by
  unfold applyHosttime; dsimp only
  split
  · simpa using h
  · simp only [State.complete_frame]; exact State.putFixed_waiting _ _ _ _ (by simpa using h)

theorem State.coalesce_waiting {s t : State} {code source ms : Nat} (h : s.coalesce code source ms = some t) :
    t.rcd.waiting.length = s.rcd.waiting.length := by
  unfold State.coalesce at h; dsimp only at h
  split at h
  · cases h
  · split at h
    · split at h
      · split at h
        · cases h; simp [State.modRec]
        · cases h
      · cases h
    · split at h
      · split at h
        · cases h; simp [State.modRec]
        · cases h
      · cases h

theorem State.takeSnapshot_waiting (s : State) (code source : Nat) (injected : Bool) (h : s.rcd.waiting.length ≤ 64) :
    (s.takeSnapshot code source injected).rcd.waiting.length ≤ 64 := by
  unfold State.takeSnapshot; dsimp only
  split
  · exact h
  · split
    · simpa [Rec.missFreeze] using h
    · split
      · rename_i t ht; rw [State.coalesce_waiting ht]; exact h
      · exact s.putSnap_waiting _ h

theorem State.takeTrigger_waiting (s : State) (h : s.rcd.waiting.length ≤ 64) :
    (s.takeTrigger).rcd.waiting.length ≤ 64 := by
  unfold State.takeTrigger
  split
  · exact h
  · exact State.takeSnapshot_waiting _ _ _ _ (by simpa using h)

theorem State.recorderCloses_waiting (s : State) : (s.recorderCloses).rcd.waiting.length ≤ 64 :=
  State.writeWaiting_waiting _

theorem State.wholeReset_waiting (s : State) (src : Nat) : (s.wholeReset src).rcd.waiting.length ≤ 64 := by
  simp [State.wholeReset]

end Sys2Proof.Machine
end

