-- ==== Sys2Proof/Laws/Kept.lean ====
section
/-!
SUPPORT. What every command keeps: the waiting commands, the time, and the bounds of the message queues.
-/

namespace Sys2Proof.Machine

/-- The second state has the time and the waiting commands of the first, and the bounds of its queues. -/
structure Kept (s t : State) : Prop where
  now : t.now = s.now
  pending : t.pending = s.pending
  depths : Depths s → Depths t

theorem Kept.rfl (s : State) : Kept s s := ⟨Eq.refl _, Eq.refl _, id⟩

theorem Kept.trans {s t u : State} (h : Kept s t) (g : Kept t u) : Kept s u :=
  ⟨g.now.trans h.now, g.pending.trans h.pending, g.depths ∘ h.depths⟩

/-- Nothing of this changes. -/
theorem Kept.of {s t : State} (h : t.now = s.now ∧ t.pending = s.pending ∧ t.flt.queue = s.flt.queue ∧
    t.rcd.waiting = s.rcd.waiting ∧ ∀ bus, (Table.get ({} : Twb) t.twb bus).attn = (Table.get ({} : Twb) s.twb bus).attn) :
    Kept s t :=
  ⟨h.1, h.2.1, fun d => ⟨by rw [h.2.2.1]; exact d.1, by rw [h.2.2.2.1]; exact d.2.1, fun b => by
    simp only [State.twbOf, h.2.2.2.2]; exact d.2.2 b⟩⟩

/-- Only the queue of FAULT messages changes. -/
theorem Kept.ofQueue {s t : State} (h : t.now = s.now ∧ t.pending = s.pending ∧
    t.rcd.waiting = s.rcd.waiting ∧ ∀ bus, (Table.get ({} : Twb) t.twb bus).attn = (Table.get ({} : Twb) s.twb bus).attn)
    (g : s.flt.queue.length ≤ 256 → t.flt.queue.length ≤ 256) : Kept s t :=
  ⟨h.1, h.2.1, fun d => ⟨g d.1, by rw [h.2.2.1]; exact d.2.1, fun b => by
    simp only [State.twbOf, h.2.2.2]; exact d.2.2 b⟩⟩

/-- Only the waiting snapshots change. -/
theorem Kept.ofWaiting {s t : State} (h : t.now = s.now ∧ t.pending = s.pending ∧
    t.flt.queue = s.flt.queue ∧ ∀ bus, (Table.get ({} : Twb) t.twb bus).attn = (Table.get ({} : Twb) s.twb bus).attn)
    (g : s.rcd.waiting.length ≤ 64 → t.rcd.waiting.length ≤ 64) : Kept s t :=
  ⟨h.1, h.2.1, fun d => ⟨by rw [h.2.2.1]; exact d.1, g d.2.1, fun b => by
    simp only [State.twbOf, h.2.2.2]; exact d.2.2 b⟩⟩

/-- Only the attention queues change. -/
theorem Kept.ofAttn {s t : State} (h : t.now = s.now ∧ t.pending = s.pending ∧
    t.flt.queue = s.flt.queue ∧ t.rcd.waiting = s.rcd.waiting)
    (g : (∀ k, (Table.get ({} : Twb) s.twb k).attn.length ≤ 16) →
      ∀ k, (Table.get ({} : Twb) t.twb k).attn.length ≤ 16) : Kept s t :=
  ⟨h.1, h.2.1, fun d => ⟨by rw [h.2.2.1]; exact d.1, by rw [h.2.2.2]; exact d.2.1, fun b => g d.2.2 b⟩⟩

/-- A reset of the whole device. -/
theorem State.wholeReset_depths (s : State) (src : Nat) : Depths (s.wholeReset src) :=
  ⟨s.wholeReset_queue src, s.wholeReset_waiting src, fun b => s.wholeReset_attn src b⟩
theorem State.releaseReset_depths (s : State) (c : Bool) (h : Depths s) : Depths (s.releaseReset c) :=
  (Kept.of (by simp) : Kept s (s.releaseReset c)).depths h
theorem State.wholeReset_kept (s : State) (src : Nat) : Kept s (s.wholeReset src) :=
  ⟨by simp, by simp, fun _ => s.wholeReset_depths src⟩

/-- A command that starts applies its effect, and nothing else of this. -/
theorem State.begin_kept (d : CmdDef) (hd : ∀ ref r s, Kept s (d.apply ref r s)) (ref : CmdRef) (r : Request) (s : State) :
    Kept s (s.begin d ref r) := by
  unfold State.begin
  split
  · exact (Kept.of (by simp)).trans (hd ref r (s.running ref))
  · exact Kept.of (by simp)
  · exact Kept.of (by simp)

/-- A packet that arrives. -/
theorem State.issue_kept (d : CmdDef) (hd : ∀ ref r s, Kept s (d.apply ref r s)) (r : Request) (s : State) :
    Kept s (s.issue d r) := by
  unfold State.issue; dsimp only
  split
  · split
    · exact Kept.of (by simp)
    · split
      · split
        · exact (Kept.of (by simp)).trans (State.begin_kept d hd _ _ _)
        · exact Kept.of (by simp)
      · exact Kept.of (by simp)
  · exact Kept.rfl s

/-! The first effects of the commands. -/

theorem applyTddConfigure_kept (ref : CmdRef) (r : Request) (s : State) : Kept s (applyTddConfigure ref r s) :=
  Kept.of (by simp)
theorem applyTddSetGates_kept (ref : CmdRef) (r : Request) (s : State) : Kept s (applyTddSetGates ref r s) :=
  Kept.of (by simp)
theorem applyNpSetLimits_kept (ref : CmdRef) (r : Request) (s : State) : Kept s (applyNpSetLimits ref r s) :=
  Kept.of (by simp)
theorem applySbConfigure_kept (ref : CmdRef) (r : Request) (s : State) : Kept s (applySbConfigure ref r s) :=
  Kept.of (by simp)
theorem applySbRetune_kept (ref : CmdRef) (r : Request) (s : State) : Kept s (applySbRetune ref r s) :=
  Kept.of (by simp)
theorem applySbLoadCoef_kept (ref : CmdRef) (r : Request) (s : State) : Kept s (applySbLoadCoef ref r s) :=
  Kept.of (by simp)
theorem applySbSwitchBank_kept (ref : CmdRef) (r : Request) (s : State) : Kept s (applySbSwitchBank ref r s) :=
  Kept.of (by simp)
theorem applySbSyncReset_kept (ref : CmdRef) (r : Request) (s : State) : Kept s (applySbSyncReset ref r s) :=
  Kept.of (by simp)
theorem applySbDcb_kept (ref : CmdRef) (r : Request) (s : State) : Kept s (applySbDcb ref r s) :=
  Kept.of (by simp)
theorem applyCanConfigure_kept (ref : CmdRef) (r : Request) (s : State) : Kept s (applyCanConfigure ref r s) :=
  Kept.of (by simp)
theorem applyCanFreeze_kept (ref : CmdRef) (r : Request) (s : State) : Kept s (applyCanFreeze ref r s) :=
  Kept.of (by simp)
theorem applyCanMapRead_kept (ref : CmdRef) (r : Request) (s : State) : Kept s (applyCanMapRead ref r s) :=
  Kept.of (by simp)
theorem applyCanMapWrite_kept (ref : CmdRef) (r : Request) (s : State) : Kept s (applyCanMapWrite ref r s) :=
  Kept.of (by simp)
theorem applyGovConfigure_kept (ref : CmdRef) (r : Request) (s : State) : Kept s (applyGovConfigure ref r s) :=
  Kept.of (by simp)
theorem applyGovRestart_kept (ref : CmdRef) (r : Request) (s : State) : Kept s (applyGovRestart ref r s) :=
  Kept.of (by simp)
theorem applyCanProbe_kept (ref : CmdRef) (r : Request) (s : State) : Kept s (applyCanProbe ref r s) :=
  Kept.of (by simp)
theorem applyCtlSetMode_kept (ref : CmdRef) (r : Request) (s : State) : Kept s (applyCtlSetMode ref r s) :=
  Kept.of (by simp)
theorem applyCtlSetPoint_kept (ref : CmdRef) (r : Request) (s : State) : Kept s (applyCtlSetPoint ref r s) :=
  Kept.of (by simp)
theorem applyCtlSetSchedule_kept (ref : CmdRef) (r : Request) (s : State) : Kept s (applyCtlSetSchedule ref r s) :=
  Kept.of (by simp)
theorem applyCtlInject_kept (ref : CmdRef) (r : Request) (s : State) : Kept s (applyCtlInject ref r s) :=
  Kept.of (by simp)
theorem applyCtlRepLearn_kept (ref : CmdRef) (r : Request) (s : State) : Kept s (applyCtlRepLearn ref r s) :=
  Kept.of (by simp)
theorem applyTwbConfigure_kept (ref : CmdRef) (r : Request) (s : State) : Kept s (applyTwbConfigure ref r s) :=
  Kept.of (by simp)
theorem applyTwbTransfer_kept (ref : CmdRef) (r : Request) (s : State) : Kept s (applyTwbTransfer ref r s) :=
  Kept.ofAttn (by simp) (fun h k => applyTwbTransfer_attn ref r s k h)
theorem applyHkConfigure_kept (ref : CmdRef) (r : Request) (s : State) : Kept s (applyHkConfigure ref r s) :=
  Kept.of (by simp)
theorem applyThConfigure_kept (ref : CmdRef) (r : Request) (s : State) : Kept s (applyThConfigure ref r s) :=
  Kept.of (by simp)
theorem applyFeSeq_kept (ref : CmdRef) (r : Request) (s : State) : Kept s (applyFeSeq ref r s) :=
  Kept.of (by simp)
theorem applyPgConfigure_kept (ref : CmdRef) (r : Request) (s : State) : Kept s (applyPgConfigure ref r s) :=
  Kept.of (by simp)
theorem applyWmConfigure_kept (ref : CmdRef) (r : Request) (s : State) : Kept s (applyWmConfigure ref r s) :=
  Kept.of (by simp)
theorem applyWmClear_kept (ref : CmdRef) (r : Request) (s : State) : Kept s (applyWmClear ref r s) :=
  Kept.of (by simp)
theorem applyPinAssign_kept (ref : CmdRef) (r : Request) (s : State) : Kept s (applyPinAssign ref r s) :=
  Kept.of (by simp)
theorem applyRadio_kept (ref : CmdRef) (r : Request) (s : State) : Kept s (applyRadio ref r s) :=
  Kept.of (by simp)
theorem applyLedgerRead_kept (ref : CmdRef) (r : Request) (s : State) : Kept s (applyLedgerRead ref r s) :=
  Kept.of (by simp)
theorem applyFwUpdate_kept (ref : CmdRef) (r : Request) (s : State) : Kept s (applyFwUpdate ref r s) :=
  Kept.of (by simp)
theorem applyCapConfigure_kept (ref : CmdRef) (r : Request) (s : State) : Kept s (applyCapConfigure ref r s) :=
  Kept.of (by simp)
theorem applyCapStart_kept (ref : CmdRef) (r : Request) (s : State) : Kept s (applyCapStart ref r s) :=
  Kept.of (by simp)
theorem applyCapStop_kept (ref : CmdRef) (r : Request) (s : State) : Kept s (applyCapStop ref r s) :=
  Kept.of (by simp)
theorem applyCapRead_kept (ref : CmdRef) (r : Request) (s : State) : Kept s (applyCapRead ref r s) :=
  Kept.of (by simp)
theorem applyFltConfigure_kept (ref : CmdRef) (r : Request) (s : State) : Kept s (applyFltConfigure ref r s) :=
  Kept.of (by simp)
theorem applyFltAck_kept (ref : CmdRef) (r : Request) (s : State) : Kept s (applyFltAck ref r s) :=
  Kept.ofQueue (by simp) (applyFltAck_queue ref r s)
theorem applyFltForce_kept (ref : CmdRef) (r : Request) (s : State) : Kept s (applyFltForce ref r s) :=
  Kept.ofQueue (by simp) (applyFltForce_queue ref r s)
theorem applyObjRead_kept (ref : CmdRef) (r : Request) (s : State) : Kept s (applyObjRead ref r s) :=
  Kept.of (by simp)
theorem applyObjWrite_kept (ref : CmdRef) (r : Request) (s : State) : Kept s (applyObjWrite ref r s) :=
  Kept.ofQueue (by simp) (applyObjWrite_queue ref r s)
theorem applyIdentify_kept (ref : CmdRef) (r : Request) (s : State) : Kept s (applyIdentify ref r s) :=
  Kept.of (by simp)
theorem applyTlm_kept (ref : CmdRef) (r : Request) (s : State) : Kept s (applyTlm ref r s) :=
  Kept.of (by simp)
theorem applyRingCreate_kept (ref : CmdRef) (r : Request) (s : State) : Kept s (applyRingCreate ref r s) :=
  Kept.of (by simp)
theorem applyRingDelete_kept (ref : CmdRef) (r : Request) (s : State) : Kept s (applyRingDelete ref r s) :=
  Kept.of (by simp)
theorem applyAbort_kept (ref : CmdRef) (r : Request) (s : State) : Kept s (applyAbort ref r s) :=
  Kept.of (by simp)
theorem applyTestEcho_kept (ref : CmdRef) (r : Request) (s : State) : Kept s (applyTestEcho ref r s) :=
  Kept.of (by simp)
theorem applyTestEccInject_kept (ref : CmdRef) (r : Request) (s : State) : Kept s (applyTestEccInject ref r s) :=
  Kept.of (by simp)
theorem applyRecFreeze_kept (ref : CmdRef) (r : Request) (s : State) : Kept s (applyRecFreeze ref r s) :=
  Kept.ofWaiting (by simp) (applyRecFreeze_waiting ref r s)
theorem applyRecRead_kept (ref : CmdRef) (r : Request) (s : State) : Kept s (applyRecRead ref r s) :=
  Kept.of (by simp)
theorem applyHosttime_kept (ref : CmdRef) (r : Request) (s : State) : Kept s (applyHosttime ref r s) :=
  Kept.ofWaiting (by simp) (applyHosttime_waiting ref r s)
theorem applyClearArm_kept (ref : CmdRef) (r : Request) (s : State) : Kept s (applyClearArm ref r s) :=
  Kept.of (by simp)
theorem applyClearExec_kept (ref : CmdRef) (r : Request) (s : State) : Kept s (applyClearExec ref r s) :=
  Kept.of (by simp)
theorem applyDeviceReset_kept (ref : CmdRef) (r : Request) (s : State) : Kept s (applyDeviceReset ref r s) :=
  by
  unfold applyDeviceReset; dsimp only
  exact ⟨by simp, by simp, fun _ => State.releaseReset_depths _ _ (State.wholeReset_depths _ 3)⟩
theorem cmdTddConfigure_kept (ref : CmdRef) (r : Request) (s : State) : Kept s (cmdTddConfigure.apply ref r s) := by
  rw [cmdTddConfigure_apply]; exact applyTddConfigure_kept ref r s
theorem cmdTddSetGates_kept (ref : CmdRef) (r : Request) (s : State) : Kept s (cmdTddSetGates.apply ref r s) := by
  rw [cmdTddSetGates_apply]; exact applyTddSetGates_kept ref r s
theorem cmdNpSetLimits_kept (ref : CmdRef) (r : Request) (s : State) : Kept s (cmdNpSetLimits.apply ref r s) := by
  rw [cmdNpSetLimits_apply]; exact applyNpSetLimits_kept ref r s
theorem cmdSbConfigure_kept (ref : CmdRef) (r : Request) (s : State) : Kept s (cmdSbConfigure.apply ref r s) := by
  rw [cmdSbConfigure_apply]; exact applySbConfigure_kept ref r s
theorem cmdSbRetune_kept (ref : CmdRef) (r : Request) (s : State) : Kept s (cmdSbRetune.apply ref r s) := by
  rw [cmdSbRetune_apply]; exact applySbRetune_kept ref r s
theorem cmdSbLoadCoef_kept (ref : CmdRef) (r : Request) (s : State) : Kept s (cmdSbLoadCoef.apply ref r s) := by
  rw [cmdSbLoadCoef_apply]; exact applySbLoadCoef_kept ref r s
theorem cmdSbSwitchBank_kept (ref : CmdRef) (r : Request) (s : State) : Kept s (cmdSbSwitchBank.apply ref r s) := by
  rw [cmdSbSwitchBank_apply]; exact applySbSwitchBank_kept ref r s
theorem cmdSbSyncReset_kept (ref : CmdRef) (r : Request) (s : State) : Kept s (cmdSbSyncReset.apply ref r s) := by
  rw [cmdSbSyncReset_apply]; exact applySbSyncReset_kept ref r s
theorem cmdSbDcb_kept (ref : CmdRef) (r : Request) (s : State) : Kept s (cmdSbDcb.apply ref r s) := by
  rw [cmdSbDcb_apply]; exact applySbDcb_kept ref r s
theorem cmdCanConfigure_kept (ref : CmdRef) (r : Request) (s : State) : Kept s (cmdCanConfigure.apply ref r s) := by
  rw [cmdCanConfigure_apply]; exact applyCanConfigure_kept ref r s
theorem cmdCanFreeze_kept (ref : CmdRef) (r : Request) (s : State) : Kept s (cmdCanFreeze.apply ref r s) := by
  rw [cmdCanFreeze_apply]; exact applyCanFreeze_kept ref r s
theorem cmdCanMapRead_kept (ref : CmdRef) (r : Request) (s : State) : Kept s (cmdCanMapRead.apply ref r s) := by
  rw [cmdCanMapRead_apply]; exact applyCanMapRead_kept ref r s
theorem cmdCanMapWrite_kept (ref : CmdRef) (r : Request) (s : State) : Kept s (cmdCanMapWrite.apply ref r s) := by
  rw [cmdCanMapWrite_apply]; exact applyCanMapWrite_kept ref r s
theorem cmdGovConfigure_kept (ref : CmdRef) (r : Request) (s : State) : Kept s (cmdGovConfigure.apply ref r s) := by
  rw [cmdGovConfigure_apply]; exact applyGovConfigure_kept ref r s
theorem cmdGovRestart_kept (ref : CmdRef) (r : Request) (s : State) : Kept s (cmdGovRestart.apply ref r s) := by
  rw [cmdGovRestart_apply]; exact applyGovRestart_kept ref r s
theorem cmdCanProbe_kept (ref : CmdRef) (r : Request) (s : State) : Kept s (cmdCanProbe.apply ref r s) := by
  rw [cmdCanProbe_apply]; exact applyCanProbe_kept ref r s
theorem cmdCtlSetMode_kept (ref : CmdRef) (r : Request) (s : State) : Kept s (cmdCtlSetMode.apply ref r s) := by
  rw [cmdCtlSetMode_apply]; exact applyCtlSetMode_kept ref r s
theorem cmdCtlSetPoint_kept (ref : CmdRef) (r : Request) (s : State) : Kept s (cmdCtlSetPoint.apply ref r s) := by
  rw [cmdCtlSetPoint_apply]; exact applyCtlSetPoint_kept ref r s
theorem cmdCtlSetSchedule_kept (ref : CmdRef) (r : Request) (s : State) : Kept s (cmdCtlSetSchedule.apply ref r s) := by
  rw [cmdCtlSetSchedule_apply]; exact applyCtlSetSchedule_kept ref r s
theorem cmdCtlInject_kept (ref : CmdRef) (r : Request) (s : State) : Kept s (cmdCtlInject.apply ref r s) := by
  rw [cmdCtlInject_apply]; exact applyCtlInject_kept ref r s
theorem cmdCtlRepLearn_kept (ref : CmdRef) (r : Request) (s : State) : Kept s (cmdCtlRepLearn.apply ref r s) := by
  rw [cmdCtlRepLearn_apply]; exact applyCtlRepLearn_kept ref r s
theorem cmdTwbConfigure_kept (ref : CmdRef) (r : Request) (s : State) : Kept s (cmdTwbConfigure.apply ref r s) := by
  rw [cmdTwbConfigure_apply]; exact applyTwbConfigure_kept ref r s
theorem cmdTwbTransfer_kept (ref : CmdRef) (r : Request) (s : State) : Kept s (cmdTwbTransfer.apply ref r s) := by
  rw [cmdTwbTransfer_apply]; exact applyTwbTransfer_kept ref r s
theorem cmdHkConfigure_kept (ref : CmdRef) (r : Request) (s : State) : Kept s (cmdHkConfigure.apply ref r s) := by
  rw [cmdHkConfigure_apply]; exact applyHkConfigure_kept ref r s
theorem cmdThConfigure_kept (ref : CmdRef) (r : Request) (s : State) : Kept s (cmdThConfigure.apply ref r s) := by
  rw [cmdThConfigure_apply]; exact applyThConfigure_kept ref r s
theorem cmdFeSeq_kept (ref : CmdRef) (r : Request) (s : State) : Kept s (cmdFeSeq.apply ref r s) := by
  rw [cmdFeSeq_apply]; exact applyFeSeq_kept ref r s
theorem cmdPgConfigure_kept (ref : CmdRef) (r : Request) (s : State) : Kept s (cmdPgConfigure.apply ref r s) := by
  rw [cmdPgConfigure_apply]; exact applyPgConfigure_kept ref r s
theorem cmdWmConfigure_kept (ref : CmdRef) (r : Request) (s : State) : Kept s (cmdWmConfigure.apply ref r s) := by
  rw [cmdWmConfigure_apply]; exact applyWmConfigure_kept ref r s
theorem cmdWmClear_kept (ref : CmdRef) (r : Request) (s : State) : Kept s (cmdWmClear.apply ref r s) := by
  rw [cmdWmClear_apply]; exact applyWmClear_kept ref r s
theorem cmdPinAssign_kept (ref : CmdRef) (r : Request) (s : State) : Kept s (cmdPinAssign.apply ref r s) := by
  rw [cmdPinAssign_apply]; exact applyPinAssign_kept ref r s
theorem cmdRadio_kept (ref : CmdRef) (r : Request) (s : State) : Kept s (cmdRadio.apply ref r s) := by
  rw [cmdRadio_apply]; exact applyRadio_kept ref r s
theorem cmdLedgerRead_kept (ref : CmdRef) (r : Request) (s : State) : Kept s (cmdLedgerRead.apply ref r s) := by
  rw [cmdLedgerRead_apply]; exact applyLedgerRead_kept ref r s
theorem cmdFwUpdate_kept (ref : CmdRef) (r : Request) (s : State) : Kept s (cmdFwUpdate.apply ref r s) := by
  rw [cmdFwUpdate_apply]; exact applyFwUpdate_kept ref r s
theorem cmdCapConfigure_kept (ref : CmdRef) (r : Request) (s : State) : Kept s (cmdCapConfigure.apply ref r s) := by
  rw [cmdCapConfigure_apply]; exact applyCapConfigure_kept ref r s
theorem cmdCapStart_kept (ref : CmdRef) (r : Request) (s : State) : Kept s (cmdCapStart.apply ref r s) := by
  rw [cmdCapStart_apply]; exact applyCapStart_kept ref r s
theorem cmdCapStop_kept (ref : CmdRef) (r : Request) (s : State) : Kept s (cmdCapStop.apply ref r s) := by
  rw [cmdCapStop_apply]; exact applyCapStop_kept ref r s
theorem cmdCapRead_kept (ref : CmdRef) (r : Request) (s : State) : Kept s (cmdCapRead.apply ref r s) := by
  rw [cmdCapRead_apply]; exact applyCapRead_kept ref r s
theorem cmdFltConfigure_kept (ref : CmdRef) (r : Request) (s : State) : Kept s (cmdFltConfigure.apply ref r s) := by
  rw [cmdFltConfigure_apply]; exact applyFltConfigure_kept ref r s
theorem cmdFltAck_kept (ref : CmdRef) (r : Request) (s : State) : Kept s (cmdFltAck.apply ref r s) := by
  rw [cmdFltAck_apply]; exact applyFltAck_kept ref r s
theorem cmdFltForce_kept (ref : CmdRef) (r : Request) (s : State) : Kept s (cmdFltForce.apply ref r s) := by
  rw [cmdFltForce_apply]; exact applyFltForce_kept ref r s
theorem cmdObjRead_kept (ref : CmdRef) (r : Request) (s : State) : Kept s (cmdObjRead.apply ref r s) := by
  rw [cmdObjRead_apply]; exact applyObjRead_kept ref r s
theorem cmdObjWrite_kept (ref : CmdRef) (r : Request) (s : State) : Kept s (cmdObjWrite.apply ref r s) := by
  rw [cmdObjWrite_apply]; exact applyObjWrite_kept ref r s
theorem cmdIdentify_kept (ref : CmdRef) (r : Request) (s : State) : Kept s (cmdIdentify.apply ref r s) := by
  rw [cmdIdentify_apply]; exact applyIdentify_kept ref r s
theorem cmdTlmConfigure_kept (ref : CmdRef) (r : Request) (s : State) : Kept s (cmdTlmConfigure.apply ref r s) := by
  rw [cmdTlmConfigure_apply]; exact applyTlm_kept ref r s
theorem cmdRingCreate_kept (ref : CmdRef) (r : Request) (s : State) : Kept s (cmdRingCreate.apply ref r s) := by
  rw [cmdRingCreate_apply]; exact applyRingCreate_kept ref r s
theorem cmdRingDelete_kept (ref : CmdRef) (r : Request) (s : State) : Kept s (cmdRingDelete.apply ref r s) := by
  rw [cmdRingDelete_apply]; exact applyRingDelete_kept ref r s
theorem cmdAbort_kept (ref : CmdRef) (r : Request) (s : State) : Kept s (cmdAbort.apply ref r s) := by
  rw [cmdAbort_apply]; exact applyAbort_kept ref r s
theorem cmdTestEcho_kept (ref : CmdRef) (r : Request) (s : State) : Kept s (cmdTestEcho.apply ref r s) := by
  rw [cmdTestEcho_apply]; exact applyTestEcho_kept ref r s
theorem cmdTestEccInject_kept (ref : CmdRef) (r : Request) (s : State) : Kept s (cmdTestEccInject.apply ref r s) := by
  rw [cmdTestEccInject_apply]; exact applyTestEccInject_kept ref r s
theorem cmdRecFreeze_kept (ref : CmdRef) (r : Request) (s : State) : Kept s (cmdRecFreeze.apply ref r s) := by
  rw [cmdRecFreeze_apply]; exact applyRecFreeze_kept ref r s
theorem cmdRecRead_kept (ref : CmdRef) (r : Request) (s : State) : Kept s (cmdRecRead.apply ref r s) := by
  rw [cmdRecRead_apply]; exact applyRecRead_kept ref r s
theorem cmdHosttime_kept (ref : CmdRef) (r : Request) (s : State) : Kept s (cmdHosttime.apply ref r s) := by
  rw [cmdHosttime_apply]; exact applyHosttime_kept ref r s
theorem cmdClearArm_kept (ref : CmdRef) (r : Request) (s : State) : Kept s (cmdClearArm.apply ref r s) := by
  rw [cmdClearArm_apply]; exact applyClearArm_kept ref r s
theorem cmdClearExec_kept (ref : CmdRef) (r : Request) (s : State) : Kept s (cmdClearExec.apply ref r s) := by
  rw [cmdClearExec_apply]; exact applyClearExec_kept ref r s
theorem cmdDeviceReset_kept (ref : CmdRef) (r : Request) (s : State) : Kept s (cmdDeviceReset.apply ref r s) := by
  rw [cmdDeviceReset_apply]; exact applyDeviceReset_kept ref r s

theorem cmdNop_kept (ref : CmdRef) (r : Request) (s : State) : Kept s (cmdNop.apply ref r s) :=
  Kept.of (by simp [cmdNop])
theorem cmdMgmtReset_kept (ref : CmdRef) (r : Request) (s : State) : Kept s (cmdMgmtReset.apply ref r s) :=
  Kept.ofWaiting (by simp [cmdMgmtReset]) s.mgmtRestart_waiting

theorem State.writeTo_kept (o : Nat) (r : Request) (s : State) : Kept s (s.writeTo o r) :=
  State.issue_kept cmdObjWrite cmdObjWrite_kept _ s

/-! Every command of the index. -/

theorem protocolCommands_kept (d : CmdDef) (h : d ∈ protocolCommands) (ref : CmdRef) (r : Request) (s : State) :
    Kept s (d.apply ref r s) := by
  simp only [protocolCommands, List.mem_cons, List.not_mem_nil, or_false] at h
  rcases h with rfl | rfl | rfl | rfl | rfl | rfl | rfl | rfl | rfl | rfl | rfl | rfl
  · exact cmdNop_kept ref r s
  · exact cmdIdentify_kept ref r s
  · exact cmdObjRead_kept ref r s
  · exact cmdObjWrite_kept ref r s
  · exact cmdRingCreate_kept ref r s
  · exact cmdRingDelete_kept ref r s
  · exact cmdTlmConfigure_kept ref r s
  · exact cmdAbort_kept ref r s
  · exact cmdDeviceReset_kept ref r s
  · exact cmdMgmtReset_kept ref r s
  · exact cmdTestEcho_kept ref r s
  · exact cmdTestEccInject_kept ref r s

theorem rfCommands_kept (d : CmdDef) (h : d ∈ rfCommands) (ref : CmdRef) (r : Request) (s : State) :
    Kept s (d.apply ref r s) := by
  simp only [rfCommands, List.mem_cons, List.not_mem_nil, or_false] at h
  rcases h with rfl | rfl | rfl | rfl | rfl | rfl | rfl | rfl | rfl | rfl | rfl | rfl | rfl | rfl | rfl | rfl | rfl | rfl | rfl | rfl | rfl | rfl
  · exact cmdRadio_kept ref r s
  · exact cmdSbConfigure_kept ref r s
  · exact cmdSbLoadCoef_kept ref r s
  · exact cmdSbSwitchBank_kept ref r s
  · exact cmdSbRetune_kept ref r s
  · exact cmdSbSyncReset_kept ref r s
  · exact cmdSbDcb_kept ref r s
  · exact cmdCanConfigure_kept ref r s
  · exact cmdCanFreeze_kept ref r s
  · exact cmdCanProbe_kept ref r s
  · exact cmdCanMapRead_kept ref r s
  · exact cmdCanMapWrite_kept ref r s
  · exact cmdGovConfigure_kept ref r s
  · exact cmdGovRestart_kept ref r s
  · exact cmdCtlSetMode_kept ref r s
  · exact cmdCtlSetPoint_kept ref r s
  · exact cmdCtlSetSchedule_kept ref r s
  · exact cmdCtlInject_kept ref r s
  · exact cmdCtlRepLearn_kept ref r s
  · exact cmdTddConfigure_kept ref r s
  · exact cmdTddSetGates_kept ref r s
  · exact cmdNpSetLimits_kept ref r s

theorem boardCommands_kept (d : CmdDef) (h : d ∈ boardCommands) (ref : CmdRef) (r : Request) (s : State) :
    Kept s (d.apply ref r s) := by
  simp only [boardCommands, List.mem_cons, List.not_mem_nil, or_false] at h
  rcases h with rfl | rfl | rfl | rfl | rfl | rfl | rfl | rfl | rfl | rfl | rfl | rfl | rfl
  · exact cmdFeSeq_kept ref r s
  · exact cmdPgConfigure_kept ref r s
  · exact cmdWmConfigure_kept ref r s
  · exact cmdWmClear_kept ref r s
  · exact cmdPinAssign_kept ref r s
  · exact cmdHkConfigure_kept ref r s
  · exact cmdThConfigure_kept ref r s
  · exact cmdCapConfigure_kept ref r s
  · exact cmdCapStart_kept ref r s
  · exact cmdCapStop_kept ref r s
  · exact cmdCapRead_kept ref r s
  · exact cmdTwbConfigure_kept ref r s
  · exact cmdTwbTransfer_kept ref r s

theorem serviceCommands_kept (d : CmdDef) (h : d ∈ serviceCommands) (ref : CmdRef) (r : Request) (s : State) :
    Kept s (d.apply ref r s) := by
  simp only [serviceCommands, List.mem_cons, List.not_mem_nil, or_false] at h
  rcases h with rfl | rfl | rfl | rfl | rfl | rfl | rfl | rfl | rfl | rfl
  · exact cmdFltConfigure_kept ref r s
  · exact cmdFltAck_kept ref r s
  · exact cmdFltForce_kept ref r s
  · exact cmdRecFreeze_kept ref r s
  · exact cmdRecRead_kept ref r s
  · exact cmdClearArm_kept ref r s
  · exact cmdClearExec_kept ref r s
  · exact cmdHosttime_kept ref r s
  · exact cmdFwUpdate_kept ref r s
  · exact cmdLedgerRead_kept ref r s

theorem commandIndex_kept (d : CmdDef) (h : d ∈ commandIndex) (ref : CmdRef) (r : Request) (s : State) :
    Kept s (d.apply ref r s) := by
  simp only [commandIndex, List.mem_append] at h
  rcases h with ((h | h) | h) | h
  · exact protocolCommands_kept d h ref r s
  · exact rfCommands_kept d h ref r s
  · exact boardCommands_kept d h ref r s
  · exact serviceCommands_kept d h ref r s

/-! Operations that change a queue. -/

theorem State.detect_kept (s : State) (d : Due) (forced : Bool) : Kept s (s.detect d forced) :=
  Kept.ofQueue (by simp) (s.detect_queue d forced)

theorem State.refreshMerged_kept (s : State) (cls : Nat → Bool) : Kept s (s.refreshMerged cls) :=
  Kept.ofQueue (by simp) (s.refreshMerged_queue cls)

theorem State.memoryError_kept (s : State) (mem word : Nat) (double injected : Bool) :
    Kept s (s.memoryError mem word double injected) :=
  Kept.ofQueue (by simp) (s.memoryError_queue mem word double injected)

theorem State.attend_kept (s : State) (b kind addr data : Nat) : Kept s (s.attend b kind addr data) :=
  Kept.ofAttn (by simp) (fun h k => s.attend_attn b kind addr data k h)

theorem State.powerGated_kept (s : State) : Kept s s.powerGated :=
  Kept.ofAttn (by simp) (fun _ k => s.powerGated_attn k)

theorem State.foldl_kept {α : Type} (f : State → α → State) (hf : ∀ s x, Kept s (f s x)) (l : List α) (s : State) :
    Kept s (l.foldl f s) := by
  induction l generalizing s with
  | nil => exact Kept.rfl s
  | cons x l ih => exact (hf s x).trans (ih _)

theorem State.retry_kept (s : State) (b : Nat) (fail : State → CmdRef → State) (hf : ∀ s c, Kept s (fail s c)) :
    Kept s (s.retry b fail) := by
  unfold State.retry
  split
  · exact Kept.rfl s
  · split
    · exact Kept.of (by simp)
    · exact (Kept.of (by simp)).trans (hf _ _)

theorem State.beginEntry_kept (s : State) (k : Nat) (e : Entry) : Kept s (s.beginEntry k e) := by
  unfold State.beginEntry
  split
  · rename_i d hd
    exact State.begin_kept d (fun ref r s => commandIndex_kept d (List.mem_of_find?_eq_some hd) ref r s) _ _ s
  · exact Kept.of (by simp)

/-- A scrub keeps what a memory error keeps. -/
theorem State.scrub_kept (s : State) (here : Nat → Bool) : Kept s (s.scrub here) :=
  Kept.trans (t := { s with mem := { s.mem with planted := s.mem.planted.filter (fun e => !here e.1) } })
    (Kept.of (by simp)) (State.foldl_kept _ (fun _ _ => State.memoryError_kept _ _ _ _ _) _ _)

theorem State.modStore_kept (s : State) (f : Store → Store) : Kept s (s.modStore f) := Kept.of (by simp)

/-! The rows. -/

theorem execTddConfigure_kept (dt : Nat) (r : Request) (s : State) :
    ∃ t, execTddConfigure dt r s = .next t ∧ Kept (s.advance dt) t := by
  unfold execTddConfigure; exact ⟨_, rfl, State.issue_kept cmdTddConfigure cmdTddConfigure_kept _ _⟩
theorem execTddSetGatesWrite_kept (dt : Nat) (r : Request) (s : State) :
    ∃ t, execTddSetGatesWrite dt r s = .next t ∧ Kept (s.advance dt) t := by
  unfold execTddSetGatesWrite; exact ⟨_, rfl, State.issue_kept cmdTddSetGates cmdTddSetGates_kept _ _⟩
theorem execTddCommitLearned_kept (dt : Nat) (r : Request) (s : State) :
    ∃ t, execTddCommitLearned dt r s = .next t ∧ Kept (s.advance dt) t := by
  unfold execTddCommitLearned; exact ⟨_, rfl, State.issue_kept cmdTddSetGates cmdTddSetGates_kept _ _⟩
theorem execTddReadback_kept (dt : Nat) (r : Request) (s : State) :
    ∃ t, execTddReadback dt r s = .next t ∧ Kept (s.advance dt) t := by
  unfold execTddReadback; exact ⟨_, rfl, State.issue_kept cmdTddSetGates cmdTddSetGates_kept _ _⟩
theorem execSyncAcquired_kept (dt : Nat) (grp : Nat) (frameTick : Nat) (sfn : Nat) (err : Int) (s : State) :
    ∃ t, execSyncAcquired dt grp frameTick sfn err s = .next t ∧ Kept (s.advance dt) t := by
  refine ⟨_, rfl, ?_⟩
  refine Kept.of ?_; simp
theorem execSyncMeasurement_kept (dt : Nat) (grp : Nat) (err : Int) (s : State) :
    ∃ t, execSyncMeasurement dt grp err s = .next t ∧ Kept (s.advance dt) t := by
  refine ⟨_, rfl, ?_⟩
  refine Kept.of ?_; simp
theorem execSyncLoss_kept (dt : Nat) (grp : Nat) (s : State) :
    ∃ t, execSyncLoss dt grp s = .next t ∧ Kept (s.advance dt) t := by
  refine ⟨_, rfl, ?_⟩
  refine Kept.of ?_; simp
theorem execHoldoverExpiry_kept (dt : Nat) (grp : Nat) (s : State) :
    ∃ t, execHoldoverExpiry dt grp s = .next t ∧ Kept (s.advance dt) t := by
  refine ⟨_, rfl, ?_⟩
  refine Kept.of ?_; simp
theorem execGatingFrameStart_kept (dt : Nat) (grp : Nat) (s : State) :
    ∃ t, execGatingFrameStart dt grp s = .next t ∧ Kept (s.advance dt) t := by
  refine ⟨_, rfl, ?_⟩
  (repeat' split) <;> (refine Kept.of ?_; simp)
theorem execGateEdge_kept (dt : Nat) (grp : Nat) (uplink : Bool) (_opened : Measured) (_beam : Measured) (s : State) :
    ∃ t, execGateEdge dt grp uplink _opened _beam s = .next t ∧ Kept (s.advance dt) t := by
  refine ⟨_, rfl, ?_⟩
  (repeat' split) <;> (refine Kept.of ?_; simp)
theorem execTddLearn_kept (dt : Nat) (grp : Nat) (_counts : Measured) (s : State) :
    ∃ t, execTddLearn dt grp _counts s = .next t ∧ Kept (s.advance dt) t := by
  refine ⟨_, rfl, ?_⟩
  refine Kept.of ?_; simp
theorem execNpSetLimitsSubband_kept (dt : Nat) (r : Request) (s : State) :
    ∃ t, execNpSetLimitsSubband dt r s = .next t ∧ Kept (s.advance dt) t := by
  unfold execNpSetLimitsSubband; exact ⟨_, rfl, State.issue_kept cmdNpSetLimits cmdNpSetLimits_kept _ _⟩
theorem execNpSetLimitsBand_kept (dt : Nat) (r : Request) (s : State) :
    ∃ t, execNpSetLimitsBand dt r s = .next t ∧ Kept (s.advance dt) t := by
  unfold execNpSetLimitsBand; exact ⟨_, rfl, State.issue_kept cmdNpSetLimits cmdNpSetLimits_kept _ _⟩
theorem execNpSetLimitsChain_kept (dt : Nat) (r : Request) (s : State) :
    ∃ t, execNpSetLimitsChain dt r s = .next t ∧ Kept (s.advance dt) t := by
  unfold execNpSetLimitsChain; exact ⟨_, rfl, State.issue_kept cmdNpSetLimits cmdNpSetLimits_kept _ _⟩
theorem execNpEvaluation_kept (dt : Nat) (_levels : Measured) (s : State) :
    ∃ t, execNpEvaluation dt _levels s = .next t ∧ Kept (s.advance dt) t := by
  refine ⟨_, rfl, ?_⟩
  refine Kept.of ?_; simp
theorem execDonorLossMute_kept (dt : Nat) (band : Nat) (s : State) :
    ∃ t, execDonorLossMute dt band s = .next t ∧ Kept (s.advance dt) t := by
  refine ⟨_, rfl, ?_⟩
  refine Kept.of ?_; simp
theorem execDonorRelease_kept (dt : Nat) (band : Nat) (s : State) :
    ∃ t, execDonorRelease dt band s = .next t ∧ Kept (s.advance dt) t := by
  refine ⟨_, rfl, ?_⟩
  refine Kept.of ?_; simp
theorem execRegrowthEvaluation_kept (dt : Nat) (c : Nat) (gathered : Nat) (meas : List AclrMeas) (s : State) :
    ∃ t, execRegrowthEvaluation dt c gathered meas s = .next t ∧ Kept (s.advance dt) t := by
  refine ⟨_, rfl, ?_⟩
  dsimp only; (repeat' split) <;> (refine Kept.of ?_; simp)
theorem execMuteNFall_kept (dt : Nat) (s : State) :
    ∃ t, execMuteNFall dt s = .next t ∧ Kept (s.advance dt) t := by
  refine ⟨_, rfl, ?_⟩
  refine Kept.of ?_; simp
theorem execMuteNRise_kept (dt : Nat) (s : State) :
    ∃ t, execMuteNRise dt s = .next t ∧ Kept (s.advance dt) t := by
  refine ⟨_, rfl, ?_⟩
  refine Kept.of ?_; simp
theorem execSliceFault_kept (dt : Nat) (c : Nat) (slice : Nat) (kind : Nat) (s : State) :
    ∃ t, execSliceFault dt c slice kind s = .next t ∧ Kept (s.advance dt) t := by
  refine ⟨_, rfl, ?_⟩
  refine Kept.of ?_; simp
theorem execSliceSwap_kept (dt : Nat) (c : Nat) (shadow : Shadow) (s : State) :
    ∃ t, execSliceSwap dt c shadow s = .next t ∧ Kept (s.advance dt) t := by
  refine ⟨_, rfl, ?_⟩
  refine Kept.of ?_; simp
theorem execTrimStore_kept (dt : Nat) (s : State) :
    ∃ t, execTrimStore dt s = .next t ∧ Kept (s.advance dt) t := by
  refine ⟨_, rfl, ?_⟩
  refine Kept.of ?_; simp
theorem execOverrangeStart_kept (dt : Nat) (c : Nat) (slices : BitVec 33) (s : State) :
    ∃ t, execOverrangeStart dt c slices s = .next t ∧ Kept (s.advance dt) t := by
  refine ⟨_, rfl, ?_⟩
  refine Kept.of ?_; simp
theorem execOverrangeEnd_kept (dt : Nat) (c : Nat) (slices : BitVec 33) (s : State) :
    ∃ t, execOverrangeEnd dt c slices s = .next t ∧ Kept (s.advance dt) t := by
  refine ⟨_, rfl, ?_⟩
  refine Kept.of ?_; simp
theorem execFastStepTake_kept (dt : Nat) (c : Nat) (magnitude : Nat) (s : State) :
    ∃ t, execFastStepTake dt c magnitude s = .next t ∧ Kept (s.advance dt) t := by
  refine ⟨_, rfl, ?_⟩
  refine Kept.of ?_; simp
theorem execFastStepRelease_kept (dt : Nat) (c : Nat) (peak : Nat) (s : State) :
    ∃ t, execFastStepRelease dt c peak s = .next t ∧ Kept (s.advance dt) t := by
  refine ⟨_, rfl, ?_⟩
  (repeat' split) <;> (refine Kept.of ?_; simp)
theorem execFastStepStartTest_kept (dt : Nat) (c : Nat) (peak : Nat) (s : State) :
    ∃ t, execFastStepStartTest dt c peak s = .next t ∧ Kept (s.advance dt) t := by
  refine ⟨_, rfl, ?_⟩
  refine Kept.of ?_; simp
theorem execDacClipEpisode_kept (dt : Nat) (c : Nat) (s : State) :
    ∃ t, execDacClipEpisode dt c s = .next t ∧ Kept (s.advance dt) t := by
  refine ⟨_, rfl, ?_⟩
  refine Kept.of ?_; simp
theorem execDacCalHold_kept (dt : Nat) (c : Nat) (s : State) :
    ∃ t, execDacCalHold dt c s = .next t ∧ Kept (s.advance dt) t := by
  refine ⟨_, rfl, ?_⟩
  refine Kept.of ?_; simp
theorem execCalHoldEnd_kept (dt : Nat) (c : Nat) (s : State) :
    ∃ t, execCalHoldEnd dt c s = .next t ∧ Kept (s.advance dt) t := by
  refine ⟨_, rfl, ?_⟩
  refine Kept.of ?_; simp
theorem execSbConfigure_kept (dt : Nat) (r : Request) (s : State) :
    ∃ t, execSbConfigure dt r s = .next t ∧ Kept (s.advance dt) t := by
  unfold execSbConfigure; exact ⟨_, rfl, State.issue_kept cmdSbConfigure cmdSbConfigure_kept _ _⟩
theorem execDisableRampEnd_kept (dt : Nat) (g : Nat) (s : State) :
    ∃ t, execDisableRampEnd dt g s = .next t ∧ Kept (s.advance dt) t := by
  refine ⟨_, rfl, ?_⟩
  refine Kept.of ?_; simp
theorem execSbRetune_kept (dt : Nat) (r : Request) (s : State) :
    ∃ t, execSbRetune dt r s = .next t ∧ Kept (s.advance dt) t := by
  unfold execSbRetune; exact ⟨_, rfl, State.issue_kept cmdSbRetune cmdSbRetune_kept _ _⟩
theorem execRetuneApply_kept (dt : Nat) (g : Nat) (s : State) :
    ∃ t, execRetuneApply dt g s = .next t ∧ Kept (s.advance dt) t := by
  refine ⟨_, rfl, ?_⟩
  (repeat' split) <;> (refine Kept.of ?_; simp)
theorem execSbLoadCoef_kept (dt : Nat) (r : Request) (s : State) :
    ∃ t, execSbLoadCoef dt r s = .next t ∧ Kept (s.advance dt) t := by
  unfold execSbLoadCoef; exact ⟨_, rfl, State.issue_kept cmdSbLoadCoef cmdSbLoadCoef_kept _ _⟩
theorem execCoefLoadEnd_kept (dt : Nat) (g : Nat) (s : State) :
    ∃ t, execCoefLoadEnd dt g s = .next t ∧ Kept (s.advance dt) t := by
  refine ⟨_, rfl, ?_⟩
  (repeat' split) <;> (refine Kept.of ?_; simp)
theorem execSbSwitchBank_kept (dt : Nat) (r : Request) (s : State) :
    ∃ t, execSbSwitchBank dt r s = .next t ∧ Kept (s.advance dt) t := by
  unfold execSbSwitchBank; exact ⟨_, rfl, State.issue_kept cmdSbSwitchBank cmdSbSwitchBank_kept _ _⟩
theorem execCrossFadeEnd_kept (dt : Nat) (g : Nat) (s : State) :
    ∃ t, execCrossFadeEnd dt g s = .next t ∧ Kept (s.advance dt) t := by
  refine ⟨_, rfl, ?_⟩
  refine Kept.of ?_; simp
theorem execHardSwitchOutput_kept (dt : Nat) (g : Nat) (s : State) :
    ∃ t, execHardSwitchOutput dt g s = .next t ∧ Kept (s.advance dt) t := by
  refine ⟨_, rfl, ?_⟩
  (repeat' split) <;> (refine Kept.of ?_; simp)
theorem execSbSyncReset_kept (dt : Nat) (r : Request) (s : State) :
    ∃ t, execSbSyncReset dt r s = .next t ∧ Kept (s.advance dt) t := by
  unfold execSbSyncReset; exact ⟨_, rfl, State.issue_kept cmdSbSyncReset cmdSbSyncReset_kept _ _⟩
theorem execSyncResetSample_kept (dt : Nat) (g : Nat) (s : State) :
    ∃ t, execSyncResetSample dt g s = .next t ∧ Kept (s.advance dt) t := by
  refine ⟨_, rfl, ?_⟩
  (repeat' split) <;> (refine Kept.of ?_; simp)
theorem execSbDcb_kept (dt : Nat) (r : Request) (s : State) :
    ∃ t, execSbDcb dt r s = .next t ∧ Kept (s.advance dt) t := by
  unfold execSbDcb; exact ⟨_, rfl, State.issue_kept cmdSbDcb cmdSbDcb_kept _ _⟩
theorem execCanConfigure_kept (dt : Nat) (r : Request) (s : State) :
    ∃ t, execCanConfigure dt r s = .next t ∧ Kept (s.advance dt) t := by
  unfold execCanConfigure; exact ⟨_, rfl, State.issue_kept cmdCanConfigure cmdCanConfigure_kept _ _⟩
theorem execCanFreeze_kept (dt : Nat) (r : Request) (s : State) :
    ∃ t, execCanFreeze dt r s = .next t ∧ Kept (s.advance dt) t := by
  unfold execCanFreeze; exact ⟨_, rfl, State.issue_kept cmdCanFreeze cmdCanFreeze_kept _ _⟩
theorem execCanMapRead_kept (dt : Nat) (r : Request) (s : State) :
    ∃ t, execCanMapRead dt r s = .next t ∧ Kept (s.advance dt) t := by
  unfold execCanMapRead; exact ⟨_, rfl, State.issue_kept cmdCanMapRead cmdCanMapRead_kept _ _⟩
theorem execMapReadEnd_kept (dt : Nat) (g : Nat) (s : State) :
    ∃ t, execMapReadEnd dt g s = .next t ∧ Kept (s.advance dt) t := by
  refine ⟨_, rfl, ?_⟩
  (repeat' split) <;> (refine Kept.of ?_; simp)
theorem execCanMapWrite_kept (dt : Nat) (r : Request) (s : State) :
    ∃ t, execCanMapWrite dt r s = .next t ∧ Kept (s.advance dt) t := by
  unfold execCanMapWrite; exact ⟨_, rfl, State.issue_kept cmdCanMapWrite cmdCanMapWrite_kept _ _⟩
theorem execCancellerBlockEnd_kept (dt : Nat) (g : Nat) (_m : Measured) (s : State) :
    ∃ t, execCancellerBlockEnd dt g _m s = .next t ∧ Kept (s.advance dt) t := by
  refine ⟨_, rfl, ?_⟩
  refine Kept.of ?_; simp
theorem execAcqMsExpiry_kept (dt : Nat) (g : Nat) (s : State) :
    ∃ t, execAcqMsExpiry dt g s = .next t ∧ Kept (s.advance dt) t := by
  refine ⟨_, rfl, ?_⟩
  refine Kept.of ?_; simp
theorem execPartitionBoundary_kept (dt : Nat) (g : Nat) (s : State) :
    ∃ t, execPartitionBoundary dt g s = .next t ∧ Kept (s.advance dt) t := by
  refine ⟨_, rfl, ?_⟩
  refine Kept.of ?_; simp
theorem execMapMoveEnd_kept (dt : Nat) (g : Nat) (s : State) :
    ∃ t, execMapMoveEnd dt g s = .next t ∧ Kept (s.advance dt) t := by
  refine ⟨_, rfl, ?_⟩
  (repeat' split) <;> (refine Kept.of ?_; simp)
theorem execCanMove_kept (dt : Nat) (g : Nat) (s : State) :
    ∃ t, execCanMove dt g s = .next t ∧ Kept (s.advance dt) t := by
  refine ⟨_, rfl, ?_⟩
  (repeat' split) <;> (refine Kept.of ?_; simp)
theorem execGovConfigure_kept (dt : Nat) (r : Request) (s : State) :
    ∃ t, execGovConfigure dt r s = .next t ∧ Kept (s.advance dt) t := by
  unfold execGovConfigure; exact ⟨_, rfl, State.issue_kept cmdGovConfigure cmdGovConfigure_kept _ _⟩
theorem execGovRestart_kept (dt : Nat) (r : Request) (s : State) :
    ∃ t, execGovRestart dt r s = .next t ∧ Kept (s.advance dt) t := by
  unfold execGovRestart; exact ⟨_, rfl, State.issue_kept cmdGovRestart cmdGovRestart_kept _ _⟩
theorem execGovernorBlockEnd_kept (dt : Nat) (g : Nat) (_m : Measured) (s : State) :
    ∃ t, execGovernorBlockEnd dt g _m s = .next t ∧ Kept (s.advance dt) t := by
  refine ⟨_, rfl, ?_⟩
  refine Kept.of ?_; simp
theorem execOscillationTrip_kept (dt : Nat) (g : Nat) (s : State) :
    ∃ t, execOscillationTrip dt g s = .next t ∧ Kept (s.advance dt) t := by
  refine ⟨_, rfl, ?_⟩
  refine Kept.of ?_; simp
theorem execClampHoldEnd_kept (dt : Nat) (g : Nat) (s : State) :
    ∃ t, execClampHoldEnd dt g s = .next t ∧ Kept (s.advance dt) t := by
  refine ⟨_, rfl, ?_⟩
  refine Kept.of ?_; simp
theorem execHoldoffEnd_kept (dt : Nat) (g : Nat) (s : State) :
    ∃ t, execHoldoffEnd dt g s = .next t ∧ Kept (s.advance dt) t := by
  refine ⟨_, rfl, ?_⟩
  refine Kept.of ?_; simp
theorem execRestartCapRemoval_kept (dt : Nat) (g : Nat) (s : State) :
    ∃ t, execRestartCapRemoval dt g s = .next t ∧ Kept (s.advance dt) t := by
  refine ⟨_, rfl, ?_⟩
  refine Kept.of ?_; simp
theorem execCanProbeStart_kept (dt : Nat) (r : Request) (s : State) :
    ∃ t, execCanProbeStart dt r s = .next t ∧ Kept (s.advance dt) t := by
  unfold execCanProbeStart; exact ⟨_, rfl, State.issue_kept cmdCanProbe cmdCanProbe_kept _ _⟩
theorem execCanProbeStop_kept (dt : Nat) (r : Request) (s : State) :
    ∃ t, execCanProbeStop dt r s = .next t ∧ Kept (s.advance dt) t := by
  unfold execCanProbeStop; exact ⟨_, rfl, State.issue_kept cmdCanProbe cmdCanProbe_kept _ _⟩
theorem execProbeAutoStart_kept (dt : Nat) (g : Nat) (s : State) :
    ∃ t, execProbeAutoStart dt g s = .next t ∧ Kept (s.advance dt) t := by
  refine ⟨_, rfl, ?_⟩
  refine Kept.of ?_; simp
theorem execProbeEnd_kept (dt : Nat) (g : Nat) (s : State) :
    ∃ t, execProbeEnd dt g s = .next t ∧ Kept (s.advance dt) t := by
  refine ⟨_, rfl, ?_⟩
  (repeat' split) <;> (refine Kept.of ?_; simp)
theorem execProbeSuspend_kept (dt : Nat) (g : Nat) (s : State) :
    ∃ t, execProbeSuspend dt g s = .next t ∧ Kept (s.advance dt) t := by
  refine ⟨_, rfl, ?_⟩
  refine Kept.of ?_; simp
theorem execProbeResume_kept (dt : Nat) (g : Nat) (s : State) :
    ∃ t, execProbeResume dt g s = .next t ∧ Kept (s.advance dt) t := by
  refine ⟨_, rfl, ?_⟩
  refine Kept.of ?_; simp
theorem execIsoStore_kept (dt : Nat) (s : State) :
    ∃ t, execIsoStore dt s = .next t ∧ Kept (s.advance dt) t := by
  refine ⟨_, rfl, ?_⟩
  refine Kept.of ?_; simp
theorem execControlTick_kept (dt : Nat) (missed : List Nat) (s : State) :
    ∃ t, execControlTick dt missed s = .next t ∧ Kept (s.advance dt) t := by
  refine ⟨_, rfl, ?_⟩
  refine Kept.of ?_; simp
theorem execPlausTimerExpiry_kept (dt : Nat) (c : Nat) (s : State) :
    ∃ t, execPlausTimerExpiry dt c s = .next t ∧ Kept (s.advance dt) t := by
  refine ⟨_, rfl, ?_⟩
  refine Kept.of ?_; simp
theorem execCtlSetMode_kept (dt : Nat) (r : Request) (s : State) :
    ∃ t, execCtlSetMode dt r s = .next t ∧ Kept (s.advance dt) t := by
  unfold execCtlSetMode; exact ⟨_, rfl, State.issue_kept cmdCtlSetMode cmdCtlSetMode_kept _ _⟩
theorem execCtlSetPoint_kept (dt : Nat) (r : Request) (s : State) :
    ∃ t, execCtlSetPoint dt r s = .next t ∧ Kept (s.advance dt) t := by
  unfold execCtlSetPoint; exact ⟨_, rfl, State.issue_kept cmdCtlSetPoint cmdCtlSetPoint_kept _ _⟩
theorem execSetPointArrived_kept (dt : Nat) (loop : Nat) (which : Nat) (s : State) :
    ∃ t, execSetPointArrived dt loop which s = .next t ∧ Kept (s.advance dt) t := by
  refine ⟨_, rfl, ?_⟩
  (repeat' split) <;> (refine Kept.of ?_; simp)
theorem execCtlSetSchedule_kept (dt : Nat) (r : Request) (s : State) :
    ∃ t, execCtlSetSchedule dt r s = .next t ∧ Kept (s.advance dt) t := by
  unfold execCtlSetSchedule; exact ⟨_, rfl, State.issue_kept cmdCtlSetSchedule cmdCtlSetSchedule_kept _ _⟩
theorem execCtlInjectStart_kept (dt : Nat) (r : Request) (s : State) :
    ∃ t, execCtlInjectStart dt r s = .next t ∧ Kept (s.advance dt) t := by
  unfold execCtlInjectStart; exact ⟨_, rfl, State.issue_kept cmdCtlInject cmdCtlInject_kept _ _⟩
theorem execCtlInjectStop_kept (dt : Nat) (r : Request) (s : State) :
    ∃ t, execCtlInjectStop dt r s = .next t ∧ Kept (s.advance dt) t := by
  unfold execCtlInjectStop; exact ⟨_, rfl, State.issue_kept cmdCtlInject cmdCtlInject_kept _ _⟩
theorem execInjectionEnd_kept (dt : Nat) (loop : Nat) (s : State) :
    ∃ t, execInjectionEnd dt loop s = .next t ∧ Kept (s.advance dt) t := by
  refine ⟨_, rfl, ?_⟩
  (repeat' split) <;> (refine Kept.of ?_; simp)
theorem execCtlRepLearnStart_kept (dt : Nat) (r : Request) (s : State) :
    ∃ t, execCtlRepLearnStart dt r s = .next t ∧ Kept (s.advance dt) t := by
  unfold execCtlRepLearnStart; exact ⟨_, rfl, State.issue_kept cmdCtlRepLearn cmdCtlRepLearn_kept _ _⟩
theorem execCtlRepLearnRelease_kept (dt : Nat) (r : Request) (s : State) :
    ∃ t, execCtlRepLearnRelease dt r s = .next t ∧ Kept (s.advance dt) t := by
  unfold execCtlRepLearnRelease; exact ⟨_, rfl, State.issue_kept cmdCtlRepLearn cmdCtlRepLearn_kept _ _⟩
theorem execCtlRepLearnModify_kept (dt : Nat) (r : Request) (s : State) :
    ∃ t, execCtlRepLearnModify dt r s = .next t ∧ Kept (s.advance dt) t := by
  unfold execCtlRepLearnModify; exact ⟨_, rfl, State.issue_kept cmdCtlRepLearn cmdCtlRepLearn_kept _ _⟩
theorem execTwbConfigure_kept (dt : Nat) (r : Request) (s : State) :
    ∃ t, execTwbConfigure dt r s = .next t ∧ Kept (s.advance dt) t := by
  unfold execTwbConfigure; exact ⟨_, rfl, State.issue_kept cmdTwbConfigure cmdTwbConfigure_kept _ _⟩
theorem execTwbClear_kept (dt : Nat) (r : Request) (s : State) :
    ∃ t, execTwbClear dt r s = .next t ∧ Kept (s.advance dt) t := by
  unfold execTwbClear; exact ⟨_, rfl, State.issue_kept cmdTwbConfigure cmdTwbConfigure_kept _ _⟩
theorem execTwbTransfer_kept (dt : Nat) (r : Request) (s : State) :
    ∃ t, execTwbTransfer dt r s = .next t ∧ Kept (s.advance dt) t := by
  unfold execTwbTransfer; exact ⟨_, rfl, State.issue_kept cmdTwbTransfer cmdTwbTransfer_kept _ _⟩
theorem execTwbAttention_kept (dt : Nat) (r : Request) (s : State) :
    ∃ t, execTwbAttention dt r s = .next t ∧ Kept (s.advance dt) t := by
  unfold execTwbAttention; exact ⟨_, rfl, State.issue_kept cmdTwbTransfer cmdTwbTransfer_kept _ _⟩
theorem execAttentionWaitExpiry_kept (dt : Nat) (bus : Nat) (s : State) :
    ∃ t, execAttentionWaitExpiry dt bus s = .next t ∧ Kept (s.advance dt) t := by
  refine ⟨_, rfl, ?_⟩
  (repeat' split) <;> (refine Kept.of ?_; simp)
theorem execBusTransferStart_kept (dt : Nat) (bus : Nat) (s : State) :
    ∃ t, execBusTransferStart dt bus s = .next t ∧ Kept (s.advance dt) t := by
  refine ⟨_, rfl, ?_⟩
  (repeat' split) <;> (refine Kept.of ?_; simp)
theorem execBusTransferEnd_kept (dt : Nat) (bus : Nat) (res : BusResult) (s : State) :
    ∃ t, execBusTransferEnd dt bus res s = .next t ∧ Kept (s.advance dt) t := by
  refine ⟨_, rfl, ?_⟩
  (repeat' split) <;> (refine Kept.of ?_; simp)
theorem execAckSlotStart_kept (dt : Nat) (bus : Nat) (s : State) :
    ∃ t, execAckSlotStart dt bus s = .next t ∧ Kept (s.advance dt) t := by
  refine ⟨_, rfl, ?_⟩
  split
  · exact State.retry_kept _ _ _ (fun _ _ => Kept.of (by simp))
  · exact Kept.rfl _
theorem execArbitrationLost_kept (dt : Nat) (bus : Nat) (n : Nat) (s : State) :
    ∃ t, execArbitrationLost dt bus n s = .next t ∧ Kept (s.advance dt) t := by
  refine ⟨_, rfl, ?_⟩
  split
  · exact (Kept.of (by simp)).trans (State.retry_kept _ _ _ (fun _ _ => Kept.of (by simp)))
  · exact Kept.rfl _
theorem execSclLowTimeout_kept (dt : Nat) (bus : Nat) (sdaLow : Bool) (s : State) :
    ∃ t, execSclLowTimeout dt bus sdaLow s = .next t ∧ Kept (s.advance dt) t := by
  refine ⟨_, rfl, ?_⟩
  (repeat' split) <;> (refine Kept.of ?_; simp)
theorem execSdaLowTimeout_kept (dt : Nat) (bus : Nat) (s : State) :
    ∃ t, execSdaLowTimeout dt bus s = .next t ∧ Kept (s.advance dt) t := by
  refine ⟨_, rfl, ?_⟩
  refine Kept.of ?_; simp
theorem execBusFreeTimeout_kept (dt : Nat) (bus : Nat) (s : State) :
    ∃ t, execBusFreeTimeout dt bus s = .next t ∧ Kept (s.advance dt) t := by
  refine ⟨_, rfl, ?_⟩
  (repeat' split) <;> (refine Kept.of ?_; simp)
theorem execBusClearEnd_kept (dt : Nat) (bus : Nat) (pulses : Nat) (ok : Bool) (s : State) :
    ∃ t, execBusClearEnd dt bus pulses ok s = .next t ∧ Kept (s.advance dt) t := by
  refine ⟨_, rfl, ?_⟩
  (repeat' split) <;> (refine Kept.of ?_; simp)
theorem execAlert_kept (dt : Nat) (bus : Nat) (s : State) :
    ∃ t, execAlert dt bus s = .next t ∧ Kept (s.advance dt) t := by
  refine ⟨_, rfl, ?_⟩
  refine Kept.of ?_; simp
theorem execAlertResponseRead_kept (dt : Nat) (bus : Nat) (resp : Option Byte) (released : Bool) (s : State) :
    ∃ t, execAlertResponseRead dt bus resp released s = .next t ∧ Kept (s.advance dt) t := by
  refine ⟨_, rfl, ?_⟩
  cases resp with
  | none =>
    dsimp only
    repeat' split
    all_goals exact Kept.of (by simp)
  | some v =>
    dsimp only
    split
    · refine Kept.trans (Kept.of (t := (s.advance dt).modTwb bus (fun x => { x with
        freeAt := (s.advance dt).now + (s.advance dt).busFree bus })) (by simp)) ?_
      refine (State.attend_kept _ bus 1 (v.toNat / 2) 0).trans ?_
      repeat' split
      all_goals exact Kept.of (by simp)
    · exact Kept.rfl _
theorem execAlertSuspendEnd_kept (dt : Nat) (bus : Nat) (s : State) :
    ∃ t, execAlertSuspendEnd dt bus s = .next t ∧ Kept (s.advance dt) t := by
  refine ⟨_, rfl, ?_⟩
  refine Kept.of ?_; simp
theorem execHostNotify_kept (dt : Nat) (bus : Nat) (bytes : List Byte) (s : State) :
    ∃ t, execHostNotify dt bus bytes s = .next t ∧ Kept (s.advance dt) t := by
  refine ⟨_, rfl, ?_⟩
  split
  · split
    · exact Kept.of (by simp)
    · exact State.attend_kept _ _ _ _ _
  · exact Kept.rfl _
theorem execHkConfigureEntry_kept (dt : Nat) (r : Request) (s : State) :
    ∃ t, execHkConfigureEntry dt r s = .next t ∧ Kept (s.advance dt) t := by
  unfold execHkConfigureEntry; exact ⟨_, rfl, State.issue_kept cmdHkConfigure cmdHkConfigure_kept _ _⟩
theorem execHkConfigureTimer_kept (dt : Nat) (r : Request) (s : State) :
    ∃ t, execHkConfigureTimer dt r s = .next t ∧ Kept (s.advance dt) t := by
  unfold execHkConfigureTimer; exact ⟨_, rfl, State.issue_kept cmdHkConfigure cmdHkConfigure_kept _ _⟩
theorem execHkConfigureDac_kept (dt : Nat) (r : Request) (s : State) :
    ∃ t, execHkConfigureDac dt r s = .next t ∧ Kept (s.advance dt) t := by
  unfold execHkConfigureDac; exact ⟨_, rfl, State.issue_kept cmdHkConfigure cmdHkConfigure_kept _ _⟩
theorem execHtTimerFire_kept (dt : Nat) (n : Nat) (s : State) :
    ∃ t, execHtTimerFire dt n s = .next t ∧ Kept (s.advance dt) t := by
  refine ⟨_, rfl, ?_⟩
  (repeat' split) <;> (refine Kept.of ?_; simp)
theorem execHtTriggerEdge_kept (dt : Nat) (n : Nat) (s : State) :
    ∃ t, execHtTriggerEdge dt n s = .next t ∧ Kept (s.advance dt) t := by
  refine ⟨_, rfl, ?_⟩
  refine Kept.of ?_; simp
theorem execHkRequest_kept (dt : Nat) (e : Nat) (s : State) :
    ∃ t, execHkRequest dt e s = .next t ∧ Kept (s.advance dt) t := by
  refine ⟨_, rfl, ?_⟩
  (repeat' split) <;> (refine Kept.of ?_; simp)
theorem execHkConversionEnd_kept (dt : Nat) (nv : Nat) (s : State) :
    ∃ t, execHkConversionEnd dt nv s = .next t ∧ Kept (s.advance dt) t := by
  refine ⟨_, rfl, ?_⟩
  dsimp only; (repeat' split) <;> (refine Kept.of ?_; simp)
theorem execThConfigureGlobal_kept (dt : Nat) (r : Request) (s : State) :
    ∃ t, execThConfigureGlobal dt r s = .next t ∧ Kept (s.advance dt) t := by
  unfold execThConfigureGlobal; exact ⟨_, rfl, State.issue_kept cmdThConfigure cmdThConfigure_kept _ _⟩
theorem execThConfigureSensor_kept (dt : Nat) (r : Request) (s : State) :
    ∃ t, execThConfigureSensor dt r s = .next t ∧ Kept (s.advance dt) t := by
  unfold execThConfigureSensor; exact ⟨_, rfl, State.issue_kept cmdThConfigure cmdThConfigure_kept _ _⟩
theorem execThConfigureZone_kept (dt : Nat) (r : Request) (s : State) :
    ∃ t, execThConfigureZone dt r s = .next t ∧ Kept (s.advance dt) t := by
  unfold execThConfigureZone; exact ⟨_, rfl, State.issue_kept cmdThConfigure cmdThConfigure_kept _ _⟩
theorem execThermalRound_kept (dt : Nat) (s : State) :
    ∃ t, execThermalRound dt s = .next t ∧ Kept (s.advance dt) t := by
  refine ⟨_, rfl, ?_⟩
  refine Kept.of ?_; simp
theorem execThermalRoundEnd_kept (dt : Nat) (m : RoundMeas) (s : State) :
    ∃ t, execThermalRoundEnd dt m s = .next t ∧ Kept (s.advance dt) t := by
  refine ⟨_, rfl, ?_⟩
  refine Kept.of ?_; simp
theorem execThermalFadeEnd_kept (dt : Nat) (s : State) :
    ∃ t, execThermalFadeEnd dt s = .next t ∧ Kept (s.advance dt) t := by
  refine ⟨_, rfl, ?_⟩
  (repeat' split) <;> (refine Kept.of ?_; simp)
theorem execAnalogueTrip_kept (dt : Nat) (sensor : Nat) (s : State) :
    ∃ t, execAnalogueTrip dt sensor s = .next t ∧ Kept (s.advance dt) t := by
  refine ⟨_, rfl, ?_⟩
  refine Kept.of ?_; simp
theorem execAnalogueTripRelease_kept (dt : Nat) (s : State) :
    ∃ t, execAnalogueTripRelease dt s = .next t ∧ Kept (s.advance dt) t := by
  refine ⟨_, rfl, ?_⟩
  refine Kept.of ?_; simp
theorem execThermalStopRelease_kept (dt : Nat) (s : State) :
    ∃ t, execThermalStopRelease dt s = .next t ∧ Kept (s.advance dt) t := by
  refine ⟨_, rfl, ?_⟩
  refine Kept.of ?_; simp
theorem execFeSeqConfigurePa_kept (dt : Nat) (r : Request) (s : State) :
    ∃ t, execFeSeqConfigurePa dt r s = .next t ∧ Kept (s.advance dt) t := by
  unfold execFeSeqConfigurePa; exact ⟨_, rfl, State.issue_kept cmdFeSeq cmdFeSeq_kept _ _⟩
theorem execFeSeqConfigureRx_kept (dt : Nat) (r : Request) (s : State) :
    ∃ t, execFeSeqConfigureRx dt r s = .next t ∧ Kept (s.advance dt) t := by
  unfold execFeSeqConfigureRx; exact ⟨_, rfl, State.issue_kept cmdFeSeq cmdFeSeq_kept _ _⟩
theorem execPaPowerUpStart_kept (dt : Nat) (c : Nat) (s : State) :
    ∃ t, execPaPowerUpStart dt c s = .next t ∧ Kept (s.advance dt) t := by
  refine ⟨_, rfl, ?_⟩
  refine Kept.of ?_; simp
theorem execPaSequenceOffset_kept (dt : Nat) (c : Nat) (s : State) :
    ∃ t, execPaSequenceOffset dt c s = .next t ∧ Kept (s.advance dt) t := by
  refine ⟨_, rfl, ?_⟩
  (repeat' split) <;> (refine Kept.of ?_; simp)
theorem execPaPowerUpEnd_kept (dt : Nat) (c : Nat) (s : State) :
    ∃ t, execPaPowerUpEnd dt c s = .next t ∧ Kept (s.advance dt) t := by
  refine ⟨_, rfl, ?_⟩
  (repeat' split) <;> (refine Kept.of ?_; simp)
theorem execPaPowerDownStart_kept (dt : Nat) (c : Nat) (s : State) :
    ∃ t, execPaPowerDownStart dt c s = .next t ∧ Kept (s.advance dt) t := by
  refine ⟨_, rfl, ?_⟩
  refine Kept.of ?_; simp
theorem execPaPowerDownEnd_kept (dt : Nat) (c : Nat) (s : State) :
    ∃ t, execPaPowerDownEnd dt c s = .next t ∧ Kept (s.advance dt) t := by
  refine ⟨_, rfl, ?_⟩
  (repeat' split) <;> (refine Kept.of ?_; simp)
theorem execPgConfigure_kept (dt : Nat) (r : Request) (s : State) :
    ∃ t, execPgConfigure dt r s = .next t ∧ Kept (s.advance dt) t := by
  unfold execPgConfigure; exact ⟨_, rfl, State.issue_kept cmdPgConfigure cmdPgConfigure_kept _ _⟩
theorem execPgConfigApply_kept (dt : Nat) (ch : Nat) (s : State) :
    ∃ t, execPgConfigApply dt ch s = .next t ∧ Kept (s.advance dt) t := by
  refine ⟨_, rfl, ?_⟩
  (repeat' split) <;> (refine Kept.of ?_; simp)
theorem execPgEdge_kept (dt : Nat) (ch : Nat) (asserting : Bool) (s : State) :
    ∃ t, execPgEdge dt ch asserting s = .next t ∧ Kept (s.advance dt) t := by
  refine ⟨_, rfl, ?_⟩
  refine Kept.of ?_; simp
theorem execWmConfigure_kept (dt : Nat) (r : Request) (s : State) :
    ∃ t, execWmConfigure dt r s = .next t ∧ Kept (s.advance dt) t := by
  unfold execWmConfigure; exact ⟨_, rfl, State.issue_kept cmdWmConfigure cmdWmConfigure_kept _ _⟩
theorem execWmClear_kept (dt : Nat) (r : Request) (s : State) :
    ∃ t, execWmClear dt r s = .next t ∧ Kept (s.advance dt) t := by
  unfold execWmClear; exact ⟨_, rfl, State.issue_kept cmdWmClear cmdWmClear_kept _ _⟩
theorem execMonitorAssert_kept (dt : Nat) (m : Nat) (input : Nat) (s : State) :
    ∃ t, execMonitorAssert dt m input s = .next t ∧ Kept (s.advance dt) t := by
  refine ⟨_, rfl, ?_⟩
  refine Kept.of ?_; simp
theorem execMonitorRelease_kept (dt : Nat) (m : Nat) (input : Nat) (s : State) :
    ∃ t, execMonitorRelease dt m input s = .next t ∧ Kept (s.advance dt) t := by
  refine ⟨_, rfl, ?_⟩
  refine Kept.of ?_; simp
theorem execXtripFall_kept (dt : Nat) (n : Nat) (s : State) :
    ∃ t, execXtripFall dt n s = .next t ∧ Kept (s.advance dt) t := by
  refine ⟨_, rfl, ?_⟩
  refine Kept.of ?_; simp
theorem execXtripRise_kept (dt : Nat) (n : Nat) (s : State) :
    ∃ t, execXtripRise dt n s = .next t ∧ Kept (s.advance dt) t := by
  refine ⟨_, rfl, ?_⟩
  refine Kept.of ?_; simp
theorem execBlankingEnd_kept (dt : Nat) (m : Nat) (s : State) :
    ∃ t, execBlankingEnd dt m s = .next t ∧ Kept (s.advance dt) t := by
  refine ⟨_, rfl, ?_⟩
  (repeat' split) <;> (refine Kept.of ?_; simp)
theorem execPinCheckMismatch_kept (dt : Nat) (ball : Nat) (s : State) :
    ∃ t, execPinCheckMismatch dt ball s = .next t ∧ Kept (s.advance dt) t := by
  refine ⟨_, rfl, ?_⟩
  refine Kept.of ?_; simp
theorem execPinAssign_kept (dt : Nat) (r : Request) (s : State) :
    ∃ t, execPinAssign dt r s = .next t ∧ Kept (s.advance dt) t := by
  unfold execPinAssign; exact ⟨_, rfl, State.issue_kept cmdPinAssign cmdPinAssign_kept _ _⟩
theorem execRadioSetState_kept (dt : Nat) (r : Request) (s : State) :
    ∃ t, execRadioSetState dt r s = .next t ∧ Kept (s.advance dt) t := by
  unfold execRadioSetState; exact ⟨_, rfl, State.issue_kept cmdRadio cmdRadio_kept _ _⟩
theorem execSleepEntered_kept (dt : Nat) (s : State) :
    ∃ t, execSleepEntered dt s = .next t ∧ Kept (s.advance dt) t := by
  refine ⟨_, rfl, ?_⟩
  split
  · dsimp only; split
    · have step : Kept (s.advance dt) (((((s.advance dt).modStore (fun t => { t with resume := some (s.advance dt).settingsNow })
          ).repaired 1).recorderRest).writeWaiting).fallsAsleep := by
        unfold State.fallsAsleep
        refine Kept.trans ?_ (State.powerGated_kept _)
        refine Kept.trans (t := ((((s.advance dt).modStore (fun t => { t with resume := some (s.advance dt).settingsNow })
          ).repaired 1).recorderRest).writeWaiting) ?_ (Kept.of (by simp))
        exact Kept.ofWaiting (by simp) (fun _ => by simpa using State.writeWaiting_waiting _)
      refine step.trans ?_
      split <;> exact Kept.of (by simp)
    · exact Kept.rfl _
  · exact Kept.rfl _
theorem execHostPathGating_kept (dt : Nat) (s : State) :
    ∃ t, execHostPathGating dt s = .next t ∧ Kept (s.advance dt) t := by
  refine ⟨_, rfl, ?_⟩
  (repeat' split) <;> (refine Kept.of ?_; simp)
theorem execWakeUsbResume_kept (dt : Nat) (s : State) :
    ∃ t, execWakeUsbResume dt s = .next t ∧ Kept (s.advance dt) t := by
  refine ⟨_, rfl, ?_⟩
  refine Kept.of ?_; simp
theorem execWakeGpioEdge_kept (dt : Nat) (gpio : Nat) (s : State) :
    ∃ t, execWakeGpioEdge dt gpio s = .next t ∧ Kept (s.advance dt) t := by
  refine ⟨_, rfl, ?_⟩
  refine Kept.of ?_; simp
theorem execWalkStepEnd_kept (dt : Nat) (ok : Bool) (s : State) :
    ∃ t, execWalkStepEnd dt ok s = .next t ∧ Kept (s.advance dt) t := by
  refine ⟨_, rfl, ?_⟩
  (repeat' split) <;> (refine Kept.of ?_; simp)
theorem execRootPllLock_kept (dt : Nat) (s : State) :
    ∃ t, execRootPllLock dt s = .next t ∧ Kept (s.advance dt) t := by
  refine ⟨_, rfl, ?_⟩
  dsimp only; (repeat' split) <;> (refine Kept.of ?_; simp)
theorem execQuickCalibrationEnd_kept (dt : Nat) (failed : BitVec 8) (s : State) :
    ∃ t, execQuickCalibrationEnd dt failed s = .next t ∧ Kept (s.advance dt) t := by
  refine ⟨_, rfl, ?_⟩
  (repeat' split) <;> (refine Kept.of ?_; simp)
theorem execClkLockfail_kept (dt : Nat) (s : State) :
    ∃ t, execClkLockfail dt s = .next t ∧ Kept (s.advance dt) t := by
  refine ⟨_, rfl, ?_⟩
  (repeat' split) <;> (refine Kept.of ?_; simp)
theorem execClkUnlock_kept (dt : Nat) (s : State) :
    ∃ t, execClkUnlock dt s = .next t ∧ Kept (s.advance dt) t := by
  refine ⟨_, rfl, ?_⟩
  refine Kept.of ?_; simp
theorem execClkRefloss_kept (dt : Nat) (s : State) :
    ∃ t, execClkRefloss dt s = .next t ∧ Kept (s.advance dt) t := by
  refine ⟨_, rfl, ?_⟩
  refine Kept.of ?_; simp
theorem execClkXtal_kept (dt : Nat) (running : Bool) (s : State) :
    ∃ t, execClkXtal dt running s = .next t ∧ Kept (s.advance dt) t := by
  refine ⟨_, rfl, ?_⟩
  refine Kept.of ?_; simp
theorem execCrystalRestart_kept (dt : Nat) (s : State) :
    ∃ t, execCrystalRestart dt s = .next t ∧ Kept (s.advance dt) t := by
  refine ⟨_, rfl, ?_⟩
  (repeat' split) <;> (refine Kept.of ?_; simp)
theorem execRootSourceReturn_kept (dt : Nat) (s : State) :
    ∃ t, execRootSourceReturn dt s = .next t ∧ Kept (s.advance dt) t := by
  refine ⟨_, rfl, ?_⟩
  refine Kept.of ?_; simp
theorem execResetNAssert_kept (dt : Nat) (s : State) :
    ∃ t, execResetNAssert dt s = .next t ∧ Kept (s.advance dt) t := by
  refine ⟨_, rfl, ?_⟩
  dsimp only; split
  · exact Kept.rfl _
  · split
    · exact Kept.of (by simp)
    · exact ((Kept.ofWaiting (by simp) (State.endFreeze_waiting _)).trans (State.wholeReset_kept _ 2)).trans
        (Kept.of (by simp))
theorem execResetNRelease_kept (dt : Nat) (clksel : Bool) (s : State) :
    ∃ t, execResetNRelease dt clksel s = .next t ∧ Kept (s.advance dt) t := by
  refine ⟨_, rfl, ?_⟩
  refine Kept.of ?_; simp
theorem execRailFail_kept (dt : Nat) (rail : Nat) (s : State) :
    ∃ t, execRailFail dt rail s = .next t ∧ Kept (s.advance dt) t := by
  refine ⟨_, rfl, ?_⟩
  dsimp only; split
  · exact (State.wholeReset_kept _ 1).trans (Kept.of (by simp))
  · exact Kept.rfl _
theorem execRailsGood_kept (dt : Nat) (m : RailsUp) (s : State) :
    ∃ t, execRailsGood dt m s = .next t ∧ Kept (s.advance dt) t := by
  refine ⟨_, rfl, ?_⟩
  refine Kept.of ?_; simp
theorem execTapInstruction_kept (dt : Nat) (m : TapLoad) (s : State) :
    ∃ t, execTapInstruction dt m s = .next t ∧ Kept (s.advance dt) t := by
  refine ⟨_, rfl, ?_⟩
  refine Kept.of ?_; simp
theorem execTrstNReset_kept (dt : Nat) (s : State) :
    ∃ t, execTrstNReset dt s = .next t ∧ Kept (s.advance dt) t := by
  refine ⟨_, rfl, ?_⟩
  refine Kept.of ?_; simp
theorem execBootStepEnd_kept (dt : Nat) (res : StepResult) (s : State) :
    ∃ t, execBootStepEnd dt res s = .next t ∧ Kept (s.advance dt) t := by
  refine ⟨_, rfl, ?_⟩
  refine Kept.of ?_; simp
theorem execEarlyFail_kept (dt : Nat) (s : State) :
    ∃ t, execEarlyFail dt s = .next t ∧ Kept (s.advance dt) t := by
  refine ⟨_, rfl, ?_⟩
  refine Kept.of ?_; simp
theorem execFgCalEnd_kept (dt : Nat) (failed : BitVec 8) (s : State) :
    ∃ t, execFgCalEnd dt failed s = .next t ∧ Kept (s.advance dt) t := by
  refine ⟨_, rfl, ?_⟩
  refine Kept.of ?_; simp
theorem execFirmwareRestart_kept (dt : Nat) (s : State) :
    ∃ t, execFirmwareRestart dt s = .next t ∧ Kept (s.advance dt) t := by
  refine ⟨_, rfl, ?_⟩
  refine Kept.of ?_; simp
theorem execBootLedgerRead_kept (dt : Nat) (r : Request) (s : State) :
    ∃ t, execBootLedgerRead dt r s = .next t ∧ Kept (s.advance dt) t := by
  unfold execBootLedgerRead; exact ⟨_, rfl, State.issue_kept cmdLedgerRead cmdLedgerRead_kept _ _⟩
theorem execFwUpdate_kept (dt : Nat) (r : Request) (s : State) :
    ∃ t, execFwUpdate dt r s = .next t ∧ Kept (s.advance dt) t := by
  unfold execFwUpdate; exact ⟨_, rfl, State.issue_kept cmdFwUpdate cmdFwUpdate_kept _ _⟩
theorem execFwUpdateEnd_kept (dt : Nat) (s : State) :
    ∃ t, execFwUpdateEnd dt s = .next t ∧ Kept (s.advance dt) t := by
  refine ⟨_, rfl, ?_⟩
  (repeat' split) <;> (refine Kept.of ?_; simp)
theorem execLinkLoss_kept (dt : Nat) (s : State) :
    ∃ t, execLinkLoss dt s = .next t ∧ Kept (s.advance dt) t := by
  refine ⟨_, rfl, ?_⟩
  refine Kept.of ?_; simp
theorem execLinkReturn_kept (dt : Nat) (mode : Nat) (s : State) :
    ∃ t, execLinkReturn dt mode s = .next t ∧ Kept (s.advance dt) t := by
  refine ⟨_, rfl, ?_⟩
  refine Kept.of ?_; simp
theorem execKeepSExpiry_kept (dt : Nat) (s : State) :
    ∃ t, execKeepSExpiry dt s = .next t ∧ Kept (s.advance dt) t := by
  refine ⟨_, rfl, ?_⟩
  refine Kept.of ?_; simp
theorem execLaneFault_kept (dt : Nat) (m : LaneFailure) (s : State) :
    ∃ t, execLaneFault dt m s = .next t ∧ Kept (s.advance dt) t := by
  refine ⟨_, rfl, ?_⟩
  refine Kept.of ?_; simp
theorem execLinkModeChange_kept (dt : Nat) (mode : Nat) (s : State) :
    ∃ t, execLinkModeChange dt mode s = .next t ∧ Kept (s.advance dt) t := by
  refine ⟨_, rfl, ?_⟩
  refine Kept.of ?_; simp
theorem execHostLinkReset_kept (dt : Nat) (kind : LinkReset) (s : State) :
    ∃ t, execHostLinkReset dt kind s = .next t ∧ Kept (s.advance dt) t := by
  refine ⟨_, rfl, ?_⟩
  (repeat' split) <;> (refine Kept.of ?_; simp)
theorem execUsbBusReset_kept (dt : Nat) (usb2 : Bool) (s : State) :
    ∃ t, execUsbBusReset dt usb2 s = .next t ∧ Kept (s.advance dt) t := by
  refine ⟨_, rfl, ?_⟩
  refine Kept.of ?_; simp
theorem execUsbFunctionConfigured_kept (dt : Nat) (f : UsbConfigured) (s : State) :
    ∃ t, execUsbFunctionConfigured dt f s = .next t ∧ Kept (s.advance dt) t := by
  refine ⟨_, rfl, ?_⟩
  (repeat' split) <;> (refine Kept.of ?_; simp)
theorem execBusMasterEnableWrite_kept (dt : Nat) (on : Bool) (s : State) :
    ∃ t, execBusMasterEnableWrite dt on s = .next t ∧ Kept (s.advance dt) t := by
  refine ⟨_, rfl, ?_⟩
  refine Kept.of ?_; simp
theorem execMsixVectorUnmask_kept (dt : Nat) (w : MsixWrite) (s : State) :
    ∃ t, execMsixVectorUnmask dt w s = .next t ∧ Kept (s.advance dt) t := by
  refine ⟨_, rfl, ?_⟩
  (repeat' split) <;> (refine Kept.of ?_; simp)
theorem execUsbInTransfer_kept (dt : Nat) (ep : InEndpoint) (s : State) :
    ∃ t, execUsbInTransfer dt ep s = .next t ∧ Kept (s.advance dt) t := by
  refine ⟨_, rfl, ?_⟩
  (repeat' split) <;> (refine Kept.of ?_; simp)
theorem execCapConfigure_kept (dt : Nat) (r : Request) (s : State) :
    ∃ t, execCapConfigure dt r s = .next t ∧ Kept (s.advance dt) t := by
  unfold execCapConfigure; exact ⟨_, rfl, State.issue_kept cmdCapConfigure cmdCapConfigure_kept _ _⟩
theorem execCapStart_kept (dt : Nat) (r : Request) (s : State) :
    ∃ t, execCapStart dt r s = .next t ∧ Kept (s.advance dt) t := by
  unfold execCapStart; exact ⟨_, rfl, State.issue_kept cmdCapStart cmdCapStart_kept _ _⟩
theorem execCaptureArmed_kept (dt : Nat) (s : State) :
    ∃ t, execCaptureArmed dt s = .next t ∧ Kept (s.advance dt) t := by
  refine ⟨_, rfl, ?_⟩
  refine Kept.of ?_; simp
theorem execCaptureTrigger_kept (dt : Nat) (tick : Time) (cause : Nat) (arg : Nat) (s : State) :
    ∃ t, execCaptureTrigger dt tick cause arg s = .next t ∧ Kept (s.advance dt) t := by
  refine ⟨_, rfl, ?_⟩
  refine Kept.of ?_; simp
theorem execCaptureDone_kept (dt : Nat) (_data : Measured) (_sat : Measured) (s : State) :
    ∃ t, execCaptureDone dt _data _sat s = .next t ∧ Kept (s.advance dt) t := by
  refine ⟨_, rfl, ?_⟩
  refine Kept.of ?_; simp
theorem execCaptureSourceStop_kept (dt : Nat) (slot : Nat) (byHost : Bool) (s : State) :
    ∃ t, execCaptureSourceStop dt slot byHost s = .next t ∧ Kept (s.advance dt) t := by
  refine ⟨_, rfl, ?_⟩
  refine Kept.of ?_; simp
theorem execCapStop_kept (dt : Nat) (r : Request) (s : State) :
    ∃ t, execCapStop dt r s = .next t ∧ Kept (s.advance dt) t := by
  unfold execCapStop; exact ⟨_, rfl, State.issue_kept cmdCapStop cmdCapStop_kept _ _⟩
theorem execCapRead_kept (dt : Nat) (r : Request) (s : State) :
    ∃ t, execCapRead dt r s = .next t ∧ Kept (s.advance dt) t := by
  unfold execCapRead; exact ⟨_, rfl, State.issue_kept cmdCapRead cmdCapRead_kept _ _⟩
theorem execStreamBlock_kept (dt : Nat) (slot : Nat) (_payload : Measured) (_nsamp : Measured) (_t0 : Measured) (_sat : Measured) (accepted : Bool) (s : State) :
    ∃ t, execStreamBlock dt slot _payload _nsamp _t0 _sat accepted s = .next t ∧ Kept (s.advance dt) t := by
  refine ⟨_, rfl, ?_⟩
  dsimp only; (repeat' split) <;> (refine Kept.of ?_; simp)
theorem execFaultDetection_kept (dt : Nat) (src : Nat) (addr : Nat) (kind : Nat) (s : State) :
    ∃ t, execFaultDetection dt src addr kind s = .next t ∧ Kept (s.advance dt) t := by
  refine ⟨_, rfl, ?_⟩
  dsimp only; repeat' split
  · exact Kept.rfl _
  · exact (Kept.of (by simp)).trans (State.detect_kept _ _ _)
  · exact (Kept.of (by simp)).trans (State.detect_kept _ _ _)
  · exact Kept.rfl _
theorem execShadowEnd_kept (dt : Nat) (s : State) :
    ∃ t, execShadowEnd dt s = .next t ∧ Kept (s.advance dt) t := by
  refine ⟨_, rfl, ?_⟩
  have h : Kept (s.advance dt) ((s.advance dt).modFlt (fun f => { f with
      shadows := f.shadows.filter (fun e => decide ((s.advance dt).now < e.2)) })) := Kept.of (by simp)
  refine h.trans ?_
  clear h
  generalize (s.advance dt).modFlt (fun f => { f with
      shadows := f.shadows.filter (fun e => decide ((s.advance dt).now < e.2)) }) = t
  have c : Kept t t.ctlRestarts := Kept.of t.ctlRestarts_frame
  repeat' split
  · exact c.trans (State.refreshMerged_kept _ _)
  · exact c
  · exact State.refreshMerged_kept _ _
  · exact Kept.rfl _
theorem execMergePhaseEnd_kept (dt : Nat) (s : State) :
    ∃ t, execMergePhaseEnd dt s = .next t ∧ Kept (s.advance dt) t := by
  refine ⟨_, rfl, ?_⟩
  split
  · exact (State.refreshMerged_kept _ _)
  · exact Kept.of (by simp)
theorem execTestPhaseTimeout_kept (dt : Nat) (s : State) :
    ∃ t, execTestPhaseTimeout dt s = .next t ∧ Kept (s.advance dt) t := by
  refine ⟨_, rfl, ?_⟩
  (repeat' split) <;> (refine Kept.of ?_; simp)
theorem execFault_kept (dt : Nat) (s : State) :
    ∃ t, execFault dt s = .next t ∧ Kept (s.advance dt) t := by
  refine ⟨_, rfl, ?_⟩
  split
  · exact Kept.rfl _
  · rename_i hq
    split
    · refine Kept.ofQueue (by simp) (fun h => ?_)
      rw [hq] at h; simp [State.modFlt] at h ⊢; omega
    · exact Kept.rfl _
theorem execFltConfigureSeverity_kept (dt : Nat) (r : Request) (s : State) :
    ∃ t, execFltConfigureSeverity dt r s = .next t ∧ Kept (s.advance dt) t := by
  unfold execFltConfigureSeverity; exact ⟨_, rfl, State.issue_kept cmdFltConfigure cmdFltConfigure_kept _ _⟩
theorem execFltConfigureGlobal_kept (dt : Nat) (r : Request) (s : State) :
    ∃ t, execFltConfigureGlobal dt r s = .next t ∧ Kept (s.advance dt) t := by
  unfold execFltConfigureGlobal; exact ⟨_, rfl, State.issue_kept cmdFltConfigure cmdFltConfigure_kept _ _⟩
theorem execFltAck_kept (dt : Nat) (r : Request) (s : State) :
    ∃ t, execFltAck dt r s = .next t ∧ Kept (s.advance dt) t := by
  unfold execFltAck; exact ⟨_, rfl, State.issue_kept cmdFltAck cmdFltAck_kept _ _⟩
theorem execFltForcePulse_kept (dt : Nat) (r : Request) (s : State) :
    ∃ t, execFltForcePulse dt r s = .next t ∧ Kept (s.advance dt) t := by
  unfold execFltForcePulse; exact ⟨_, rfl, State.issue_kept cmdFltForce cmdFltForce_kept _ _⟩
theorem execFltForceHold_kept (dt : Nat) (r : Request) (s : State) :
    ∃ t, execFltForceHold dt r s = .next t ∧ Kept (s.advance dt) t := by
  unfold execFltForceHold; exact ⟨_, rfl, State.issue_kept cmdFltForce cmdFltForce_kept _ _⟩
theorem execFltForceRelease_kept (dt : Nat) (r : Request) (s : State) :
    ∃ t, execFltForceRelease dt r s = .next t ∧ Kept (s.advance dt) t := by
  unfold execFltForceRelease; exact ⟨_, rfl, State.issue_kept cmdFltForce cmdFltForce_kept _ _⟩
theorem execMemoryError_kept (dt : Nat) (mem : Nat) (word : Nat) (double : Bool) (s : State) :
    ∃ t, execMemoryError dt mem word double s = .next t ∧ Kept (s.advance dt) t := by
  refine ⟨_, rfl, ?_⟩
  dsimp only; split
  · exact (Kept.of (by simp)).trans (State.memoryError_kept _ _ _ _ _)
  · exact Kept.rfl _
theorem execSramScrubPass_kept (dt : Nat) (s : State) :
    ∃ t, execSramScrubPass dt s = .next t ∧ Kept (s.advance dt) t := by
  refine ⟨_, rfl, ?_⟩
  dsimp only; split
  · exact (Kept.of (by simp)).trans (State.scrub_kept _ _)
  · exact Kept.rfl _
theorem execMramScrubPass_kept (dt : Nat) (s : State) :
    ∃ t, execMramScrubPass dt s = .next t ∧ Kept (s.advance dt) t := by
  refine ⟨_, rfl, ?_⟩
  dsimp only; split
  · exact ((Kept.of (by simp)).trans (State.scrub_kept _ _)).trans (State.modStore_kept _ _)
  · exact Kept.rfl _
theorem execNcoCheck_kept (dt : Nat) (bad : List Nat) (s : State) :
    ∃ t, execNcoCheck dt bad s = .next t ∧ Kept (s.advance dt) t := by
  refine ⟨_, rfl, ?_⟩
  refine Kept.of ?_; simp
theorem execAliveToggle_kept (dt : Nat) (s : State) :
    ∃ t, execAliveToggle dt s = .next t ∧ Kept (s.advance dt) t := by
  refine ⟨_, rfl, ?_⟩
  refine Kept.of ?_; simp
theorem execKeepaliveFeed_kept (dt : Nat) (s : State) :
    ∃ t, execKeepaliveFeed dt s = .next t ∧ Kept (s.advance dt) t := by
  refine ⟨_, rfl, ?_⟩
  refine Kept.of ?_; simp
theorem execKeepaliveTimeout_kept (dt : Nat) (s : State) :
    ∃ t, execKeepaliveTimeout dt s = .next t ∧ Kept (s.advance dt) t := by
  refine ⟨_, rfl, ?_⟩
  (repeat' split) <;> (refine Kept.of ?_; simp)
theorem execPairTakeover_kept (dt : Nat) (s : State) :
    ∃ t, execPairTakeover dt s = .next t ∧ Kept (s.advance dt) t := by
  refine ⟨_, rfl, ?_⟩
  refine Kept.of ?_; simp
theorem execRecoveryEnd_kept (dt : Nat) (s : State) :
    ∃ t, execRecoveryEnd dt s = .next t ∧ Kept (s.advance dt) t := by
  refine ⟨_, rfl, ?_⟩
  (repeat' split) <;> (refine Kept.of ?_; simp)
theorem execObjRead_kept (dt : Nat) (r : Request) (s : State) :
    ∃ t, execObjRead dt r s = .next t ∧ Kept (s.advance dt) t := by
  unfold execObjRead; exact ⟨_, rfl, State.issue_kept cmdObjRead cmdObjRead_kept _ _⟩
theorem execObjWrite_kept (dt : Nat) (r : Request) (s : State) :
    ∃ t, execObjWrite dt r s = .next t ∧ Kept (s.advance dt) t := by
  unfold execObjWrite; exact ⟨_, rfl, State.issue_kept cmdObjWrite cmdObjWrite_kept _ _⟩
theorem execRadioConfigWrite_kept (dt : Nat) (r : Request) (s : State) :
    ∃ t, execRadioConfigWrite dt r s = .next t ∧ Kept (s.advance dt) t := ⟨_, rfl, State.writeTo_kept _ _ _⟩
theorem execWinConfigWrite_kept (dt : Nat) (r : Request) (s : State) :
    ∃ t, execWinConfigWrite dt r s = .next t ∧ Kept (s.advance dt) t := ⟨_, rfl, State.writeTo_kept _ _ _⟩
theorem execCnvAttConfigWrite_kept (dt : Nat) (r : Request) (s : State) :
    ∃ t, execCnvAttConfigWrite dt r s = .next t ∧ Kept (s.advance dt) t := ⟨_, rfl, State.writeTo_kept _ _ _⟩
theorem execCtlPlausConfigWrite_kept (dt : Nat) (r : Request) (s : State) :
    ∃ t, execCtlPlausConfigWrite dt r s = .next t ∧ Kept (s.advance dt) t := ⟨_, rfl, State.writeTo_kept _ _ _⟩
theorem execCtlLineupWrite_kept (dt : Nat) (r : Request) (s : State) :
    ∃ t, execCtlLineupWrite dt r s = .next t ∧ Kept (s.advance dt) t := ⟨_, rfl, State.writeTo_kept _ _ _⟩
theorem execTddOutConfigWrite_kept (dt : Nat) (r : Request) (s : State) :
    ∃ t, execTddOutConfigWrite dt r s = .next t ∧ Kept (s.advance dt) t := ⟨_, rfl, State.writeTo_kept _ _ _⟩
theorem execJcpConfigWrite_kept (dt : Nat) (r : Request) (s : State) :
    ∃ t, execJcpConfigWrite dt r s = .next t ∧ Kept (s.advance dt) t := ⟨_, rfl, State.writeTo_kept _ _ _⟩
theorem execFltStatusWrite_kept (dt : Nat) (r : Request) (s : State) :
    ∃ t, execFltStatusWrite dt r s = .next t ∧ Kept (s.advance dt) t := ⟨_, rfl, State.writeTo_kept _ _ _⟩
theorem execRecTrigConfigWrite_kept (dt : Nat) (r : Request) (s : State) :
    ∃ t, execRecTrigConfigWrite dt r s = .next t ∧ Kept (s.advance dt) t := ⟨_, rfl, State.writeTo_kept _ _ _⟩
theorem execRecSnapListWrite_kept (dt : Nat) (r : Request) (s : State) :
    ∃ t, execRecSnapListWrite dt r s = .next t ∧ Kept (s.advance dt) t := ⟨_, rfl, State.writeTo_kept _ _ _⟩
theorem execRecCmdSelWrite_kept (dt : Nat) (r : Request) (s : State) :
    ∃ t, execRecCmdSelWrite dt r s = .next t ∧ Kept (s.advance dt) t := ⟨_, rfl, State.writeTo_kept _ _ _⟩
theorem execRecStatsConfigWrite_kept (dt : Nat) (r : Request) (s : State) :
    ∃ t, execRecStatsConfigWrite dt r s = .next t ∧ Kept (s.advance dt) t := ⟨_, rfl, State.writeTo_kept _ _ _⟩
theorem execBootConfigWrite_kept (dt : Nat) (r : Request) (s : State) :
    ∃ t, execBootConfigWrite dt r s = .next t ∧ Kept (s.advance dt) t := ⟨_, rfl, State.writeTo_kept _ _ _⟩
theorem execBootConfigSave_kept (dt : Nat) (r : Request) (s : State) :
    ∃ t, execBootConfigSave dt r s = .next t ∧ Kept (s.advance dt) t := ⟨_, rfl, State.writeTo_kept _ _ _⟩
theorem execNop_kept (dt : Nat) (r : Request) (s : State) :
    ∃ t, execNop dt r s = .next t ∧ Kept (s.advance dt) t := by
  unfold execNop; exact ⟨_, rfl, State.issue_kept cmdNop cmdNop_kept _ _⟩
theorem execIdentify_kept (dt : Nat) (r : Request) (s : State) :
    ∃ t, execIdentify dt r s = .next t ∧ Kept (s.advance dt) t := by
  unfold execIdentify; exact ⟨_, rfl, State.issue_kept cmdIdentify cmdIdentify_kept _ _⟩
theorem execTlmConfigure_kept (dt : Nat) (r : Request) (s : State) :
    ∃ t, execTlmConfigure dt r s = .next t ∧ Kept (s.advance dt) t := by
  unfold execTlmConfigure; exact ⟨_, rfl, State.issue_kept cmdTlmConfigure cmdTlmConfigure_kept _ _⟩
theorem execTelemetryEntry_kept (dt : Nat) (ring : Nat) (s : State) :
    ∃ t, execTelemetryEntry dt ring s = .next t ∧ Kept (s.advance dt) t := by
  refine ⟨_, rfl, ?_⟩
  refine Kept.of ?_; simp
theorem execMirrorRefresh_kept (dt : Nat) (s : State) :
    ∃ t, execMirrorRefresh dt s = .next t ∧ Kept (s.advance dt) t := by
  refine ⟨_, rfl, ?_⟩
  refine Kept.of ?_; simp
theorem execDoorbellWrite_kept (dt : Nat) (off : Nat) (size : Nat) (value : BitVec 32) (s : State) :
    ∃ t, execDoorbellWrite dt off size value s = .next t ∧ Kept (s.advance dt) t := by
  refine ⟨_, rfl, ?_⟩
  refine Kept.of ?_; simp
theorem execSetupBaseLo_kept (dt : Nat) (sel : BitVec 2) (value : BitVec 26) (s : State) :
    ∃ t, execSetupBaseLo dt sel value s = .next t ∧ Kept (s.advance dt) t := by
  refine ⟨_, rfl, ?_⟩
  refine Kept.of ?_; simp
theorem execSetupBaseHi_kept (dt : Nat) (sel : BitVec 2) (value : BitVec 26) (s : State) :
    ∃ t, execSetupBaseHi dt sel value s = .next t ∧ Kept (s.advance dt) t := by
  refine ⟨_, rfl, ?_⟩
  refine Kept.of ?_; simp
theorem execSetupShape_kept (dt : Nat) (sel : BitVec 2) (value : BitVec 26) (s : State) :
    ∃ t, execSetupShape dt sel value s = .next t ∧ Kept (s.advance dt) t := by
  refine ⟨_, rfl, ?_⟩
  refine Kept.of ?_; simp
theorem execSetupGo_kept (dt : Nat) (sel : BitVec 2) (value : BitVec 26) (s : State) :
    ∃ t, execSetupGo dt sel value s = .next t ∧ Kept (s.advance dt) t := by
  refine ⟨_, rfl, ?_⟩
  refine Kept.of ?_; simp
theorem execSetupResume_kept (dt : Nat) (sel : BitVec 2) (value : BitVec 26) (s : State) :
    ∃ t, execSetupResume dt sel value s = .next t ∧ Kept (s.advance dt) t := by
  refine ⟨_, rfl, ?_⟩
  refine Kept.of ?_; simp
theorem execMsixModerationExpiry_kept (dt : Nat) (ring : Nat) (s : State) :
    ∃ t, execMsixModerationExpiry dt ring s = .next t ∧ Kept (s.advance dt) t := by
  refine ⟨_, rfl, ?_⟩
  refine Kept.of ?_; simp
theorem execRingCreate_kept (dt : Nat) (r : Request) (s : State) :
    ∃ t, execRingCreate dt r s = .next t ∧ Kept (s.advance dt) t := by
  unfold execRingCreate; exact ⟨_, rfl, State.issue_kept cmdRingCreate cmdRingCreate_kept _ _⟩
theorem execRingDelete_kept (dt : Nat) (r : Request) (s : State) :
    ∃ t, execRingDelete dt r s = .next t ∧ Kept (s.advance dt) t := by
  unfold execRingDelete; exact ⟨_, rfl, State.issue_kept cmdRingDelete cmdRingDelete_kept _ _⟩
theorem execRingDrained_kept (dt : Nat) (ring : Nat) (s : State) :
    ∃ t, execRingDrained dt ring s = .next t ∧ Kept (s.advance dt) t := by
  refine ⟨_, rfl, ?_⟩
  (repeat' split) <;> (refine Kept.of ?_; simp)
theorem execRingError_kept (dt : Nat) (ring : Nat) (err : Nat) (s : State) :
    ∃ t, execRingError dt ring err s = .next t ∧ Kept (s.advance dt) t := by
  refine ⟨_, rfl, ?_⟩
  refine Kept.of ?_; simp
theorem execAbort_kept (dt : Nat) (r : Request) (s : State) :
    ∃ t, execAbort dt r s = .next t ∧ Kept (s.advance dt) t := by
  unfold execAbort; exact ⟨_, rfl, State.issue_kept cmdAbort cmdAbort_kept _ _⟩
theorem execMgmtReset_kept (dt : Nat) (r : Request) (s : State) :
    ∃ t, execMgmtReset dt r s = .next t ∧ Kept (s.advance dt) t := by
  unfold execMgmtReset; exact ⟨_, rfl, State.issue_kept cmdMgmtReset cmdMgmtReset_kept _ _⟩
theorem execTestEcho_kept (dt : Nat) (r : Request) (s : State) :
    ∃ t, execTestEcho dt r s = .next t ∧ Kept (s.advance dt) t := by
  unfold execTestEcho; exact ⟨_, rfl, State.issue_kept cmdTestEcho cmdTestEcho_kept _ _⟩
theorem execTestEccInject_kept (dt : Nat) (r : Request) (s : State) :
    ∃ t, execTestEccInject dt r s = .next t ∧ Kept (s.advance dt) t := by
  unfold execTestEccInject; exact ⟨_, rfl, State.issue_kept cmdTestEccInject cmdTestEccInject_kept _ _⟩
theorem execSnapshotTrigger_kept (dt : Nat) (s : State) :
    ∃ t, execSnapshotTrigger dt s = .next t ∧ Kept (s.advance dt) t := ⟨_, rfl, Kept.ofWaiting (by simp) (State.takeTrigger_waiting _)⟩
theorem execSnapshotWrite_kept (dt : Nat) (verified : Bool) (s : State) :
    ∃ t, execSnapshotWrite dt verified s = .next t ∧ Kept (s.advance dt) t := by
  refine ⟨_, rfl, ?_⟩
  split
  · exact Kept.rfl _
  · rename_i x rest hx
    split
    · exact Kept.rfl _
    · dsimp only
      have step : Kept (s.advance dt)
          (((s.advance dt).modRec (fun r => { r with waiting := rest })).writeRecord x) := by
        refine Kept.ofWaiting (by simp) (fun h => ?_)
        rw [hx] at h; simp [State.modRec] at h ⊢; omega
      refine step.trans ?_
      split
      · exact Kept.ofWaiting (by simp) (State.noteMissed_waiting _)
      · exact (Kept.ofQueue (by simp) (State.replaceRow_queue _ _ _)).trans
          (Kept.ofWaiting (by simp) (State.noteMissed_waiting _))
theorem execCoalesceFlush_kept (dt : Nat) (s : State) :
    ∃ t, execCoalesceFlush dt s = .next t ∧ Kept (s.advance dt) t := by
  refine ⟨_, rfl, ?_⟩
  refine Kept.of ?_; simp
theorem execHourBoundary_kept (dt : Nat) (s : State) :
    ∃ t, execHourBoundary dt s = .next t ∧ Kept (s.advance dt) t := by
  refine ⟨_, rfl, ?_⟩
  refine Kept.of ?_; simp
theorem execOpsecStore_kept (dt : Nat) (s : State) :
    ∃ t, execOpsecStore dt s = .next t ∧ Kept (s.advance dt) t := by
  refine ⟨_, rfl, ?_⟩
  refine Kept.of ?_; simp
theorem execRecFreezeSet_kept (dt : Nat) (r : Request) (s : State) :
    ∃ t, execRecFreezeSet dt r s = .next t ∧ Kept (s.advance dt) t := by
  unfold execRecFreezeSet; exact ⟨_, rfl, State.issue_kept cmdRecFreeze cmdRecFreeze_kept _ _⟩
theorem execRecFreezeRelease_kept (dt : Nat) (r : Request) (s : State) :
    ∃ t, execRecFreezeRelease dt r s = .next t ∧ Kept (s.advance dt) t := by
  unfold execRecFreezeRelease; exact ⟨_, rfl, State.issue_kept cmdRecFreeze cmdRecFreeze_kept _ _⟩
theorem execFreezeTimeout_kept (dt : Nat) (s : State) :
    ∃ t, execFreezeTimeout dt s = .next t ∧ Kept (s.advance dt) t := by
  refine ⟨_, rfl, ?_⟩
  repeat' split
  all_goals first
    | exact Kept.rfl _
    | exact Kept.ofWaiting (by simp) (State.releaseFreeze_waiting _)
theorem execRecRead_kept (dt : Nat) (r : Request) (s : State) :
    ∃ t, execRecRead dt r s = .next t ∧ Kept (s.advance dt) t := by
  unfold execRecRead; exact ⟨_, rfl, State.issue_kept cmdRecRead cmdRecRead_kept _ _⟩
theorem execRecSetHosttime_kept (dt : Nat) (r : Request) (s : State) :
    ∃ t, execRecSetHosttime dt r s = .next t ∧ Kept (s.advance dt) t := by
  unfold execRecSetHosttime; exact ⟨_, rfl, State.issue_kept cmdHosttime cmdHosttime_kept _ _⟩
theorem execRecClearArm_kept (dt : Nat) (r : Request) (s : State) :
    ∃ t, execRecClearArm dt r s = .next t ∧ Kept (s.advance dt) t := by
  unfold execRecClearArm; exact ⟨_, rfl, State.issue_kept cmdClearArm cmdClearArm_kept _ _⟩
theorem execRecClearExec_kept (dt : Nat) (r : Request) (s : State) :
    ∃ t, execRecClearExec dt r s = .next t ∧ Kept (s.advance dt) t := by
  unfold execRecClearExec; exact ⟨_, rfl, State.issue_kept cmdClearExec cmdClearExec_kept _ _⟩
theorem execZeroingEnd_kept (dt : Nat) (s : State) :
    ∃ t, execZeroingEnd dt s = .next t ∧ Kept (s.advance dt) t := by
  refine ⟨_, rfl, ?_⟩
  refine Kept.of ?_; simp
theorem execClearArmExpiry_kept (dt : Nat) (s : State) :
    ∃ t, execClearArmExpiry dt s = .next t ∧ Kept (s.advance dt) t := by
  refine ⟨_, rfl, ?_⟩
  (repeat' split) <;> (refine Kept.of ?_; simp)
theorem execDeviceReset_kept (dt : Nat) (r : Request) (s : State) :
    ∃ t, execDeviceReset dt r s = .next t ∧ Kept (s.advance dt) t := by
  unfold execDeviceReset; exact ⟨_, rfl, State.issue_kept cmdDeviceReset cmdDeviceReset_kept _ _⟩
theorem execCommandFetch_kept (dt : Nat) (op : BitVec 16) (r : Request) (s : State) :
    ∃ t, execCommandFetch dt op r s = .next t ∧ Kept (s.advance dt) t := by
  refine ⟨_, rfl, ?_⟩
  refine Kept.of ?_; simp
theorem execUsbCommandPacket_kept (dt : Nat) (op : BitVec 16) (r : Request) (s : State) :
    ∃ t, execUsbCommandPacket dt op r s = .next t ∧ Kept (s.advance dt) t := by
  refine ⟨_, rfl, ?_⟩
  refine Kept.of ?_; simp
theorem execCommandStart_kept (dt : Nat) (src : Src) (s : State) :
    ∃ t, execCommandStart dt src s = .next t ∧ Kept (s.advance dt) t := by
  refine ⟨_, rfl, ?_⟩
  split
  · exact State.beginEntry_kept _ _ _
  · exact Kept.rfl _
theorem execFenceCommandStart_kept (dt : Nat) (src : Src) (s : State) :
    ∃ t, execFenceCommandStart dt src s = .next t ∧ Kept (s.advance dt) t := by
  refine ⟨_, rfl, ?_⟩
  repeat' split
  all_goals first
    | exact State.beginEntry_kept _ _ _
    | exact Kept.rfl _
theorem execHeldCommandRelease_kept (dt : Nat) (src : Src) (s : State) :
    ∃ t, execHeldCommandRelease dt src s = .next t ∧ Kept (s.advance dt) t := by
  refine ⟨_, rfl, ?_⟩
  split
  · exact State.beginEntry_kept _ _ _
  · exact Kept.rfl _
theorem execDeferLimitExpiry_kept (dt : Nat) (src : Src) (s : State) :
    ∃ t, execDeferLimitExpiry dt src s = .next t ∧ Kept (s.advance dt) t := by
  refine ⟨_, rfl, ?_⟩
  (repeat' split) <;> (refine Kept.of ?_; simp)
theorem execCompletionPost_kept (dt : Nat) (src : Src) (s : State) :
    ∃ t, execCompletionPost dt src s = .next t ∧ Kept (s.advance dt) t := by
  refine ⟨_, rfl, ?_⟩
  refine Kept.of ?_; simp

end Sys2Proof.Machine
end

