-- ==== Sys2Proof/Laws/Packet.lean ====
section
/-!
SUPPORT. What a packet with one parameter byte, or one bit of a parameter byte, given reads as.
-/

namespace Sys2Proof.Machine

theorem byteAt_withByte (r : Request) (off v : Nat) : byteAt (withByte r off v).params off = v % 256 := by
  have h : off < (r.params ++ List.replicate (off + 1 - r.params.length) 0).length := by
    rw [List.length_append, List.length_replicate]; omega
  simp only [byteAt, withByte, List.getD_eq_getElem?_getD, List.getElem?_set_self h, Option.getD_some]
  exact BitVec.toNat_ofNat v 8

@[simp] theorem pu_withByte (r : Request) (off v : Nat) : pu (withByte r off v) off 1 = v % 256 := by
  simp [pu, leAt, byteAt_withByte]

@[simp] theorem instOf_withByte (r : Request) (off v : Nat) : instOf (withByte r off v) = instOf r := rfl
@[simp] theorem instOf_withBit (r : Request) (off k : Nat) (on : Bool) : instOf (withBit r off k on) = instOf r := rfl

theorem bit_change_all : ∀ k j : Fin 4, ∀ on : Bool, ∀ b : Fin 256,
    bit ((b.1 - (if bit b.1 k.1 then 2 ^ k.1 else 0) + if on then 2 ^ k.1 else 0) % 256) j.1 =
      if j.1 = k.1 then on else bit b.1 j.1 := by decide +kernel

theorem bit_change (b k j : Nat) (hj : j < 4) (hk : k < 4) (hb : b < 256) (on : Bool) :
    bit ((b - (if bit b k then 2 ^ k else 0) + if on then 2 ^ k else 0) % 256) j = if j = k then on else bit b j :=
  bit_change_all ⟨k, hk⟩ ⟨j, hj⟩ on ⟨b, hb⟩

theorem flag_withBit (r : Request) (off k j : Nat) (on : Bool) (hj : j < 4) (hk : k < 4) :
    flag (withBit r off k on) off j = if j = k then on else flag r off j := by
  have hb : byteAt r.params off < 256 := (r.params.getD off 0).isLt
  simp only [flag, withBit, byteAt_withByte]
  exact bit_change _ k j hj hk hb on

end Sys2Proof.Machine
end

