-- ==== Sys2Proof/Laws/State.lean ====
section
/-!
SUPPORT. One lemma per field per update of the state, true by definition.
-/

namespace Sys2Proof.Machine

/-! `State.advance` -/
@[simp] theorem State.advance_now (s : State) (dt : Nat) :
    (s.advance dt).now = s.now + dt := rfl
@[simp] theorem State.advance_divStart (s : State) (dt : Nat) :
    (s.advance dt).divStart = s.divStart := rfl
@[simp] theorem State.advance_opOfs (s : State) (dt : Nat) :
    (s.advance dt).opOfs = s.opOfs := rfl
@[simp] theorem State.advance_draws (s : State) (dt : Nat) :
    (s.advance dt).draws = s.draws + 4 * (s.observed dt).length := rfl
@[simp] theorem State.advance_out (s : State) (dt : Nat) :
    (s.advance dt).out = [] := rfl
@[simp] theorem State.advance_pending (s : State) (dt : Nat) :
    (s.advance dt).pending = s.pending := rfl
@[simp] theorem State.advance_set (s : State) (dt : Nat) :
    (s.advance dt).set = s.set := rfl
@[simp] theorem State.advance_radio (s : State) (dt : Nat) :
    (s.advance dt).radio = s.radio := rfl
@[simp] theorem State.advance_cnv (s : State) (dt : Nat) :
    (s.advance dt).cnv = s.loopback (s.observed dt) dt := rfl
@[simp] theorem State.advance_sb (s : State) (dt : Nat) :
    (s.advance dt).sb = s.sb := rfl
@[simp] theorem State.advance_can (s : State) (dt : Nat) :
    (s.advance dt).can = s.can := rfl
@[simp] theorem State.advance_map (s : State) (dt : Nat) :
    (s.advance dt).map = s.map := rfl
@[simp] theorem State.advance_sig (s : State) (dt : Nat) :
    (s.advance dt).sig = (s.path dt).1 := rfl
@[simp] theorem State.advance_txWin (s : State) (dt : Nat) :
    (s.advance dt).txWin = (s.path dt).2.1 := rfl
@[simp] theorem State.advance_taken (s : State) (dt : Nat) :
    (s.advance dt).taken = (s.path dt).2.2.2 := rfl
@[simp] theorem State.advance_dac (s : State) (dt : Nat) :
    (s.advance dt).dac = (s.path dt).2.2.1 := rfl
@[simp] theorem State.advance_gov (s : State) (dt : Nat) :
    (s.advance dt).gov = s.gov := rfl
@[simp] theorem State.advance_ctlTick (s : State) (dt : Nat) :
    (s.advance dt).ctlTick = s.ctlTick := rfl
@[simp] theorem State.advance_loops (s : State) (dt : Nat) :
    (s.advance dt).loops = s.loops := rfl
@[simp] theorem State.advance_outers (s : State) (dt : Nat) :
    (s.advance dt).outers = s.outers := rfl
@[simp] theorem State.advance_slots (s : State) (dt : Nat) :
    (s.advance dt).slots = s.slots := rfl
@[simp] theorem State.advance_plaus (s : State) (dt : Nat) :
    (s.advance dt).plaus = s.plaus := rfl
@[simp] theorem State.advance_tdd (s : State) (dt : Nat) :
    (s.advance dt).tdd = s.tdd := rfl
@[simp] theorem State.advance_beam (s : State) (dt : Nat) :
    (s.advance dt).beam = s.beam := rfl
@[simp] theorem State.advance_beamTick (s : State) (dt : Nat) :
    (s.advance dt).beamTick = s.beamTick := rfl
@[simp] theorem State.advance_fsync (s : State) (dt : Nat) :
    (s.advance dt).fsync = s.fsync := rfl
@[simp] theorem State.advance_band (s : State) (dt : Nat) :
    (s.advance dt).band = s.band := rfl
@[simp] theorem State.advance_regrowth (s : State) (dt : Nat) :
    (s.advance dt).regrowth = s.regrowth := rfl
@[simp] theorem State.advance_npWaitSb (s : State) (dt : Nat) :
    (s.advance dt).npWaitSb = s.npWaitSb := rfl
@[simp] theorem State.advance_npWaitBand (s : State) (dt : Nat) :
    (s.advance dt).npWaitBand = s.npWaitBand := rfl
@[simp] theorem State.advance_npWaitChain (s : State) (dt : Nat) :
    (s.advance dt).npWaitChain = s.npWaitChain := rfl
@[simp] theorem State.advance_fe (s : State) (dt : Nat) :
    (s.advance dt).fe = s.fe := rfl
@[simp] theorem State.advance_pg (s : State) (dt : Nat) :
    (s.advance dt).pg = s.pg := rfl
@[simp] theorem State.advance_wm (s : State) (dt : Nat) :
    (s.advance dt).wm = s.wm := rfl
@[simp] theorem State.advance_hk (s : State) (dt : Nat) :
    (s.advance dt).hk = s.hk := rfl
@[simp] theorem State.advance_hkLast (s : State) (dt : Nat) :
    (s.advance dt).hkLast = s.hkLast := rfl
@[simp] theorem State.advance_th (s : State) (dt : Nat) :
    (s.advance dt).th = s.th := rfl
@[simp] theorem State.advance_link (s : State) (dt : Nat) :
    (s.advance dt).link = s.link := rfl
@[simp] theorem State.advance_cap (s : State) (dt : Nat) :
    (s.advance dt).cap = s.cap := rfl
@[simp] theorem State.advance_streams (s : State) (dt : Nat) :
    (s.advance dt).streams = s.streams := rfl
@[simp] theorem State.advance_jcp (s : State) (dt : Nat) :
    (s.advance dt).jcp = s.jcp := rfl
@[simp] theorem State.advance_flt (s : State) (dt : Nat) :
    (s.advance dt).flt = s.flt := rfl
@[simp] theorem State.advance_rcd (s : State) (dt : Nat) :
    (s.advance dt).rcd = s.rcd := rfl
@[simp] theorem State.advance_store (s : State) (dt : Nat) :
    (s.advance dt).store = s.store := rfl
@[simp] theorem State.advance_mem (s : State) (dt : Nat) :
    (s.advance dt).mem = s.mem := rfl
@[simp] theorem State.advance_twb (s : State) (dt : Nat) :
    (s.advance dt).twb = s.twb := rfl
@[simp] theorem State.advance_boot (s : State) (dt : Nat) :
    (s.advance dt).boot = s.boot := rfl
@[simp] theorem State.advance_pins (s : State) (dt : Nat) :
    (s.advance dt).pins = s.pins := rfl

/-! `State.emit` -/
@[simp] theorem State.emit_now (s : State) (o : Output) :
    (s.emit o).now = s.now := rfl
@[simp] theorem State.emit_divStart (s : State) (o : Output) :
    (s.emit o).divStart = s.divStart := rfl
@[simp] theorem State.emit_opOfs (s : State) (o : Output) :
    (s.emit o).opOfs = s.opOfs := rfl
@[simp] theorem State.emit_draws (s : State) (o : Output) :
    (s.emit o).draws = s.draws := rfl
@[simp] theorem State.emit_out (s : State) (o : Output) :
    (s.emit o).out = s.out ++ [o] := rfl
@[simp] theorem State.emit_pending (s : State) (o : Output) :
    (s.emit o).pending = s.pending := rfl
@[simp] theorem State.emit_set (s : State) (o : Output) :
    (s.emit o).set = s.set := rfl
@[simp] theorem State.emit_radio (s : State) (o : Output) :
    (s.emit o).radio = s.radio := rfl
@[simp] theorem State.emit_cnv (s : State) (o : Output) :
    (s.emit o).cnv = s.cnv := rfl
@[simp] theorem State.emit_sb (s : State) (o : Output) :
    (s.emit o).sb = s.sb := rfl
@[simp] theorem State.emit_can (s : State) (o : Output) :
    (s.emit o).can = s.can := rfl
@[simp] theorem State.emit_map (s : State) (o : Output) :
    (s.emit o).map = s.map := rfl
@[simp] theorem State.emit_sig (s : State) (o : Output) :
    (s.emit o).sig = s.sig := rfl
@[simp] theorem State.emit_txWin (s : State) (o : Output) :
    (s.emit o).txWin = s.txWin := rfl
@[simp] theorem State.emit_taken (s : State) (o : Output) :
    (s.emit o).taken = s.taken := rfl
@[simp] theorem State.emit_dac (s : State) (o : Output) :
    (s.emit o).dac = s.dac := rfl
@[simp] theorem State.emit_gov (s : State) (o : Output) :
    (s.emit o).gov = s.gov := rfl
@[simp] theorem State.emit_ctlTick (s : State) (o : Output) :
    (s.emit o).ctlTick = s.ctlTick := rfl
@[simp] theorem State.emit_loops (s : State) (o : Output) :
    (s.emit o).loops = s.loops := rfl
@[simp] theorem State.emit_outers (s : State) (o : Output) :
    (s.emit o).outers = s.outers := rfl
@[simp] theorem State.emit_slots (s : State) (o : Output) :
    (s.emit o).slots = s.slots := rfl
@[simp] theorem State.emit_plaus (s : State) (o : Output) :
    (s.emit o).plaus = s.plaus := rfl
@[simp] theorem State.emit_tdd (s : State) (o : Output) :
    (s.emit o).tdd = s.tdd := rfl
@[simp] theorem State.emit_beam (s : State) (o : Output) :
    (s.emit o).beam = s.beam := rfl
@[simp] theorem State.emit_beamTick (s : State) (o : Output) :
    (s.emit o).beamTick = s.beamTick := rfl
@[simp] theorem State.emit_fsync (s : State) (o : Output) :
    (s.emit o).fsync = s.fsync := rfl
@[simp] theorem State.emit_band (s : State) (o : Output) :
    (s.emit o).band = s.band := rfl
@[simp] theorem State.emit_regrowth (s : State) (o : Output) :
    (s.emit o).regrowth = s.regrowth := rfl
@[simp] theorem State.emit_npWaitSb (s : State) (o : Output) :
    (s.emit o).npWaitSb = s.npWaitSb := rfl
@[simp] theorem State.emit_npWaitBand (s : State) (o : Output) :
    (s.emit o).npWaitBand = s.npWaitBand := rfl
@[simp] theorem State.emit_npWaitChain (s : State) (o : Output) :
    (s.emit o).npWaitChain = s.npWaitChain := rfl
@[simp] theorem State.emit_fe (s : State) (o : Output) :
    (s.emit o).fe = s.fe := rfl
@[simp] theorem State.emit_pg (s : State) (o : Output) :
    (s.emit o).pg = s.pg := rfl
@[simp] theorem State.emit_wm (s : State) (o : Output) :
    (s.emit o).wm = s.wm := rfl
@[simp] theorem State.emit_hk (s : State) (o : Output) :
    (s.emit o).hk = s.hk := rfl
@[simp] theorem State.emit_hkLast (s : State) (o : Output) :
    (s.emit o).hkLast = s.hkLast := rfl
@[simp] theorem State.emit_th (s : State) (o : Output) :
    (s.emit o).th = s.th := rfl
@[simp] theorem State.emit_link (s : State) (o : Output) :
    (s.emit o).link = s.link := rfl
@[simp] theorem State.emit_cap (s : State) (o : Output) :
    (s.emit o).cap = s.cap := rfl
@[simp] theorem State.emit_streams (s : State) (o : Output) :
    (s.emit o).streams = s.streams := rfl
@[simp] theorem State.emit_jcp (s : State) (o : Output) :
    (s.emit o).jcp = s.jcp := rfl
@[simp] theorem State.emit_flt (s : State) (o : Output) :
    (s.emit o).flt = s.flt := rfl
@[simp] theorem State.emit_rcd (s : State) (o : Output) :
    (s.emit o).rcd = s.rcd := rfl
@[simp] theorem State.emit_store (s : State) (o : Output) :
    (s.emit o).store = s.store := rfl
@[simp] theorem State.emit_mem (s : State) (o : Output) :
    (s.emit o).mem = s.mem := rfl
@[simp] theorem State.emit_twb (s : State) (o : Output) :
    (s.emit o).twb = s.twb := rfl
@[simp] theorem State.emit_boot (s : State) (o : Output) :
    (s.emit o).boot = s.boot := rfl
@[simp] theorem State.emit_pins (s : State) (o : Output) :
    (s.emit o).pins = s.pins := rfl

/-! `State.drawn` -/
@[simp] theorem State.drawn_now (s : State) :
    (s.drawn).now = s.now := rfl
@[simp] theorem State.drawn_divStart (s : State) :
    (s.drawn).divStart = s.divStart := rfl
@[simp] theorem State.drawn_opOfs (s : State) :
    (s.drawn).opOfs = s.opOfs := rfl
@[simp] theorem State.drawn_draws (s : State) :
    (s.drawn).draws = s.draws + 1 := rfl
@[simp] theorem State.drawn_out (s : State) :
    (s.drawn).out = s.out := rfl
@[simp] theorem State.drawn_pending (s : State) :
    (s.drawn).pending = s.pending := rfl
@[simp] theorem State.drawn_set (s : State) :
    (s.drawn).set = s.set := rfl
@[simp] theorem State.drawn_radio (s : State) :
    (s.drawn).radio = s.radio := rfl
@[simp] theorem State.drawn_cnv (s : State) :
    (s.drawn).cnv = s.cnv := rfl
@[simp] theorem State.drawn_sb (s : State) :
    (s.drawn).sb = s.sb := rfl
@[simp] theorem State.drawn_can (s : State) :
    (s.drawn).can = s.can := rfl
@[simp] theorem State.drawn_map (s : State) :
    (s.drawn).map = s.map := rfl
@[simp] theorem State.drawn_sig (s : State) :
    (s.drawn).sig = s.sig := rfl
@[simp] theorem State.drawn_txWin (s : State) :
    (s.drawn).txWin = s.txWin := rfl
@[simp] theorem State.drawn_taken (s : State) :
    (s.drawn).taken = s.taken := rfl
@[simp] theorem State.drawn_dac (s : State) :
    (s.drawn).dac = s.dac := rfl
@[simp] theorem State.drawn_gov (s : State) :
    (s.drawn).gov = s.gov := rfl
@[simp] theorem State.drawn_ctlTick (s : State) :
    (s.drawn).ctlTick = s.ctlTick := rfl
@[simp] theorem State.drawn_loops (s : State) :
    (s.drawn).loops = s.loops := rfl
@[simp] theorem State.drawn_outers (s : State) :
    (s.drawn).outers = s.outers := rfl
@[simp] theorem State.drawn_slots (s : State) :
    (s.drawn).slots = s.slots := rfl
@[simp] theorem State.drawn_plaus (s : State) :
    (s.drawn).plaus = s.plaus := rfl
@[simp] theorem State.drawn_tdd (s : State) :
    (s.drawn).tdd = s.tdd := rfl
@[simp] theorem State.drawn_beam (s : State) :
    (s.drawn).beam = s.beam := rfl
@[simp] theorem State.drawn_beamTick (s : State) :
    (s.drawn).beamTick = s.beamTick := rfl
@[simp] theorem State.drawn_fsync (s : State) :
    (s.drawn).fsync = s.fsync := rfl
@[simp] theorem State.drawn_band (s : State) :
    (s.drawn).band = s.band := rfl
@[simp] theorem State.drawn_regrowth (s : State) :
    (s.drawn).regrowth = s.regrowth := rfl
@[simp] theorem State.drawn_npWaitSb (s : State) :
    (s.drawn).npWaitSb = s.npWaitSb := rfl
@[simp] theorem State.drawn_npWaitBand (s : State) :
    (s.drawn).npWaitBand = s.npWaitBand := rfl
@[simp] theorem State.drawn_npWaitChain (s : State) :
    (s.drawn).npWaitChain = s.npWaitChain := rfl
@[simp] theorem State.drawn_fe (s : State) :
    (s.drawn).fe = s.fe := rfl
@[simp] theorem State.drawn_pg (s : State) :
    (s.drawn).pg = s.pg := rfl
@[simp] theorem State.drawn_wm (s : State) :
    (s.drawn).wm = s.wm := rfl
@[simp] theorem State.drawn_hk (s : State) :
    (s.drawn).hk = s.hk := rfl
@[simp] theorem State.drawn_hkLast (s : State) :
    (s.drawn).hkLast = s.hkLast := rfl
@[simp] theorem State.drawn_th (s : State) :
    (s.drawn).th = s.th := rfl
@[simp] theorem State.drawn_link (s : State) :
    (s.drawn).link = s.link := rfl
@[simp] theorem State.drawn_cap (s : State) :
    (s.drawn).cap = s.cap := rfl
@[simp] theorem State.drawn_streams (s : State) :
    (s.drawn).streams = s.streams := rfl
@[simp] theorem State.drawn_jcp (s : State) :
    (s.drawn).jcp = s.jcp := rfl
@[simp] theorem State.drawn_flt (s : State) :
    (s.drawn).flt = s.flt := rfl
@[simp] theorem State.drawn_rcd (s : State) :
    (s.drawn).rcd = s.rcd := rfl
@[simp] theorem State.drawn_store (s : State) :
    (s.drawn).store = s.store := rfl
@[simp] theorem State.drawn_mem (s : State) :
    (s.drawn).mem = s.mem := rfl
@[simp] theorem State.drawn_twb (s : State) :
    (s.drawn).twb = s.twb := rfl
@[simp] theorem State.drawn_boot (s : State) :
    (s.drawn).boot = s.boot := rfl
@[simp] theorem State.drawn_pins (s : State) :
    (s.drawn).pins = s.pins := rfl

/-! `State.withSet` -/
@[simp] theorem State.withSet_now (s : State) (k : Settings) :
    (s.withSet k).now = s.now := rfl
@[simp] theorem State.withSet_divStart (s : State) (k : Settings) :
    (s.withSet k).divStart = s.divStart := rfl
@[simp] theorem State.withSet_opOfs (s : State) (k : Settings) :
    (s.withSet k).opOfs = s.opOfs := rfl
@[simp] theorem State.withSet_draws (s : State) (k : Settings) :
    (s.withSet k).draws = s.draws := rfl
@[simp] theorem State.withSet_out (s : State) (k : Settings) :
    (s.withSet k).out = s.out := rfl
@[simp] theorem State.withSet_pending (s : State) (k : Settings) :
    (s.withSet k).pending = s.pending := rfl
@[simp] theorem State.withSet_set (s : State) (k : Settings) :
    (s.withSet k).set = k := rfl
@[simp] theorem State.withSet_radio (s : State) (k : Settings) :
    (s.withSet k).radio = s.radio := rfl
@[simp] theorem State.withSet_cnv (s : State) (k : Settings) :
    (s.withSet k).cnv = s.cnv := rfl
@[simp] theorem State.withSet_sb (s : State) (k : Settings) :
    (s.withSet k).sb = s.sb := rfl
@[simp] theorem State.withSet_can (s : State) (k : Settings) :
    (s.withSet k).can = s.can := rfl
@[simp] theorem State.withSet_map (s : State) (k : Settings) :
    (s.withSet k).map = s.map := rfl
@[simp] theorem State.withSet_sig (s : State) (k : Settings) :
    (s.withSet k).sig = s.sig := rfl
@[simp] theorem State.withSet_txWin (s : State) (k : Settings) :
    (s.withSet k).txWin = s.txWin := rfl
@[simp] theorem State.withSet_taken (s : State) (k : Settings) :
    (s.withSet k).taken = s.taken := rfl
@[simp] theorem State.withSet_dac (s : State) (k : Settings) :
    (s.withSet k).dac = s.dac := rfl
@[simp] theorem State.withSet_gov (s : State) (k : Settings) :
    (s.withSet k).gov = s.gov := rfl
@[simp] theorem State.withSet_ctlTick (s : State) (k : Settings) :
    (s.withSet k).ctlTick = s.ctlTick := rfl
@[simp] theorem State.withSet_loops (s : State) (k : Settings) :
    (s.withSet k).loops = s.loops := rfl
@[simp] theorem State.withSet_outers (s : State) (k : Settings) :
    (s.withSet k).outers = s.outers := rfl
@[simp] theorem State.withSet_slots (s : State) (k : Settings) :
    (s.withSet k).slots = s.slots := rfl
@[simp] theorem State.withSet_plaus (s : State) (k : Settings) :
    (s.withSet k).plaus = s.plaus := rfl
@[simp] theorem State.withSet_tdd (s : State) (k : Settings) :
    (s.withSet k).tdd = s.tdd := rfl
@[simp] theorem State.withSet_beam (s : State) (k : Settings) :
    (s.withSet k).beam = s.beam := rfl
@[simp] theorem State.withSet_beamTick (s : State) (k : Settings) :
    (s.withSet k).beamTick = s.beamTick := rfl
@[simp] theorem State.withSet_fsync (s : State) (k : Settings) :
    (s.withSet k).fsync = s.fsync := rfl
@[simp] theorem State.withSet_band (s : State) (k : Settings) :
    (s.withSet k).band = s.band := rfl
@[simp] theorem State.withSet_regrowth (s : State) (k : Settings) :
    (s.withSet k).regrowth = s.regrowth := rfl
@[simp] theorem State.withSet_npWaitSb (s : State) (k : Settings) :
    (s.withSet k).npWaitSb = s.npWaitSb := rfl
@[simp] theorem State.withSet_npWaitBand (s : State) (k : Settings) :
    (s.withSet k).npWaitBand = s.npWaitBand := rfl
@[simp] theorem State.withSet_npWaitChain (s : State) (k : Settings) :
    (s.withSet k).npWaitChain = s.npWaitChain := rfl
@[simp] theorem State.withSet_fe (s : State) (k : Settings) :
    (s.withSet k).fe = s.fe := rfl
@[simp] theorem State.withSet_pg (s : State) (k : Settings) :
    (s.withSet k).pg = s.pg := rfl
@[simp] theorem State.withSet_wm (s : State) (k : Settings) :
    (s.withSet k).wm = s.wm := rfl
@[simp] theorem State.withSet_hk (s : State) (k : Settings) :
    (s.withSet k).hk = s.hk := rfl
@[simp] theorem State.withSet_hkLast (s : State) (k : Settings) :
    (s.withSet k).hkLast = s.hkLast := rfl
@[simp] theorem State.withSet_th (s : State) (k : Settings) :
    (s.withSet k).th = s.th := rfl
@[simp] theorem State.withSet_link (s : State) (k : Settings) :
    (s.withSet k).link = s.link := rfl
@[simp] theorem State.withSet_cap (s : State) (k : Settings) :
    (s.withSet k).cap = s.cap := rfl
@[simp] theorem State.withSet_streams (s : State) (k : Settings) :
    (s.withSet k).streams = s.streams := rfl
@[simp] theorem State.withSet_jcp (s : State) (k : Settings) :
    (s.withSet k).jcp = s.jcp := rfl
@[simp] theorem State.withSet_flt (s : State) (k : Settings) :
    (s.withSet k).flt = s.flt := rfl
@[simp] theorem State.withSet_rcd (s : State) (k : Settings) :
    (s.withSet k).rcd = s.rcd := rfl
@[simp] theorem State.withSet_store (s : State) (k : Settings) :
    (s.withSet k).store = s.store := rfl
@[simp] theorem State.withSet_mem (s : State) (k : Settings) :
    (s.withSet k).mem = s.mem := rfl
@[simp] theorem State.withSet_twb (s : State) (k : Settings) :
    (s.withSet k).twb = s.twb := rfl
@[simp] theorem State.withSet_boot (s : State) (k : Settings) :
    (s.withSet k).boot = s.boot := rfl
@[simp] theorem State.withSet_pins (s : State) (k : Settings) :
    (s.withSet k).pins = s.pins := rfl

/-! `State.withStore` -/
@[simp] theorem State.withStore_now (s : State) (k : Store) :
    (s.withStore k).now = s.now := rfl
@[simp] theorem State.withStore_divStart (s : State) (k : Store) :
    (s.withStore k).divStart = s.divStart := rfl
@[simp] theorem State.withStore_opOfs (s : State) (k : Store) :
    (s.withStore k).opOfs = s.opOfs := rfl
@[simp] theorem State.withStore_draws (s : State) (k : Store) :
    (s.withStore k).draws = s.draws := rfl
@[simp] theorem State.withStore_out (s : State) (k : Store) :
    (s.withStore k).out = s.out := rfl
@[simp] theorem State.withStore_pending (s : State) (k : Store) :
    (s.withStore k).pending = s.pending := rfl
@[simp] theorem State.withStore_set (s : State) (k : Store) :
    (s.withStore k).set = s.set := rfl
@[simp] theorem State.withStore_radio (s : State) (k : Store) :
    (s.withStore k).radio = s.radio := rfl
@[simp] theorem State.withStore_cnv (s : State) (k : Store) :
    (s.withStore k).cnv = s.cnv := rfl
@[simp] theorem State.withStore_sb (s : State) (k : Store) :
    (s.withStore k).sb = s.sb := rfl
@[simp] theorem State.withStore_can (s : State) (k : Store) :
    (s.withStore k).can = s.can := rfl
@[simp] theorem State.withStore_map (s : State) (k : Store) :
    (s.withStore k).map = s.map := rfl
@[simp] theorem State.withStore_sig (s : State) (k : Store) :
    (s.withStore k).sig = s.sig := rfl
@[simp] theorem State.withStore_txWin (s : State) (k : Store) :
    (s.withStore k).txWin = s.txWin := rfl
@[simp] theorem State.withStore_taken (s : State) (k : Store) :
    (s.withStore k).taken = s.taken := rfl
@[simp] theorem State.withStore_dac (s : State) (k : Store) :
    (s.withStore k).dac = s.dac := rfl
@[simp] theorem State.withStore_gov (s : State) (k : Store) :
    (s.withStore k).gov = s.gov := rfl
@[simp] theorem State.withStore_ctlTick (s : State) (k : Store) :
    (s.withStore k).ctlTick = s.ctlTick := rfl
@[simp] theorem State.withStore_loops (s : State) (k : Store) :
    (s.withStore k).loops = s.loops := rfl
@[simp] theorem State.withStore_outers (s : State) (k : Store) :
    (s.withStore k).outers = s.outers := rfl
@[simp] theorem State.withStore_slots (s : State) (k : Store) :
    (s.withStore k).slots = s.slots := rfl
@[simp] theorem State.withStore_plaus (s : State) (k : Store) :
    (s.withStore k).plaus = s.plaus := rfl
@[simp] theorem State.withStore_tdd (s : State) (k : Store) :
    (s.withStore k).tdd = s.tdd := rfl
@[simp] theorem State.withStore_beam (s : State) (k : Store) :
    (s.withStore k).beam = s.beam := rfl
@[simp] theorem State.withStore_beamTick (s : State) (k : Store) :
    (s.withStore k).beamTick = s.beamTick := rfl
@[simp] theorem State.withStore_fsync (s : State) (k : Store) :
    (s.withStore k).fsync = s.fsync := rfl
@[simp] theorem State.withStore_band (s : State) (k : Store) :
    (s.withStore k).band = s.band := rfl
@[simp] theorem State.withStore_regrowth (s : State) (k : Store) :
    (s.withStore k).regrowth = s.regrowth := rfl
@[simp] theorem State.withStore_npWaitSb (s : State) (k : Store) :
    (s.withStore k).npWaitSb = s.npWaitSb := rfl
@[simp] theorem State.withStore_npWaitBand (s : State) (k : Store) :
    (s.withStore k).npWaitBand = s.npWaitBand := rfl
@[simp] theorem State.withStore_npWaitChain (s : State) (k : Store) :
    (s.withStore k).npWaitChain = s.npWaitChain := rfl
@[simp] theorem State.withStore_fe (s : State) (k : Store) :
    (s.withStore k).fe = s.fe := rfl
@[simp] theorem State.withStore_pg (s : State) (k : Store) :
    (s.withStore k).pg = s.pg := rfl
@[simp] theorem State.withStore_wm (s : State) (k : Store) :
    (s.withStore k).wm = s.wm := rfl
@[simp] theorem State.withStore_hk (s : State) (k : Store) :
    (s.withStore k).hk = s.hk := rfl
@[simp] theorem State.withStore_hkLast (s : State) (k : Store) :
    (s.withStore k).hkLast = s.hkLast := rfl
@[simp] theorem State.withStore_th (s : State) (k : Store) :
    (s.withStore k).th = s.th := rfl
@[simp] theorem State.withStore_link (s : State) (k : Store) :
    (s.withStore k).link = s.link := rfl
@[simp] theorem State.withStore_cap (s : State) (k : Store) :
    (s.withStore k).cap = s.cap := rfl
@[simp] theorem State.withStore_streams (s : State) (k : Store) :
    (s.withStore k).streams = s.streams := rfl
@[simp] theorem State.withStore_jcp (s : State) (k : Store) :
    (s.withStore k).jcp = s.jcp := rfl
@[simp] theorem State.withStore_flt (s : State) (k : Store) :
    (s.withStore k).flt = s.flt := rfl
@[simp] theorem State.withStore_rcd (s : State) (k : Store) :
    (s.withStore k).rcd = s.rcd := rfl
@[simp] theorem State.withStore_store (s : State) (k : Store) :
    (s.withStore k).store = k := rfl
@[simp] theorem State.withStore_mem (s : State) (k : Store) :
    (s.withStore k).mem = s.mem := rfl
@[simp] theorem State.withStore_twb (s : State) (k : Store) :
    (s.withStore k).twb = s.twb := rfl
@[simp] theorem State.withStore_boot (s : State) (k : Store) :
    (s.withStore k).boot = s.boot := rfl
@[simp] theorem State.withStore_pins (s : State) (k : Store) :
    (s.withStore k).pins = s.pins := rfl

/-! `State.withMem` -/
@[simp] theorem State.withMem_now (s : State) (k : Mem) :
    (s.withMem k).now = s.now := rfl
@[simp] theorem State.withMem_divStart (s : State) (k : Mem) :
    (s.withMem k).divStart = s.divStart := rfl
@[simp] theorem State.withMem_opOfs (s : State) (k : Mem) :
    (s.withMem k).opOfs = s.opOfs := rfl
@[simp] theorem State.withMem_draws (s : State) (k : Mem) :
    (s.withMem k).draws = s.draws := rfl
@[simp] theorem State.withMem_out (s : State) (k : Mem) :
    (s.withMem k).out = s.out := rfl
@[simp] theorem State.withMem_pending (s : State) (k : Mem) :
    (s.withMem k).pending = s.pending := rfl
@[simp] theorem State.withMem_set (s : State) (k : Mem) :
    (s.withMem k).set = s.set := rfl
@[simp] theorem State.withMem_radio (s : State) (k : Mem) :
    (s.withMem k).radio = s.radio := rfl
@[simp] theorem State.withMem_cnv (s : State) (k : Mem) :
    (s.withMem k).cnv = s.cnv := rfl
@[simp] theorem State.withMem_sb (s : State) (k : Mem) :
    (s.withMem k).sb = s.sb := rfl
@[simp] theorem State.withMem_can (s : State) (k : Mem) :
    (s.withMem k).can = s.can := rfl
@[simp] theorem State.withMem_map (s : State) (k : Mem) :
    (s.withMem k).map = s.map := rfl
@[simp] theorem State.withMem_sig (s : State) (k : Mem) :
    (s.withMem k).sig = s.sig := rfl
@[simp] theorem State.withMem_txWin (s : State) (k : Mem) :
    (s.withMem k).txWin = s.txWin := rfl
@[simp] theorem State.withMem_taken (s : State) (k : Mem) :
    (s.withMem k).taken = s.taken := rfl
@[simp] theorem State.withMem_dac (s : State) (k : Mem) :
    (s.withMem k).dac = s.dac := rfl
@[simp] theorem State.withMem_gov (s : State) (k : Mem) :
    (s.withMem k).gov = s.gov := rfl
@[simp] theorem State.withMem_ctlTick (s : State) (k : Mem) :
    (s.withMem k).ctlTick = s.ctlTick := rfl
@[simp] theorem State.withMem_loops (s : State) (k : Mem) :
    (s.withMem k).loops = s.loops := rfl
@[simp] theorem State.withMem_outers (s : State) (k : Mem) :
    (s.withMem k).outers = s.outers := rfl
@[simp] theorem State.withMem_slots (s : State) (k : Mem) :
    (s.withMem k).slots = s.slots := rfl
@[simp] theorem State.withMem_plaus (s : State) (k : Mem) :
    (s.withMem k).plaus = s.plaus := rfl
@[simp] theorem State.withMem_tdd (s : State) (k : Mem) :
    (s.withMem k).tdd = s.tdd := rfl
@[simp] theorem State.withMem_beam (s : State) (k : Mem) :
    (s.withMem k).beam = s.beam := rfl
@[simp] theorem State.withMem_beamTick (s : State) (k : Mem) :
    (s.withMem k).beamTick = s.beamTick := rfl
@[simp] theorem State.withMem_fsync (s : State) (k : Mem) :
    (s.withMem k).fsync = s.fsync := rfl
@[simp] theorem State.withMem_band (s : State) (k : Mem) :
    (s.withMem k).band = s.band := rfl
@[simp] theorem State.withMem_regrowth (s : State) (k : Mem) :
    (s.withMem k).regrowth = s.regrowth := rfl
@[simp] theorem State.withMem_npWaitSb (s : State) (k : Mem) :
    (s.withMem k).npWaitSb = s.npWaitSb := rfl
@[simp] theorem State.withMem_npWaitBand (s : State) (k : Mem) :
    (s.withMem k).npWaitBand = s.npWaitBand := rfl
@[simp] theorem State.withMem_npWaitChain (s : State) (k : Mem) :
    (s.withMem k).npWaitChain = s.npWaitChain := rfl
@[simp] theorem State.withMem_fe (s : State) (k : Mem) :
    (s.withMem k).fe = s.fe := rfl
@[simp] theorem State.withMem_pg (s : State) (k : Mem) :
    (s.withMem k).pg = s.pg := rfl
@[simp] theorem State.withMem_wm (s : State) (k : Mem) :
    (s.withMem k).wm = s.wm := rfl
@[simp] theorem State.withMem_hk (s : State) (k : Mem) :
    (s.withMem k).hk = s.hk := rfl
@[simp] theorem State.withMem_hkLast (s : State) (k : Mem) :
    (s.withMem k).hkLast = s.hkLast := rfl
@[simp] theorem State.withMem_th (s : State) (k : Mem) :
    (s.withMem k).th = s.th := rfl
@[simp] theorem State.withMem_link (s : State) (k : Mem) :
    (s.withMem k).link = s.link := rfl
@[simp] theorem State.withMem_cap (s : State) (k : Mem) :
    (s.withMem k).cap = s.cap := rfl
@[simp] theorem State.withMem_streams (s : State) (k : Mem) :
    (s.withMem k).streams = s.streams := rfl
@[simp] theorem State.withMem_jcp (s : State) (k : Mem) :
    (s.withMem k).jcp = s.jcp := rfl
@[simp] theorem State.withMem_flt (s : State) (k : Mem) :
    (s.withMem k).flt = s.flt := rfl
@[simp] theorem State.withMem_rcd (s : State) (k : Mem) :
    (s.withMem k).rcd = s.rcd := rfl
@[simp] theorem State.withMem_store (s : State) (k : Mem) :
    (s.withMem k).store = s.store := rfl
@[simp] theorem State.withMem_mem (s : State) (k : Mem) :
    (s.withMem k).mem = k := rfl
@[simp] theorem State.withMem_twb (s : State) (k : Mem) :
    (s.withMem k).twb = s.twb := rfl
@[simp] theorem State.withMem_boot (s : State) (k : Mem) :
    (s.withMem k).boot = s.boot := rfl
@[simp] theorem State.withMem_pins (s : State) (k : Mem) :
    (s.withMem k).pins = s.pins := rfl

/-! `State.modSb` -/
@[simp] theorem State.modSb_now (s : State) (n : Nat) (f : Sb → Sb) :
    (s.modSb n f).now = s.now := rfl
@[simp] theorem State.modSb_divStart (s : State) (n : Nat) (f : Sb → Sb) :
    (s.modSb n f).divStart = s.divStart := rfl
@[simp] theorem State.modSb_opOfs (s : State) (n : Nat) (f : Sb → Sb) :
    (s.modSb n f).opOfs = s.opOfs := rfl
@[simp] theorem State.modSb_draws (s : State) (n : Nat) (f : Sb → Sb) :
    (s.modSb n f).draws = s.draws := rfl
@[simp] theorem State.modSb_out (s : State) (n : Nat) (f : Sb → Sb) :
    (s.modSb n f).out = s.out := rfl
@[simp] theorem State.modSb_pending (s : State) (n : Nat) (f : Sb → Sb) :
    (s.modSb n f).pending = s.pending := rfl
@[simp] theorem State.modSb_set (s : State) (n : Nat) (f : Sb → Sb) :
    (s.modSb n f).set = s.set := rfl
@[simp] theorem State.modSb_radio (s : State) (n : Nat) (f : Sb → Sb) :
    (s.modSb n f).radio = s.radio := rfl
@[simp] theorem State.modSb_cnv (s : State) (n : Nat) (f : Sb → Sb) :
    (s.modSb n f).cnv = s.cnv := rfl
@[simp] theorem State.modSb_sb (s : State) (n : Nat) (f : Sb → Sb) :
    (s.modSb n f).sb = Table.modify {} s.sb n f := rfl
@[simp] theorem State.modSb_can (s : State) (n : Nat) (f : Sb → Sb) :
    (s.modSb n f).can = s.can := rfl
@[simp] theorem State.modSb_map (s : State) (n : Nat) (f : Sb → Sb) :
    (s.modSb n f).map = s.map := rfl
@[simp] theorem State.modSb_sig (s : State) (n : Nat) (f : Sb → Sb) :
    (s.modSb n f).sig = s.sig := rfl
@[simp] theorem State.modSb_txWin (s : State) (n : Nat) (f : Sb → Sb) :
    (s.modSb n f).txWin = s.txWin := rfl
@[simp] theorem State.modSb_taken (s : State) (n : Nat) (f : Sb → Sb) :
    (s.modSb n f).taken = s.taken := rfl
@[simp] theorem State.modSb_dac (s : State) (n : Nat) (f : Sb → Sb) :
    (s.modSb n f).dac = s.dac := rfl
@[simp] theorem State.modSb_gov (s : State) (n : Nat) (f : Sb → Sb) :
    (s.modSb n f).gov = s.gov := rfl
@[simp] theorem State.modSb_ctlTick (s : State) (n : Nat) (f : Sb → Sb) :
    (s.modSb n f).ctlTick = s.ctlTick := rfl
@[simp] theorem State.modSb_loops (s : State) (n : Nat) (f : Sb → Sb) :
    (s.modSb n f).loops = s.loops := rfl
@[simp] theorem State.modSb_outers (s : State) (n : Nat) (f : Sb → Sb) :
    (s.modSb n f).outers = s.outers := rfl
@[simp] theorem State.modSb_slots (s : State) (n : Nat) (f : Sb → Sb) :
    (s.modSb n f).slots = s.slots := rfl
@[simp] theorem State.modSb_plaus (s : State) (n : Nat) (f : Sb → Sb) :
    (s.modSb n f).plaus = s.plaus := rfl
@[simp] theorem State.modSb_tdd (s : State) (n : Nat) (f : Sb → Sb) :
    (s.modSb n f).tdd = s.tdd := rfl
@[simp] theorem State.modSb_beam (s : State) (n : Nat) (f : Sb → Sb) :
    (s.modSb n f).beam = s.beam := rfl
@[simp] theorem State.modSb_beamTick (s : State) (n : Nat) (f : Sb → Sb) :
    (s.modSb n f).beamTick = s.beamTick := rfl
@[simp] theorem State.modSb_fsync (s : State) (n : Nat) (f : Sb → Sb) :
    (s.modSb n f).fsync = s.fsync := rfl
@[simp] theorem State.modSb_band (s : State) (n : Nat) (f : Sb → Sb) :
    (s.modSb n f).band = s.band := rfl
@[simp] theorem State.modSb_regrowth (s : State) (n : Nat) (f : Sb → Sb) :
    (s.modSb n f).regrowth = s.regrowth := rfl
@[simp] theorem State.modSb_npWaitSb (s : State) (n : Nat) (f : Sb → Sb) :
    (s.modSb n f).npWaitSb = s.npWaitSb := rfl
@[simp] theorem State.modSb_npWaitBand (s : State) (n : Nat) (f : Sb → Sb) :
    (s.modSb n f).npWaitBand = s.npWaitBand := rfl
@[simp] theorem State.modSb_npWaitChain (s : State) (n : Nat) (f : Sb → Sb) :
    (s.modSb n f).npWaitChain = s.npWaitChain := rfl
@[simp] theorem State.modSb_fe (s : State) (n : Nat) (f : Sb → Sb) :
    (s.modSb n f).fe = s.fe := rfl
@[simp] theorem State.modSb_pg (s : State) (n : Nat) (f : Sb → Sb) :
    (s.modSb n f).pg = s.pg := rfl
@[simp] theorem State.modSb_wm (s : State) (n : Nat) (f : Sb → Sb) :
    (s.modSb n f).wm = s.wm := rfl
@[simp] theorem State.modSb_hk (s : State) (n : Nat) (f : Sb → Sb) :
    (s.modSb n f).hk = s.hk := rfl
@[simp] theorem State.modSb_hkLast (s : State) (n : Nat) (f : Sb → Sb) :
    (s.modSb n f).hkLast = s.hkLast := rfl
@[simp] theorem State.modSb_th (s : State) (n : Nat) (f : Sb → Sb) :
    (s.modSb n f).th = s.th := rfl
@[simp] theorem State.modSb_link (s : State) (n : Nat) (f : Sb → Sb) :
    (s.modSb n f).link = s.link := rfl
@[simp] theorem State.modSb_cap (s : State) (n : Nat) (f : Sb → Sb) :
    (s.modSb n f).cap = s.cap := rfl
@[simp] theorem State.modSb_streams (s : State) (n : Nat) (f : Sb → Sb) :
    (s.modSb n f).streams = s.streams := rfl
@[simp] theorem State.modSb_jcp (s : State) (n : Nat) (f : Sb → Sb) :
    (s.modSb n f).jcp = s.jcp := rfl
@[simp] theorem State.modSb_flt (s : State) (n : Nat) (f : Sb → Sb) :
    (s.modSb n f).flt = s.flt := rfl
@[simp] theorem State.modSb_rcd (s : State) (n : Nat) (f : Sb → Sb) :
    (s.modSb n f).rcd = s.rcd := rfl
@[simp] theorem State.modSb_store (s : State) (n : Nat) (f : Sb → Sb) :
    (s.modSb n f).store = s.store := rfl
@[simp] theorem State.modSb_mem (s : State) (n : Nat) (f : Sb → Sb) :
    (s.modSb n f).mem = s.mem := rfl
@[simp] theorem State.modSb_twb (s : State) (n : Nat) (f : Sb → Sb) :
    (s.modSb n f).twb = s.twb := rfl
@[simp] theorem State.modSb_boot (s : State) (n : Nat) (f : Sb → Sb) :
    (s.modSb n f).boot = s.boot := rfl
@[simp] theorem State.modSb_pins (s : State) (n : Nat) (f : Sb → Sb) :
    (s.modSb n f).pins = s.pins := rfl

/-! `State.modSig` -/
@[simp] theorem State.modSig_now (s : State) (n : Nat) (f : Sig → Sig) :
    (s.modSig n f).now = s.now := rfl
@[simp] theorem State.modSig_divStart (s : State) (n : Nat) (f : Sig → Sig) :
    (s.modSig n f).divStart = s.divStart := rfl
@[simp] theorem State.modSig_opOfs (s : State) (n : Nat) (f : Sig → Sig) :
    (s.modSig n f).opOfs = s.opOfs := rfl
@[simp] theorem State.modSig_draws (s : State) (n : Nat) (f : Sig → Sig) :
    (s.modSig n f).draws = s.draws := rfl
@[simp] theorem State.modSig_out (s : State) (n : Nat) (f : Sig → Sig) :
    (s.modSig n f).out = s.out := rfl
@[simp] theorem State.modSig_pending (s : State) (n : Nat) (f : Sig → Sig) :
    (s.modSig n f).pending = s.pending := rfl
@[simp] theorem State.modSig_set (s : State) (n : Nat) (f : Sig → Sig) :
    (s.modSig n f).set = s.set := rfl
@[simp] theorem State.modSig_radio (s : State) (n : Nat) (f : Sig → Sig) :
    (s.modSig n f).radio = s.radio := rfl
@[simp] theorem State.modSig_cnv (s : State) (n : Nat) (f : Sig → Sig) :
    (s.modSig n f).cnv = s.cnv := rfl
@[simp] theorem State.modSig_sb (s : State) (n : Nat) (f : Sig → Sig) :
    (s.modSig n f).sb = s.sb := rfl
@[simp] theorem State.modSig_can (s : State) (n : Nat) (f : Sig → Sig) :
    (s.modSig n f).can = s.can := rfl
@[simp] theorem State.modSig_map (s : State) (n : Nat) (f : Sig → Sig) :
    (s.modSig n f).map = s.map := rfl
@[simp] theorem State.modSig_sig (s : State) (n : Nat) (f : Sig → Sig) :
    (s.modSig n f).sig = Table.modify {} s.sig n f := rfl
@[simp] theorem State.modSig_txWin (s : State) (n : Nat) (f : Sig → Sig) :
    (s.modSig n f).txWin = s.txWin := rfl
@[simp] theorem State.modSig_taken (s : State) (n : Nat) (f : Sig → Sig) :
    (s.modSig n f).taken = s.taken := rfl
@[simp] theorem State.modSig_dac (s : State) (n : Nat) (f : Sig → Sig) :
    (s.modSig n f).dac = s.dac := rfl
@[simp] theorem State.modSig_gov (s : State) (n : Nat) (f : Sig → Sig) :
    (s.modSig n f).gov = s.gov := rfl
@[simp] theorem State.modSig_ctlTick (s : State) (n : Nat) (f : Sig → Sig) :
    (s.modSig n f).ctlTick = s.ctlTick := rfl
@[simp] theorem State.modSig_loops (s : State) (n : Nat) (f : Sig → Sig) :
    (s.modSig n f).loops = s.loops := rfl
@[simp] theorem State.modSig_outers (s : State) (n : Nat) (f : Sig → Sig) :
    (s.modSig n f).outers = s.outers := rfl
@[simp] theorem State.modSig_slots (s : State) (n : Nat) (f : Sig → Sig) :
    (s.modSig n f).slots = s.slots := rfl
@[simp] theorem State.modSig_plaus (s : State) (n : Nat) (f : Sig → Sig) :
    (s.modSig n f).plaus = s.plaus := rfl
@[simp] theorem State.modSig_tdd (s : State) (n : Nat) (f : Sig → Sig) :
    (s.modSig n f).tdd = s.tdd := rfl
@[simp] theorem State.modSig_beam (s : State) (n : Nat) (f : Sig → Sig) :
    (s.modSig n f).beam = s.beam := rfl
@[simp] theorem State.modSig_beamTick (s : State) (n : Nat) (f : Sig → Sig) :
    (s.modSig n f).beamTick = s.beamTick := rfl
@[simp] theorem State.modSig_fsync (s : State) (n : Nat) (f : Sig → Sig) :
    (s.modSig n f).fsync = s.fsync := rfl
@[simp] theorem State.modSig_band (s : State) (n : Nat) (f : Sig → Sig) :
    (s.modSig n f).band = s.band := rfl
@[simp] theorem State.modSig_regrowth (s : State) (n : Nat) (f : Sig → Sig) :
    (s.modSig n f).regrowth = s.regrowth := rfl
@[simp] theorem State.modSig_npWaitSb (s : State) (n : Nat) (f : Sig → Sig) :
    (s.modSig n f).npWaitSb = s.npWaitSb := rfl
@[simp] theorem State.modSig_npWaitBand (s : State) (n : Nat) (f : Sig → Sig) :
    (s.modSig n f).npWaitBand = s.npWaitBand := rfl
@[simp] theorem State.modSig_npWaitChain (s : State) (n : Nat) (f : Sig → Sig) :
    (s.modSig n f).npWaitChain = s.npWaitChain := rfl
@[simp] theorem State.modSig_fe (s : State) (n : Nat) (f : Sig → Sig) :
    (s.modSig n f).fe = s.fe := rfl
@[simp] theorem State.modSig_pg (s : State) (n : Nat) (f : Sig → Sig) :
    (s.modSig n f).pg = s.pg := rfl
@[simp] theorem State.modSig_wm (s : State) (n : Nat) (f : Sig → Sig) :
    (s.modSig n f).wm = s.wm := rfl
@[simp] theorem State.modSig_hk (s : State) (n : Nat) (f : Sig → Sig) :
    (s.modSig n f).hk = s.hk := rfl
@[simp] theorem State.modSig_hkLast (s : State) (n : Nat) (f : Sig → Sig) :
    (s.modSig n f).hkLast = s.hkLast := rfl
@[simp] theorem State.modSig_th (s : State) (n : Nat) (f : Sig → Sig) :
    (s.modSig n f).th = s.th := rfl
@[simp] theorem State.modSig_link (s : State) (n : Nat) (f : Sig → Sig) :
    (s.modSig n f).link = s.link := rfl
@[simp] theorem State.modSig_cap (s : State) (n : Nat) (f : Sig → Sig) :
    (s.modSig n f).cap = s.cap := rfl
@[simp] theorem State.modSig_streams (s : State) (n : Nat) (f : Sig → Sig) :
    (s.modSig n f).streams = s.streams := rfl
@[simp] theorem State.modSig_jcp (s : State) (n : Nat) (f : Sig → Sig) :
    (s.modSig n f).jcp = s.jcp := rfl
@[simp] theorem State.modSig_flt (s : State) (n : Nat) (f : Sig → Sig) :
    (s.modSig n f).flt = s.flt := rfl
@[simp] theorem State.modSig_rcd (s : State) (n : Nat) (f : Sig → Sig) :
    (s.modSig n f).rcd = s.rcd := rfl
@[simp] theorem State.modSig_store (s : State) (n : Nat) (f : Sig → Sig) :
    (s.modSig n f).store = s.store := rfl
@[simp] theorem State.modSig_mem (s : State) (n : Nat) (f : Sig → Sig) :
    (s.modSig n f).mem = s.mem := rfl
@[simp] theorem State.modSig_twb (s : State) (n : Nat) (f : Sig → Sig) :
    (s.modSig n f).twb = s.twb := rfl
@[simp] theorem State.modSig_boot (s : State) (n : Nat) (f : Sig → Sig) :
    (s.modSig n f).boot = s.boot := rfl
@[simp] theorem State.modSig_pins (s : State) (n : Nat) (f : Sig → Sig) :
    (s.modSig n f).pins = s.pins := rfl

/-! `State.modCan` -/
@[simp] theorem State.modCan_now (s : State) (n : Nat) (f : Can → Can) :
    (s.modCan n f).now = s.now := rfl
@[simp] theorem State.modCan_divStart (s : State) (n : Nat) (f : Can → Can) :
    (s.modCan n f).divStart = s.divStart := rfl
@[simp] theorem State.modCan_opOfs (s : State) (n : Nat) (f : Can → Can) :
    (s.modCan n f).opOfs = s.opOfs := rfl
@[simp] theorem State.modCan_draws (s : State) (n : Nat) (f : Can → Can) :
    (s.modCan n f).draws = s.draws := rfl
@[simp] theorem State.modCan_out (s : State) (n : Nat) (f : Can → Can) :
    (s.modCan n f).out = s.out := rfl
@[simp] theorem State.modCan_pending (s : State) (n : Nat) (f : Can → Can) :
    (s.modCan n f).pending = s.pending := rfl
@[simp] theorem State.modCan_set (s : State) (n : Nat) (f : Can → Can) :
    (s.modCan n f).set = s.set := rfl
@[simp] theorem State.modCan_radio (s : State) (n : Nat) (f : Can → Can) :
    (s.modCan n f).radio = s.radio := rfl
@[simp] theorem State.modCan_cnv (s : State) (n : Nat) (f : Can → Can) :
    (s.modCan n f).cnv = s.cnv := rfl
@[simp] theorem State.modCan_sb (s : State) (n : Nat) (f : Can → Can) :
    (s.modCan n f).sb = s.sb := rfl
@[simp] theorem State.modCan_can (s : State) (n : Nat) (f : Can → Can) :
    (s.modCan n f).can = Table.modify {} s.can n f := rfl
@[simp] theorem State.modCan_map (s : State) (n : Nat) (f : Can → Can) :
    (s.modCan n f).map = s.map := rfl
@[simp] theorem State.modCan_sig (s : State) (n : Nat) (f : Can → Can) :
    (s.modCan n f).sig = s.sig := rfl
@[simp] theorem State.modCan_txWin (s : State) (n : Nat) (f : Can → Can) :
    (s.modCan n f).txWin = s.txWin := rfl
@[simp] theorem State.modCan_taken (s : State) (n : Nat) (f : Can → Can) :
    (s.modCan n f).taken = s.taken := rfl
@[simp] theorem State.modCan_dac (s : State) (n : Nat) (f : Can → Can) :
    (s.modCan n f).dac = s.dac := rfl
@[simp] theorem State.modCan_gov (s : State) (n : Nat) (f : Can → Can) :
    (s.modCan n f).gov = s.gov := rfl
@[simp] theorem State.modCan_ctlTick (s : State) (n : Nat) (f : Can → Can) :
    (s.modCan n f).ctlTick = s.ctlTick := rfl
@[simp] theorem State.modCan_loops (s : State) (n : Nat) (f : Can → Can) :
    (s.modCan n f).loops = s.loops := rfl
@[simp] theorem State.modCan_outers (s : State) (n : Nat) (f : Can → Can) :
    (s.modCan n f).outers = s.outers := rfl
@[simp] theorem State.modCan_slots (s : State) (n : Nat) (f : Can → Can) :
    (s.modCan n f).slots = s.slots := rfl
@[simp] theorem State.modCan_plaus (s : State) (n : Nat) (f : Can → Can) :
    (s.modCan n f).plaus = s.plaus := rfl
@[simp] theorem State.modCan_tdd (s : State) (n : Nat) (f : Can → Can) :
    (s.modCan n f).tdd = s.tdd := rfl
@[simp] theorem State.modCan_beam (s : State) (n : Nat) (f : Can → Can) :
    (s.modCan n f).beam = s.beam := rfl
@[simp] theorem State.modCan_beamTick (s : State) (n : Nat) (f : Can → Can) :
    (s.modCan n f).beamTick = s.beamTick := rfl
@[simp] theorem State.modCan_fsync (s : State) (n : Nat) (f : Can → Can) :
    (s.modCan n f).fsync = s.fsync := rfl
@[simp] theorem State.modCan_band (s : State) (n : Nat) (f : Can → Can) :
    (s.modCan n f).band = s.band := rfl
@[simp] theorem State.modCan_regrowth (s : State) (n : Nat) (f : Can → Can) :
    (s.modCan n f).regrowth = s.regrowth := rfl
@[simp] theorem State.modCan_npWaitSb (s : State) (n : Nat) (f : Can → Can) :
    (s.modCan n f).npWaitSb = s.npWaitSb := rfl
@[simp] theorem State.modCan_npWaitBand (s : State) (n : Nat) (f : Can → Can) :
    (s.modCan n f).npWaitBand = s.npWaitBand := rfl
@[simp] theorem State.modCan_npWaitChain (s : State) (n : Nat) (f : Can → Can) :
    (s.modCan n f).npWaitChain = s.npWaitChain := rfl
@[simp] theorem State.modCan_fe (s : State) (n : Nat) (f : Can → Can) :
    (s.modCan n f).fe = s.fe := rfl
@[simp] theorem State.modCan_pg (s : State) (n : Nat) (f : Can → Can) :
    (s.modCan n f).pg = s.pg := rfl
@[simp] theorem State.modCan_wm (s : State) (n : Nat) (f : Can → Can) :
    (s.modCan n f).wm = s.wm := rfl
@[simp] theorem State.modCan_hk (s : State) (n : Nat) (f : Can → Can) :
    (s.modCan n f).hk = s.hk := rfl
@[simp] theorem State.modCan_hkLast (s : State) (n : Nat) (f : Can → Can) :
    (s.modCan n f).hkLast = s.hkLast := rfl
@[simp] theorem State.modCan_th (s : State) (n : Nat) (f : Can → Can) :
    (s.modCan n f).th = s.th := rfl
@[simp] theorem State.modCan_link (s : State) (n : Nat) (f : Can → Can) :
    (s.modCan n f).link = s.link := rfl
@[simp] theorem State.modCan_cap (s : State) (n : Nat) (f : Can → Can) :
    (s.modCan n f).cap = s.cap := rfl
@[simp] theorem State.modCan_streams (s : State) (n : Nat) (f : Can → Can) :
    (s.modCan n f).streams = s.streams := rfl
@[simp] theorem State.modCan_jcp (s : State) (n : Nat) (f : Can → Can) :
    (s.modCan n f).jcp = s.jcp := rfl
@[simp] theorem State.modCan_flt (s : State) (n : Nat) (f : Can → Can) :
    (s.modCan n f).flt = s.flt := rfl
@[simp] theorem State.modCan_rcd (s : State) (n : Nat) (f : Can → Can) :
    (s.modCan n f).rcd = s.rcd := rfl
@[simp] theorem State.modCan_store (s : State) (n : Nat) (f : Can → Can) :
    (s.modCan n f).store = s.store := rfl
@[simp] theorem State.modCan_mem (s : State) (n : Nat) (f : Can → Can) :
    (s.modCan n f).mem = s.mem := rfl
@[simp] theorem State.modCan_twb (s : State) (n : Nat) (f : Can → Can) :
    (s.modCan n f).twb = s.twb := rfl
@[simp] theorem State.modCan_boot (s : State) (n : Nat) (f : Can → Can) :
    (s.modCan n f).boot = s.boot := rfl
@[simp] theorem State.modCan_pins (s : State) (n : Nat) (f : Can → Can) :
    (s.modCan n f).pins = s.pins := rfl

/-! `State.modGov` -/
@[simp] theorem State.modGov_now (s : State) (n : Nat) (f : Gov → Gov) :
    (s.modGov n f).now = s.now := rfl
@[simp] theorem State.modGov_divStart (s : State) (n : Nat) (f : Gov → Gov) :
    (s.modGov n f).divStart = s.divStart := rfl
@[simp] theorem State.modGov_opOfs (s : State) (n : Nat) (f : Gov → Gov) :
    (s.modGov n f).opOfs = s.opOfs := rfl
@[simp] theorem State.modGov_draws (s : State) (n : Nat) (f : Gov → Gov) :
    (s.modGov n f).draws = s.draws := rfl
@[simp] theorem State.modGov_out (s : State) (n : Nat) (f : Gov → Gov) :
    (s.modGov n f).out = s.out := rfl
@[simp] theorem State.modGov_pending (s : State) (n : Nat) (f : Gov → Gov) :
    (s.modGov n f).pending = s.pending := rfl
@[simp] theorem State.modGov_set (s : State) (n : Nat) (f : Gov → Gov) :
    (s.modGov n f).set = s.set := rfl
@[simp] theorem State.modGov_radio (s : State) (n : Nat) (f : Gov → Gov) :
    (s.modGov n f).radio = s.radio := rfl
@[simp] theorem State.modGov_cnv (s : State) (n : Nat) (f : Gov → Gov) :
    (s.modGov n f).cnv = s.cnv := rfl
@[simp] theorem State.modGov_sb (s : State) (n : Nat) (f : Gov → Gov) :
    (s.modGov n f).sb = s.sb := rfl
@[simp] theorem State.modGov_can (s : State) (n : Nat) (f : Gov → Gov) :
    (s.modGov n f).can = s.can := rfl
@[simp] theorem State.modGov_map (s : State) (n : Nat) (f : Gov → Gov) :
    (s.modGov n f).map = s.map := rfl
@[simp] theorem State.modGov_sig (s : State) (n : Nat) (f : Gov → Gov) :
    (s.modGov n f).sig = s.sig := rfl
@[simp] theorem State.modGov_txWin (s : State) (n : Nat) (f : Gov → Gov) :
    (s.modGov n f).txWin = s.txWin := rfl
@[simp] theorem State.modGov_taken (s : State) (n : Nat) (f : Gov → Gov) :
    (s.modGov n f).taken = s.taken := rfl
@[simp] theorem State.modGov_dac (s : State) (n : Nat) (f : Gov → Gov) :
    (s.modGov n f).dac = s.dac := rfl
@[simp] theorem State.modGov_gov (s : State) (n : Nat) (f : Gov → Gov) :
    (s.modGov n f).gov = Table.modify {} s.gov n f := rfl
@[simp] theorem State.modGov_ctlTick (s : State) (n : Nat) (f : Gov → Gov) :
    (s.modGov n f).ctlTick = s.ctlTick := rfl
@[simp] theorem State.modGov_loops (s : State) (n : Nat) (f : Gov → Gov) :
    (s.modGov n f).loops = s.loops := rfl
@[simp] theorem State.modGov_outers (s : State) (n : Nat) (f : Gov → Gov) :
    (s.modGov n f).outers = s.outers := rfl
@[simp] theorem State.modGov_slots (s : State) (n : Nat) (f : Gov → Gov) :
    (s.modGov n f).slots = s.slots := rfl
@[simp] theorem State.modGov_plaus (s : State) (n : Nat) (f : Gov → Gov) :
    (s.modGov n f).plaus = s.plaus := rfl
@[simp] theorem State.modGov_tdd (s : State) (n : Nat) (f : Gov → Gov) :
    (s.modGov n f).tdd = s.tdd := rfl
@[simp] theorem State.modGov_beam (s : State) (n : Nat) (f : Gov → Gov) :
    (s.modGov n f).beam = s.beam := rfl
@[simp] theorem State.modGov_beamTick (s : State) (n : Nat) (f : Gov → Gov) :
    (s.modGov n f).beamTick = s.beamTick := rfl
@[simp] theorem State.modGov_fsync (s : State) (n : Nat) (f : Gov → Gov) :
    (s.modGov n f).fsync = s.fsync := rfl
@[simp] theorem State.modGov_band (s : State) (n : Nat) (f : Gov → Gov) :
    (s.modGov n f).band = s.band := rfl
@[simp] theorem State.modGov_regrowth (s : State) (n : Nat) (f : Gov → Gov) :
    (s.modGov n f).regrowth = s.regrowth := rfl
@[simp] theorem State.modGov_npWaitSb (s : State) (n : Nat) (f : Gov → Gov) :
    (s.modGov n f).npWaitSb = s.npWaitSb := rfl
@[simp] theorem State.modGov_npWaitBand (s : State) (n : Nat) (f : Gov → Gov) :
    (s.modGov n f).npWaitBand = s.npWaitBand := rfl
@[simp] theorem State.modGov_npWaitChain (s : State) (n : Nat) (f : Gov → Gov) :
    (s.modGov n f).npWaitChain = s.npWaitChain := rfl
@[simp] theorem State.modGov_fe (s : State) (n : Nat) (f : Gov → Gov) :
    (s.modGov n f).fe = s.fe := rfl
@[simp] theorem State.modGov_pg (s : State) (n : Nat) (f : Gov → Gov) :
    (s.modGov n f).pg = s.pg := rfl
@[simp] theorem State.modGov_wm (s : State) (n : Nat) (f : Gov → Gov) :
    (s.modGov n f).wm = s.wm := rfl
@[simp] theorem State.modGov_hk (s : State) (n : Nat) (f : Gov → Gov) :
    (s.modGov n f).hk = s.hk := rfl
@[simp] theorem State.modGov_hkLast (s : State) (n : Nat) (f : Gov → Gov) :
    (s.modGov n f).hkLast = s.hkLast := rfl
@[simp] theorem State.modGov_th (s : State) (n : Nat) (f : Gov → Gov) :
    (s.modGov n f).th = s.th := rfl
@[simp] theorem State.modGov_link (s : State) (n : Nat) (f : Gov → Gov) :
    (s.modGov n f).link = s.link := rfl
@[simp] theorem State.modGov_cap (s : State) (n : Nat) (f : Gov → Gov) :
    (s.modGov n f).cap = s.cap := rfl
@[simp] theorem State.modGov_streams (s : State) (n : Nat) (f : Gov → Gov) :
    (s.modGov n f).streams = s.streams := rfl
@[simp] theorem State.modGov_jcp (s : State) (n : Nat) (f : Gov → Gov) :
    (s.modGov n f).jcp = s.jcp := rfl
@[simp] theorem State.modGov_flt (s : State) (n : Nat) (f : Gov → Gov) :
    (s.modGov n f).flt = s.flt := rfl
@[simp] theorem State.modGov_rcd (s : State) (n : Nat) (f : Gov → Gov) :
    (s.modGov n f).rcd = s.rcd := rfl
@[simp] theorem State.modGov_store (s : State) (n : Nat) (f : Gov → Gov) :
    (s.modGov n f).store = s.store := rfl
@[simp] theorem State.modGov_mem (s : State) (n : Nat) (f : Gov → Gov) :
    (s.modGov n f).mem = s.mem := rfl
@[simp] theorem State.modGov_twb (s : State) (n : Nat) (f : Gov → Gov) :
    (s.modGov n f).twb = s.twb := rfl
@[simp] theorem State.modGov_boot (s : State) (n : Nat) (f : Gov → Gov) :
    (s.modGov n f).boot = s.boot := rfl
@[simp] theorem State.modGov_pins (s : State) (n : Nat) (f : Gov → Gov) :
    (s.modGov n f).pins = s.pins := rfl

/-! `State.modCnv` -/
@[simp] theorem State.modCnv_now (s : State) (n : Nat) (f : Cnv → Cnv) :
    (s.modCnv n f).now = s.now := rfl
@[simp] theorem State.modCnv_divStart (s : State) (n : Nat) (f : Cnv → Cnv) :
    (s.modCnv n f).divStart = s.divStart := rfl
@[simp] theorem State.modCnv_opOfs (s : State) (n : Nat) (f : Cnv → Cnv) :
    (s.modCnv n f).opOfs = s.opOfs := rfl
@[simp] theorem State.modCnv_draws (s : State) (n : Nat) (f : Cnv → Cnv) :
    (s.modCnv n f).draws = s.draws := rfl
@[simp] theorem State.modCnv_out (s : State) (n : Nat) (f : Cnv → Cnv) :
    (s.modCnv n f).out = s.out := rfl
@[simp] theorem State.modCnv_pending (s : State) (n : Nat) (f : Cnv → Cnv) :
    (s.modCnv n f).pending = s.pending := rfl
@[simp] theorem State.modCnv_set (s : State) (n : Nat) (f : Cnv → Cnv) :
    (s.modCnv n f).set = s.set := rfl
@[simp] theorem State.modCnv_radio (s : State) (n : Nat) (f : Cnv → Cnv) :
    (s.modCnv n f).radio = s.radio := rfl
@[simp] theorem State.modCnv_cnv (s : State) (n : Nat) (f : Cnv → Cnv) :
    (s.modCnv n f).cnv = Table.modify {} s.cnv n f := rfl
@[simp] theorem State.modCnv_sb (s : State) (n : Nat) (f : Cnv → Cnv) :
    (s.modCnv n f).sb = s.sb := rfl
@[simp] theorem State.modCnv_can (s : State) (n : Nat) (f : Cnv → Cnv) :
    (s.modCnv n f).can = s.can := rfl
@[simp] theorem State.modCnv_map (s : State) (n : Nat) (f : Cnv → Cnv) :
    (s.modCnv n f).map = s.map := rfl
@[simp] theorem State.modCnv_sig (s : State) (n : Nat) (f : Cnv → Cnv) :
    (s.modCnv n f).sig = s.sig := rfl
@[simp] theorem State.modCnv_txWin (s : State) (n : Nat) (f : Cnv → Cnv) :
    (s.modCnv n f).txWin = s.txWin := rfl
@[simp] theorem State.modCnv_taken (s : State) (n : Nat) (f : Cnv → Cnv) :
    (s.modCnv n f).taken = s.taken := rfl
@[simp] theorem State.modCnv_dac (s : State) (n : Nat) (f : Cnv → Cnv) :
    (s.modCnv n f).dac = s.dac := rfl
@[simp] theorem State.modCnv_gov (s : State) (n : Nat) (f : Cnv → Cnv) :
    (s.modCnv n f).gov = s.gov := rfl
@[simp] theorem State.modCnv_ctlTick (s : State) (n : Nat) (f : Cnv → Cnv) :
    (s.modCnv n f).ctlTick = s.ctlTick := rfl
@[simp] theorem State.modCnv_loops (s : State) (n : Nat) (f : Cnv → Cnv) :
    (s.modCnv n f).loops = s.loops := rfl
@[simp] theorem State.modCnv_outers (s : State) (n : Nat) (f : Cnv → Cnv) :
    (s.modCnv n f).outers = s.outers := rfl
@[simp] theorem State.modCnv_slots (s : State) (n : Nat) (f : Cnv → Cnv) :
    (s.modCnv n f).slots = s.slots := rfl
@[simp] theorem State.modCnv_plaus (s : State) (n : Nat) (f : Cnv → Cnv) :
    (s.modCnv n f).plaus = s.plaus := rfl
@[simp] theorem State.modCnv_tdd (s : State) (n : Nat) (f : Cnv → Cnv) :
    (s.modCnv n f).tdd = s.tdd := rfl
@[simp] theorem State.modCnv_beam (s : State) (n : Nat) (f : Cnv → Cnv) :
    (s.modCnv n f).beam = s.beam := rfl
@[simp] theorem State.modCnv_beamTick (s : State) (n : Nat) (f : Cnv → Cnv) :
    (s.modCnv n f).beamTick = s.beamTick := rfl
@[simp] theorem State.modCnv_fsync (s : State) (n : Nat) (f : Cnv → Cnv) :
    (s.modCnv n f).fsync = s.fsync := rfl
@[simp] theorem State.modCnv_band (s : State) (n : Nat) (f : Cnv → Cnv) :
    (s.modCnv n f).band = s.band := rfl
@[simp] theorem State.modCnv_regrowth (s : State) (n : Nat) (f : Cnv → Cnv) :
    (s.modCnv n f).regrowth = s.regrowth := rfl
@[simp] theorem State.modCnv_npWaitSb (s : State) (n : Nat) (f : Cnv → Cnv) :
    (s.modCnv n f).npWaitSb = s.npWaitSb := rfl
@[simp] theorem State.modCnv_npWaitBand (s : State) (n : Nat) (f : Cnv → Cnv) :
    (s.modCnv n f).npWaitBand = s.npWaitBand := rfl
@[simp] theorem State.modCnv_npWaitChain (s : State) (n : Nat) (f : Cnv → Cnv) :
    (s.modCnv n f).npWaitChain = s.npWaitChain := rfl
@[simp] theorem State.modCnv_fe (s : State) (n : Nat) (f : Cnv → Cnv) :
    (s.modCnv n f).fe = s.fe := rfl
@[simp] theorem State.modCnv_pg (s : State) (n : Nat) (f : Cnv → Cnv) :
    (s.modCnv n f).pg = s.pg := rfl
@[simp] theorem State.modCnv_wm (s : State) (n : Nat) (f : Cnv → Cnv) :
    (s.modCnv n f).wm = s.wm := rfl
@[simp] theorem State.modCnv_hk (s : State) (n : Nat) (f : Cnv → Cnv) :
    (s.modCnv n f).hk = s.hk := rfl
@[simp] theorem State.modCnv_hkLast (s : State) (n : Nat) (f : Cnv → Cnv) :
    (s.modCnv n f).hkLast = s.hkLast := rfl
@[simp] theorem State.modCnv_th (s : State) (n : Nat) (f : Cnv → Cnv) :
    (s.modCnv n f).th = s.th := rfl
@[simp] theorem State.modCnv_link (s : State) (n : Nat) (f : Cnv → Cnv) :
    (s.modCnv n f).link = s.link := rfl
@[simp] theorem State.modCnv_cap (s : State) (n : Nat) (f : Cnv → Cnv) :
    (s.modCnv n f).cap = s.cap := rfl
@[simp] theorem State.modCnv_streams (s : State) (n : Nat) (f : Cnv → Cnv) :
    (s.modCnv n f).streams = s.streams := rfl
@[simp] theorem State.modCnv_jcp (s : State) (n : Nat) (f : Cnv → Cnv) :
    (s.modCnv n f).jcp = s.jcp := rfl
@[simp] theorem State.modCnv_flt (s : State) (n : Nat) (f : Cnv → Cnv) :
    (s.modCnv n f).flt = s.flt := rfl
@[simp] theorem State.modCnv_rcd (s : State) (n : Nat) (f : Cnv → Cnv) :
    (s.modCnv n f).rcd = s.rcd := rfl
@[simp] theorem State.modCnv_store (s : State) (n : Nat) (f : Cnv → Cnv) :
    (s.modCnv n f).store = s.store := rfl
@[simp] theorem State.modCnv_mem (s : State) (n : Nat) (f : Cnv → Cnv) :
    (s.modCnv n f).mem = s.mem := rfl
@[simp] theorem State.modCnv_twb (s : State) (n : Nat) (f : Cnv → Cnv) :
    (s.modCnv n f).twb = s.twb := rfl
@[simp] theorem State.modCnv_boot (s : State) (n : Nat) (f : Cnv → Cnv) :
    (s.modCnv n f).boot = s.boot := rfl
@[simp] theorem State.modCnv_pins (s : State) (n : Nat) (f : Cnv → Cnv) :
    (s.modCnv n f).pins = s.pins := rfl

/-! `State.modTdd` -/
@[simp] theorem State.modTdd_now (s : State) (n : Nat) (f : Tdd → Tdd) :
    (s.modTdd n f).now = s.now := rfl
@[simp] theorem State.modTdd_divStart (s : State) (n : Nat) (f : Tdd → Tdd) :
    (s.modTdd n f).divStart = s.divStart := rfl
@[simp] theorem State.modTdd_opOfs (s : State) (n : Nat) (f : Tdd → Tdd) :
    (s.modTdd n f).opOfs = s.opOfs := rfl
@[simp] theorem State.modTdd_draws (s : State) (n : Nat) (f : Tdd → Tdd) :
    (s.modTdd n f).draws = s.draws := rfl
@[simp] theorem State.modTdd_out (s : State) (n : Nat) (f : Tdd → Tdd) :
    (s.modTdd n f).out = s.out := rfl
@[simp] theorem State.modTdd_pending (s : State) (n : Nat) (f : Tdd → Tdd) :
    (s.modTdd n f).pending = s.pending := rfl
@[simp] theorem State.modTdd_set (s : State) (n : Nat) (f : Tdd → Tdd) :
    (s.modTdd n f).set = s.set := rfl
@[simp] theorem State.modTdd_radio (s : State) (n : Nat) (f : Tdd → Tdd) :
    (s.modTdd n f).radio = s.radio := rfl
@[simp] theorem State.modTdd_cnv (s : State) (n : Nat) (f : Tdd → Tdd) :
    (s.modTdd n f).cnv = s.cnv := rfl
@[simp] theorem State.modTdd_sb (s : State) (n : Nat) (f : Tdd → Tdd) :
    (s.modTdd n f).sb = s.sb := rfl
@[simp] theorem State.modTdd_can (s : State) (n : Nat) (f : Tdd → Tdd) :
    (s.modTdd n f).can = s.can := rfl
@[simp] theorem State.modTdd_map (s : State) (n : Nat) (f : Tdd → Tdd) :
    (s.modTdd n f).map = s.map := rfl
@[simp] theorem State.modTdd_sig (s : State) (n : Nat) (f : Tdd → Tdd) :
    (s.modTdd n f).sig = s.sig := rfl
@[simp] theorem State.modTdd_txWin (s : State) (n : Nat) (f : Tdd → Tdd) :
    (s.modTdd n f).txWin = s.txWin := rfl
@[simp] theorem State.modTdd_taken (s : State) (n : Nat) (f : Tdd → Tdd) :
    (s.modTdd n f).taken = s.taken := rfl
@[simp] theorem State.modTdd_dac (s : State) (n : Nat) (f : Tdd → Tdd) :
    (s.modTdd n f).dac = s.dac := rfl
@[simp] theorem State.modTdd_gov (s : State) (n : Nat) (f : Tdd → Tdd) :
    (s.modTdd n f).gov = s.gov := rfl
@[simp] theorem State.modTdd_ctlTick (s : State) (n : Nat) (f : Tdd → Tdd) :
    (s.modTdd n f).ctlTick = s.ctlTick := rfl
@[simp] theorem State.modTdd_loops (s : State) (n : Nat) (f : Tdd → Tdd) :
    (s.modTdd n f).loops = s.loops := rfl
@[simp] theorem State.modTdd_outers (s : State) (n : Nat) (f : Tdd → Tdd) :
    (s.modTdd n f).outers = s.outers := rfl
@[simp] theorem State.modTdd_slots (s : State) (n : Nat) (f : Tdd → Tdd) :
    (s.modTdd n f).slots = s.slots := rfl
@[simp] theorem State.modTdd_plaus (s : State) (n : Nat) (f : Tdd → Tdd) :
    (s.modTdd n f).plaus = s.plaus := rfl
@[simp] theorem State.modTdd_tdd (s : State) (n : Nat) (f : Tdd → Tdd) :
    (s.modTdd n f).tdd = Table.modify {} s.tdd n f := rfl
@[simp] theorem State.modTdd_beam (s : State) (n : Nat) (f : Tdd → Tdd) :
    (s.modTdd n f).beam = s.beam := rfl
@[simp] theorem State.modTdd_beamTick (s : State) (n : Nat) (f : Tdd → Tdd) :
    (s.modTdd n f).beamTick = s.beamTick := rfl
@[simp] theorem State.modTdd_fsync (s : State) (n : Nat) (f : Tdd → Tdd) :
    (s.modTdd n f).fsync = s.fsync := rfl
@[simp] theorem State.modTdd_band (s : State) (n : Nat) (f : Tdd → Tdd) :
    (s.modTdd n f).band = s.band := rfl
@[simp] theorem State.modTdd_regrowth (s : State) (n : Nat) (f : Tdd → Tdd) :
    (s.modTdd n f).regrowth = s.regrowth := rfl
@[simp] theorem State.modTdd_npWaitSb (s : State) (n : Nat) (f : Tdd → Tdd) :
    (s.modTdd n f).npWaitSb = s.npWaitSb := rfl
@[simp] theorem State.modTdd_npWaitBand (s : State) (n : Nat) (f : Tdd → Tdd) :
    (s.modTdd n f).npWaitBand = s.npWaitBand := rfl
@[simp] theorem State.modTdd_npWaitChain (s : State) (n : Nat) (f : Tdd → Tdd) :
    (s.modTdd n f).npWaitChain = s.npWaitChain := rfl
@[simp] theorem State.modTdd_fe (s : State) (n : Nat) (f : Tdd → Tdd) :
    (s.modTdd n f).fe = s.fe := rfl
@[simp] theorem State.modTdd_pg (s : State) (n : Nat) (f : Tdd → Tdd) :
    (s.modTdd n f).pg = s.pg := rfl
@[simp] theorem State.modTdd_wm (s : State) (n : Nat) (f : Tdd → Tdd) :
    (s.modTdd n f).wm = s.wm := rfl
@[simp] theorem State.modTdd_hk (s : State) (n : Nat) (f : Tdd → Tdd) :
    (s.modTdd n f).hk = s.hk := rfl
@[simp] theorem State.modTdd_hkLast (s : State) (n : Nat) (f : Tdd → Tdd) :
    (s.modTdd n f).hkLast = s.hkLast := rfl
@[simp] theorem State.modTdd_th (s : State) (n : Nat) (f : Tdd → Tdd) :
    (s.modTdd n f).th = s.th := rfl
@[simp] theorem State.modTdd_link (s : State) (n : Nat) (f : Tdd → Tdd) :
    (s.modTdd n f).link = s.link := rfl
@[simp] theorem State.modTdd_cap (s : State) (n : Nat) (f : Tdd → Tdd) :
    (s.modTdd n f).cap = s.cap := rfl
@[simp] theorem State.modTdd_streams (s : State) (n : Nat) (f : Tdd → Tdd) :
    (s.modTdd n f).streams = s.streams := rfl
@[simp] theorem State.modTdd_jcp (s : State) (n : Nat) (f : Tdd → Tdd) :
    (s.modTdd n f).jcp = s.jcp := rfl
@[simp] theorem State.modTdd_flt (s : State) (n : Nat) (f : Tdd → Tdd) :
    (s.modTdd n f).flt = s.flt := rfl
@[simp] theorem State.modTdd_rcd (s : State) (n : Nat) (f : Tdd → Tdd) :
    (s.modTdd n f).rcd = s.rcd := rfl
@[simp] theorem State.modTdd_store (s : State) (n : Nat) (f : Tdd → Tdd) :
    (s.modTdd n f).store = s.store := rfl
@[simp] theorem State.modTdd_mem (s : State) (n : Nat) (f : Tdd → Tdd) :
    (s.modTdd n f).mem = s.mem := rfl
@[simp] theorem State.modTdd_twb (s : State) (n : Nat) (f : Tdd → Tdd) :
    (s.modTdd n f).twb = s.twb := rfl
@[simp] theorem State.modTdd_boot (s : State) (n : Nat) (f : Tdd → Tdd) :
    (s.modTdd n f).boot = s.boot := rfl
@[simp] theorem State.modTdd_pins (s : State) (n : Nat) (f : Tdd → Tdd) :
    (s.modTdd n f).pins = s.pins := rfl

/-! `State.modBand` -/
@[simp] theorem State.modBand_now (s : State) (n : Nat) (f : Band → Band) :
    (s.modBand n f).now = s.now := rfl
@[simp] theorem State.modBand_divStart (s : State) (n : Nat) (f : Band → Band) :
    (s.modBand n f).divStart = s.divStart := rfl
@[simp] theorem State.modBand_opOfs (s : State) (n : Nat) (f : Band → Band) :
    (s.modBand n f).opOfs = s.opOfs := rfl
@[simp] theorem State.modBand_draws (s : State) (n : Nat) (f : Band → Band) :
    (s.modBand n f).draws = s.draws := rfl
@[simp] theorem State.modBand_out (s : State) (n : Nat) (f : Band → Band) :
    (s.modBand n f).out = s.out := rfl
@[simp] theorem State.modBand_pending (s : State) (n : Nat) (f : Band → Band) :
    (s.modBand n f).pending = s.pending := rfl
@[simp] theorem State.modBand_set (s : State) (n : Nat) (f : Band → Band) :
    (s.modBand n f).set = s.set := rfl
@[simp] theorem State.modBand_radio (s : State) (n : Nat) (f : Band → Band) :
    (s.modBand n f).radio = s.radio := rfl
@[simp] theorem State.modBand_cnv (s : State) (n : Nat) (f : Band → Band) :
    (s.modBand n f).cnv = s.cnv := rfl
@[simp] theorem State.modBand_sb (s : State) (n : Nat) (f : Band → Band) :
    (s.modBand n f).sb = s.sb := rfl
@[simp] theorem State.modBand_can (s : State) (n : Nat) (f : Band → Band) :
    (s.modBand n f).can = s.can := rfl
@[simp] theorem State.modBand_map (s : State) (n : Nat) (f : Band → Band) :
    (s.modBand n f).map = s.map := rfl
@[simp] theorem State.modBand_sig (s : State) (n : Nat) (f : Band → Band) :
    (s.modBand n f).sig = s.sig := rfl
@[simp] theorem State.modBand_txWin (s : State) (n : Nat) (f : Band → Band) :
    (s.modBand n f).txWin = s.txWin := rfl
@[simp] theorem State.modBand_taken (s : State) (n : Nat) (f : Band → Band) :
    (s.modBand n f).taken = s.taken := rfl
@[simp] theorem State.modBand_dac (s : State) (n : Nat) (f : Band → Band) :
    (s.modBand n f).dac = s.dac := rfl
@[simp] theorem State.modBand_gov (s : State) (n : Nat) (f : Band → Band) :
    (s.modBand n f).gov = s.gov := rfl
@[simp] theorem State.modBand_ctlTick (s : State) (n : Nat) (f : Band → Band) :
    (s.modBand n f).ctlTick = s.ctlTick := rfl
@[simp] theorem State.modBand_loops (s : State) (n : Nat) (f : Band → Band) :
    (s.modBand n f).loops = s.loops := rfl
@[simp] theorem State.modBand_outers (s : State) (n : Nat) (f : Band → Band) :
    (s.modBand n f).outers = s.outers := rfl
@[simp] theorem State.modBand_slots (s : State) (n : Nat) (f : Band → Band) :
    (s.modBand n f).slots = s.slots := rfl
@[simp] theorem State.modBand_plaus (s : State) (n : Nat) (f : Band → Band) :
    (s.modBand n f).plaus = s.plaus := rfl
@[simp] theorem State.modBand_tdd (s : State) (n : Nat) (f : Band → Band) :
    (s.modBand n f).tdd = s.tdd := rfl
@[simp] theorem State.modBand_beam (s : State) (n : Nat) (f : Band → Band) :
    (s.modBand n f).beam = s.beam := rfl
@[simp] theorem State.modBand_beamTick (s : State) (n : Nat) (f : Band → Band) :
    (s.modBand n f).beamTick = s.beamTick := rfl
@[simp] theorem State.modBand_fsync (s : State) (n : Nat) (f : Band → Band) :
    (s.modBand n f).fsync = s.fsync := rfl
@[simp] theorem State.modBand_band (s : State) (n : Nat) (f : Band → Band) :
    (s.modBand n f).band = Table.modify {} s.band n f := rfl
@[simp] theorem State.modBand_regrowth (s : State) (n : Nat) (f : Band → Band) :
    (s.modBand n f).regrowth = s.regrowth := rfl
@[simp] theorem State.modBand_npWaitSb (s : State) (n : Nat) (f : Band → Band) :
    (s.modBand n f).npWaitSb = s.npWaitSb := rfl
@[simp] theorem State.modBand_npWaitBand (s : State) (n : Nat) (f : Band → Band) :
    (s.modBand n f).npWaitBand = s.npWaitBand := rfl
@[simp] theorem State.modBand_npWaitChain (s : State) (n : Nat) (f : Band → Band) :
    (s.modBand n f).npWaitChain = s.npWaitChain := rfl
@[simp] theorem State.modBand_fe (s : State) (n : Nat) (f : Band → Band) :
    (s.modBand n f).fe = s.fe := rfl
@[simp] theorem State.modBand_pg (s : State) (n : Nat) (f : Band → Band) :
    (s.modBand n f).pg = s.pg := rfl
@[simp] theorem State.modBand_wm (s : State) (n : Nat) (f : Band → Band) :
    (s.modBand n f).wm = s.wm := rfl
@[simp] theorem State.modBand_hk (s : State) (n : Nat) (f : Band → Band) :
    (s.modBand n f).hk = s.hk := rfl
@[simp] theorem State.modBand_hkLast (s : State) (n : Nat) (f : Band → Band) :
    (s.modBand n f).hkLast = s.hkLast := rfl
@[simp] theorem State.modBand_th (s : State) (n : Nat) (f : Band → Band) :
    (s.modBand n f).th = s.th := rfl
@[simp] theorem State.modBand_link (s : State) (n : Nat) (f : Band → Band) :
    (s.modBand n f).link = s.link := rfl
@[simp] theorem State.modBand_cap (s : State) (n : Nat) (f : Band → Band) :
    (s.modBand n f).cap = s.cap := rfl
@[simp] theorem State.modBand_streams (s : State) (n : Nat) (f : Band → Band) :
    (s.modBand n f).streams = s.streams := rfl
@[simp] theorem State.modBand_jcp (s : State) (n : Nat) (f : Band → Band) :
    (s.modBand n f).jcp = s.jcp := rfl
@[simp] theorem State.modBand_flt (s : State) (n : Nat) (f : Band → Band) :
    (s.modBand n f).flt = s.flt := rfl
@[simp] theorem State.modBand_rcd (s : State) (n : Nat) (f : Band → Band) :
    (s.modBand n f).rcd = s.rcd := rfl
@[simp] theorem State.modBand_store (s : State) (n : Nat) (f : Band → Band) :
    (s.modBand n f).store = s.store := rfl
@[simp] theorem State.modBand_mem (s : State) (n : Nat) (f : Band → Band) :
    (s.modBand n f).mem = s.mem := rfl
@[simp] theorem State.modBand_twb (s : State) (n : Nat) (f : Band → Band) :
    (s.modBand n f).twb = s.twb := rfl
@[simp] theorem State.modBand_boot (s : State) (n : Nat) (f : Band → Band) :
    (s.modBand n f).boot = s.boot := rfl
@[simp] theorem State.modBand_pins (s : State) (n : Nat) (f : Band → Band) :
    (s.modBand n f).pins = s.pins := rfl

/-! `State.modFe` -/
@[simp] theorem State.modFe_now (s : State) (n : Nat) (f : Fe → Fe) :
    (s.modFe n f).now = s.now := rfl
@[simp] theorem State.modFe_divStart (s : State) (n : Nat) (f : Fe → Fe) :
    (s.modFe n f).divStart = s.divStart := rfl
@[simp] theorem State.modFe_opOfs (s : State) (n : Nat) (f : Fe → Fe) :
    (s.modFe n f).opOfs = s.opOfs := rfl
@[simp] theorem State.modFe_draws (s : State) (n : Nat) (f : Fe → Fe) :
    (s.modFe n f).draws = s.draws := rfl
@[simp] theorem State.modFe_out (s : State) (n : Nat) (f : Fe → Fe) :
    (s.modFe n f).out = s.out := rfl
@[simp] theorem State.modFe_pending (s : State) (n : Nat) (f : Fe → Fe) :
    (s.modFe n f).pending = s.pending := rfl
@[simp] theorem State.modFe_set (s : State) (n : Nat) (f : Fe → Fe) :
    (s.modFe n f).set = s.set := rfl
@[simp] theorem State.modFe_radio (s : State) (n : Nat) (f : Fe → Fe) :
    (s.modFe n f).radio = s.radio := rfl
@[simp] theorem State.modFe_cnv (s : State) (n : Nat) (f : Fe → Fe) :
    (s.modFe n f).cnv = s.cnv := rfl
@[simp] theorem State.modFe_sb (s : State) (n : Nat) (f : Fe → Fe) :
    (s.modFe n f).sb = s.sb := rfl
@[simp] theorem State.modFe_can (s : State) (n : Nat) (f : Fe → Fe) :
    (s.modFe n f).can = s.can := rfl
@[simp] theorem State.modFe_map (s : State) (n : Nat) (f : Fe → Fe) :
    (s.modFe n f).map = s.map := rfl
@[simp] theorem State.modFe_sig (s : State) (n : Nat) (f : Fe → Fe) :
    (s.modFe n f).sig = s.sig := rfl
@[simp] theorem State.modFe_txWin (s : State) (n : Nat) (f : Fe → Fe) :
    (s.modFe n f).txWin = s.txWin := rfl
@[simp] theorem State.modFe_taken (s : State) (n : Nat) (f : Fe → Fe) :
    (s.modFe n f).taken = s.taken := rfl
@[simp] theorem State.modFe_dac (s : State) (n : Nat) (f : Fe → Fe) :
    (s.modFe n f).dac = s.dac := rfl
@[simp] theorem State.modFe_gov (s : State) (n : Nat) (f : Fe → Fe) :
    (s.modFe n f).gov = s.gov := rfl
@[simp] theorem State.modFe_ctlTick (s : State) (n : Nat) (f : Fe → Fe) :
    (s.modFe n f).ctlTick = s.ctlTick := rfl
@[simp] theorem State.modFe_loops (s : State) (n : Nat) (f : Fe → Fe) :
    (s.modFe n f).loops = s.loops := rfl
@[simp] theorem State.modFe_outers (s : State) (n : Nat) (f : Fe → Fe) :
    (s.modFe n f).outers = s.outers := rfl
@[simp] theorem State.modFe_slots (s : State) (n : Nat) (f : Fe → Fe) :
    (s.modFe n f).slots = s.slots := rfl
@[simp] theorem State.modFe_plaus (s : State) (n : Nat) (f : Fe → Fe) :
    (s.modFe n f).plaus = s.plaus := rfl
@[simp] theorem State.modFe_tdd (s : State) (n : Nat) (f : Fe → Fe) :
    (s.modFe n f).tdd = s.tdd := rfl
@[simp] theorem State.modFe_beam (s : State) (n : Nat) (f : Fe → Fe) :
    (s.modFe n f).beam = s.beam := rfl
@[simp] theorem State.modFe_beamTick (s : State) (n : Nat) (f : Fe → Fe) :
    (s.modFe n f).beamTick = s.beamTick := rfl
@[simp] theorem State.modFe_fsync (s : State) (n : Nat) (f : Fe → Fe) :
    (s.modFe n f).fsync = s.fsync := rfl
@[simp] theorem State.modFe_band (s : State) (n : Nat) (f : Fe → Fe) :
    (s.modFe n f).band = s.band := rfl
@[simp] theorem State.modFe_regrowth (s : State) (n : Nat) (f : Fe → Fe) :
    (s.modFe n f).regrowth = s.regrowth := rfl
@[simp] theorem State.modFe_npWaitSb (s : State) (n : Nat) (f : Fe → Fe) :
    (s.modFe n f).npWaitSb = s.npWaitSb := rfl
@[simp] theorem State.modFe_npWaitBand (s : State) (n : Nat) (f : Fe → Fe) :
    (s.modFe n f).npWaitBand = s.npWaitBand := rfl
@[simp] theorem State.modFe_npWaitChain (s : State) (n : Nat) (f : Fe → Fe) :
    (s.modFe n f).npWaitChain = s.npWaitChain := rfl
@[simp] theorem State.modFe_fe (s : State) (n : Nat) (f : Fe → Fe) :
    (s.modFe n f).fe = Table.modify {} s.fe n f := rfl
@[simp] theorem State.modFe_pg (s : State) (n : Nat) (f : Fe → Fe) :
    (s.modFe n f).pg = s.pg := rfl
@[simp] theorem State.modFe_wm (s : State) (n : Nat) (f : Fe → Fe) :
    (s.modFe n f).wm = s.wm := rfl
@[simp] theorem State.modFe_hk (s : State) (n : Nat) (f : Fe → Fe) :
    (s.modFe n f).hk = s.hk := rfl
@[simp] theorem State.modFe_hkLast (s : State) (n : Nat) (f : Fe → Fe) :
    (s.modFe n f).hkLast = s.hkLast := rfl
@[simp] theorem State.modFe_th (s : State) (n : Nat) (f : Fe → Fe) :
    (s.modFe n f).th = s.th := rfl
@[simp] theorem State.modFe_link (s : State) (n : Nat) (f : Fe → Fe) :
    (s.modFe n f).link = s.link := rfl
@[simp] theorem State.modFe_cap (s : State) (n : Nat) (f : Fe → Fe) :
    (s.modFe n f).cap = s.cap := rfl
@[simp] theorem State.modFe_streams (s : State) (n : Nat) (f : Fe → Fe) :
    (s.modFe n f).streams = s.streams := rfl
@[simp] theorem State.modFe_jcp (s : State) (n : Nat) (f : Fe → Fe) :
    (s.modFe n f).jcp = s.jcp := rfl
@[simp] theorem State.modFe_flt (s : State) (n : Nat) (f : Fe → Fe) :
    (s.modFe n f).flt = s.flt := rfl
@[simp] theorem State.modFe_rcd (s : State) (n : Nat) (f : Fe → Fe) :
    (s.modFe n f).rcd = s.rcd := rfl
@[simp] theorem State.modFe_store (s : State) (n : Nat) (f : Fe → Fe) :
    (s.modFe n f).store = s.store := rfl
@[simp] theorem State.modFe_mem (s : State) (n : Nat) (f : Fe → Fe) :
    (s.modFe n f).mem = s.mem := rfl
@[simp] theorem State.modFe_twb (s : State) (n : Nat) (f : Fe → Fe) :
    (s.modFe n f).twb = s.twb := rfl
@[simp] theorem State.modFe_boot (s : State) (n : Nat) (f : Fe → Fe) :
    (s.modFe n f).boot = s.boot := rfl
@[simp] theorem State.modFe_pins (s : State) (n : Nat) (f : Fe → Fe) :
    (s.modFe n f).pins = s.pins := rfl

/-! `State.modPg` -/
@[simp] theorem State.modPg_now (s : State) (n : Nat) (f : Pg → Pg) :
    (s.modPg n f).now = s.now := rfl
@[simp] theorem State.modPg_divStart (s : State) (n : Nat) (f : Pg → Pg) :
    (s.modPg n f).divStart = s.divStart := rfl
@[simp] theorem State.modPg_opOfs (s : State) (n : Nat) (f : Pg → Pg) :
    (s.modPg n f).opOfs = s.opOfs := rfl
@[simp] theorem State.modPg_draws (s : State) (n : Nat) (f : Pg → Pg) :
    (s.modPg n f).draws = s.draws := rfl
@[simp] theorem State.modPg_out (s : State) (n : Nat) (f : Pg → Pg) :
    (s.modPg n f).out = s.out := rfl
@[simp] theorem State.modPg_pending (s : State) (n : Nat) (f : Pg → Pg) :
    (s.modPg n f).pending = s.pending := rfl
@[simp] theorem State.modPg_set (s : State) (n : Nat) (f : Pg → Pg) :
    (s.modPg n f).set = s.set := rfl
@[simp] theorem State.modPg_radio (s : State) (n : Nat) (f : Pg → Pg) :
    (s.modPg n f).radio = s.radio := rfl
@[simp] theorem State.modPg_cnv (s : State) (n : Nat) (f : Pg → Pg) :
    (s.modPg n f).cnv = s.cnv := rfl
@[simp] theorem State.modPg_sb (s : State) (n : Nat) (f : Pg → Pg) :
    (s.modPg n f).sb = s.sb := rfl
@[simp] theorem State.modPg_can (s : State) (n : Nat) (f : Pg → Pg) :
    (s.modPg n f).can = s.can := rfl
@[simp] theorem State.modPg_map (s : State) (n : Nat) (f : Pg → Pg) :
    (s.modPg n f).map = s.map := rfl
@[simp] theorem State.modPg_sig (s : State) (n : Nat) (f : Pg → Pg) :
    (s.modPg n f).sig = s.sig := rfl
@[simp] theorem State.modPg_txWin (s : State) (n : Nat) (f : Pg → Pg) :
    (s.modPg n f).txWin = s.txWin := rfl
@[simp] theorem State.modPg_taken (s : State) (n : Nat) (f : Pg → Pg) :
    (s.modPg n f).taken = s.taken := rfl
@[simp] theorem State.modPg_dac (s : State) (n : Nat) (f : Pg → Pg) :
    (s.modPg n f).dac = s.dac := rfl
@[simp] theorem State.modPg_gov (s : State) (n : Nat) (f : Pg → Pg) :
    (s.modPg n f).gov = s.gov := rfl
@[simp] theorem State.modPg_ctlTick (s : State) (n : Nat) (f : Pg → Pg) :
    (s.modPg n f).ctlTick = s.ctlTick := rfl
@[simp] theorem State.modPg_loops (s : State) (n : Nat) (f : Pg → Pg) :
    (s.modPg n f).loops = s.loops := rfl
@[simp] theorem State.modPg_outers (s : State) (n : Nat) (f : Pg → Pg) :
    (s.modPg n f).outers = s.outers := rfl
@[simp] theorem State.modPg_slots (s : State) (n : Nat) (f : Pg → Pg) :
    (s.modPg n f).slots = s.slots := rfl
@[simp] theorem State.modPg_plaus (s : State) (n : Nat) (f : Pg → Pg) :
    (s.modPg n f).plaus = s.plaus := rfl
@[simp] theorem State.modPg_tdd (s : State) (n : Nat) (f : Pg → Pg) :
    (s.modPg n f).tdd = s.tdd := rfl
@[simp] theorem State.modPg_beam (s : State) (n : Nat) (f : Pg → Pg) :
    (s.modPg n f).beam = s.beam := rfl
@[simp] theorem State.modPg_beamTick (s : State) (n : Nat) (f : Pg → Pg) :
    (s.modPg n f).beamTick = s.beamTick := rfl
@[simp] theorem State.modPg_fsync (s : State) (n : Nat) (f : Pg → Pg) :
    (s.modPg n f).fsync = s.fsync := rfl
@[simp] theorem State.modPg_band (s : State) (n : Nat) (f : Pg → Pg) :
    (s.modPg n f).band = s.band := rfl
@[simp] theorem State.modPg_regrowth (s : State) (n : Nat) (f : Pg → Pg) :
    (s.modPg n f).regrowth = s.regrowth := rfl
@[simp] theorem State.modPg_npWaitSb (s : State) (n : Nat) (f : Pg → Pg) :
    (s.modPg n f).npWaitSb = s.npWaitSb := rfl
@[simp] theorem State.modPg_npWaitBand (s : State) (n : Nat) (f : Pg → Pg) :
    (s.modPg n f).npWaitBand = s.npWaitBand := rfl
@[simp] theorem State.modPg_npWaitChain (s : State) (n : Nat) (f : Pg → Pg) :
    (s.modPg n f).npWaitChain = s.npWaitChain := rfl
@[simp] theorem State.modPg_fe (s : State) (n : Nat) (f : Pg → Pg) :
    (s.modPg n f).fe = s.fe := rfl
@[simp] theorem State.modPg_pg (s : State) (n : Nat) (f : Pg → Pg) :
    (s.modPg n f).pg = Table.modify {} s.pg n f := rfl
@[simp] theorem State.modPg_wm (s : State) (n : Nat) (f : Pg → Pg) :
    (s.modPg n f).wm = s.wm := rfl
@[simp] theorem State.modPg_hk (s : State) (n : Nat) (f : Pg → Pg) :
    (s.modPg n f).hk = s.hk := rfl
@[simp] theorem State.modPg_hkLast (s : State) (n : Nat) (f : Pg → Pg) :
    (s.modPg n f).hkLast = s.hkLast := rfl
@[simp] theorem State.modPg_th (s : State) (n : Nat) (f : Pg → Pg) :
    (s.modPg n f).th = s.th := rfl
@[simp] theorem State.modPg_link (s : State) (n : Nat) (f : Pg → Pg) :
    (s.modPg n f).link = s.link := rfl
@[simp] theorem State.modPg_cap (s : State) (n : Nat) (f : Pg → Pg) :
    (s.modPg n f).cap = s.cap := rfl
@[simp] theorem State.modPg_streams (s : State) (n : Nat) (f : Pg → Pg) :
    (s.modPg n f).streams = s.streams := rfl
@[simp] theorem State.modPg_jcp (s : State) (n : Nat) (f : Pg → Pg) :
    (s.modPg n f).jcp = s.jcp := rfl
@[simp] theorem State.modPg_flt (s : State) (n : Nat) (f : Pg → Pg) :
    (s.modPg n f).flt = s.flt := rfl
@[simp] theorem State.modPg_rcd (s : State) (n : Nat) (f : Pg → Pg) :
    (s.modPg n f).rcd = s.rcd := rfl
@[simp] theorem State.modPg_store (s : State) (n : Nat) (f : Pg → Pg) :
    (s.modPg n f).store = s.store := rfl
@[simp] theorem State.modPg_mem (s : State) (n : Nat) (f : Pg → Pg) :
    (s.modPg n f).mem = s.mem := rfl
@[simp] theorem State.modPg_twb (s : State) (n : Nat) (f : Pg → Pg) :
    (s.modPg n f).twb = s.twb := rfl
@[simp] theorem State.modPg_boot (s : State) (n : Nat) (f : Pg → Pg) :
    (s.modPg n f).boot = s.boot := rfl
@[simp] theorem State.modPg_pins (s : State) (n : Nat) (f : Pg → Pg) :
    (s.modPg n f).pins = s.pins := rfl

/-! `State.modTwb` -/
@[simp] theorem State.modTwb_now (s : State) (n : Nat) (f : Twb → Twb) :
    (s.modTwb n f).now = s.now := rfl
@[simp] theorem State.modTwb_divStart (s : State) (n : Nat) (f : Twb → Twb) :
    (s.modTwb n f).divStart = s.divStart := rfl
@[simp] theorem State.modTwb_opOfs (s : State) (n : Nat) (f : Twb → Twb) :
    (s.modTwb n f).opOfs = s.opOfs := rfl
@[simp] theorem State.modTwb_draws (s : State) (n : Nat) (f : Twb → Twb) :
    (s.modTwb n f).draws = s.draws := rfl
@[simp] theorem State.modTwb_out (s : State) (n : Nat) (f : Twb → Twb) :
    (s.modTwb n f).out = s.out := rfl
@[simp] theorem State.modTwb_pending (s : State) (n : Nat) (f : Twb → Twb) :
    (s.modTwb n f).pending = s.pending := rfl
@[simp] theorem State.modTwb_set (s : State) (n : Nat) (f : Twb → Twb) :
    (s.modTwb n f).set = s.set := rfl
@[simp] theorem State.modTwb_radio (s : State) (n : Nat) (f : Twb → Twb) :
    (s.modTwb n f).radio = s.radio := rfl
@[simp] theorem State.modTwb_cnv (s : State) (n : Nat) (f : Twb → Twb) :
    (s.modTwb n f).cnv = s.cnv := rfl
@[simp] theorem State.modTwb_sb (s : State) (n : Nat) (f : Twb → Twb) :
    (s.modTwb n f).sb = s.sb := rfl
@[simp] theorem State.modTwb_can (s : State) (n : Nat) (f : Twb → Twb) :
    (s.modTwb n f).can = s.can := rfl
@[simp] theorem State.modTwb_map (s : State) (n : Nat) (f : Twb → Twb) :
    (s.modTwb n f).map = s.map := rfl
@[simp] theorem State.modTwb_sig (s : State) (n : Nat) (f : Twb → Twb) :
    (s.modTwb n f).sig = s.sig := rfl
@[simp] theorem State.modTwb_txWin (s : State) (n : Nat) (f : Twb → Twb) :
    (s.modTwb n f).txWin = s.txWin := rfl
@[simp] theorem State.modTwb_taken (s : State) (n : Nat) (f : Twb → Twb) :
    (s.modTwb n f).taken = s.taken := rfl
@[simp] theorem State.modTwb_dac (s : State) (n : Nat) (f : Twb → Twb) :
    (s.modTwb n f).dac = s.dac := rfl
@[simp] theorem State.modTwb_gov (s : State) (n : Nat) (f : Twb → Twb) :
    (s.modTwb n f).gov = s.gov := rfl
@[simp] theorem State.modTwb_ctlTick (s : State) (n : Nat) (f : Twb → Twb) :
    (s.modTwb n f).ctlTick = s.ctlTick := rfl
@[simp] theorem State.modTwb_loops (s : State) (n : Nat) (f : Twb → Twb) :
    (s.modTwb n f).loops = s.loops := rfl
@[simp] theorem State.modTwb_outers (s : State) (n : Nat) (f : Twb → Twb) :
    (s.modTwb n f).outers = s.outers := rfl
@[simp] theorem State.modTwb_slots (s : State) (n : Nat) (f : Twb → Twb) :
    (s.modTwb n f).slots = s.slots := rfl
@[simp] theorem State.modTwb_plaus (s : State) (n : Nat) (f : Twb → Twb) :
    (s.modTwb n f).plaus = s.plaus := rfl
@[simp] theorem State.modTwb_tdd (s : State) (n : Nat) (f : Twb → Twb) :
    (s.modTwb n f).tdd = s.tdd := rfl
@[simp] theorem State.modTwb_beam (s : State) (n : Nat) (f : Twb → Twb) :
    (s.modTwb n f).beam = s.beam := rfl
@[simp] theorem State.modTwb_beamTick (s : State) (n : Nat) (f : Twb → Twb) :
    (s.modTwb n f).beamTick = s.beamTick := rfl
@[simp] theorem State.modTwb_fsync (s : State) (n : Nat) (f : Twb → Twb) :
    (s.modTwb n f).fsync = s.fsync := rfl
@[simp] theorem State.modTwb_band (s : State) (n : Nat) (f : Twb → Twb) :
    (s.modTwb n f).band = s.band := rfl
@[simp] theorem State.modTwb_regrowth (s : State) (n : Nat) (f : Twb → Twb) :
    (s.modTwb n f).regrowth = s.regrowth := rfl
@[simp] theorem State.modTwb_npWaitSb (s : State) (n : Nat) (f : Twb → Twb) :
    (s.modTwb n f).npWaitSb = s.npWaitSb := rfl
@[simp] theorem State.modTwb_npWaitBand (s : State) (n : Nat) (f : Twb → Twb) :
    (s.modTwb n f).npWaitBand = s.npWaitBand := rfl
@[simp] theorem State.modTwb_npWaitChain (s : State) (n : Nat) (f : Twb → Twb) :
    (s.modTwb n f).npWaitChain = s.npWaitChain := rfl
@[simp] theorem State.modTwb_fe (s : State) (n : Nat) (f : Twb → Twb) :
    (s.modTwb n f).fe = s.fe := rfl
@[simp] theorem State.modTwb_pg (s : State) (n : Nat) (f : Twb → Twb) :
    (s.modTwb n f).pg = s.pg := rfl
@[simp] theorem State.modTwb_wm (s : State) (n : Nat) (f : Twb → Twb) :
    (s.modTwb n f).wm = s.wm := rfl
@[simp] theorem State.modTwb_hk (s : State) (n : Nat) (f : Twb → Twb) :
    (s.modTwb n f).hk = s.hk := rfl
@[simp] theorem State.modTwb_hkLast (s : State) (n : Nat) (f : Twb → Twb) :
    (s.modTwb n f).hkLast = s.hkLast := rfl
@[simp] theorem State.modTwb_th (s : State) (n : Nat) (f : Twb → Twb) :
    (s.modTwb n f).th = s.th := rfl
@[simp] theorem State.modTwb_link (s : State) (n : Nat) (f : Twb → Twb) :
    (s.modTwb n f).link = s.link := rfl
@[simp] theorem State.modTwb_cap (s : State) (n : Nat) (f : Twb → Twb) :
    (s.modTwb n f).cap = s.cap := rfl
@[simp] theorem State.modTwb_streams (s : State) (n : Nat) (f : Twb → Twb) :
    (s.modTwb n f).streams = s.streams := rfl
@[simp] theorem State.modTwb_jcp (s : State) (n : Nat) (f : Twb → Twb) :
    (s.modTwb n f).jcp = s.jcp := rfl
@[simp] theorem State.modTwb_flt (s : State) (n : Nat) (f : Twb → Twb) :
    (s.modTwb n f).flt = s.flt := rfl
@[simp] theorem State.modTwb_rcd (s : State) (n : Nat) (f : Twb → Twb) :
    (s.modTwb n f).rcd = s.rcd := rfl
@[simp] theorem State.modTwb_store (s : State) (n : Nat) (f : Twb → Twb) :
    (s.modTwb n f).store = s.store := rfl
@[simp] theorem State.modTwb_mem (s : State) (n : Nat) (f : Twb → Twb) :
    (s.modTwb n f).mem = s.mem := rfl
@[simp] theorem State.modTwb_twb (s : State) (n : Nat) (f : Twb → Twb) :
    (s.modTwb n f).twb = Table.modify {} s.twb n f := rfl
@[simp] theorem State.modTwb_boot (s : State) (n : Nat) (f : Twb → Twb) :
    (s.modTwb n f).boot = s.boot := rfl
@[simp] theorem State.modTwb_pins (s : State) (n : Nat) (f : Twb → Twb) :
    (s.modTwb n f).pins = s.pins := rfl

/-! `State.modFlt` -/
@[simp] theorem State.modFlt_now (s : State) (f : Flt → Flt) :
    (s.modFlt f).now = s.now := rfl
@[simp] theorem State.modFlt_divStart (s : State) (f : Flt → Flt) :
    (s.modFlt f).divStart = s.divStart := rfl
@[simp] theorem State.modFlt_opOfs (s : State) (f : Flt → Flt) :
    (s.modFlt f).opOfs = s.opOfs := rfl
@[simp] theorem State.modFlt_draws (s : State) (f : Flt → Flt) :
    (s.modFlt f).draws = s.draws := rfl
@[simp] theorem State.modFlt_out (s : State) (f : Flt → Flt) :
    (s.modFlt f).out = s.out := rfl
@[simp] theorem State.modFlt_pending (s : State) (f : Flt → Flt) :
    (s.modFlt f).pending = s.pending := rfl
@[simp] theorem State.modFlt_set (s : State) (f : Flt → Flt) :
    (s.modFlt f).set = s.set := rfl
@[simp] theorem State.modFlt_radio (s : State) (f : Flt → Flt) :
    (s.modFlt f).radio = s.radio := rfl
@[simp] theorem State.modFlt_cnv (s : State) (f : Flt → Flt) :
    (s.modFlt f).cnv = s.cnv := rfl
@[simp] theorem State.modFlt_sb (s : State) (f : Flt → Flt) :
    (s.modFlt f).sb = s.sb := rfl
@[simp] theorem State.modFlt_can (s : State) (f : Flt → Flt) :
    (s.modFlt f).can = s.can := rfl
@[simp] theorem State.modFlt_map (s : State) (f : Flt → Flt) :
    (s.modFlt f).map = s.map := rfl
@[simp] theorem State.modFlt_sig (s : State) (f : Flt → Flt) :
    (s.modFlt f).sig = s.sig := rfl
@[simp] theorem State.modFlt_txWin (s : State) (f : Flt → Flt) :
    (s.modFlt f).txWin = s.txWin := rfl
@[simp] theorem State.modFlt_taken (s : State) (f : Flt → Flt) :
    (s.modFlt f).taken = s.taken := rfl
@[simp] theorem State.modFlt_dac (s : State) (f : Flt → Flt) :
    (s.modFlt f).dac = s.dac := rfl
@[simp] theorem State.modFlt_gov (s : State) (f : Flt → Flt) :
    (s.modFlt f).gov = s.gov := rfl
@[simp] theorem State.modFlt_ctlTick (s : State) (f : Flt → Flt) :
    (s.modFlt f).ctlTick = s.ctlTick := rfl
@[simp] theorem State.modFlt_loops (s : State) (f : Flt → Flt) :
    (s.modFlt f).loops = s.loops := rfl
@[simp] theorem State.modFlt_outers (s : State) (f : Flt → Flt) :
    (s.modFlt f).outers = s.outers := rfl
@[simp] theorem State.modFlt_slots (s : State) (f : Flt → Flt) :
    (s.modFlt f).slots = s.slots := rfl
@[simp] theorem State.modFlt_plaus (s : State) (f : Flt → Flt) :
    (s.modFlt f).plaus = s.plaus := rfl
@[simp] theorem State.modFlt_tdd (s : State) (f : Flt → Flt) :
    (s.modFlt f).tdd = s.tdd := rfl
@[simp] theorem State.modFlt_beam (s : State) (f : Flt → Flt) :
    (s.modFlt f).beam = s.beam := rfl
@[simp] theorem State.modFlt_beamTick (s : State) (f : Flt → Flt) :
    (s.modFlt f).beamTick = s.beamTick := rfl
@[simp] theorem State.modFlt_fsync (s : State) (f : Flt → Flt) :
    (s.modFlt f).fsync = s.fsync := rfl
@[simp] theorem State.modFlt_band (s : State) (f : Flt → Flt) :
    (s.modFlt f).band = s.band := rfl
@[simp] theorem State.modFlt_regrowth (s : State) (f : Flt → Flt) :
    (s.modFlt f).regrowth = s.regrowth := rfl
@[simp] theorem State.modFlt_npWaitSb (s : State) (f : Flt → Flt) :
    (s.modFlt f).npWaitSb = s.npWaitSb := rfl
@[simp] theorem State.modFlt_npWaitBand (s : State) (f : Flt → Flt) :
    (s.modFlt f).npWaitBand = s.npWaitBand := rfl
@[simp] theorem State.modFlt_npWaitChain (s : State) (f : Flt → Flt) :
    (s.modFlt f).npWaitChain = s.npWaitChain := rfl
@[simp] theorem State.modFlt_fe (s : State) (f : Flt → Flt) :
    (s.modFlt f).fe = s.fe := rfl
@[simp] theorem State.modFlt_pg (s : State) (f : Flt → Flt) :
    (s.modFlt f).pg = s.pg := rfl
@[simp] theorem State.modFlt_wm (s : State) (f : Flt → Flt) :
    (s.modFlt f).wm = s.wm := rfl
@[simp] theorem State.modFlt_hk (s : State) (f : Flt → Flt) :
    (s.modFlt f).hk = s.hk := rfl
@[simp] theorem State.modFlt_hkLast (s : State) (f : Flt → Flt) :
    (s.modFlt f).hkLast = s.hkLast := rfl
@[simp] theorem State.modFlt_th (s : State) (f : Flt → Flt) :
    (s.modFlt f).th = s.th := rfl
@[simp] theorem State.modFlt_link (s : State) (f : Flt → Flt) :
    (s.modFlt f).link = s.link := rfl
@[simp] theorem State.modFlt_cap (s : State) (f : Flt → Flt) :
    (s.modFlt f).cap = s.cap := rfl
@[simp] theorem State.modFlt_streams (s : State) (f : Flt → Flt) :
    (s.modFlt f).streams = s.streams := rfl
@[simp] theorem State.modFlt_jcp (s : State) (f : Flt → Flt) :
    (s.modFlt f).jcp = s.jcp := rfl
@[simp] theorem State.modFlt_flt (s : State) (f : Flt → Flt) :
    (s.modFlt f).flt = f s.flt := rfl
@[simp] theorem State.modFlt_rcd (s : State) (f : Flt → Flt) :
    (s.modFlt f).rcd = s.rcd := rfl
@[simp] theorem State.modFlt_store (s : State) (f : Flt → Flt) :
    (s.modFlt f).store = s.store := rfl
@[simp] theorem State.modFlt_mem (s : State) (f : Flt → Flt) :
    (s.modFlt f).mem = s.mem := rfl
@[simp] theorem State.modFlt_twb (s : State) (f : Flt → Flt) :
    (s.modFlt f).twb = s.twb := rfl
@[simp] theorem State.modFlt_boot (s : State) (f : Flt → Flt) :
    (s.modFlt f).boot = s.boot := rfl
@[simp] theorem State.modFlt_pins (s : State) (f : Flt → Flt) :
    (s.modFlt f).pins = s.pins := rfl

/-! `State.modRec` -/
@[simp] theorem State.modRec_now (s : State) (f : Rec → Rec) :
    (s.modRec f).now = s.now := rfl
@[simp] theorem State.modRec_divStart (s : State) (f : Rec → Rec) :
    (s.modRec f).divStart = s.divStart := rfl
@[simp] theorem State.modRec_opOfs (s : State) (f : Rec → Rec) :
    (s.modRec f).opOfs = s.opOfs := rfl
@[simp] theorem State.modRec_draws (s : State) (f : Rec → Rec) :
    (s.modRec f).draws = s.draws := rfl
@[simp] theorem State.modRec_out (s : State) (f : Rec → Rec) :
    (s.modRec f).out = s.out := rfl
@[simp] theorem State.modRec_pending (s : State) (f : Rec → Rec) :
    (s.modRec f).pending = s.pending := rfl
@[simp] theorem State.modRec_set (s : State) (f : Rec → Rec) :
    (s.modRec f).set = s.set := rfl
@[simp] theorem State.modRec_radio (s : State) (f : Rec → Rec) :
    (s.modRec f).radio = s.radio := rfl
@[simp] theorem State.modRec_cnv (s : State) (f : Rec → Rec) :
    (s.modRec f).cnv = s.cnv := rfl
@[simp] theorem State.modRec_sb (s : State) (f : Rec → Rec) :
    (s.modRec f).sb = s.sb := rfl
@[simp] theorem State.modRec_can (s : State) (f : Rec → Rec) :
    (s.modRec f).can = s.can := rfl
@[simp] theorem State.modRec_map (s : State) (f : Rec → Rec) :
    (s.modRec f).map = s.map := rfl
@[simp] theorem State.modRec_sig (s : State) (f : Rec → Rec) :
    (s.modRec f).sig = s.sig := rfl
@[simp] theorem State.modRec_txWin (s : State) (f : Rec → Rec) :
    (s.modRec f).txWin = s.txWin := rfl
@[simp] theorem State.modRec_taken (s : State) (f : Rec → Rec) :
    (s.modRec f).taken = s.taken := rfl
@[simp] theorem State.modRec_dac (s : State) (f : Rec → Rec) :
    (s.modRec f).dac = s.dac := rfl
@[simp] theorem State.modRec_gov (s : State) (f : Rec → Rec) :
    (s.modRec f).gov = s.gov := rfl
@[simp] theorem State.modRec_ctlTick (s : State) (f : Rec → Rec) :
    (s.modRec f).ctlTick = s.ctlTick := rfl
@[simp] theorem State.modRec_loops (s : State) (f : Rec → Rec) :
    (s.modRec f).loops = s.loops := rfl
@[simp] theorem State.modRec_outers (s : State) (f : Rec → Rec) :
    (s.modRec f).outers = s.outers := rfl
@[simp] theorem State.modRec_slots (s : State) (f : Rec → Rec) :
    (s.modRec f).slots = s.slots := rfl
@[simp] theorem State.modRec_plaus (s : State) (f : Rec → Rec) :
    (s.modRec f).plaus = s.plaus := rfl
@[simp] theorem State.modRec_tdd (s : State) (f : Rec → Rec) :
    (s.modRec f).tdd = s.tdd := rfl
@[simp] theorem State.modRec_beam (s : State) (f : Rec → Rec) :
    (s.modRec f).beam = s.beam := rfl
@[simp] theorem State.modRec_beamTick (s : State) (f : Rec → Rec) :
    (s.modRec f).beamTick = s.beamTick := rfl
@[simp] theorem State.modRec_fsync (s : State) (f : Rec → Rec) :
    (s.modRec f).fsync = s.fsync := rfl
@[simp] theorem State.modRec_band (s : State) (f : Rec → Rec) :
    (s.modRec f).band = s.band := rfl
@[simp] theorem State.modRec_regrowth (s : State) (f : Rec → Rec) :
    (s.modRec f).regrowth = s.regrowth := rfl
@[simp] theorem State.modRec_npWaitSb (s : State) (f : Rec → Rec) :
    (s.modRec f).npWaitSb = s.npWaitSb := rfl
@[simp] theorem State.modRec_npWaitBand (s : State) (f : Rec → Rec) :
    (s.modRec f).npWaitBand = s.npWaitBand := rfl
@[simp] theorem State.modRec_npWaitChain (s : State) (f : Rec → Rec) :
    (s.modRec f).npWaitChain = s.npWaitChain := rfl
@[simp] theorem State.modRec_fe (s : State) (f : Rec → Rec) :
    (s.modRec f).fe = s.fe := rfl
@[simp] theorem State.modRec_pg (s : State) (f : Rec → Rec) :
    (s.modRec f).pg = s.pg := rfl
@[simp] theorem State.modRec_wm (s : State) (f : Rec → Rec) :
    (s.modRec f).wm = s.wm := rfl
@[simp] theorem State.modRec_hk (s : State) (f : Rec → Rec) :
    (s.modRec f).hk = s.hk := rfl
@[simp] theorem State.modRec_hkLast (s : State) (f : Rec → Rec) :
    (s.modRec f).hkLast = s.hkLast := rfl
@[simp] theorem State.modRec_th (s : State) (f : Rec → Rec) :
    (s.modRec f).th = s.th := rfl
@[simp] theorem State.modRec_link (s : State) (f : Rec → Rec) :
    (s.modRec f).link = s.link := rfl
@[simp] theorem State.modRec_cap (s : State) (f : Rec → Rec) :
    (s.modRec f).cap = s.cap := rfl
@[simp] theorem State.modRec_streams (s : State) (f : Rec → Rec) :
    (s.modRec f).streams = s.streams := rfl
@[simp] theorem State.modRec_jcp (s : State) (f : Rec → Rec) :
    (s.modRec f).jcp = s.jcp := rfl
@[simp] theorem State.modRec_flt (s : State) (f : Rec → Rec) :
    (s.modRec f).flt = s.flt := rfl
@[simp] theorem State.modRec_rcd (s : State) (f : Rec → Rec) :
    (s.modRec f).rcd = f s.rcd := rfl
@[simp] theorem State.modRec_store (s : State) (f : Rec → Rec) :
    (s.modRec f).store = s.store := rfl
@[simp] theorem State.modRec_mem (s : State) (f : Rec → Rec) :
    (s.modRec f).mem = s.mem := rfl
@[simp] theorem State.modRec_twb (s : State) (f : Rec → Rec) :
    (s.modRec f).twb = s.twb := rfl
@[simp] theorem State.modRec_boot (s : State) (f : Rec → Rec) :
    (s.modRec f).boot = s.boot := rfl
@[simp] theorem State.modRec_pins (s : State) (f : Rec → Rec) :
    (s.modRec f).pins = s.pins := rfl

/-! `State.setRadio` -/
@[simp] theorem State.setRadio_now (s : State) (f : Radio → Radio) :
    (s.setRadio f).now = s.now := rfl
@[simp] theorem State.setRadio_divStart (s : State) (f : Radio → Radio) :
    (s.setRadio f).divStart = s.divStart := rfl
@[simp] theorem State.setRadio_opOfs (s : State) (f : Radio → Radio) :
    (s.setRadio f).opOfs = s.opOfs := rfl
@[simp] theorem State.setRadio_draws (s : State) (f : Radio → Radio) :
    (s.setRadio f).draws = s.draws := rfl
@[simp] theorem State.setRadio_out (s : State) (f : Radio → Radio) :
    (s.setRadio f).out = s.out := rfl
@[simp] theorem State.setRadio_pending (s : State) (f : Radio → Radio) :
    (s.setRadio f).pending = s.pending := rfl
@[simp] theorem State.setRadio_set (s : State) (f : Radio → Radio) :
    (s.setRadio f).set = s.set := rfl
@[simp] theorem State.setRadio_radio (s : State) (f : Radio → Radio) :
    (s.setRadio f).radio = f s.radio := rfl
@[simp] theorem State.setRadio_cnv (s : State) (f : Radio → Radio) :
    (s.setRadio f).cnv = s.cnv := rfl
@[simp] theorem State.setRadio_sb (s : State) (f : Radio → Radio) :
    (s.setRadio f).sb = s.sb := rfl
@[simp] theorem State.setRadio_can (s : State) (f : Radio → Radio) :
    (s.setRadio f).can = s.can := rfl
@[simp] theorem State.setRadio_map (s : State) (f : Radio → Radio) :
    (s.setRadio f).map = s.map := rfl
@[simp] theorem State.setRadio_sig (s : State) (f : Radio → Radio) :
    (s.setRadio f).sig = s.sig := rfl
@[simp] theorem State.setRadio_txWin (s : State) (f : Radio → Radio) :
    (s.setRadio f).txWin = s.txWin := rfl
@[simp] theorem State.setRadio_taken (s : State) (f : Radio → Radio) :
    (s.setRadio f).taken = s.taken := rfl
@[simp] theorem State.setRadio_dac (s : State) (f : Radio → Radio) :
    (s.setRadio f).dac = s.dac := rfl
@[simp] theorem State.setRadio_gov (s : State) (f : Radio → Radio) :
    (s.setRadio f).gov = s.gov := rfl
@[simp] theorem State.setRadio_ctlTick (s : State) (f : Radio → Radio) :
    (s.setRadio f).ctlTick = s.ctlTick := rfl
@[simp] theorem State.setRadio_loops (s : State) (f : Radio → Radio) :
    (s.setRadio f).loops = s.loops := rfl
@[simp] theorem State.setRadio_outers (s : State) (f : Radio → Radio) :
    (s.setRadio f).outers = s.outers := rfl
@[simp] theorem State.setRadio_slots (s : State) (f : Radio → Radio) :
    (s.setRadio f).slots = s.slots := rfl
@[simp] theorem State.setRadio_plaus (s : State) (f : Radio → Radio) :
    (s.setRadio f).plaus = s.plaus := rfl
@[simp] theorem State.setRadio_tdd (s : State) (f : Radio → Radio) :
    (s.setRadio f).tdd = s.tdd := rfl
@[simp] theorem State.setRadio_beam (s : State) (f : Radio → Radio) :
    (s.setRadio f).beam = s.beam := rfl
@[simp] theorem State.setRadio_beamTick (s : State) (f : Radio → Radio) :
    (s.setRadio f).beamTick = s.beamTick := rfl
@[simp] theorem State.setRadio_fsync (s : State) (f : Radio → Radio) :
    (s.setRadio f).fsync = s.fsync := rfl
@[simp] theorem State.setRadio_band (s : State) (f : Radio → Radio) :
    (s.setRadio f).band = s.band := rfl
@[simp] theorem State.setRadio_regrowth (s : State) (f : Radio → Radio) :
    (s.setRadio f).regrowth = s.regrowth := rfl
@[simp] theorem State.setRadio_npWaitSb (s : State) (f : Radio → Radio) :
    (s.setRadio f).npWaitSb = s.npWaitSb := rfl
@[simp] theorem State.setRadio_npWaitBand (s : State) (f : Radio → Radio) :
    (s.setRadio f).npWaitBand = s.npWaitBand := rfl
@[simp] theorem State.setRadio_npWaitChain (s : State) (f : Radio → Radio) :
    (s.setRadio f).npWaitChain = s.npWaitChain := rfl
@[simp] theorem State.setRadio_fe (s : State) (f : Radio → Radio) :
    (s.setRadio f).fe = s.fe := rfl
@[simp] theorem State.setRadio_pg (s : State) (f : Radio → Radio) :
    (s.setRadio f).pg = s.pg := rfl
@[simp] theorem State.setRadio_wm (s : State) (f : Radio → Radio) :
    (s.setRadio f).wm = s.wm := rfl
@[simp] theorem State.setRadio_hk (s : State) (f : Radio → Radio) :
    (s.setRadio f).hk = s.hk := rfl
@[simp] theorem State.setRadio_hkLast (s : State) (f : Radio → Radio) :
    (s.setRadio f).hkLast = s.hkLast := rfl
@[simp] theorem State.setRadio_th (s : State) (f : Radio → Radio) :
    (s.setRadio f).th = s.th := rfl
@[simp] theorem State.setRadio_link (s : State) (f : Radio → Radio) :
    (s.setRadio f).link = s.link := rfl
@[simp] theorem State.setRadio_cap (s : State) (f : Radio → Radio) :
    (s.setRadio f).cap = s.cap := rfl
@[simp] theorem State.setRadio_streams (s : State) (f : Radio → Radio) :
    (s.setRadio f).streams = s.streams := rfl
@[simp] theorem State.setRadio_jcp (s : State) (f : Radio → Radio) :
    (s.setRadio f).jcp = s.jcp := rfl
@[simp] theorem State.setRadio_flt (s : State) (f : Radio → Radio) :
    (s.setRadio f).flt = s.flt := rfl
@[simp] theorem State.setRadio_rcd (s : State) (f : Radio → Radio) :
    (s.setRadio f).rcd = s.rcd := rfl
@[simp] theorem State.setRadio_store (s : State) (f : Radio → Radio) :
    (s.setRadio f).store = s.store := rfl
@[simp] theorem State.setRadio_mem (s : State) (f : Radio → Radio) :
    (s.setRadio f).mem = s.mem := rfl
@[simp] theorem State.setRadio_twb (s : State) (f : Radio → Radio) :
    (s.setRadio f).twb = s.twb := rfl
@[simp] theorem State.setRadio_boot (s : State) (f : Radio → Radio) :
    (s.setRadio f).boot = s.boot := rfl
@[simp] theorem State.setRadio_pins (s : State) (f : Radio → Radio) :
    (s.setRadio f).pins = s.pins := rfl

/-! `State.modTh` -/
@[simp] theorem State.modTh_now (s : State) (f : Th → Th) :
    (s.modTh f).now = s.now := rfl
@[simp] theorem State.modTh_divStart (s : State) (f : Th → Th) :
    (s.modTh f).divStart = s.divStart := rfl
@[simp] theorem State.modTh_opOfs (s : State) (f : Th → Th) :
    (s.modTh f).opOfs = s.opOfs := rfl
@[simp] theorem State.modTh_draws (s : State) (f : Th → Th) :
    (s.modTh f).draws = s.draws := rfl
@[simp] theorem State.modTh_out (s : State) (f : Th → Th) :
    (s.modTh f).out = s.out := rfl
@[simp] theorem State.modTh_pending (s : State) (f : Th → Th) :
    (s.modTh f).pending = s.pending := rfl
@[simp] theorem State.modTh_set (s : State) (f : Th → Th) :
    (s.modTh f).set = s.set := rfl
@[simp] theorem State.modTh_radio (s : State) (f : Th → Th) :
    (s.modTh f).radio = s.radio := rfl
@[simp] theorem State.modTh_cnv (s : State) (f : Th → Th) :
    (s.modTh f).cnv = s.cnv := rfl
@[simp] theorem State.modTh_sb (s : State) (f : Th → Th) :
    (s.modTh f).sb = s.sb := rfl
@[simp] theorem State.modTh_can (s : State) (f : Th → Th) :
    (s.modTh f).can = s.can := rfl
@[simp] theorem State.modTh_map (s : State) (f : Th → Th) :
    (s.modTh f).map = s.map := rfl
@[simp] theorem State.modTh_sig (s : State) (f : Th → Th) :
    (s.modTh f).sig = s.sig := rfl
@[simp] theorem State.modTh_txWin (s : State) (f : Th → Th) :
    (s.modTh f).txWin = s.txWin := rfl
@[simp] theorem State.modTh_taken (s : State) (f : Th → Th) :
    (s.modTh f).taken = s.taken := rfl
@[simp] theorem State.modTh_dac (s : State) (f : Th → Th) :
    (s.modTh f).dac = s.dac := rfl
@[simp] theorem State.modTh_gov (s : State) (f : Th → Th) :
    (s.modTh f).gov = s.gov := rfl
@[simp] theorem State.modTh_ctlTick (s : State) (f : Th → Th) :
    (s.modTh f).ctlTick = s.ctlTick := rfl
@[simp] theorem State.modTh_loops (s : State) (f : Th → Th) :
    (s.modTh f).loops = s.loops := rfl
@[simp] theorem State.modTh_outers (s : State) (f : Th → Th) :
    (s.modTh f).outers = s.outers := rfl
@[simp] theorem State.modTh_slots (s : State) (f : Th → Th) :
    (s.modTh f).slots = s.slots := rfl
@[simp] theorem State.modTh_plaus (s : State) (f : Th → Th) :
    (s.modTh f).plaus = s.plaus := rfl
@[simp] theorem State.modTh_tdd (s : State) (f : Th → Th) :
    (s.modTh f).tdd = s.tdd := rfl
@[simp] theorem State.modTh_beam (s : State) (f : Th → Th) :
    (s.modTh f).beam = s.beam := rfl
@[simp] theorem State.modTh_beamTick (s : State) (f : Th → Th) :
    (s.modTh f).beamTick = s.beamTick := rfl
@[simp] theorem State.modTh_fsync (s : State) (f : Th → Th) :
    (s.modTh f).fsync = s.fsync := rfl
@[simp] theorem State.modTh_band (s : State) (f : Th → Th) :
    (s.modTh f).band = s.band := rfl
@[simp] theorem State.modTh_regrowth (s : State) (f : Th → Th) :
    (s.modTh f).regrowth = s.regrowth := rfl
@[simp] theorem State.modTh_npWaitSb (s : State) (f : Th → Th) :
    (s.modTh f).npWaitSb = s.npWaitSb := rfl
@[simp] theorem State.modTh_npWaitBand (s : State) (f : Th → Th) :
    (s.modTh f).npWaitBand = s.npWaitBand := rfl
@[simp] theorem State.modTh_npWaitChain (s : State) (f : Th → Th) :
    (s.modTh f).npWaitChain = s.npWaitChain := rfl
@[simp] theorem State.modTh_fe (s : State) (f : Th → Th) :
    (s.modTh f).fe = s.fe := rfl
@[simp] theorem State.modTh_pg (s : State) (f : Th → Th) :
    (s.modTh f).pg = s.pg := rfl
@[simp] theorem State.modTh_wm (s : State) (f : Th → Th) :
    (s.modTh f).wm = s.wm := rfl
@[simp] theorem State.modTh_hk (s : State) (f : Th → Th) :
    (s.modTh f).hk = s.hk := rfl
@[simp] theorem State.modTh_hkLast (s : State) (f : Th → Th) :
    (s.modTh f).hkLast = s.hkLast := rfl
@[simp] theorem State.modTh_th (s : State) (f : Th → Th) :
    (s.modTh f).th = f s.th := rfl
@[simp] theorem State.modTh_link (s : State) (f : Th → Th) :
    (s.modTh f).link = s.link := rfl
@[simp] theorem State.modTh_cap (s : State) (f : Th → Th) :
    (s.modTh f).cap = s.cap := rfl
@[simp] theorem State.modTh_streams (s : State) (f : Th → Th) :
    (s.modTh f).streams = s.streams := rfl
@[simp] theorem State.modTh_jcp (s : State) (f : Th → Th) :
    (s.modTh f).jcp = s.jcp := rfl
@[simp] theorem State.modTh_flt (s : State) (f : Th → Th) :
    (s.modTh f).flt = s.flt := rfl
@[simp] theorem State.modTh_rcd (s : State) (f : Th → Th) :
    (s.modTh f).rcd = s.rcd := rfl
@[simp] theorem State.modTh_store (s : State) (f : Th → Th) :
    (s.modTh f).store = s.store := rfl
@[simp] theorem State.modTh_mem (s : State) (f : Th → Th) :
    (s.modTh f).mem = s.mem := rfl
@[simp] theorem State.modTh_twb (s : State) (f : Th → Th) :
    (s.modTh f).twb = s.twb := rfl
@[simp] theorem State.modTh_boot (s : State) (f : Th → Th) :
    (s.modTh f).boot = s.boot := rfl
@[simp] theorem State.modTh_pins (s : State) (f : Th → Th) :
    (s.modTh f).pins = s.pins := rfl

/-! `State.modHk` -/
@[simp] theorem State.modHk_now (s : State) (f : Hk → Hk) :
    (s.modHk f).now = s.now := rfl
@[simp] theorem State.modHk_divStart (s : State) (f : Hk → Hk) :
    (s.modHk f).divStart = s.divStart := rfl
@[simp] theorem State.modHk_opOfs (s : State) (f : Hk → Hk) :
    (s.modHk f).opOfs = s.opOfs := rfl
@[simp] theorem State.modHk_draws (s : State) (f : Hk → Hk) :
    (s.modHk f).draws = s.draws := rfl
@[simp] theorem State.modHk_out (s : State) (f : Hk → Hk) :
    (s.modHk f).out = s.out := rfl
@[simp] theorem State.modHk_pending (s : State) (f : Hk → Hk) :
    (s.modHk f).pending = s.pending := rfl
@[simp] theorem State.modHk_set (s : State) (f : Hk → Hk) :
    (s.modHk f).set = s.set := rfl
@[simp] theorem State.modHk_radio (s : State) (f : Hk → Hk) :
    (s.modHk f).radio = s.radio := rfl
@[simp] theorem State.modHk_cnv (s : State) (f : Hk → Hk) :
    (s.modHk f).cnv = s.cnv := rfl
@[simp] theorem State.modHk_sb (s : State) (f : Hk → Hk) :
    (s.modHk f).sb = s.sb := rfl
@[simp] theorem State.modHk_can (s : State) (f : Hk → Hk) :
    (s.modHk f).can = s.can := rfl
@[simp] theorem State.modHk_map (s : State) (f : Hk → Hk) :
    (s.modHk f).map = s.map := rfl
@[simp] theorem State.modHk_sig (s : State) (f : Hk → Hk) :
    (s.modHk f).sig = s.sig := rfl
@[simp] theorem State.modHk_txWin (s : State) (f : Hk → Hk) :
    (s.modHk f).txWin = s.txWin := rfl
@[simp] theorem State.modHk_taken (s : State) (f : Hk → Hk) :
    (s.modHk f).taken = s.taken := rfl
@[simp] theorem State.modHk_dac (s : State) (f : Hk → Hk) :
    (s.modHk f).dac = s.dac := rfl
@[simp] theorem State.modHk_gov (s : State) (f : Hk → Hk) :
    (s.modHk f).gov = s.gov := rfl
@[simp] theorem State.modHk_ctlTick (s : State) (f : Hk → Hk) :
    (s.modHk f).ctlTick = s.ctlTick := rfl
@[simp] theorem State.modHk_loops (s : State) (f : Hk → Hk) :
    (s.modHk f).loops = s.loops := rfl
@[simp] theorem State.modHk_outers (s : State) (f : Hk → Hk) :
    (s.modHk f).outers = s.outers := rfl
@[simp] theorem State.modHk_slots (s : State) (f : Hk → Hk) :
    (s.modHk f).slots = s.slots := rfl
@[simp] theorem State.modHk_plaus (s : State) (f : Hk → Hk) :
    (s.modHk f).plaus = s.plaus := rfl
@[simp] theorem State.modHk_tdd (s : State) (f : Hk → Hk) :
    (s.modHk f).tdd = s.tdd := rfl
@[simp] theorem State.modHk_beam (s : State) (f : Hk → Hk) :
    (s.modHk f).beam = s.beam := rfl
@[simp] theorem State.modHk_beamTick (s : State) (f : Hk → Hk) :
    (s.modHk f).beamTick = s.beamTick := rfl
@[simp] theorem State.modHk_fsync (s : State) (f : Hk → Hk) :
    (s.modHk f).fsync = s.fsync := rfl
@[simp] theorem State.modHk_band (s : State) (f : Hk → Hk) :
    (s.modHk f).band = s.band := rfl
@[simp] theorem State.modHk_regrowth (s : State) (f : Hk → Hk) :
    (s.modHk f).regrowth = s.regrowth := rfl
@[simp] theorem State.modHk_npWaitSb (s : State) (f : Hk → Hk) :
    (s.modHk f).npWaitSb = s.npWaitSb := rfl
@[simp] theorem State.modHk_npWaitBand (s : State) (f : Hk → Hk) :
    (s.modHk f).npWaitBand = s.npWaitBand := rfl
@[simp] theorem State.modHk_npWaitChain (s : State) (f : Hk → Hk) :
    (s.modHk f).npWaitChain = s.npWaitChain := rfl
@[simp] theorem State.modHk_fe (s : State) (f : Hk → Hk) :
    (s.modHk f).fe = s.fe := rfl
@[simp] theorem State.modHk_pg (s : State) (f : Hk → Hk) :
    (s.modHk f).pg = s.pg := rfl
@[simp] theorem State.modHk_wm (s : State) (f : Hk → Hk) :
    (s.modHk f).wm = s.wm := rfl
@[simp] theorem State.modHk_hk (s : State) (f : Hk → Hk) :
    (s.modHk f).hk = f s.hk := rfl
@[simp] theorem State.modHk_hkLast (s : State) (f : Hk → Hk) :
    (s.modHk f).hkLast = s.hkLast := rfl
@[simp] theorem State.modHk_th (s : State) (f : Hk → Hk) :
    (s.modHk f).th = s.th := rfl
@[simp] theorem State.modHk_link (s : State) (f : Hk → Hk) :
    (s.modHk f).link = s.link := rfl
@[simp] theorem State.modHk_cap (s : State) (f : Hk → Hk) :
    (s.modHk f).cap = s.cap := rfl
@[simp] theorem State.modHk_streams (s : State) (f : Hk → Hk) :
    (s.modHk f).streams = s.streams := rfl
@[simp] theorem State.modHk_jcp (s : State) (f : Hk → Hk) :
    (s.modHk f).jcp = s.jcp := rfl
@[simp] theorem State.modHk_flt (s : State) (f : Hk → Hk) :
    (s.modHk f).flt = s.flt := rfl
@[simp] theorem State.modHk_rcd (s : State) (f : Hk → Hk) :
    (s.modHk f).rcd = s.rcd := rfl
@[simp] theorem State.modHk_store (s : State) (f : Hk → Hk) :
    (s.modHk f).store = s.store := rfl
@[simp] theorem State.modHk_mem (s : State) (f : Hk → Hk) :
    (s.modHk f).mem = s.mem := rfl
@[simp] theorem State.modHk_twb (s : State) (f : Hk → Hk) :
    (s.modHk f).twb = s.twb := rfl
@[simp] theorem State.modHk_boot (s : State) (f : Hk → Hk) :
    (s.modHk f).boot = s.boot := rfl
@[simp] theorem State.modHk_pins (s : State) (f : Hk → Hk) :
    (s.modHk f).pins = s.pins := rfl

/-! `State.modLink` -/
@[simp] theorem State.modLink_now (s : State) (f : Link → Link) :
    (s.modLink f).now = s.now := rfl
@[simp] theorem State.modLink_divStart (s : State) (f : Link → Link) :
    (s.modLink f).divStart = s.divStart := rfl
@[simp] theorem State.modLink_opOfs (s : State) (f : Link → Link) :
    (s.modLink f).opOfs = s.opOfs := rfl
@[simp] theorem State.modLink_draws (s : State) (f : Link → Link) :
    (s.modLink f).draws = s.draws := rfl
@[simp] theorem State.modLink_out (s : State) (f : Link → Link) :
    (s.modLink f).out = s.out := rfl
@[simp] theorem State.modLink_pending (s : State) (f : Link → Link) :
    (s.modLink f).pending = s.pending := rfl
@[simp] theorem State.modLink_set (s : State) (f : Link → Link) :
    (s.modLink f).set = s.set := rfl
@[simp] theorem State.modLink_radio (s : State) (f : Link → Link) :
    (s.modLink f).radio = s.radio := rfl
@[simp] theorem State.modLink_cnv (s : State) (f : Link → Link) :
    (s.modLink f).cnv = s.cnv := rfl
@[simp] theorem State.modLink_sb (s : State) (f : Link → Link) :
    (s.modLink f).sb = s.sb := rfl
@[simp] theorem State.modLink_can (s : State) (f : Link → Link) :
    (s.modLink f).can = s.can := rfl
@[simp] theorem State.modLink_map (s : State) (f : Link → Link) :
    (s.modLink f).map = s.map := rfl
@[simp] theorem State.modLink_sig (s : State) (f : Link → Link) :
    (s.modLink f).sig = s.sig := rfl
@[simp] theorem State.modLink_txWin (s : State) (f : Link → Link) :
    (s.modLink f).txWin = s.txWin := rfl
@[simp] theorem State.modLink_taken (s : State) (f : Link → Link) :
    (s.modLink f).taken = s.taken := rfl
@[simp] theorem State.modLink_dac (s : State) (f : Link → Link) :
    (s.modLink f).dac = s.dac := rfl
@[simp] theorem State.modLink_gov (s : State) (f : Link → Link) :
    (s.modLink f).gov = s.gov := rfl
@[simp] theorem State.modLink_ctlTick (s : State) (f : Link → Link) :
    (s.modLink f).ctlTick = s.ctlTick := rfl
@[simp] theorem State.modLink_loops (s : State) (f : Link → Link) :
    (s.modLink f).loops = s.loops := rfl
@[simp] theorem State.modLink_outers (s : State) (f : Link → Link) :
    (s.modLink f).outers = s.outers := rfl
@[simp] theorem State.modLink_slots (s : State) (f : Link → Link) :
    (s.modLink f).slots = s.slots := rfl
@[simp] theorem State.modLink_plaus (s : State) (f : Link → Link) :
    (s.modLink f).plaus = s.plaus := rfl
@[simp] theorem State.modLink_tdd (s : State) (f : Link → Link) :
    (s.modLink f).tdd = s.tdd := rfl
@[simp] theorem State.modLink_beam (s : State) (f : Link → Link) :
    (s.modLink f).beam = s.beam := rfl
@[simp] theorem State.modLink_beamTick (s : State) (f : Link → Link) :
    (s.modLink f).beamTick = s.beamTick := rfl
@[simp] theorem State.modLink_fsync (s : State) (f : Link → Link) :
    (s.modLink f).fsync = s.fsync := rfl
@[simp] theorem State.modLink_band (s : State) (f : Link → Link) :
    (s.modLink f).band = s.band := rfl
@[simp] theorem State.modLink_regrowth (s : State) (f : Link → Link) :
    (s.modLink f).regrowth = s.regrowth := rfl
@[simp] theorem State.modLink_npWaitSb (s : State) (f : Link → Link) :
    (s.modLink f).npWaitSb = s.npWaitSb := rfl
@[simp] theorem State.modLink_npWaitBand (s : State) (f : Link → Link) :
    (s.modLink f).npWaitBand = s.npWaitBand := rfl
@[simp] theorem State.modLink_npWaitChain (s : State) (f : Link → Link) :
    (s.modLink f).npWaitChain = s.npWaitChain := rfl
@[simp] theorem State.modLink_fe (s : State) (f : Link → Link) :
    (s.modLink f).fe = s.fe := rfl
@[simp] theorem State.modLink_pg (s : State) (f : Link → Link) :
    (s.modLink f).pg = s.pg := rfl
@[simp] theorem State.modLink_wm (s : State) (f : Link → Link) :
    (s.modLink f).wm = s.wm := rfl
@[simp] theorem State.modLink_hk (s : State) (f : Link → Link) :
    (s.modLink f).hk = s.hk := rfl
@[simp] theorem State.modLink_hkLast (s : State) (f : Link → Link) :
    (s.modLink f).hkLast = s.hkLast := rfl
@[simp] theorem State.modLink_th (s : State) (f : Link → Link) :
    (s.modLink f).th = s.th := rfl
@[simp] theorem State.modLink_link (s : State) (f : Link → Link) :
    (s.modLink f).link = f s.link := rfl
@[simp] theorem State.modLink_cap (s : State) (f : Link → Link) :
    (s.modLink f).cap = s.cap := rfl
@[simp] theorem State.modLink_streams (s : State) (f : Link → Link) :
    (s.modLink f).streams = s.streams := rfl
@[simp] theorem State.modLink_jcp (s : State) (f : Link → Link) :
    (s.modLink f).jcp = s.jcp := rfl
@[simp] theorem State.modLink_flt (s : State) (f : Link → Link) :
    (s.modLink f).flt = s.flt := rfl
@[simp] theorem State.modLink_rcd (s : State) (f : Link → Link) :
    (s.modLink f).rcd = s.rcd := rfl
@[simp] theorem State.modLink_store (s : State) (f : Link → Link) :
    (s.modLink f).store = s.store := rfl
@[simp] theorem State.modLink_mem (s : State) (f : Link → Link) :
    (s.modLink f).mem = s.mem := rfl
@[simp] theorem State.modLink_twb (s : State) (f : Link → Link) :
    (s.modLink f).twb = s.twb := rfl
@[simp] theorem State.modLink_boot (s : State) (f : Link → Link) :
    (s.modLink f).boot = s.boot := rfl
@[simp] theorem State.modLink_pins (s : State) (f : Link → Link) :
    (s.modLink f).pins = s.pins := rfl

/-! `State.modBoot` -/
@[simp] theorem State.modBoot_now (s : State) (f : Boot → Boot) :
    (s.modBoot f).now = s.now := rfl
@[simp] theorem State.modBoot_divStart (s : State) (f : Boot → Boot) :
    (s.modBoot f).divStart = s.divStart := rfl
@[simp] theorem State.modBoot_opOfs (s : State) (f : Boot → Boot) :
    (s.modBoot f).opOfs = s.opOfs := rfl
@[simp] theorem State.modBoot_draws (s : State) (f : Boot → Boot) :
    (s.modBoot f).draws = s.draws := rfl
@[simp] theorem State.modBoot_out (s : State) (f : Boot → Boot) :
    (s.modBoot f).out = s.out := rfl
@[simp] theorem State.modBoot_pending (s : State) (f : Boot → Boot) :
    (s.modBoot f).pending = s.pending := rfl
@[simp] theorem State.modBoot_set (s : State) (f : Boot → Boot) :
    (s.modBoot f).set = s.set := rfl
@[simp] theorem State.modBoot_radio (s : State) (f : Boot → Boot) :
    (s.modBoot f).radio = s.radio := rfl
@[simp] theorem State.modBoot_cnv (s : State) (f : Boot → Boot) :
    (s.modBoot f).cnv = s.cnv := rfl
@[simp] theorem State.modBoot_sb (s : State) (f : Boot → Boot) :
    (s.modBoot f).sb = s.sb := rfl
@[simp] theorem State.modBoot_can (s : State) (f : Boot → Boot) :
    (s.modBoot f).can = s.can := rfl
@[simp] theorem State.modBoot_map (s : State) (f : Boot → Boot) :
    (s.modBoot f).map = s.map := rfl
@[simp] theorem State.modBoot_sig (s : State) (f : Boot → Boot) :
    (s.modBoot f).sig = s.sig := rfl
@[simp] theorem State.modBoot_txWin (s : State) (f : Boot → Boot) :
    (s.modBoot f).txWin = s.txWin := rfl
@[simp] theorem State.modBoot_taken (s : State) (f : Boot → Boot) :
    (s.modBoot f).taken = s.taken := rfl
@[simp] theorem State.modBoot_dac (s : State) (f : Boot → Boot) :
    (s.modBoot f).dac = s.dac := rfl
@[simp] theorem State.modBoot_gov (s : State) (f : Boot → Boot) :
    (s.modBoot f).gov = s.gov := rfl
@[simp] theorem State.modBoot_ctlTick (s : State) (f : Boot → Boot) :
    (s.modBoot f).ctlTick = s.ctlTick := rfl
@[simp] theorem State.modBoot_loops (s : State) (f : Boot → Boot) :
    (s.modBoot f).loops = s.loops := rfl
@[simp] theorem State.modBoot_outers (s : State) (f : Boot → Boot) :
    (s.modBoot f).outers = s.outers := rfl
@[simp] theorem State.modBoot_slots (s : State) (f : Boot → Boot) :
    (s.modBoot f).slots = s.slots := rfl
@[simp] theorem State.modBoot_plaus (s : State) (f : Boot → Boot) :
    (s.modBoot f).plaus = s.plaus := rfl
@[simp] theorem State.modBoot_tdd (s : State) (f : Boot → Boot) :
    (s.modBoot f).tdd = s.tdd := rfl
@[simp] theorem State.modBoot_beam (s : State) (f : Boot → Boot) :
    (s.modBoot f).beam = s.beam := rfl
@[simp] theorem State.modBoot_beamTick (s : State) (f : Boot → Boot) :
    (s.modBoot f).beamTick = s.beamTick := rfl
@[simp] theorem State.modBoot_fsync (s : State) (f : Boot → Boot) :
    (s.modBoot f).fsync = s.fsync := rfl
@[simp] theorem State.modBoot_band (s : State) (f : Boot → Boot) :
    (s.modBoot f).band = s.band := rfl
@[simp] theorem State.modBoot_regrowth (s : State) (f : Boot → Boot) :
    (s.modBoot f).regrowth = s.regrowth := rfl
@[simp] theorem State.modBoot_npWaitSb (s : State) (f : Boot → Boot) :
    (s.modBoot f).npWaitSb = s.npWaitSb := rfl
@[simp] theorem State.modBoot_npWaitBand (s : State) (f : Boot → Boot) :
    (s.modBoot f).npWaitBand = s.npWaitBand := rfl
@[simp] theorem State.modBoot_npWaitChain (s : State) (f : Boot → Boot) :
    (s.modBoot f).npWaitChain = s.npWaitChain := rfl
@[simp] theorem State.modBoot_fe (s : State) (f : Boot → Boot) :
    (s.modBoot f).fe = s.fe := rfl
@[simp] theorem State.modBoot_pg (s : State) (f : Boot → Boot) :
    (s.modBoot f).pg = s.pg := rfl
@[simp] theorem State.modBoot_wm (s : State) (f : Boot → Boot) :
    (s.modBoot f).wm = s.wm := rfl
@[simp] theorem State.modBoot_hk (s : State) (f : Boot → Boot) :
    (s.modBoot f).hk = s.hk := rfl
@[simp] theorem State.modBoot_hkLast (s : State) (f : Boot → Boot) :
    (s.modBoot f).hkLast = s.hkLast := rfl
@[simp] theorem State.modBoot_th (s : State) (f : Boot → Boot) :
    (s.modBoot f).th = s.th := rfl
@[simp] theorem State.modBoot_link (s : State) (f : Boot → Boot) :
    (s.modBoot f).link = s.link := rfl
@[simp] theorem State.modBoot_cap (s : State) (f : Boot → Boot) :
    (s.modBoot f).cap = s.cap := rfl
@[simp] theorem State.modBoot_streams (s : State) (f : Boot → Boot) :
    (s.modBoot f).streams = s.streams := rfl
@[simp] theorem State.modBoot_jcp (s : State) (f : Boot → Boot) :
    (s.modBoot f).jcp = s.jcp := rfl
@[simp] theorem State.modBoot_flt (s : State) (f : Boot → Boot) :
    (s.modBoot f).flt = s.flt := rfl
@[simp] theorem State.modBoot_rcd (s : State) (f : Boot → Boot) :
    (s.modBoot f).rcd = s.rcd := rfl
@[simp] theorem State.modBoot_store (s : State) (f : Boot → Boot) :
    (s.modBoot f).store = s.store := rfl
@[simp] theorem State.modBoot_mem (s : State) (f : Boot → Boot) :
    (s.modBoot f).mem = s.mem := rfl
@[simp] theorem State.modBoot_twb (s : State) (f : Boot → Boot) :
    (s.modBoot f).twb = s.twb := rfl
@[simp] theorem State.modBoot_boot (s : State) (f : Boot → Boot) :
    (s.modBoot f).boot = f s.boot := rfl
@[simp] theorem State.modBoot_pins (s : State) (f : Boot → Boot) :
    (s.modBoot f).pins = s.pins := rfl

end Sys2Proof.Machine
end

