-- ==== Sys2Proof/WellFormed.lean ====
section
/-!
DEFINITION. Which commands and events are well formed: the units, indices and counts they name exist (R1 to R8).
The meanings are total all the same: a row that names no unit changes nothing but the time.
-/

namespace Sys2Proof

/-- An index of one of `n` units. -/
def below (n k : Nat) : Bool := decide (k < n)

/-- A source of command packets exists (R488 to R490, R515): rings 0 to 16,383, USB3 queue pairs 0 to 7. -/
def Src.ok : Src → Bool
  | .ring n => below 16384 n
  | .usb3 q => below 8 q
  | .usb2 => true

/-- A packet has at most the 48 parameter bytes of R530, from a source that exists. -/
def Request.ok (r : Request) : Bool := r.src.ok && below 49 r.params.length

/-- An IN endpoint exists (R488, R506). -/
def InEndpoint.ok : InEndpoint → Bool
  | .usb3 q => below 8 q
  | .usb2 => true
  | .stream ep => decide (9 ≤ ep) && below 13 ep


/-- A slow round reads the 12 on-die sensors (R461). -/
def RoundMeas.ok (m : RoundMeas) : Bool :=
  decide (m.onDie.length = 12) &&
    m.failed.all (below 24) && m.monitorsFailed.all (below 16) && m.warm.all (below 12)

/-- A command or event names only what exists. -/
def Instr.wf : Instr → Bool
  | .nop _ r => r.ok
  | .identify _ r => r.ok
  | .objRead _ r => r.ok
  | .objWrite _ r => r.ok
  | .radioConfigWrite _ r => r.ok
  | .winConfigWrite _ r => r.ok
  | .cnvAttConfigWrite _ r => r.ok
  | .ctlPlausConfigWrite _ r => r.ok
  | .ctlLineupWrite _ r => r.ok
  | .tddOutConfigWrite _ r => r.ok
  | .jcpConfigWrite _ r => r.ok
  | .fltStatusWrite _ r => r.ok
  | .recTrigConfigWrite _ r => r.ok
  | .recSnapListWrite _ r => r.ok
  | .recCmdSelWrite _ r => r.ok
  | .recStatsConfigWrite _ r => r.ok
  | .bootConfigWrite _ r => r.ok
  | .bootConfigSave _ r => r.ok
  | .doorbellWrite _ off size _ => below 0x10000 off && ([1, 2, 4].contains size)
  | .setupBaseLo _ _ _ => true
  | .setupBaseHi _ _ _ => true
  | .setupShape _ _ _ => true
  | .setupGo _ _ _ => true
  | .setupResume _ _ _ => true
  | .usbCommandPacket _ _ r => r.ok
  | .commandFetch _ _ r => r.ok
  | .commandStart _ src => src.ok
  | .heldCommandRelease _ src => src.ok
  | .deferLimitExpiry _ src => src.ok
  | .completionPost _ src => src.ok
  | .fenceCommandStart _ src => src.ok
  | .msixModerationExpiry _ ring => below 16384 ring
  | .ringCreate _ r => r.ok
  | .ringDelete _ r => r.ok
  | .ringDrained _ ring => decide (3 ≤ ring) && below 16384 ring
  | .ringError _ ring err => below 16384 ring && decide (1 ≤ err) && below 4 err
  | .tlmConfigure _ r => r.ok
  | .telemetryEntry _ ring => decide (3 ≤ ring) && below 16384 ring
  | .abort _ r => r.ok
  | .deviceReset _ r => r.ok
  | .mgmtReset _ r => r.ok
  | .testEcho _ r => r.ok
  | .testEccInject _ r => r.ok
  | .radioSetState _ r => r.ok
  | .walkStepEnd _ _ => true
  | .quickCalibrationEnd _ _ => true
  | .sleepEntered _ => true
  | .hostPathGating _ => true
  | .wakeUsbResume _ => true
  | .wakeGpioEdge _ gpio => below 16 gpio
  | .resetNAssert _ => true
  | .railFail _ rail => below 5 rail
  | .railsGood _ _ => true
  | .hostLinkReset _ _ => true
  | .trstNReset _ => true
  | .tapInstruction _ _ => true
  | .rootPllLock _ => true
  | .clkLockfail _ => true
  | .clkUnlock _ => true
  | .clkRefloss _ => true
  | .clkXtal _ _ => true
  | .crystalRestart _ => true
  | .rootSourceReturn _ => true
  | .sliceSwap _ c _ => below 8 c
  | .sliceFault _ c slice kind => below 8 c && below 33 slice && below 128 kind
  | .overrangeStart _ c _ => below 8 c
  | .overrangeEnd _ c _ => below 8 c
  | .fastStepTake _ c magnitude => below 8 c && below 2048 magnitude
  | .fastStepRelease _ c peak => below 8 c && below 2049 peak
  | .fastStepStartTest _ c peak => below 8 c && below 2049 peak
  | .dacClipEpisode _ c => below 8 c
  | .dacCalHold _ c => below 8 c
  | .sbConfigure _ r => r.ok
  | .sbRetune _ r => r.ok
  | .retuneApply _ g => below 128 g
  | .sbLoadCoef _ r => r.ok
  | .sbSwitchBank _ r => r.ok
  | .crossFadeEnd _ g => below 128 g
  | .hardSwitchOutput _ g => below 128 g
  | .sbSyncReset _ r => r.ok
  | .syncResetSample _ g => below 128 g
  | .sbDcb _ r => r.ok
  | .disableRampEnd _ g => below 128 g
  | .canConfigure _ r => r.ok
  | .canFreeze _ r => r.ok
  | .canMapRead _ r => r.ok
  | .canMapWrite _ r => r.ok
  | .cancellerBlockEnd _ g _ => below 128 g
  | .acqMsExpiry _ g => below 128 g
  | .partitionBoundary _ g => below 128 g
  | .mapMoveEnd _ g => below 128 g
  | .canMove _ g => below 128 g
  | .govConfigure _ r => r.ok
  | .govRestart _ r => r.ok
  | .governorBlockEnd _ g _ => below 128 g
  | .oscillationTrip _ g => below 128 g
  | .clampHoldEnd _ g => below 128 g
  | .holdoffEnd _ g => below 128 g
  | .restartCapRemoval _ g => below 128 g
  | .canProbeStart _ r => r.ok
  | .canProbeStop _ r => r.ok
  | .probeAutoStart _ g => below 128 g
  | .probeEnd _ g => below 128 g
  | .probeResume _ g => below 128 g
  | .isoStore _ => true
  | .controlTick _ missed => missed.all (below 136)
  | .plausTimerExpiry _ c => below 8 c
  | .setPointArrived _ loop which => below 128 loop && below 2 which
  | .ctlSetMode _ r => r.ok
  | .ctlSetPoint _ r => r.ok
  | .ctlSetSchedule _ r => r.ok
  | .ctlInjectStart _ r => r.ok
  | .ctlInjectStop _ r => r.ok
  | .injectionEnd _ loop => below 136 loop
  | .ctlRepLearnStart _ r => r.ok
  | .ctlRepLearnRelease _ r => r.ok
  | .ctlRepLearnModify _ r => r.ok
  | .tddConfigure _ r => r.ok
  | .tddSetGatesWrite _ r => r.ok
  | .tddCommitLearned _ r => r.ok
  | .tddReadback _ r => r.ok
  | .syncAcquired _ grp _ sfn _ => below 4 grp && below 1024 sfn
  | .syncMeasurement _ grp _ => below 4 grp
  | .syncLoss _ grp => below 4 grp
  | .holdoverExpiry _ grp => below 4 grp
  | .gatingFrameStart _ grp => below 4 grp
  | .gateEdge _ grp _ _ _ => below 4 grp
  | .tddLearn _ grp _ => below 4 grp
  | .npSetLimitsSubband _ r => r.ok
  | .npSetLimitsBand _ r => r.ok
  | .npSetLimitsChain _ r => r.ok
  | .npEvaluation _ _ => true
  | .donorLossMute _ band => below 16 band
  | .donorRelease _ band => below 16 band
  | .regrowthEvaluation _ c _ meas => below 8 c && meas.all (fun m => below 128 m.g)
  | .muteNFall _ => true
  | .muteNRise _ => true
  | .feSeqConfigurePa _ r => r.ok
  | .feSeqConfigureRx _ r => r.ok
  | .paPowerUpStart _ c => below 8 c
  | .paSequenceOffset _ c => below 8 c
  | .paPowerUpEnd _ c => below 8 c
  | .paPowerDownStart _ c => below 8 c
  | .paPowerDownEnd _ c => below 8 c
  | .pgConfigure _ r => r.ok
  | .pgConfigApply _ ch => below 16 ch
  | .pgEdge _ ch _ => below 16 ch
  | .wmConfigure _ r => r.ok
  | .wmClear _ r => r.ok
  | .monitorAssert _ m input => below 16 m && below 65536 input
  | .monitorRelease _ m input => below 16 m && below 65536 input
  | .xtripFall _ n => below 4 n
  | .blankingEnd _ m => below 16 m
  | .pinCheckMismatch _ ball => below 48 ball
  | .pinAssign _ r => r.ok
  | .hkConfigureEntry _ r => r.ok
  | .hkConfigureTimer _ r => r.ok
  | .hkConfigureDac _ r => r.ok
  | .htTimerFire _ n => below 8 n
  | .htTriggerEdge _ n => below 8 n
  | .hkRequest _ e => below 64 e
  | .hkConversionEnd _ _ => true
  | .thConfigureGlobal _ r => r.ok
  | .thConfigureSensor _ r => r.ok
  | .thConfigureZone _ r => r.ok
  | .thermalRound _ => true
  | .thermalRoundEnd _ m => m.ok
  | .thermalFadeEnd _ => true
  | .analogueTrip _ sensor => below 12 sensor
  | .analogueTripRelease _ => true
  | .thermalStopRelease _ => true
  | .trimStore _ => true
  | .linkLoss _ => true
  | .linkReturn _ mode => decide (1 ≤ mode) && below 5 mode
  | .keepSExpiry _ => true
  | .laneFault _ m => below 2 m.lane
  | .linkModeChange _ mode => decide (1 ≤ mode) && below 5 mode
  | .usbBusReset _ _ => true
  | .capConfigure _ r => r.ok
  | .capStart _ r => r.ok
  | .capStop _ r => r.ok
  | .capRead _ r => r.ok
  | .captureArmed _ => true
  | .captureTrigger _ _ cause _ => below 7 cause
  | .captureDone _ _ _ => true
  | .captureSourceStop _ slot _ => below 17 slot
  | .streamBlock _ slot _ _ _ _ _ => below 17 slot
  | .faultDetection _ src addr kind => below 64 src && below 4096 addr && below 128 kind
  | .shadowEnd _ => true
  | .mergePhaseEnd _ => true
  | .testPhaseTimeout _ => true
  | .fault _ => true
  | .fltConfigureSeverity _ r => r.ok
  | .fltConfigureGlobal _ r => r.ok
  | .fltAck _ r => r.ok
  | .fltForcePulse _ r => r.ok
  | .fltForceHold _ r => r.ok
  | .fltForceRelease _ r => r.ok
  | .memoryError _ mem _ _ => below 10 mem
  | .sramScrubPass _ => true
  | .mramScrubPass _ => true
  | .ncoCheck _ bad => bad.all (below 4096)
  | .aliveToggle _ => true
  | .keepaliveFeed _ => true
  | .keepaliveTimeout _ => true
  | .pairTakeover _ => true
  | .recoveryEnd _ => true
  | .snapshotTrigger _ => true
  | .snapshotWrite _ _ => true
  | .coalesceFlush _ => true
  | .hourBoundary _ => true
  | .opsecStore _ => true
  | .recFreezeSet _ r => r.ok
  | .recFreezeRelease _ r => r.ok
  | .freezeTimeout _ => true
  | .recRead _ r => r.ok
  | .recSetHosttime _ r => r.ok
  | .recClearArm _ r => r.ok
  | .recClearExec _ r => r.ok
  | .zeroingEnd _ => true
  | .twbConfigure _ r => r.ok
  | .twbClear _ r => r.ok
  | .twbTransfer _ r => r.ok
  | .twbAttention _ r => r.ok
  | .attentionWaitExpiry _ bus => below 2 bus
  | .busTransferStart _ bus => below 2 bus
  | .busTransferEnd _ bus _ => below 2 bus
  | .ackSlotStart _ bus => below 2 bus
  | .arbitrationLost _ bus n => below 2 bus && below 1024 n
  | .sclLowTimeout _ bus _ => below 2 bus
  | .sdaLowTimeout _ bus => below 2 bus
  | .busFreeTimeout _ bus => below 2 bus
  | .busClearEnd _ bus pulses _ => below 2 bus && below 10 pulses
  | .alert _ bus => below 2 bus
  | .alertResponseRead _ bus _ _ => below 2 bus
  | .alertSuspendEnd _ bus => below 2 bus
  | .hostNotify _ bus _ => below 2 bus
  | .bootStepEnd _ _ => true
  | .earlyFail _ => true
  | .fgCalEnd _ _ => true
  | .firmwareRestart _ => true
  | .bootLedgerRead _ r => r.ok
  | .fwUpdate _ r => r.ok
  | .resetNRelease _ _ => true
  | .busMasterEnableWrite _ _ => true
  | .msixVectorUnmask _ w => (match w with
    | .entry v _ _ _ => below 2048 v
    | .control _ _ => true)
  | .usbInTransfer _ ep => ep.ok
  | .usbFunctionConfigured _ _ => true
  | .mirrorRefresh _ => true
  | .xtripRise _ n => below 4 n
  | .clearArmExpiry _ => true
  | .calHoldEnd _ c => below 8 c
  | .probeSuspend _ g => below 128 g
  | .coefLoadEnd _ g => below 128 g
  | .mapReadEnd _ g => below 128 g
  | .fwUpdateEnd _ => true

end Sys2Proof
end

