-- ==== Sys2Proof/Tests/Slice0.lean ====
section
/-!
SUPPORT. Small tests: ill-formed terms that WellFormed refuses, worked examples of the spec, and for every statement
with hypotheses a state and operands that meet them.
-/

namespace Sys2Proof.Tests

open Sys2Proof.Machine

/-- A command packet by the USB 2.0 function. -/
def packet (plen : Nat) (params : List Byte) : Request :=
  { src := .usb2, flags := 0, tag := 1, object := 0, inst := 0, plen := BitVec.ofNat 8 plen, rsvd := 0, params := params, buf := none }
/-- A packet from a queue pair that does not exist. -/
def badSource : Request := { packet 0 [] with src := .usb3 8 }
/-- The readings of a slow round, all zero. -/
def noReadings : RoundMeas :=
  { onDie := List.replicate 12 0, failed := [], monitorsFailed := [], warm := [] }
/-- The block after reset with its USB 2.0 function up. -/
def up : State := { State.reset with
  link := { State.reset.link with
    usb2Up := true } }
/-- The same with the radio in another state and the root PLL locked. -/
def inState (n : Nat) : State := { up with
  radio := { up.radio with
    state := n, pllOn := true, pllLocked := true }
  divStart := some 0 }
/-- The block with its PCIe tunnel up, a command waiting in ring 0, and ring 1 for the completions. -/
def pcie : State := { inState 3 with
  link := { up.link with
    mode := 1, pcieUp := true, busMaster := true }
  jcp := { up.jcp with
    rings := [(0, { type := 1, state := 1, log2size := 4, tail := 1, peer := 1 }), (1, { type := 2, state := 1, log2size := 4 })] } }
/-- A command packet by ring 0. -/
def ringPacket (plen : Nat) (params : List Byte) : Request := { packet plen params with src := .ring 0 }
/-- A packet for an object, or for an instance. -/
def onObject (r : Request) (o : Nat) : Request := { r with object := BitVec.ofNat 16 o }
def onInst (r : Request) (i : Nat) : Request := { r with inst := BitVec.ofNat 16 i }
/-- A packet with data in its buffer. -/
def withData (r : Request) (b : List Byte) : Request := { r with buf := some b }
/-- Parameter bytes. -/
def bs (l : List Nat) : List Byte := l.map (BitVec.ofNat 8)

theorem test_wf_refuses_1 : ([
    .nop 0 badSource,
    .identify 0 badSource,
    .objRead 0 badSource,
    .objWrite 0 badSource,
    .radioConfigWrite 0 badSource,
    .winConfigWrite 0 badSource,
    .cnvAttConfigWrite 0 badSource,
    .ctlPlausConfigWrite 0 badSource,
    .ctlLineupWrite 0 badSource,
    .tddOutConfigWrite 0 badSource,
    .jcpConfigWrite 0 badSource,
    .fltStatusWrite 0 badSource,
    .recTrigConfigWrite 0 badSource,
    .recSnapListWrite 0 badSource,
    .recCmdSelWrite 0 badSource,
    .recStatsConfigWrite 0 badSource,
    .bootConfigWrite 0 badSource,
    .bootConfigSave 0 badSource,
    .doorbellWrite 0 0x10000 4 0,
    .doorbellWrite 0 0 3 0,
    .usbCommandPacket 0 0 badSource,
    .commandFetch 0 0 badSource,
    .commandStart 0 (.ring 16384),
    .heldCommandRelease 0 (.ring 16384)] : List Instr).all (fun i => !i.wf) = true := by decide

theorem test_wf_refuses_2 : ([
    .deferLimitExpiry 0 (.ring 16384),
    .completionPost 0 (.ring 16384),
    .fenceCommandStart 0 (.ring 16384),
    .msixModerationExpiry 0 16384,
    .ringCreate 0 badSource,
    .ringDelete 0 badSource,
    .ringDrained 0 2,
    .ringDrained 0 16384,
    .ringError 0 16384 1,
    .ringError 0 3 0,
    .ringError 0 3 4,
    .tlmConfigure 0 badSource,
    .telemetryEntry 0 2,
    .telemetryEntry 0 16384,
    .abort 0 badSource,
    .deviceReset 0 badSource,
    .mgmtReset 0 badSource,
    .testEcho 0 badSource,
    .testEccInject 0 badSource,
    .radioSetState 0 badSource,
    .wakeGpioEdge 0 16,
    .railFail 0 5,
    .sliceSwap 0 8 { sum := 0, samples := 0 },
    .sliceFault 0 8 0 0] : List Instr).all (fun i => !i.wf) = true := by decide

theorem test_wf_refuses_3 : ([
    .sliceFault 0 0 33 0,
    .sliceFault 0 0 0 128,
    .overrangeStart 0 8 0,
    .overrangeEnd 0 8 0,
    .fastStepTake 0 8 0,
    .fastStepTake 0 0 2048,
    .fastStepRelease 0 8 0,
    .fastStepRelease 0 0 2049,
    .fastStepStartTest 0 8 0,
    .fastStepStartTest 0 0 2049,
    .dacClipEpisode 0 8,
    .dacCalHold 0 8,
    .sbConfigure 0 badSource,
    .sbRetune 0 badSource,
    .retuneApply 0 128,
    .sbLoadCoef 0 badSource,
    .sbSwitchBank 0 badSource,
    .crossFadeEnd 0 128,
    .hardSwitchOutput 0 128,
    .sbSyncReset 0 badSource,
    .syncResetSample 0 128,
    .sbDcb 0 badSource,
    .disableRampEnd 0 128,
    .canConfigure 0 badSource] : List Instr).all (fun i => !i.wf) = true := by decide

theorem test_wf_refuses_4 : ([
    .canFreeze 0 badSource,
    .canMapRead 0 badSource,
    .canMapWrite 0 badSource,
    .cancellerBlockEnd 0 128 {},
    .acqMsExpiry 0 128,
    .partitionBoundary 0 128,
    .mapMoveEnd 0 128,
    .canMove 0 128,
    .govConfigure 0 badSource,
    .govRestart 0 badSource,
    .governorBlockEnd 0 128 {},
    .oscillationTrip 0 128,
    .clampHoldEnd 0 128,
    .holdoffEnd 0 128,
    .restartCapRemoval 0 128,
    .canProbeStart 0 badSource,
    .canProbeStop 0 badSource,
    .probeAutoStart 0 128,
    .probeEnd 0 128,
    .probeResume 0 128,
    .controlTick 0 [136],
    .plausTimerExpiry 0 8,
    .setPointArrived 0 128 0,
    .setPointArrived 0 0 2] : List Instr).all (fun i => !i.wf) = true := by decide

theorem test_wf_refuses_5 : ([
    .ctlSetMode 0 badSource,
    .ctlSetPoint 0 badSource,
    .ctlSetSchedule 0 badSource,
    .ctlInjectStart 0 badSource,
    .ctlInjectStop 0 badSource,
    .injectionEnd 0 136,
    .ctlRepLearnStart 0 badSource,
    .ctlRepLearnRelease 0 badSource,
    .ctlRepLearnModify 0 badSource,
    .tddConfigure 0 badSource,
    .tddSetGatesWrite 0 badSource,
    .tddCommitLearned 0 badSource,
    .tddReadback 0 badSource,
    .syncAcquired 0 4 0 0 0,
    .syncAcquired 0 0 0 1024 0,
    .syncMeasurement 0 4 0,
    .syncLoss 0 4,
    .holdoverExpiry 0 4,
    .gatingFrameStart 0 4,
    .gateEdge 0 4 false {} {},
    .tddLearn 0 4 {},
    .npSetLimitsSubband 0 badSource,
    .npSetLimitsBand 0 badSource,
    .npSetLimitsChain 0 badSource] : List Instr).all (fun i => !i.wf) = true := by decide

theorem test_wf_refuses_6 : ([
    .donorLossMute 0 16,
    .donorRelease 0 16,
    .regrowthEvaluation 0 8 0 [],
    .regrowthEvaluation 0 0 0 [{ g := 128, inBand := 0, lower := 0, upper := 0 }],
    .feSeqConfigurePa 0 badSource,
    .feSeqConfigureRx 0 badSource,
    .paPowerUpStart 0 8,
    .paSequenceOffset 0 8,
    .paPowerUpEnd 0 8,
    .paPowerDownStart 0 8,
    .paPowerDownEnd 0 8,
    .pgConfigure 0 badSource,
    .pgConfigApply 0 16,
    .pgEdge 0 16 false,
    .wmConfigure 0 badSource,
    .wmClear 0 badSource,
    .monitorAssert 0 16 0,
    .monitorAssert 0 0 65536,
    .monitorRelease 0 16 0,
    .monitorRelease 0 0 65536,
    .xtripFall 0 4,
    .blankingEnd 0 16,
    .pinCheckMismatch 0 48,
    .pinAssign 0 badSource] : List Instr).all (fun i => !i.wf) = true := by decide

theorem test_wf_refuses_7 : ([
    .hkConfigureEntry 0 badSource,
    .hkConfigureTimer 0 badSource,
    .hkConfigureDac 0 badSource,
    .htTimerFire 0 8,
    .htTriggerEdge 0 8,
    .hkRequest 0 64,
    .thConfigureGlobal 0 badSource,
    .thConfigureSensor 0 badSource,
    .thConfigureZone 0 badSource,
    .thermalRoundEnd 0 { noReadings with onDie := [] },
    .analogueTrip 0 12,
    .linkReturn 0 0,
    .linkReturn 0 5,
    .laneFault 0 { lane := 2, errors := false },
    .linkModeChange 0 0,
    .linkModeChange 0 5,
    .capConfigure 0 badSource,
    .capStart 0 badSource,
    .capStop 0 badSource,
    .capRead 0 badSource,
    .captureTrigger 0 0 7 0,
    .captureSourceStop 0 17 false,
    .streamBlock 0 17 {} {} {} {} false,
    .faultDetection 0 64 0 0] : List Instr).all (fun i => !i.wf) = true := by decide

theorem test_wf_refuses_8 : ([
    .faultDetection 0 0 4096 0,
    .faultDetection 0 0 0 128,
    .fltConfigureSeverity 0 badSource,
    .fltConfigureGlobal 0 badSource,
    .fltAck 0 badSource,
    .fltForcePulse 0 badSource,
    .fltForceHold 0 badSource,
    .fltForceRelease 0 badSource,
    .memoryError 0 10 0 false,
    .ncoCheck 0 [4096],
    .recFreezeSet 0 badSource,
    .recFreezeRelease 0 badSource,
    .recRead 0 badSource,
    .recSetHosttime 0 badSource,
    .recClearArm 0 badSource,
    .recClearExec 0 badSource,
    .twbConfigure 0 badSource,
    .twbClear 0 badSource,
    .twbTransfer 0 badSource,
    .twbAttention 0 badSource,
    .attentionWaitExpiry 0 2,
    .busTransferStart 0 2,
    .busTransferEnd 0 2 .addressNack,
    .ackSlotStart 0 2] : List Instr).all (fun i => !i.wf) = true := by decide

theorem test_wf_refuses_9 : ([
    .arbitrationLost 0 2 0,
    .arbitrationLost 0 0 1024,
    .sclLowTimeout 0 2 false,
    .sdaLowTimeout 0 2,
    .busFreeTimeout 0 2,
    .busClearEnd 0 2 0 false,
    .busClearEnd 0 0 10 false,
    .alert 0 2,
    .alertResponseRead 0 2 none false,
    .alertSuspendEnd 0 2,
    .hostNotify 0 2 [],
    .bootLedgerRead 0 badSource,
    .fwUpdate 0 badSource,
    .msixVectorUnmask 0 (.entry 2048 0 0 false),
    .usbInTransfer 0 (.usb3 8),
    .xtripRise 0 4,
    .calHoldEnd 0 8,
    .probeSuspend 0 128,
    .coefLoadEnd 0 128,
    .mapReadEnd 0 128] : List Instr).all (fun i => !i.wf) = true := by decide

/-- A packet with more than 48 parameter bytes (R530), and readings that are not complete (R461). -/
theorem test_wf_refuses_parts :
    Instr.wf (.nop 0 { packet 0 [] with params := List.replicate 49 0 }) = false ∧
    Instr.wf (.nop 0 { packet 0 [] with src := .ring 16384 }) = false ∧
    Instr.wf (.usbInTransfer 0 (.stream 8)) = false ∧ Instr.wf (.usbInTransfer 0 (.stream 13)) = false ∧
    Instr.wf (.thermalRoundEnd 0 { noReadings with onDie := List.replicate 11 0 }) = false ∧
    Instr.wf (.thermalRoundEnd 0 { noReadings with warm := [12] }) = false ∧
    Instr.wf (.thermalRoundEnd 0 { noReadings with failed := [24] }) = false ∧
    Instr.wf (.thermalRoundEnd 0 { noReadings with monitorsFailed := [16] }) = false := by decide

theorem test_wf_accepts :
    Instr.wf (.nop 0 (packet 0 [])) = true ∧ Instr.wf (.thermalRoundEnd 0 noReadings) = true ∧
    Instr.wf (.doorbellWrite 0 0x1000 4 0) = true ∧ Instr.wf (.linkReturn 0 4) = true := by decide

/-! Worked examples of the spec. -/

/-- A linear-phase bank of n equal taps. -/
def flat (n : Nat) : Bank := { loaded := true, sumRe := n, momRe := (n * (n - 1) / 2 : Nat) }

/-- R175's two anchors and its longest latency: 420, 994 and 26,730 ns. -/
theorem test_latency_anchors :
    latencyNs { enable := true, d := 4, l := 32, lTx := 16 } (flat 32) (flat 16) false 0 = 420 ∧
    latencyNs { enable := true, d := 16, l := 192, lTx := 128 } (flat 192) (flat 128) false 0 = 994 ∧
    latencyNs { enable := true, d := 512, l := 384, lTx := 128 } (flat 384) (flat 128) false 0 = 26730 := by decide

/-- The worked example of R309 and R310: the proportional term 1.8000 dB and the integral term 0.0750 dB. -/
theorem test_control_products :
    mulsh 322122547 0x06000000 30 = 30198989 ∧ mulsh 13421773 0x06000000 30 = 1258291 ∧
    mulsh 0x10000000 (-5033165) 30 = -1258291 := by decide

/-- R535's example: a hold of 1,030 µs is reported as 0x4406, before the ring's PHASE. -/
theorem test_hold_example :
    (completionBytes { id := 0, op := 0x0101, req := packet 8 [], fetchedAt := 0, heldUs := some 1030 } 0 0 0).take 8 =
      [1, 0, 0, 0, 0, 0, 6, 0x44] := by decide

/-- R606's sub-second and R12's sample tick: a second is 120,000 ms of the 1.0417 µs control tick's 960 kHz. -/
theorem test_time_bases : perSecond = 960000 * 2048 ∧ perTick * 122880000 = perSecond := by decide

/-- A NOP from reset: one step takes it from the queue, and its completion waits for the IN endpoint (R533, R557). -/
theorem test_nop_steps :
    (match step { up with pending := [.nop 0 (packet 0 [])] } with
      | .next t => decide (t.pending = [] ∧ (t.items 20008).length = 1)
      | _ => false) = true := by decide

/-! Witnesses of the statements on how commands are taken. -/

theorem test_witness_EmptyQueueIdles : State.reset.pending = [] := by decide
theorem test_witness_QueueBoundsKept : Depths State.reset ∧ ∃ t, step State.reset = .next t := by
  refine ⟨⟨by decide, by decide, fun b => ?_⟩, State.reset, rfl⟩
  simp [State.twbOf, State.reset, Table.get]
theorem test_witness_RejectedCommandOnlyCompletes :
    up.canDeliver .usb2 = true ∧ (up.queue (srcKey .usb2)).all (fun e => e.phase.begun) = true ∧
    (up.deliver 0x0001 (packet 1 [])).doomed (srcKey .usb2) = none ∧
    (up.deliver 0x0001 (packet 1 [])).mayStart (srcKey .usb2)
      { id := up.jcp.nextId, op := 0x0001, req := packet 1 [], fetchedAt := up.now } = true ∧
    (up.deliver 0x0001 (packet 1 [])).verdict cmdNop (packet 1 []) = .fail 0x0011 0 := by decide
theorem test_witness_HeaderChecksInOrder :
    (cmdIdentify.admin && !takesAdmin (.ring 4)) = true ∧
    (cmdNop.admin && !takesAdmin .usb2) = false ∧ (packet 1 []).plen.toNat ≠ cmdNop.plen ∧
    (packet 0 []).plen.toNat = cmdNop.plen ∧ 8 ≤ ({ packet 0 [] with flags := 8 }).flags.toNat ∧
    ({ packet 0 [] with rsvd := 1 }).rsvd ≠ 0 := by decide
def held (us : Option Nat) : Entry := { id := 0, op := 0x0101, req := packet 8 [], fetchedAt := 0, heldUs := us }
theorem test_witness_Completions :
    (held none).heldUs = none ∧ (held (some 8191)).heldUs = some 8191 ∧ (held (some 8192)).heldUs = some 8192 := by decide

def tlmRing : State := { inState 3 with
  jcp := { up.jcp with
    rings := [(3, { type := 5, state := 1, log2size := 4, esz := 6 })] } }

theorem test_witness_ProtocolCommandsComplete_1 :
    ((up).advance 0).takes cmdNop (packet 0 []) = true := by decide

theorem test_witness_ProtocolCommandsComplete_2 :
    ((up).advance 0).takes cmdIdentify (packet 16 (leBytes 8 0 ++ leBytes 4 256)) = true := by decide

theorem test_witness_ProtocolCommandsComplete_3 :
    ((up).advance 0).takes cmdObjRead (onObject (packet 16 (leBytes 8 0 ++ leBytes 2 1)) 0x0011) = true ∧ pu (packet 16 (leBytes 8 0 ++ leBytes 2 1)) 0 8 = 0 := by decide

theorem test_witness_ProtocolCommandsComplete_4 :
    ((pcie).advance 0).takes cmdObjRead (onObject (ringPacket 16 (leBytes 8 4096 ++ leBytes 2 1)) 0x0011) = true ∧ pu (ringPacket 16 (leBytes 8 4096)) 0 8 ≠ 0 := by decide

theorem test_witness_ProtocolCommandsComplete_5 :
    ((up).advance 0).takes cmdTestEcho (withData (packet 24 (leBytes 16 0 ++ leBytes 4 8)) (bs [1, 2, 3, 4, 5, 6, 7, 8])) = true ∧ (bs [1, 2, 3, 4, 5, 6, 7, 8]).length = pu (packet 24 (leBytes 16 0 ++ leBytes 4 8)) 16 4 := by decide

theorem test_witness_ProtocolCommandsComplete_6 :
    ((up).advance 0).takes cmdTestEccInject (packet 16 []) = true := by decide

theorem test_witness_ProtocolCommandsComplete_7 :
    ((tlmRing).advance 0).takes cmdTlmConfigure (onInst (packet 48 (leBytes 4 1000)) 3) = true := by decide

theorem test_witness_ObjectsAreWritten_1 :
    ((up).advance 0).takes cmdObjWrite (onInst (onObject (packet 32 []) 0x11) 0) = true := by decide

theorem test_witness_ObjectsAreWritten_2 :
    ((up).advance 0).takes cmdObjWrite (onInst (onObject (packet 32 []) 0x11) 0) = true := by decide

theorem test_witness_ObjectsAreWritten_3 :
    ((up).advance 0).takes cmdObjWrite (onInst (onObject (packet 32 []) 0x210) 0) = true := by decide

theorem test_witness_ObjectsAreWritten_4 :
    ((up).advance 0).takes cmdObjWrite (onInst (onObject (packet 32 []) 0x212) 0) = true := by decide

theorem test_witness_ObjectsAreWritten_5 :
    (({ up with set := { up.set with hkEntry := [(0, { enable := true, channel := 0 })] } }).advance 0).takes cmdObjWrite (onInst (onObject (packet 32 []) 0x422) 0) = true := by decide

theorem test_witness_ObjectsAreWritten_6 :
    ((up).advance 0).takes cmdObjWrite (onInst (onObject (packet 32 []) 0x423) 0) = true := by decide

theorem test_witness_ObjectsAreWritten_7 :
    ((up).advance 0).takes cmdObjWrite (onInst (onObject (packet 32 []) 0x522) 0) = true := by decide

theorem test_witness_ObjectsAreWritten_8 :
    ((up).advance 0).takes cmdObjWrite (onInst (onObject (packet 32 []) 0xA10) 1) = true := by decide

theorem test_witness_ObjectsAreWritten_9 :
    ((up).advance 0).takes cmdObjWrite (onInst (onObject (packet 32 []) 0xA11) 0) = true := by decide

theorem test_witness_ObjectsAreWritten_10 :
    ((up).advance 0).takes cmdObjWrite (onInst (onObject (packet 32 []) 0xA12) 1) = true := by decide

theorem test_witness_SpecialObjectsAreWritten_1 :
    ((up).advance 0).takes cmdObjWrite (onObject (packet 32 []) 0x900) = true := by decide

theorem test_witness_SpecialObjectsAreWritten_2 :
    ((up).advance 0).takes cmdObjWrite (onObject (packet 32 []) 0xA20) = true := by decide

theorem test_witness_SpecialObjectsAreWritten_3 :
    ((up).advance 0).takes cmdObjWrite (onObject (packet 32 []) 0x101) = true := by decide

theorem test_witness_SpecialObjectsAreWritten_4 :
    ((up).advance 0).takes cmdObjWrite (onObject (withBit (packet 32 []) 7 6 false) 0xC01) = true ∧ bit (up.merged (onObject (withBit (packet 32 []) 7 6 false) 0xC01)) 62 = false := by decide

theorem test_witness_SpecialObjectsAreWritten_5 :
    ((up).advance 0).takes cmdObjWrite (onObject (withBit (withBit (packet 32 []) 7 6 true) 23 6 true) 0xC01) = true ∧ bit (up.merged (onObject (withBit (withBit (packet 32 []) 7 6 true) 23 6 true) 0xC01)) 62 = true := by decide

/-! Witnesses of part C. -/

def pcie4 : State := { pcie with
  jcp := { pcie.jcp with
    rings := pcie.jcp.rings ++ [(4, { type := 2, state := 1, log2size := 4 })] } }
def waitingEntry : Entry := { id := 3, op := 1, req := { packet 0 [] with tag := 7 }, fetchedAt := 0 }
def waiting : State := { pcie with
  jcp := { pcie.jcp with
    nextId := 4
    rings := pcie.jcp.rings ++ [(4, { type := 1, state := 1, log2size := 4, peer := 1 })]
    queues := [(4, [waitingEntry])] } }
def aWalk : Walk :=
  { kind := .host, cmd := none, origin := 1, target := 3, asked := 3, step := 6, startedAt := 0, stepAt := 0, failedStep := none }
def walking : State := { inState 2 with
  radio := { (inState 2).radio with
    walk := some aWalk } }

theorem test_witness_RingCommandsComplete_1 :
    ((pcie).advance 0).takes cmdRingCreate (onInst (ringPacket 24 (bs [2, 6, 0, 0, 255, 255, 0, 0, 0, 0, 16, 0, 0, 0, 0, 0, 1, 0, 0, 0])) 4) = true := by decide

theorem test_witness_RingCommandsComplete_2 :
    ((pcie4).advance 0).takes cmdRingDelete (onInst (ringPacket 4 []) 4) = true ∧ (flag (onInst (ringPacket 4 []) 4) 0 0 = false) ∧ (((((pcie4).advance 0).started 0x0011 (onInst (ringPacket 4 []) 4)).ring (instOf (onInst (ringPacket 4 []) 4))).state = 1) := by decide

theorem test_witness_RingCommandsComplete_3 :
    ((waiting).advance 0).takes cmdAbort (ringPacket 8 (bs [4, 0, 0, 0, 7, 0, 0, 0])) = true ∧ ((((waiting).advance 0).started 0x0020 (ringPacket 8 (bs [4, 0, 0, 0, 7, 0, 0, 0]))).abortKey (ringPacket 8 (bs [4, 0, 0, 0, 7, 0, 0, 0])) = some 4) ∧ (((((waiting).advance 0).started 0x0020 (ringPacket 8 (bs [4, 0, 0, 0, 7, 0, 0, 0]))).queue 4).find? (fun waitingEntry => !waitingEntry.phase.begun && decide (waitingEntry.req.tag.toNat = pu (ringPacket 8 (bs [4, 0, 0, 0, 7, 0, 0, 0])) 4 4)) = some waitingEntry) := by decide

theorem test_witness_RingCommandsComplete_4 :
    ((waiting).advance 0).takes cmdAbort (ringPacket 8 (bs [4, 0, 0, 0, 8, 0, 0, 0])) = true ∧ ((((waiting).advance 0).started 0x0020 (ringPacket 8 (bs [4, 0, 0, 0, 8, 0, 0, 0]))).abortKey (ringPacket 8 (bs [4, 0, 0, 0, 8, 0, 0, 0])) = some 4) ∧ (((((waiting).advance 0).started 0x0020 (ringPacket 8 (bs [4, 0, 0, 0, 8, 0, 0, 0]))).queue 4).find? (fun e => !e.phase.begun && decide (e.req.tag.toNat = pu (ringPacket 8 (bs [4, 0, 0, 0, 8, 0, 0, 0])) 4 4)) = none) := by decide

theorem test_witness_ResetCommandsComplete_1 :
    ((up).advance 0).takes cmdDeviceReset (packet 4 (leBytes 4 0xA5C30F96)) = true := by decide

theorem test_witness_ResetCommandsComplete_2 :
    ((up).advance 0).takes cmdMgmtReset (packet 4 (leBytes 4 0x3C96A55A)) = true := by decide

theorem test_witness_RadioStateRequested_1 :
    ((inState 2).advance 0).takes cmdRadio (packet 4 (bs [3, 15, 3])) = true ∧ ((((if pu (packet 4 (bs [3, 15, 3])) 0 1 < 2 then (((inState 2).advance 0).started 0x0101 (packet 4 (bs [3, 15, 3]))).cutFgCal else (((inState 2).advance 0).started 0x0101 (packet 4 (bs [3, 15, 3])))).endRadio 0x0032 4).setRadio (fun x => { x with raising := !(((inState 2).advance 0).started 0x0101 (packet 4 (bs [3, 15, 3]))).lowers (packet 4 (bs [3, 15, 3])) }) : State).radio.walk = none) := by decide

theorem test_witness_RadioStateRequested_2 :
    ((walking).advance 0).takes cmdRadio (packet 4 (bs [1, 0, 0, 1])) = true ∧ ((((if pu (packet 4 (bs [1, 0, 0, 1])) 0 1 < 2 then (((walking).advance 0).started 0x0101 (packet 4 (bs [1, 0, 0, 1]))).cutFgCal else (((walking).advance 0).started 0x0101 (packet 4 (bs [1, 0, 0, 1])))).endRadio 0x0032 4).setRadio (fun x => { x with raising := !(((walking).advance 0).started 0x0101 (packet 4 (bs [1, 0, 0, 1]))).lowers (packet 4 (bs [1, 0, 0, 1])) }) : State).radio.walk = some aWalk) := by decide

/-! Witnesses of part D. -/

def tapData : List Byte := (List.replicate 16 (leBytes 4 8192 ++ leBytes 4 0)).flatten
def bankD : Bank := { loaded := true, sumRe := 131072 }
def cfgD (on : Bool) : SbConfig := { enable := on, d := 16, df := 0, l := 192, lTx := 128, bw := 100000 }
/-- Sub-band 0 with both pairs of banks loaded, enabled or not, in a radio state. -/
def sb0 (n : Nat) (on : Bool) : State := { inState n with
  set := { up.set with
    sb := [(0, { cfg := cfgD on, rx0 := bankD, rx1 := bankD, tx0 := bankD, tx1 := bankD })] } }
def sb16 : State := { inState 3 with
  set := { up.set with
    sb := [(0, { cfg := { d := 4, l := 16, lTx := 16 } })] } }
/-- The parameters of SB_CONFIGURE for it. -/
def sbPacket (on : Nat) : Request :=
  packet 24 (bs [on, 0] ++ leBytes 2 16 ++ leBytes 2 192 ++ leBytes 2 128 ++ leBytes 4 0 ++ leBytes 4 0 ++ leBytes 4 100000 ++ bs [0, 0, 0, 0])

theorem test_witness_SubbandsAreConfigured_1 :
    ((sb0 3 false).advance 0).takes cmdSbConfigure (sbPacket 0) = true ∧ (flag (sbPacket 0) 0 5 = false) ∧ (flag (sbPacket 0) 0 0 = false) ∧ ((((sb0 3 false).advance 0).started 0x0201 (sbPacket 0)).enabled (instOf (sbPacket 0)) = false) := by decide

theorem test_witness_SubbandsAreConfigured_2 :
    ((sb0 3 false).advance 0).takes cmdSbConfigure (sbPacket 1) = true ∧ (flag (sbPacket 1) 0 0 = true) ∧ (((covered (flag (sbPacket 1) 0 5) (instOf (sbPacket 1))).filter (fun h => !(((sb0 3 false).advance 0).started 0x0201 (sbPacket 1)).enabled h) : List Nat) ≠ []) ∧ ((((sb0 3 false).advance 0).started 0x0201 (sbPacket 1)).listening = true) := by decide

theorem test_witness_SubbandsAreConfigured_3 :
    ((sb0 3 true).advance 0).takes cmdSbConfigure (sbPacket 0) = true ∧ (flag (sbPacket 0) 0 5 = false) ∧ (flag (sbPacket 0) 0 0 = false) ∧ ((((sb0 3 true).advance 0).started 0x0201 (sbPacket 0)).enabled (instOf (sbPacket 0)) = true) ∧ ((((sb0 3 true).advance 0).started 0x0201 (sbPacket 0)).listening = true) ∧ (((((sb0 3 true).advance 0).started 0x0201 (sbPacket 0)).sbOf (instOf (sbPacket 0))).shed = false) := by decide

theorem test_witness_SubbandsAreConfigured_4 :
    ((sb0 3 true).advance 0).takes cmdSbRetune (packet 12 []) = true ∧ ((((sb0 3 true).advance 0).started 0x0204 (packet 12 [])).listening = true) ∧ ((covered (flag (packet 12 []) 8 0) (instOf (packet 12 []))).any (fun h => (((sb0 3 true).advance 0).started 0x0204 (packet 12 [])).enabled h) = true) := by decide

theorem test_witness_SubbandsAreConfigured_5 :
    ((sb0 3 false).advance 0).takes cmdSbRetune (packet 12 []) = true ∧ ((covered (flag (packet 12 []) 8 0) (instOf (packet 12 []))).any (fun h => (((sb0 3 false).advance 0).started 0x0204 (packet 12 [])).enabled h) = false) := by decide

theorem test_witness_BanksAreLoadedAndSwitched_1 :
    ((sb16).advance 0).takes cmdSbLoadCoef (withData (packet 24 (bs [0, 0, 16, 0] ++ leBytes 4 (crc32c tapData) ++ leBytes 8 0 ++ leBytes 4 128)) tapData) = true ∧ (2 ≤ (((sb16).advance 0).started 0x0202 (withData (packet 24 (bs [0, 0, 16, 0] ++ leBytes 4 (crc32c tapData) ++ leBytes 8 0 ++ leBytes 4 128)) tapData)).radio.state) := by decide +kernel

theorem test_witness_BanksAreLoadedAndSwitched_2 :
    (({ sb16 with radio := { sb16.radio with state := 1 } }).advance 0).takes cmdSbLoadCoef (withData (packet 24 (bs [0, 0, 16, 0] ++ leBytes 4 (crc32c tapData) ++ leBytes 8 0 ++ leBytes 4 128)) tapData) = true ∧ (((({ sb16 with radio := { sb16.radio with state := 1 } }).advance 0).started 0x0202 (withData (packet 24 (bs [0, 0, 16, 0] ++ leBytes 4 (crc32c tapData) ++ leBytes 8 0 ++ leBytes 4 128)) tapData)).radio.state < 2) ∧ (((({ sb16 with radio := { sb16.radio with state := 1 } }).advance 0).started 0x0202 (withData (packet 24 (bs [0, 0, 16, 0] ++ leBytes 4 (crc32c tapData) ++ leBytes 8 0 ++ leBytes 4 128)) tapData)).loadFails ({ cmd := some ((({ sb16 with radio := { sb16.radio with state := 1 } }).advance 0).nextRef (withData (packet 24 (bs [0, 0, 16, 0] ++ leBytes 4 (crc32c tapData) ++ leBytes 8 0 ++ leBytes 4 128)) tapData)), startedAt := ((({ sb16 with radio := { sb16.radio with state := 1 } }).advance 0).started 0x0202 (withData (packet 24 (bs [0, 0, 16, 0] ++ leBytes 4 (crc32c tapData) ++ leBytes 8 0 ++ leBytes 4 128)) tapData)).now, members := covered (flag (withData (packet 24 (bs [0, 0, 16, 0] ++ leBytes 4 (crc32c tapData) ++ leBytes 8 0 ++ leBytes 4 128)) tapData) 0 2) (instOf (withData (packet 24 (bs [0, 0, 16, 0] ++ leBytes 4 (crc32c tapData) ++ leBytes 8 0 ++ leBytes 4 128)) tapData)), tx := flag (withData (packet 24 (bs [0, 0, 16, 0] ++ leBytes 4 (crc32c tapData) ++ leBytes 8 0 ++ leBytes 4 128)) tapData) 0 0, bank := if flag (withData (packet 24 (bs [0, 0, 16, 0] ++ leBytes 4 (crc32c tapData) ++ leBytes 8 0 ++ leBytes 4 128)) tapData) 0 1 then 1 else 0, taps := tapsIn (bufOf (withData (packet 24 (bs [0, 0, 16, 0] ++ leBytes 4 (crc32c tapData) ++ leBytes 8 0 ++ leBytes 4 128)) tapData)) (pu (withData (packet 24 (bs [0, 0, 16, 0] ++ leBytes 4 (crc32c tapData) ++ leBytes 8 0 ++ leBytes 4 128)) tapData) 2 2) } : CoefLoad) = none) := by decide +kernel

theorem test_witness_BanksAreLoadedAndSwitched_3 :
    ((sb0 3 false).advance 0).takes cmdSbSwitchBank (packet 8 (bs [3, 6])) = true ∧ ((covered (flag (packet 8 (bs [3, 6])) 0 3) (instOf (packet 8 (bs [3, 6]))) : List Nat).filter (fun h => (((sb0 3 false).advance 0).started 0x0203 (packet 8 (bs [3, 6]))).switchesLive h) = []) := by decide

theorem test_witness_BanksAreLoadedAndSwitched_4 :
    ((sb0 3 true).advance 0).takes cmdSbSwitchBank (packet 8 (bs [5, 0])) = true ∧ ((covered (flag (packet 8 (bs [5, 0])) 0 3) (instOf (packet 8 (bs [5, 0]))) : List Nat).filter (fun h => (((sb0 3 true).advance 0).started 0x0203 (packet 8 (bs [5, 0]))).switchesLive h) = 0 :: ([] : List Nat)) ∧ ((covered (flag (packet 8 (bs [5, 0])) 0 3) (instOf (packet 8 (bs [5, 0]))) : List Nat).filter (fun h => !(((sb0 3 true).advance 0).started 0x0203 (packet 8 (bs [5, 0]))).switchesLive h) = []) ∧ (flag (packet 8 (bs [5, 0])) 0 2 = true) := by decide

theorem test_witness_BanksAreLoadedAndSwitched_5 :
    ((sb0 3 true).advance 0).takes cmdSbSwitchBank (packet 8 (bs [3, 6])) = true ∧ ((covered (flag (packet 8 (bs [3, 6])) 0 3) (instOf (packet 8 (bs [3, 6]))) : List Nat) ≠ []) ∧ ((covered (flag (packet 8 (bs [3, 6])) 0 3) (instOf (packet 8 (bs [3, 6]))) : List Nat).filter (fun h => (((sb0 3 true).advance 0).started 0x0203 (packet 8 (bs [3, 6]))).switchesLive h) = (covered (flag (packet 8 (bs [3, 6])) 0 3) (instOf (packet 8 (bs [3, 6]))) : List Nat)) ∧ ((covered (flag (packet 8 (bs [3, 6])) 0 3) (instOf (packet 8 (bs [3, 6]))) : List Nat).filter (fun h => !(((sb0 3 true).advance 0).started 0x0203 (packet 8 (bs [3, 6]))).switchesLive h) = []) ∧ (flag (packet 8 (bs [3, 6])) 0 2 = false) := by decide

theorem test_witness_BanksAreLoadedAndSwitched_6 :
    ((sb0 3 true).advance 0).takes cmdSbSyncReset (packet 4 []) = true ∧ (covered (flag (packet 4 []) 0 0) (instOf (packet 4 [])) = 0 :: ([] : List Nat)) := by decide

theorem test_witness_BanksAreLoadedAndSwitched_7 :
    ((up).advance 0).takes cmdSbDcb (packet 4 (bs [1, 8])) = true := by decide

/-! Witnesses of part E1. -/

def unset : State := { pcie with
  jcp := { } }
def setUp : State := { unset with
  jcp := { setup0 := { lo := some 1, hi := some 0, shape := some 4 }, setup1 := { lo := some 2, hi := some 0, shape := some 4 }, setup2 := { lo := some 3, hi := some 0, shape := some 4 } } }
def suspended : State := { pcie with
  jcp := { up.jcp with
    rings := [(0, { type := 1, state := 4, before := 1 })] } }

def queued : State := (inState 3).deliver 0x0001 (packet 0 [])
def fenceQueued : State := (inState 3).deliver 0x0001 { packet 0 [] with flags := 2 }
def first : Entry := { id := 0, op := 1, req := packet 0 [] }
def heldFirst : State := { queued with
  jcp := { queued.jcp with
    queues := [(20008, [{ first with phase := .held 0 }])] } }
def heldRadio : State := { inState 2 with
  now := 100000000000
  radio := { (inState 2).radio with
    fgCal := true }
  jcp := { up.jcp with
    queues := [(20008, [{ first with op := 0x0101, req := packet 4 (bs [3]), phase := .held 0 }])] } }

def telemetry : State := { inState 3 with
  jcp := { up.jcp with
    rings := [(3, { type := 5, state := 1, log2size := 4, esz := 6 })], tlm := [(3, { periodUs := 1000, items := [(1, 0, 1)] })] } }

theorem test_witness_DoorbellsAct_1 :
    (((pcie).advance 0).link.pcieUp = true) ∧ ((0) < 16384) ∧ ((((pcie).advance 0).ring (0)).state = 1) ∧ ((3 : BitVec 32).toNat < 65536) ∧ ((3 : BitVec 32).toNat < 2 ^ (((pcie).advance 0).ring (0)).log2size) ∧ ((((pcie).advance 0).ring (0)).type = 1 ∨ (((pcie).advance 0).ring (0)).type = 4) := by decide

theorem test_witness_DoorbellsAct_2 :
    (((pcie).advance 0).link.pcieUp = true) ∧ ((1) < 16384) ∧ ((((pcie).advance 0).ring (1)).state = 1) ∧ ((15 : BitVec 32).toNat < 65536) ∧ ((15 : BitVec 32).toNat < 2 ^ (((pcie).advance 0).ring (1)).log2size) ∧ ((((pcie).advance 0).ring (1)).type ≠ 1) ∧ ((((pcie).advance 0).ring (1)).type ≠ 4) := by decide

theorem test_witness_DoorbellsAct_3 :
    (((pcie).advance 0).link.pcieUp = true) ∧ ((0) < 16384) ∧ ((((pcie).advance 0).ring (0)).state = 1) ∧ ((16 : BitVec 32).toNat < 65536) ∧ (2 ^ (((pcie).advance 0).ring (0)).log2size ≤ (16 : BitVec 32).toNat) := by decide

theorem test_witness_DoorbellsAct_4 :
    (((pcie).advance 0).link.pcieUp = true) ∧ (0 < (16383)) ∧ ((16383) < 16384) ∧ ((((pcie).advance 0).ring (16383)).state ≠ 1) := by decide

theorem test_witness_DoorbellsAct_5 :
    (((pcie).advance 0).link.pcieUp = true) ∧ ((2) ≠ 4) := by decide

theorem test_witness_DoorbellsAct_6 :
    (((unset).advance 0).link.pcieUp = true) ∧ ((((unset).advance 0).ring 0).state ≠ 1) ∧ ((2 : BitVec 2).toNat ≠ 3) := by decide

theorem test_witness_DoorbellsAct_7 :
    (((unset).advance 0).link.pcieUp = true) ∧ ((((unset).advance 0).ring 0).state ≠ 1) ∧ ((0 : BitVec 2).toNat ≠ 3) := by decide

theorem test_witness_DoorbellsAct_8 :
    (((unset).advance 0).link.pcieUp = true) ∧ ((((unset).advance 0).ring 0).state ≠ 1) ∧ ((0 : BitVec 2).toNat ≠ 3) ∧ (4 ≤ (12 : BitVec 26).toNat % 32) ∧ ((12 : BitVec 26).toNat % 32 ≤ 12) ∧ ((12 : BitVec 26).toNat < 131072) := by decide

theorem test_witness_DoorbellsAct_9 :
    (((setUp).advance 0).link.pcieUp = true) ∧ ((((setUp).advance 0).ring 0).state ≠ 1) ∧ ((((setUp).advance 0).clearSetup.ring 0).state ≠ 4) ∧ (((setUp).advance 0).clearSetup.masters = true) ∧ (((setUp).advance 0).jcp.setup0.ring 1 1 = some ({ base := 4096, peer := 1, type := 1, log2size := 4, state := 1 } : Ring)) ∧ (((setUp).advance 0).jcp.setup1.ring 2 65535 = some ({ base := 8192, peer := 65535, type := 2, log2size := 4, state := 1 } : Ring)) ∧ (((setUp).advance 0).jcp.setup2.ring 3 65535 = some ({ base := 12288, peer := 65535, type := 3, log2size := 4, state := 1 } : Ring)) ∧ (({ base := 4096, peer := 1, type := 1, log2size := 4, state := 1 } : Ring).overlaps ({ base := 8192, peer := 65535, type := 2, log2size := 4, state := 1 } : Ring) = false) ∧ (({ base := 4096, peer := 1, type := 1, log2size := 4, state := 1 } : Ring).overlaps ({ base := 12288, peer := 65535, type := 3, log2size := 4, state := 1 } : Ring) = false) ∧ (({ base := 8192, peer := 65535, type := 2, log2size := 4, state := 1 } : Ring).overlaps ({ base := 12288, peer := 65535, type := 3, log2size := 4, state := 1 } : Ring) = false) := by decide

theorem test_witness_DoorbellsAct_10 :
    ((({ setUp with jcp := { setUp.jcp with rings := [(0, { state := 4 })] } }).advance 0).link.pcieUp = true) ∧ (((({ setUp with jcp := { setUp.jcp with rings := [(0, { state := 4 })] } }).advance 0).ring 0).state ≠ 1) ∧ (((({ setUp with jcp := { setUp.jcp with rings := [(0, { state := 4 })] } }).advance 0).clearSetup.ring 0).state = 4) ∧ ((({ setUp with jcp := { setUp.jcp with rings := [(0, { state := 4 })] } }).advance 0).clearSetup.jcp.cause ≠ 2) ∧ ((({ setUp with jcp := { setUp.jcp with rings := [(0, { state := 4 })] } }).advance 0).clearSetup.masters = true) ∧ ((({ setUp with jcp := { setUp.jcp with rings := [(0, { state := 4 })] } }).advance 0).jcp.setup0.ring 1 1 = some ({ base := 4096, peer := 1, type := 1, log2size := 4, state := 1 } : Ring)) ∧ ((({ setUp with jcp := { setUp.jcp with rings := [(0, { state := 4 })] } }).advance 0).jcp.setup1.ring 2 65535 = some ({ base := 8192, peer := 65535, type := 2, log2size := 4, state := 1 } : Ring)) ∧ ((({ setUp with jcp := { setUp.jcp with rings := [(0, { state := 4 })] } }).advance 0).jcp.setup2.ring 3 65535 = some ({ base := 12288, peer := 65535, type := 3, log2size := 4, state := 1 } : Ring)) ∧ (({ base := 4096, peer := 1, type := 1, log2size := 4, state := 1 } : Ring).overlaps ({ base := 8192, peer := 65535, type := 2, log2size := 4, state := 1 } : Ring) = false) ∧ (({ base := 4096, peer := 1, type := 1, log2size := 4, state := 1 } : Ring).overlaps ({ base := 12288, peer := 65535, type := 3, log2size := 4, state := 1 } : Ring) = false) ∧ (({ base := 8192, peer := 65535, type := 2, log2size := 4, state := 1 } : Ring).overlaps ({ base := 12288, peer := 65535, type := 3, log2size := 4, state := 1 } : Ring) = false) := by decide

theorem test_witness_DoorbellsAct_11 :
    (((suspended).advance 0).link.pcieUp = true) ∧ ((((suspended).advance 0).ring 0).state = 4) ∧ (((suspended).advance 0).jcp.cause ≠ 2) ∧ ((0 : BitVec 26).toNat = ((suspended).advance 0).jcp.session) ∧ ((0 : BitVec 26).toNat < 65536) ∧ (((suspended).advance 0).now ≤ ((suspended).advance 0).link.lostTime + ((suspended).advance 0).set.keepS * perSecond) := by decide

theorem test_witness_PacketEventsComplete_1 :
    (byPcie (ringPacket 0 []) = true) ∧ (((pcie).advance 0).canDeliver (ringPacket 0 []).src = true) ∧ ((((pcie).advance 0).deliver (1 : BitVec 16).toNat (ringPacket 0 [])).doomed (srcKey (ringPacket 0 []).src) = none) := by decide

theorem test_witness_PacketEventsComplete_2 :
    (byPcie (packet 0 []) = false) ∧ (((up).advance 0).canDeliver (packet 0 []).src = true) ∧ ((((up).advance 0).deliver (1 : BitVec 16).toNat (packet 0 [])).doomed (srcKey (packet 0 []).src) = none) := by decide

theorem test_witness_PacketEventsComplete_6 :
    (((heldRadio).advance 0).firstWaiting (srcKey (Src.usb2)) = some ({ first with op := 0x0101, req := packet 4 (bs [3]), phase := .held 0 } : Entry)) ∧ (({ first with op := 0x0101, req := packet 4 (bs [3]), phase := .held 0 } : Entry).phase = .held (0 : Nat)) ∧ ((0 : Nat) + ofMicros ((heldRadio).advance 0).set.radioCfg.deferLimitUs ≤ ((heldRadio).advance 0).now) ∧ (((heldRadio).advance 0).stillWaits ({ first with op := 0x0101, req := packet 4 (bs [3]), phase := .held 0 } : Entry) = true) := by decide

theorem test_witness_PacketEventsComplete_7 :
    (((up).advance 0).boot.pairFenced ≠ 3) := by decide

theorem test_witness_PacketEventsComplete_8 :
    (((({ inState 3 with now := 1966080, jcp := { up.jcp with rings := [(1, { type := 2, state := 3, irqEn := true, since := 1, modUs := 1 })] } }).advance 0).ring (1)).irqEn = true) ∧ (((({ inState 3 with now := 1966080, jcp := { up.jcp with rings := [(1, { type := 2, state := 3, irqEn := true, since := 1, modUs := 1 })] } }).advance 0).ring (1)).state = 1 ∨ ((({ inState 3 with now := 1966080, jcp := { up.jcp with rings := [(1, { type := 2, state := 3, irqEn := true, since := 1, modUs := 1 })] } }).advance 0).ring (1)).state = 3) ∧ (0 < ((({ inState 3 with now := 1966080, jcp := { up.jcp with rings := [(1, { type := 2, state := 3, irqEn := true, since := 1, modUs := 1 })] } }).advance 0).ring (1)).since) ∧ (0 < ((({ inState 3 with now := 1966080, jcp := { up.jcp with rings := [(1, { type := 2, state := 3, irqEn := true, since := 1, modUs := 1 })] } }).advance 0).ring (1)).modUs) ∧ (((({ inState 3 with now := 1966080, jcp := { up.jcp with rings := [(1, { type := 2, state := 3, irqEn := true, since := 1, modUs := 1 })] } }).advance 0).ring (1)).sinceAt + ofMicros ((({ inState 3 with now := 1966080, jcp := { up.jcp with rings := [(1, { type := 2, state := 3, irqEn := true, since := 1, modUs := 1 })] } }).advance 0).ring (1)).modUs ≤ (({ inState 3 with now := 1966080, jcp := { up.jcp with rings := [(1, { type := 2, state := 3, irqEn := true, since := 1, modUs := 1 })] } }).advance 0).now) := by decide

theorem test_witness_PacketEventsComplete_9 :
    (((({ inState 3 with jcp := { up.jcp with rings := [(3, { type := 2, state := 3, drain := some (0, { src := 0, id := 0 }, false) })] } }).advance 0).ring (3)).drain = some ((0), ({ src := 0, id := 0 } : CmdRef), (false))) ∧ ((({ inState 3 with jcp := { up.jcp with rings := [(3, { type := 2, state := 3, drain := some (0, { src := 0, id := 0 }, false) })] } }).advance 0).drained (3) = true) := by decide

theorem test_witness_PacketEventsComplete_10 :
    (1 ≤ (3)) ∧ ((3) ≤ 3) ∧ ((((pcie).advance 0).ring (0)).state = 1) := by decide

theorem test_witness_PacketEventsComplete_11 :
    ((((telemetry).advance 0).tlmOf (3)).items ≠ []) ∧ ((((telemetry).advance 0).ring (3)).state = 1) ∧ ((((telemetry).advance 0).ring (3)).type = 5) ∧ (((telemetry).advance 0).divStart.isSome = true) ∧ (((telemetry).advance 0).tick % tlmTicks (((telemetry).advance 0).tlmOf (3)).periodUs = 0) ∧ ((((telemetry).advance 0).tlmOf (3)).last = none) ∧ ((((telemetry).advance 0).items (3)).length < (((telemetry).advance 0).ring (3)).room) := by decide

theorem test_witness_PacketEventsComplete_12 :
    (((({ telemetry with jcp := { telemetry.jcp with rings := [(3, { type := 5, state := 1, esz := 6 })] } }).advance 0).tlmOf (3)).items ≠ []) ∧ (((({ telemetry with jcp := { telemetry.jcp with rings := [(3, { type := 5, state := 1, esz := 6 })] } }).advance 0).ring (3)).state = 1) ∧ (((({ telemetry with jcp := { telemetry.jcp with rings := [(3, { type := 5, state := 1, esz := 6 })] } }).advance 0).ring (3)).type = 5) ∧ ((({ telemetry with jcp := { telemetry.jcp with rings := [(3, { type := 5, state := 1, esz := 6 })] } }).advance 0).divStart.isSome = true) ∧ ((({ telemetry with jcp := { telemetry.jcp with rings := [(3, { type := 5, state := 1, esz := 6 })] } }).advance 0).tick % tlmTicks ((({ telemetry with jcp := { telemetry.jcp with rings := [(3, { type := 5, state := 1, esz := 6 })] } }).advance 0).tlmOf (3)).periodUs = 0) ∧ (((({ telemetry with jcp := { telemetry.jcp with rings := [(3, { type := 5, state := 1, esz := 6 })] } }).advance 0).tlmOf (3)).last = none) ∧ (((({ telemetry with jcp := { telemetry.jcp with rings := [(3, { type := 5, state := 1, esz := 6 })] } }).advance 0).ring (3)).room ≤ ((({ telemetry with jcp := { telemetry.jcp with rings := [(3, { type := 5, state := 1, esz := 6 })] } }).advance 0).items (3)).length) := by decide +kernel

theorem test_witness_PacketEventsComplete_13 :
    ((({ inState 3 with jcp := { up.jcp with barriers := [{ number := 1, cause := 0, ring := 65535, aborted := 0, upTo := 0, owed := [] }] } }).advance 0).jcp.barriers.find? (fun y => (({ inState 3 with jcp := { up.jcp with barriers := [{ number := 1, cause := 0, ring := 65535, aborted := 0, upTo := 0, owed := [] }] } }).advance 0).barrierDone y) = some ({ number := 1, cause := 0, ring := 65535, aborted := 0, upTo := 0, owed := [] } : Barrier)) := by decide

theorem test_witness_start_1 :
    ((queued).advance 0).nextToStart (srcKey .usb2) false = some (first) ∧ cmdOf (first).op = some cmdNop ∧
    ((queued).advance 0).verdict cmdNop (first).req = .ok :=
  ⟨by decide, rfl, by decide⟩

theorem test_witness_start_2 :
    ((fenceQueued).advance 0).nextToStart (srcKey .usb2) false = some ({ first with req := { packet 0 [] with flags := 2 } }) ∧ cmdOf ({ first with req := { packet 0 [] with flags := 2 } }).op = some cmdNop ∧
    ((fenceQueued).advance 0).verdict cmdNop ({ first with req := { packet 0 [] with flags := 2 } }).req = .ok ∧ bit ({ first with req := { packet 0 [] with flags := 2 } }).req.flags.toNat 1 = true :=
  ⟨by decide, rfl, by decide, by decide⟩

theorem test_witness_start_3 :
    ((heldFirst).advance 0).nextToStart (srcKey .usb2) true = some ({ first with phase := .held 0 }) ∧ cmdOf ({ first with phase := .held 0 }).op = some cmdNop ∧
    ((heldFirst).advance 0).verdict cmdNop ({ first with phase := .held 0 }).req = .ok :=
  ⟨by decide, rfl, by decide⟩

/-! Witnesses of part E2. -/

def walkAt (step target at_ : Nat) : State := { inState 2 with
  now := 1000000000000
  radio := { (inState 2).radio with
    walk := some { kind := .host, cmd := none, origin := 1, target := target, asked := target, step := step, startedAt := 0, stepAt := at_, failedStep := none } } }
def asleep : State := { up with
  now := 1000000000000
  radio := { up.radio with
    state := 0, gateAt := some 0 }
  set := { up.set with
    radioCfg := { up.set.radioCfg with wakeUsb := true, wakeGpio := 15 } } }
def locking : State := { walkAt 4 3 0 with
  radio := { (walkAt 4 3 0).radio with
    state := 1, pllOn := true, pllLocked := false, srcPresent := true, pllOnAt := 0 } }

theorem test_witness_WalkEventsComplete_1 :
    ((({ asleep with radio := { asleep.radio with waking := some (1, 0) } }).advance 0).radio.waking = some ((1 : Nat), (0 : Time))) ∧ ((0 : Time) + (({ asleep with radio := { asleep.radio with waking := some (1, 0) } }).advance 0).wakeTime ≤ (({ asleep with radio := { asleep.radio with waking := some (1, 0) } }).advance 0).now) := by decide

theorem test_witness_WalkEventsComplete_2 :
    (((walkAt 6 3 0).advance 0).radio.waking = none) ∧ (((walkAt 6 3 0).advance 0).radio.walk = some ({ kind := .host, cmd := none, origin := 1, target := 3, asked := 3, step := 6, startedAt := 0, stepAt := 0, failedStep := none } : Walk)) ∧ (({ kind := .host, cmd := none, origin := 1, target := 3, asked := 3, step := 6, startedAt := 0, stepAt := 0, failedStep := none } : Walk).kind ≠ .thermal ∨ ((walkAt 6 3 0).advance 0).firmwareRuns = true) ∧ (({ kind := .host, cmd := none, origin := 1, target := 3, asked := 3, step := 6, startedAt := 0, stepAt := 0, failedStep := none } : Walk).step = 6) ∧ (({ kind := .host, cmd := none, origin := 1, target := 3, asked := 3, step := 6, startedAt := 0, stepAt := 0, failedStep := none } : Walk).stepAt + ofMicros 60 ≤ ((walkAt 6 3 0).advance 0).now) := by decide

theorem test_witness_WalkEventsComplete_3 :
    (((walkAt 7 4 0).advance 0).radio.waking = none) ∧ (((walkAt 7 4 0).advance 0).radio.walk = some ({ kind := .host, cmd := none, origin := 1, target := 4, asked := 4, step := 7, startedAt := 0, stepAt := 0, failedStep := none } : Walk)) ∧ (({ kind := .host, cmd := none, origin := 1, target := 4, asked := 4, step := 7, startedAt := 0, stepAt := 0, failedStep := none } : Walk).kind ≠ .thermal ∨ ((walkAt 7 4 0).advance 0).firmwareRuns = true) ∧ (({ kind := .host, cmd := none, origin := 1, target := 4, asked := 4, step := 7, startedAt := 0, stepAt := 0, failedStep := none } : Walk).step = 7) ∧ (({ kind := .host, cmd := none, origin := 1, target := 4, asked := 4, step := 7, startedAt := 0, stepAt := 0, failedStep := none } : Walk).stepAt + ofMicros 20 ≤ ((walkAt 7 4 0).advance 0).now) := by decide

theorem test_witness_WalkEventsComplete_4 :
    (((walkAt 8 4 0).advance 0).radio.waking = none) ∧ (((walkAt 8 4 0).advance 0).radio.walk = some ({ kind := .host, cmd := none, origin := 1, target := 4, asked := 4, step := 8, startedAt := 0, stepAt := 0, failedStep := none } : Walk)) ∧ (({ kind := .host, cmd := none, origin := 1, target := 4, asked := 4, step := 8, startedAt := 0, stepAt := 0, failedStep := none } : Walk).kind ≠ .thermal ∨ ((walkAt 8 4 0).advance 0).firmwareRuns = true) ∧ (({ kind := .host, cmd := none, origin := 1, target := 4, asked := 4, step := 8, startedAt := 0, stepAt := 0, failedStep := none } : Walk).step = 8) := by decide

theorem test_witness_WalkEventsComplete_5 :
    (((walkAt 4 4 0).advance 0).radio.waking = none) ∧ (((walkAt 4 4 0).advance 0).radio.walk = some ({ kind := .host, cmd := none, origin := 1, target := 4, asked := 4, step := 4, startedAt := 0, stepAt := 0, failedStep := none } : Walk)) ∧ (({ kind := .host, cmd := none, origin := 1, target := 4, asked := 4, step := 4, startedAt := 0, stepAt := 0, failedStep := none } : Walk).kind ≠ .thermal ∨ ((walkAt 4 4 0).advance 0).firmwareRuns = true) ∧ (4 ≤ ({ kind := .host, cmd := none, origin := 1, target := 4, asked := 4, step := 4, startedAt := 0, stepAt := 0, failedStep := none } : Walk).step) ∧ (({ kind := .host, cmd := none, origin := 1, target := 4, asked := 4, step := 4, startedAt := 0, stepAt := 0, failedStep := none } : Walk).step ≤ 8) ∧ (((walkAt 4 4 0).advance 0).radio.relock = none) := by decide

theorem test_witness_WalkEventsComplete_6 :
    (((walkAt 5 2 0).advance 0).radio.walk = some ({ kind := .host, cmd := none, origin := 1, target := 2, asked := 2, step := 5, startedAt := 0, stepAt := 0, failedStep := none } : Walk)) ∧ (({ kind := .host, cmd := none, origin := 1, target := 2, asked := 2, step := 5, startedAt := 0, stepAt := 0, failedStep := none } : Walk).step = 5) ∧ (((walkAt 5 2 0).advance 0).radio.pllLocked = true) ∧ (({ kind := .host, cmd := none, origin := 1, target := 2, asked := 2, step := 5, startedAt := 0, stepAt := 0, failedStep := none } : Walk).stepAt + ofMicros 800 ≤ ((walkAt 5 2 0).advance 0).now) := by decide

theorem test_witness_WalkEventsComplete_7 :
    ((({ walkAt 9 0 0 with radio := { (walkAt 9 0 0).radio with state := 1, walk := some { kind := .host, cmd := some { src := 0, id := 0 }, origin := 1, target := 0, asked := 0, step := 9, startedAt := 0, stepAt := 0, failedStep := none } } }).advance 0).radio.walk = some ({ kind := .host, cmd := some { src := 0, id := 0 }, origin := 1, target := 0, asked := 0, step := 9, startedAt := 0, stepAt := 0, failedStep := none } : Walk)) ∧ (({ kind := .host, cmd := some { src := 0, id := 0 }, origin := 1, target := 0, asked := 0, step := 9, startedAt := 0, stepAt := 0, failedStep := none } : Walk).step = 9) ∧ ((({ walkAt 9 0 0 with radio := { (walkAt 9 0 0).radio with state := 1, walk := some { kind := .host, cmd := some { src := 0, id := 0 }, origin := 1, target := 0, asked := 0, step := 9, startedAt := 0, stepAt := 0, failedStep := none } } }).advance 0).radio.state = 1) ∧ (((({ walkAt 9 0 0 with radio := { (walkAt 9 0 0).radio with state := 1, walk := some { kind := .host, cmd := some { src := 0, id := 0 }, origin := 1, target := 0, asked := 0, step := 9, startedAt := 0, stepAt := 0, failedStep := none } } }).advance 0).twbOf 0).busy = .idle) ∧ (((({ walkAt 9 0 0 with radio := { (walkAt 9 0 0).radio with state := 1, walk := some { kind := .host, cmd := some { src := 0, id := 0 }, origin := 1, target := 0, asked := 0, step := 9, startedAt := 0, stepAt := 0, failedStep := none } } }).advance 0).twbOf 1).busy = .idle) ∧ (({ kind := .host, cmd := some { src := 0, id := 0 }, origin := 1, target := 0, asked := 0, step := 9, startedAt := 0, stepAt := 0, failedStep := none } : Walk).cmd = some ({ src := 0, id := 0 } : CmdRef)) := by decide

theorem test_witness_WalkEventsComplete_8 :
    (((asleep).advance 0).radio.gateAt = some (0 : Time)) ∧ ((0 : Time) ≤ ((asleep).advance 0).now) ∧ (((asleep).advance 0).radio.state = 0) ∧ (((asleep).advance 0).radio.gated = false) ∧ (((asleep).advance 0).radio.waking = none) := by decide

theorem test_witness_WalkEventsComplete_9 :
    (((asleep).advance 0).radio.state = 0) ∧ (((asleep).advance 0).radio.waking = none) ∧ (((asleep).advance 0).set.radioCfg.wakeUsb = true) := by decide

theorem test_witness_WalkEventsComplete_10 :
    (((asleep).advance 0).radio.state = 0) ∧ (((asleep).advance 0).radio.waking = none) ∧ ((15) < 16) ∧ (((asleep).advance 0).set.radioCfg.wakeGpio = (15)) := by decide

theorem test_witness_ClockEventsComplete_1 :
    ((({ locking with radio := { locking.radio with walk := none } }).advance 0).radio.pllOn = true) ∧ ((({ locking with radio := { locking.radio with walk := none } }).advance 0).radio.pllLocked = false) ∧ ((({ locking with radio := { locking.radio with walk := none } }).advance 0).radio.srcPresent = true) ∧ ((({ locking with radio := { locking.radio with walk := none } }).advance 0).radio.pllOnAt + ofMicros 50 ≤ (({ locking with radio := { locking.radio with walk := none } }).advance 0).now) ∧ ((({ locking with radio := { locking.radio with walk := none } }).advance 0).radio.walk = none) := by decide

theorem test_witness_ClockEventsComplete_2 :
    ((({ locking with radio := { locking.radio with walk := some ({ kind := .host, cmd := none, origin := 1, target := 3, asked := 3, step := 5, startedAt := 0, stepAt := 0, failedStep := none } : Walk) } }).advance 0).radio.pllOn = true) ∧ ((({ locking with radio := { locking.radio with walk := some ({ kind := .host, cmd := none, origin := 1, target := 3, asked := 3, step := 5, startedAt := 0, stepAt := 0, failedStep := none } : Walk) } }).advance 0).radio.pllLocked = false) ∧ ((({ locking with radio := { locking.radio with walk := some ({ kind := .host, cmd := none, origin := 1, target := 3, asked := 3, step := 5, startedAt := 0, stepAt := 0, failedStep := none } : Walk) } }).advance 0).radio.srcPresent = true) ∧ ((({ locking with radio := { locking.radio with walk := some ({ kind := .host, cmd := none, origin := 1, target := 3, asked := 3, step := 5, startedAt := 0, stepAt := 0, failedStep := none } : Walk) } }).advance 0).radio.pllOnAt + ofMicros 50 ≤ (({ locking with radio := { locking.radio with walk := some ({ kind := .host, cmd := none, origin := 1, target := 3, asked := 3, step := 5, startedAt := 0, stepAt := 0, failedStep := none } : Walk) } }).advance 0).now) ∧ ((({ locking with radio := { locking.radio with walk := some ({ kind := .host, cmd := none, origin := 1, target := 3, asked := 3, step := 5, startedAt := 0, stepAt := 0, failedStep := none } : Walk) } }).advance 0).radio.walk = some ({ kind := .host, cmd := none, origin := 1, target := 3, asked := 3, step := 5, startedAt := 0, stepAt := 0, failedStep := none } : Walk)) ∧ (({ kind := .host, cmd := none, origin := 1, target := 3, asked := 3, step := 5, startedAt := 0, stepAt := 0, failedStep := none } : Walk).step ≠ 4) := by decide

theorem test_witness_ClockEventsComplete_3 :
    (((locking).advance 0).radio.pllOn = true) ∧ (((locking).advance 0).radio.pllLocked = false) ∧ (((locking).advance 0).radio.srcPresent = true) ∧ (((locking).advance 0).radio.pllOnAt + ofMicros 50 ≤ ((locking).advance 0).now) ∧ (((locking).advance 0).radio.walk = some ({ kind := .host, cmd := none, origin := 1, target := 3, asked := 3, step := 4, startedAt := 0, stepAt := 0, failedStep := none } : Walk)) ∧ (({ kind := .host, cmd := none, origin := 1, target := 3, asked := 3, step := 4, startedAt := 0, stepAt := 0, failedStep := none } : Walk).step = 4) := by decide

theorem test_witness_ClockEventsComplete_4 :
    (((locking).advance 0).radio.pllOn = true) ∧ (((locking).advance 0).radio.pllLocked = false) ∧ (((locking).advance 0).radio.pllOnAt + ofMicros 2000 ≤ ((locking).advance 0).now) ∧ (((locking).advance 0).radio.walk = some ({ kind := .host, cmd := none, origin := 1, target := 3, asked := 3, step := 4, startedAt := 0, stepAt := 0, failedStep := none } : Walk)) ∧ (({ kind := .host, cmd := none, origin := 1, target := 3, asked := 3, step := 4, startedAt := 0, stepAt := 0, failedStep := none } : Walk).step = 4) ∧ (((locking).advance 0).radio.relock = none) := by decide

theorem test_witness_ClockEventsComplete_5 :
    ((({ locking with radio := { locking.radio with relock := some (1, 0) } }).advance 0).radio.pllOn = true) ∧ ((({ locking with radio := { locking.radio with relock := some (1, 0) } }).advance 0).radio.pllLocked = false) ∧ ((({ locking with radio := { locking.radio with relock := some (1, 0) } }).advance 0).radio.pllOnAt + ofMicros 2000 ≤ (({ locking with radio := { locking.radio with relock := some (1, 0) } }).advance 0).now) ∧ ((({ locking with radio := { locking.radio with relock := some (1, 0) } }).advance 0).radio.walk = some ({ kind := .host, cmd := none, origin := 1, target := 3, asked := 3, step := 4, startedAt := 0, stepAt := 0, failedStep := none } : Walk)) ∧ (({ kind := .host, cmd := none, origin := 1, target := 3, asked := 3, step := 4, startedAt := 0, stepAt := 0, failedStep := none } : Walk).step = 4) ∧ ((({ locking with radio := { locking.radio with relock := some (1, 0) } }).advance 0).radio.relock = some ((1, 0) : Nat × Time)) := by decide

theorem test_witness_ClockEventsComplete_6 :
    ((({ up with radio := { up.radio with pllOn := true, pllLocked := true } }).advance 0).radio.pllLocked = true) ∧ ((({ up with radio := { up.radio with pllOn := true, pllLocked := true } }).advance 0).radio.state < 2) ∧ ((({ up with radio := { up.radio with pllOn := true, pllLocked := true } }).advance 0).radio.relock = none) := by decide

theorem test_witness_ClockEventsComplete_7 :
    ((({ up with radio := { up.radio with pllOn := true, pllLocked := true, relock := some (1, 0) } }).advance 0).radio.pllLocked = true) ∧ ((({ up with radio := { up.radio with pllOn := true, pllLocked := true, relock := some (1, 0) } }).advance 0).radio.state < 2) ∧ ((({ up with radio := { up.radio with pllOn := true, pllLocked := true, relock := some (1, 0) } }).advance 0).radio.relock = some ((1, 0) : Nat × Time)) := by decide

theorem test_witness_ClockEventsComplete_8 :
    (((inState 4).advance 0).radio.pllLocked = true) ∧ (2 ≤ ((inState 4).advance 0).radio.state) := by decide

theorem test_witness_ClockEventsComplete_9 :
    ((({ up with radio := { up.radio with srcPresent := true } }).advance 0).radio.rootExt = true) ∧ ((({ up with radio := { up.radio with srcPresent := true } }).advance 0).radio.inReset = false) ∧ ((({ up with radio := { up.radio with srcPresent := true } }).advance 0).radio.fallback = false) ∧ (1 ≤ (({ up with radio := { up.radio with srcPresent := true } }).advance 0).radio.state) := by decide

theorem test_witness_ClockEventsComplete_10 :
    ((({ up with radio := { up.radio with state := 0, waking := some (1, 0) } }).advance 0).radio.rootExt = true) ∧ ((({ up with radio := { up.radio with state := 0, waking := some (1, 0) } }).advance 0).radio.inReset = false) ∧ ((({ up with radio := { up.radio with state := 0, waking := some (1, 0) } }).advance 0).radio.fallback = false) ∧ ((({ up with radio := { up.radio with state := 0, waking := some (1, 0) } }).advance 0).radio.state = 0) ∧ ((({ up with radio := { up.radio with state := 0, waking := some (1, 0) } }).advance 0).radio.waking = some ((1, 0) : Nat × Time)) ∧ ((({ up with radio := { up.radio with state := 0, waking := some (1, 0) } }).advance 0).flt.lasting.any (fun d => d.bit == 5) = false) := by decide

theorem test_witness_ClockEventsComplete_11 :
    ((({ up with radio := { up.radio with rootExt := false, srcPresent := true } }).advance 0).radio.rootExt = false) ∧ ((({ up with radio := { up.radio with rootExt := false, srcPresent := true } }).advance 0).radio.inReset = false) ∧ ((({ up with radio := { up.radio with rootExt := false, srcPresent := true } }).advance 0).radio.fallback = false) ∧ ((({ up with radio := { up.radio with rootExt := false, srcPresent := true } }).advance 0).radio.srcPresent = true) ∧ (1 ≤ (({ up with radio := { up.radio with rootExt := false, srcPresent := true } }).advance 0).radio.state) := by decide

theorem test_witness_ClockEventsComplete_12 :
    ((({ up with now := 1000000000000, radio := { up.radio with rootExt := false } }).advance 0).radio.rootExt = false) ∧ ((({ up with now := 1000000000000, radio := { up.radio with rootExt := false } }).advance 0).radio.inReset = false) ∧ ((({ up with now := 1000000000000, radio := { up.radio with rootExt := false } }).advance 0).radio.fallback = false) ∧ ((({ up with now := 1000000000000, radio := { up.radio with rootExt := false } }).advance 0).radio.srcPresent = false) ∧ (1 ≤ (({ up with now := 1000000000000, radio := { up.radio with rootExt := false } }).advance 0).radio.state) ∧ ((({ up with now := 1000000000000, radio := { up.radio with rootExt := false } }).advance 0).radio.xtalOnAt.getD (({ up with now := 1000000000000, radio := { up.radio with rootExt := false } }).advance 0).boot.releasedAt + 5 * perMs ≤ (({ up with now := 1000000000000, radio := { up.radio with rootExt := false } }).advance 0).now) := by decide

theorem test_witness_ClockEventsComplete_13 :
    ((({ up with now := 1000000000000, radio := { up.radio with rootExt := false, fallback := true, xtalOnAt := some 0 } }).advance 0).radio.xtalOnAt = some (0 : Time)) ∧ ((({ up with now := 1000000000000, radio := { up.radio with rootExt := false, fallback := true, xtalOnAt := some 0 } }).advance 0).radio.fallback = true) ∧ ((({ up with now := 1000000000000, radio := { up.radio with rootExt := false, fallback := true, xtalOnAt := some 0 } }).advance 0).radio.rootExt = false) ∧ ((0 : Time) + 100 * perMs ≤ (({ up with now := 1000000000000, radio := { up.radio with rootExt := false, fallback := true, xtalOnAt := some 0 } }).advance 0).now) := by decide

theorem test_witness_ClockEventsComplete_14 :
    ((({ up with now := 1000000000000, radio := { up.radio with rootExt := false, fallback := true, xtalOnAt := some 0 } }).advance 0).radio.fallback = true) ∧ ((({ up with now := 1000000000000, radio := { up.radio with rootExt := false, fallback := true, xtalOnAt := some 0 } }).advance 0).radio.xtalOnAt = some (0 : Time)) ∧ ((0 : Time) + 5 * perMs ≤ (({ up with now := 1000000000000, radio := { up.radio with rootExt := false, fallback := true, xtalOnAt := some 0 } }).advance 0).now) := by decide

theorem test_witness_ClockEventsComplete_15 :
    ((({ up with radio := { up.radio with fallback := true } }).advance 0).radio.fallback = true) ∧ ((({ up with radio := { up.radio with fallback := true } }).advance 0).radio.xtalOnAt = none) ∧ ((({ up with radio := { up.radio with fallback := true } }).advance 0).radio.rootExt = true) := by decide

theorem test_witness_ClockEventsComplete_16 :
    ((({ up with radio := { up.radio with rootExt := false }, flt := { up.flt with lasting := [{ bit := 4, addr := 0, kind := 1 }] } }).advance 0).radio.fallback = false) ∧ ((({ up with radio := { up.radio with rootExt := false }, flt := { up.flt with lasting := [{ bit := 4, addr := 0, kind := 1 }] } }).advance 0).radio.rootExt = false) ∧ ((({ up with radio := { up.radio with rootExt := false }, flt := { up.flt with lasting := [{ bit := 4, addr := 0, kind := 1 }] } }).advance 0).radio.srcPresent = false) ∧ ((({ up with radio := { up.radio with rootExt := false }, flt := { up.flt with lasting := [{ bit := 4, addr := 0, kind := 1 }] } }).advance 0).radio.inReset = false) ∧ ((({ up with radio := { up.radio with rootExt := false }, flt := { up.flt with lasting := [{ bit := 4, addr := 0, kind := 1 }] } }).advance 0).flt.lasting.any (fun d => d.bit == 4) = true) ∧ (1 ≤ (({ up with radio := { up.radio with rootExt := false }, flt := { up.flt with lasting := [{ bit := 4, addr := 0, kind := 1 }] } }).advance 0).radio.state) := by decide

theorem test_witness_ClockEventsComplete_17 :
    ((({ up with radio := { up.radio with state := 0, waking := some (1, 0) }, flt := { up.flt with lasting := [{ bit := 5, addr := 0, kind := 0 }] } }).advance 0).radio.fallback = false) ∧ ((({ up with radio := { up.radio with state := 0, waking := some (1, 0) }, flt := { up.flt with lasting := [{ bit := 5, addr := 0, kind := 0 }] } }).advance 0).radio.rootExt = true) ∧ ((({ up with radio := { up.radio with state := 0, waking := some (1, 0) }, flt := { up.flt with lasting := [{ bit := 5, addr := 0, kind := 0 }] } }).advance 0).radio.waking = some ((1, 0) : Nat × Time)) ∧ ((({ up with radio := { up.radio with state := 0, waking := some (1, 0) }, flt := { up.flt with lasting := [{ bit := 5, addr := 0, kind := 0 }] } }).advance 0).flt.lasting.any (fun d => d.bit == 5) = true) := by decide

theorem test_witness_ResetEventsComplete_1 :
    (((up).advance 0).radio.resetN = false) ∧ (((up).advance 0).radio.railsGood = 31) := by decide

theorem test_witness_ResetEventsComplete_2 :
    ((({ up with radio := { up.radio with railsGood := 30 } }).advance 0).radio.resetN = false) ∧ ((({ up with radio := { up.radio with railsGood := 30 } }).advance 0).radio.railsGood ≠ 31) := by decide

theorem test_witness_ResetEventsComplete_3 :
    ((({ up with radio := { up.radio with resetN := true } }).advance 0).radio.resetN = true) ∧ ((({ up with radio := { up.radio with resetN := true } }).advance 0).radio.railsGood = 31) := by decide

theorem test_witness_ResetEventsComplete_4 :
    ((4) < 5) := by decide

theorem test_witness_ResetEventsComplete_5 :
    ((({ up with now := 1000000000000, radio := { up.radio with railsGood := 15, inReset := true } }).advance 0).radio.inReset = true) ∧ ((({ up with now := 1000000000000, radio := { up.radio with railsGood := 15, inReset := true } }).advance 0).radio.railsGood ≠ 31) ∧ (ofMicros 2000 ≤ (ofMicros 2000)) ∧ ((({ up with now := 1000000000000, radio := { up.radio with railsGood := 15, inReset := true } }).advance 0).radio.failedAt + (ofMicros 2000) ≤ (({ up with now := 1000000000000, radio := { up.radio with railsGood := 15, inReset := true } }).advance 0).now) ∧ ((({ up with now := 1000000000000, radio := { up.radio with railsGood := 15, inReset := true } }).advance 0).radio.resetN = false) := by decide

theorem test_witness_ResetEventsComplete_6 :
    ((scanTakes ((up).advance 0).pins.tap && !scanTakes (255 : BitVec 8)) = false) := by decide

theorem test_witness_ResetEventsComplete_7 :
    ((scanTakes (({ up with pins := { up.pins with tap := 0 } }).advance 0).pins.tap && !scanTakes (1 : BitVec 8)) = true) := by decide

theorem test_witness_ResetEventsComplete_8 :
    (scanTakes ((up).advance 0).pins.tap = false) := by decide

/-! Witnesses of part F. -/

def can0 : State := { sb0 3 true with
  can := [(0, { nb := 1 })] }
def probing : State := { sb0 3 true with
  gov := [(0, { probe := some {
    cmd := none, level := 10, stop := 100, used := 0, powers := [], spectra := [], suspended := false
    everSuspended := false, lastAbove := 0 } })] }
def repetitive : State := { sb0 3 true with
  loops := [(0, { slot := some 2 })]
  slots := [(2, { used := true, period := 16 })] }

def mapData : List Byte := bs [0, 0] ++ leBytes 2 16 ++ leBytes 4 1 ++ List.replicate 16 0

def loopFree : State := { sb0 3 true with
  loops := [(0, { mode := 2 })] }

theorem test_witness_CancellerCommandsComplete_1 :
    ((sb0 3 true).advance 0).takes cmdCanConfigure (packet 16 (bs [0, 0, 4, 4] ++ leBytes 2 10 ++ bs [60])) = true := by decide

theorem test_witness_CancellerCommandsComplete_2 :
    ((up).advance 0).takes cmdCanFreeze (packet 4 (bs [5])) = true := by decide

theorem test_witness_CancellerCommandsComplete_3 :
    ((can0).advance 0).takes cmdCanMapRead (packet 24 (bs [1, 0, 0, 0] ++ leBytes 4 0 ++ leBytes 8 0 ++ leBytes 4 24)) = true := by decide

theorem test_witness_CancellerCommandsComplete_4 :
    ((can0).advance 0).takes cmdCanMapWrite (withData (packet 24 (bs [1, 0, 0, 0] ++ leBytes 4 (crc32c mapData) ++ leBytes 8 0 ++ leBytes 4 24)) mapData) = true := by decide +kernel

theorem test_witness_GovernorCommandsComplete_1 :
    ((up).advance 0).takes cmdGovConfigure (packet 24 (bs [0, 20] ++ leBytes 2 100 ++ leBytes 2 400 ++ leBytes 2 0 ++ leBytes 2 10 ++ bs [3, 5] ++ leBytes 2 100 ++ leBytes 2 100 ++ bs [60, 80, 50, 30])) = true := by decide

theorem test_witness_GovernorCommandsComplete_2 :
    ((sb0 3 true).advance 0).takes cmdGovRestart (packet 4 []) = true := by decide

theorem test_witness_GovernorCommandsComplete_3 :
    ((probing).advance 0).takes cmdCanProbe (withBit (packet 4 (bs [1, 10] ++ leBytes 2 100)) 0 0 true) = true := by decide

theorem test_witness_GovernorCommandsComplete_4 :
    ((probing).advance 0).takes cmdCanProbe (withBit (packet 4 []) 0 0 false) = true := by decide

theorem test_witness_LoopCommandsComplete_1 :
    ((up).advance 0).takes cmdCtlSetMode (packet 4 (bs [2])) = true := by decide

theorem test_witness_LoopCommandsComplete_2 :
    ((up).advance 0).takes cmdCtlSetPoint (packet 8 []) = true := by decide

theorem test_witness_LoopCommandsComplete_3 :
    ((up).advance 0).takes cmdCtlSetSchedule (packet 24 (List.replicate 19 0 ++ bs [1])) = true := by decide

theorem test_witness_LoopCommandsComplete_4 :
    ((loopFree).advance 0).takes cmdCtlInject (withBit (packet 24 (bs [5, 0] ++ leBytes 2 10 ++ leBytes 4 1)) 0 0 true) = true := by decide

theorem test_witness_LoopCommandsComplete_5 :
    ((sb0 3 true).advance 0).takes cmdCtlInject (withBit (packet 24 []) 0 0 false) = true := by decide

theorem test_witness_RepetitiveLearningCommandsComplete_1 :
    ((sb0 3 true).advance 0).takes cmdCtlRepLearn (withBit (packet 16 (bs [1, 0, 16, 0] ++ leBytes 4 0 ++ bs [0, 0, 1])) 0 0 true) = true := by decide

theorem test_witness_RepetitiveLearningCommandsComplete_2 :
    ((repetitive).advance 0).takes cmdCtlRepLearn (withBit (withBit (packet 16 (bs [0, 0, 16, 0] ++ leBytes 4 0 ++ bs [0, 0, 1])) 0 0 false) 0 1 true) = true ∧ (((((repetitive).advance 0).started 0x0405 (withBit (withBit (packet 16 (bs [0, 0, 16, 0] ++ leBytes 4 0 ++ bs [0, 0, 1])) 0 0 false) 0 1 true)).loopOf (instOf (packet 16 (bs [0, 0, 16, 0] ++ leBytes 4 0 ++ bs [0, 0, 1])))).slot = some 2) := by decide

theorem test_witness_RepetitiveLearningCommandsComplete_3 :
    ((repetitive).advance 0).takes cmdCtlRepLearn (withBit (withBit (packet 16 (bs [0, 0, 16, 0] ++ leBytes 4 0 ++ bs [0, 0, 1])) 0 0 false) 0 1 false) = true ∧ (((((repetitive).advance 0).started 0x0405 (withBit (withBit (packet 16 (bs [0, 0, 16, 0] ++ leBytes 4 0 ++ bs [0, 0, 1])) 0 0 false) 0 1 false)).loopOf (instOf (packet 16 (bs [0, 0, 16, 0] ++ leBytes 4 0 ++ bs [0, 0, 1])))).slot = some 2) := by decide

/-! Witnesses of part G. -/

def timed : State := { inState 3 with
  set := { up.set with
    tdd := [(0, { enable := true, maskDl := 1, nId := 0xFFFF, holdoverS := 0, lenDl := 4 })] }
  tdd := [(0, { sync := 2, gating := true, learned := true })] }
def untimed : State := { timed with
  tdd := [(0, { learned := true })] }
def tddPacket (on : Nat) : Request := packet 48 (bs [on, 0, 0, 0, 1, 0, 0, 0, 0, 0] ++ leBytes 2 0xFFFF ++ List.replicate 16 0 ++ leBytes 8 (4 * 65536))

def pulsing : State := { inState 2 with
  set := { up.set with
    pg := [(0, { enable := true, src := 3 })] } }

theorem test_witness_TimingCommandsComplete_1 :
    ((timed).advance 0).takes cmdTddConfigure (tddPacket 1) = true ∧ (((((timed).advance 0).started 0x0501 (tddPacket 1)).tddSet (instOf (tddPacket 1)) : TddSet).enable = true) ∧ ((freshPages ((((timed).advance 0).started 0x0501 (tddPacket 1)).tddSet (instOf (tddPacket 1)) : TddSet) { ((((timed).advance 0).started 0x0501 (tddPacket 1)).tddSet (instOf (tddPacket 1)) : TddSet) with enable := flag (tddPacket 1) 0 0, learn := flag (tddPacket 1) 0 1, autoApply := flag (tddPacket 1) 0 2, source := pu (tddPacket 1) 1 1, scs := pu (tddPacket 1) 2 1, period := pu (tddPacket 1) 3 1, maskDl := BitVec.ofNat 16 (pu (tddPacket 1) 4 2), maskUl := BitVec.ofNat 16 (pu (tddPacket 1) 6 2), detSb := pu (tddPacket 1) 8 1, holdoverS := pu (tddPacket 1) 9 1, nId := pu (tddPacket 1) 10 2, ssbOffset := ps (tddPacket 1) 12 4, leadDl := pu (tddPacket 1) 16 2, lagDl := pu (tddPacket 1) 18 2, leadUl := pu (tddPacket 1) 20 2, lagUl := pu (tddPacket 1) 22 2, ulAdvance := pu (tddPacket 1) 24 4, baseDl := pu (tddPacket 1) 28 2, lenDl := pu (tddPacket 1) 30 2, baseUl := pu (tddPacket 1) 32 2, lenUl := pu (tddPacket 1) 34 2, syncOffset := ps (tddPacket 1) 36 4, frameT0 := pu (tddPacket 1) 40 8 } : TddSet).enable = true) := by decide

theorem test_witness_TimingCommandsComplete_2 :
    ((up).advance 0).takes cmdTddConfigure (tddPacket 1) = true ∧ (((((up).advance 0).started 0x0501 (tddPacket 1)).tddSet (instOf (tddPacket 1)) : TddSet).enable = false) ∧ ((freshPages ((((up).advance 0).started 0x0501 (tddPacket 1)).tddSet (instOf (tddPacket 1)) : TddSet) { ((((up).advance 0).started 0x0501 (tddPacket 1)).tddSet (instOf (tddPacket 1)) : TddSet) with enable := flag (tddPacket 1) 0 0, learn := flag (tddPacket 1) 0 1, autoApply := flag (tddPacket 1) 0 2, source := pu (tddPacket 1) 1 1, scs := pu (tddPacket 1) 2 1, period := pu (tddPacket 1) 3 1, maskDl := BitVec.ofNat 16 (pu (tddPacket 1) 4 2), maskUl := BitVec.ofNat 16 (pu (tddPacket 1) 6 2), detSb := pu (tddPacket 1) 8 1, holdoverS := pu (tddPacket 1) 9 1, nId := pu (tddPacket 1) 10 2, ssbOffset := ps (tddPacket 1) 12 4, leadDl := pu (tddPacket 1) 16 2, lagDl := pu (tddPacket 1) 18 2, leadUl := pu (tddPacket 1) 20 2, lagUl := pu (tddPacket 1) 22 2, ulAdvance := pu (tddPacket 1) 24 4, baseDl := pu (tddPacket 1) 28 2, lenDl := pu (tddPacket 1) 30 2, baseUl := pu (tddPacket 1) 32 2, lenUl := pu (tddPacket 1) 34 2, syncOffset := ps (tddPacket 1) 36 4, frameT0 := pu (tddPacket 1) 40 8 } : TddSet).enable = true) ∧ ((freshPages ((((up).advance 0).started 0x0501 (tddPacket 1)).tddSet (instOf (tddPacket 1)) : TddSet) { ((((up).advance 0).started 0x0501 (tddPacket 1)).tddSet (instOf (tddPacket 1)) : TddSet) with enable := flag (tddPacket 1) 0 0, learn := flag (tddPacket 1) 0 1, autoApply := flag (tddPacket 1) 0 2, source := pu (tddPacket 1) 1 1, scs := pu (tddPacket 1) 2 1, period := pu (tddPacket 1) 3 1, maskDl := BitVec.ofNat 16 (pu (tddPacket 1) 4 2), maskUl := BitVec.ofNat 16 (pu (tddPacket 1) 6 2), detSb := pu (tddPacket 1) 8 1, holdoverS := pu (tddPacket 1) 9 1, nId := pu (tddPacket 1) 10 2, ssbOffset := ps (tddPacket 1) 12 4, leadDl := pu (tddPacket 1) 16 2, lagDl := pu (tddPacket 1) 18 2, leadUl := pu (tddPacket 1) 20 2, lagUl := pu (tddPacket 1) 22 2, ulAdvance := pu (tddPacket 1) 24 4, baseDl := pu (tddPacket 1) 28 2, lenDl := pu (tddPacket 1) 30 2, baseUl := pu (tddPacket 1) 32 2, lenUl := pu (tddPacket 1) 34 2, syncOffset := ps (tddPacket 1) 36 4, frameT0 := pu (tddPacket 1) 40 8 } : TddSet).source = 0) := by decide

theorem test_witness_TimingCommandsComplete_3 :
    ((timed).advance 0).takes cmdTddConfigure (tddPacket 0) = true ∧ ((freshPages ((((timed).advance 0).started 0x0501 (tddPacket 0)).tddSet (instOf (tddPacket 0)) : TddSet) { ((((timed).advance 0).started 0x0501 (tddPacket 0)).tddSet (instOf (tddPacket 0)) : TddSet) with enable := flag (tddPacket 0) 0 0, learn := flag (tddPacket 0) 0 1, autoApply := flag (tddPacket 0) 0 2, source := pu (tddPacket 0) 1 1, scs := pu (tddPacket 0) 2 1, period := pu (tddPacket 0) 3 1, maskDl := BitVec.ofNat 16 (pu (tddPacket 0) 4 2), maskUl := BitVec.ofNat 16 (pu (tddPacket 0) 6 2), detSb := pu (tddPacket 0) 8 1, holdoverS := pu (tddPacket 0) 9 1, nId := pu (tddPacket 0) 10 2, ssbOffset := ps (tddPacket 0) 12 4, leadDl := pu (tddPacket 0) 16 2, lagDl := pu (tddPacket 0) 18 2, leadUl := pu (tddPacket 0) 20 2, lagUl := pu (tddPacket 0) 22 2, ulAdvance := pu (tddPacket 0) 24 4, baseDl := pu (tddPacket 0) 28 2, lenDl := pu (tddPacket 0) 30 2, baseUl := pu (tddPacket 0) 32 2, lenUl := pu (tddPacket 0) 34 2, syncOffset := ps (tddPacket 0) 36 4, frameT0 := pu (tddPacket 0) 40 8 } : TddSet).enable = false) := by decide

theorem test_witness_TimingCommandsComplete_4 :
    ((inState 3).advance 0).takes cmdTddConfigure (packet 48 (bs [1, 1, 0, 0, 1, 0, 0, 0, 0, 0] ++ leBytes 2 0xFFFF ++ List.replicate 16 0 ++ leBytes 8 (4 * 65536))) = true ∧ (((((inState 3).advance 0).started 0x0501 (packet 48 (bs [1, 1, 0, 0, 1, 0, 0, 0, 0, 0] ++ leBytes 2 0xFFFF ++ List.replicate 16 0 ++ leBytes 8 (4 * 65536)))).tddSet (instOf (packet 48 (bs [1, 1, 0, 0, 1, 0, 0, 0, 0, 0] ++ leBytes 2 0xFFFF ++ List.replicate 16 0 ++ leBytes 8 (4 * 65536)))) : TddSet).enable = false) ∧ ((freshPages ((((inState 3).advance 0).started 0x0501 (packet 48 (bs [1, 1, 0, 0, 1, 0, 0, 0, 0, 0] ++ leBytes 2 0xFFFF ++ List.replicate 16 0 ++ leBytes 8 (4 * 65536)))).tddSet (instOf (packet 48 (bs [1, 1, 0, 0, 1, 0, 0, 0, 0, 0] ++ leBytes 2 0xFFFF ++ List.replicate 16 0 ++ leBytes 8 (4 * 65536)))) : TddSet) { ((((inState 3).advance 0).started 0x0501 (packet 48 (bs [1, 1, 0, 0, 1, 0, 0, 0, 0, 0] ++ leBytes 2 0xFFFF ++ List.replicate 16 0 ++ leBytes 8 (4 * 65536)))).tddSet (instOf (packet 48 (bs [1, 1, 0, 0, 1, 0, 0, 0, 0, 0] ++ leBytes 2 0xFFFF ++ List.replicate 16 0 ++ leBytes 8 (4 * 65536)))) : TddSet) with enable := flag (packet 48 (bs [1, 1, 0, 0, 1, 0, 0, 0, 0, 0] ++ leBytes 2 0xFFFF ++ List.replicate 16 0 ++ leBytes 8 (4 * 65536))) 0 0, learn := flag (packet 48 (bs [1, 1, 0, 0, 1, 0, 0, 0, 0, 0] ++ leBytes 2 0xFFFF ++ List.replicate 16 0 ++ leBytes 8 (4 * 65536))) 0 1, autoApply := flag (packet 48 (bs [1, 1, 0, 0, 1, 0, 0, 0, 0, 0] ++ leBytes 2 0xFFFF ++ List.replicate 16 0 ++ leBytes 8 (4 * 65536))) 0 2, source := pu (packet 48 (bs [1, 1, 0, 0, 1, 0, 0, 0, 0, 0] ++ leBytes 2 0xFFFF ++ List.replicate 16 0 ++ leBytes 8 (4 * 65536))) 1 1, scs := pu (packet 48 (bs [1, 1, 0, 0, 1, 0, 0, 0, 0, 0] ++ leBytes 2 0xFFFF ++ List.replicate 16 0 ++ leBytes 8 (4 * 65536))) 2 1, period := pu (packet 48 (bs [1, 1, 0, 0, 1, 0, 0, 0, 0, 0] ++ leBytes 2 0xFFFF ++ List.replicate 16 0 ++ leBytes 8 (4 * 65536))) 3 1, maskDl := BitVec.ofNat 16 (pu (packet 48 (bs [1, 1, 0, 0, 1, 0, 0, 0, 0, 0] ++ leBytes 2 0xFFFF ++ List.replicate 16 0 ++ leBytes 8 (4 * 65536))) 4 2), maskUl := BitVec.ofNat 16 (pu (packet 48 (bs [1, 1, 0, 0, 1, 0, 0, 0, 0, 0] ++ leBytes 2 0xFFFF ++ List.replicate 16 0 ++ leBytes 8 (4 * 65536))) 6 2), detSb := pu (packet 48 (bs [1, 1, 0, 0, 1, 0, 0, 0, 0, 0] ++ leBytes 2 0xFFFF ++ List.replicate 16 0 ++ leBytes 8 (4 * 65536))) 8 1, holdoverS := pu (packet 48 (bs [1, 1, 0, 0, 1, 0, 0, 0, 0, 0] ++ leBytes 2 0xFFFF ++ List.replicate 16 0 ++ leBytes 8 (4 * 65536))) 9 1, nId := pu (packet 48 (bs [1, 1, 0, 0, 1, 0, 0, 0, 0, 0] ++ leBytes 2 0xFFFF ++ List.replicate 16 0 ++ leBytes 8 (4 * 65536))) 10 2, ssbOffset := ps (packet 48 (bs [1, 1, 0, 0, 1, 0, 0, 0, 0, 0] ++ leBytes 2 0xFFFF ++ List.replicate 16 0 ++ leBytes 8 (4 * 65536))) 12 4, leadDl := pu (packet 48 (bs [1, 1, 0, 0, 1, 0, 0, 0, 0, 0] ++ leBytes 2 0xFFFF ++ List.replicate 16 0 ++ leBytes 8 (4 * 65536))) 16 2, lagDl := pu (packet 48 (bs [1, 1, 0, 0, 1, 0, 0, 0, 0, 0] ++ leBytes 2 0xFFFF ++ List.replicate 16 0 ++ leBytes 8 (4 * 65536))) 18 2, leadUl := pu (packet 48 (bs [1, 1, 0, 0, 1, 0, 0, 0, 0, 0] ++ leBytes 2 0xFFFF ++ List.replicate 16 0 ++ leBytes 8 (4 * 65536))) 20 2, lagUl := pu (packet 48 (bs [1, 1, 0, 0, 1, 0, 0, 0, 0, 0] ++ leBytes 2 0xFFFF ++ List.replicate 16 0 ++ leBytes 8 (4 * 65536))) 22 2, ulAdvance := pu (packet 48 (bs [1, 1, 0, 0, 1, 0, 0, 0, 0, 0] ++ leBytes 2 0xFFFF ++ List.replicate 16 0 ++ leBytes 8 (4 * 65536))) 24 4, baseDl := pu (packet 48 (bs [1, 1, 0, 0, 1, 0, 0, 0, 0, 0] ++ leBytes 2 0xFFFF ++ List.replicate 16 0 ++ leBytes 8 (4 * 65536))) 28 2, lenDl := pu (packet 48 (bs [1, 1, 0, 0, 1, 0, 0, 0, 0, 0] ++ leBytes 2 0xFFFF ++ List.replicate 16 0 ++ leBytes 8 (4 * 65536))) 30 2, baseUl := pu (packet 48 (bs [1, 1, 0, 0, 1, 0, 0, 0, 0, 0] ++ leBytes 2 0xFFFF ++ List.replicate 16 0 ++ leBytes 8 (4 * 65536))) 32 2, lenUl := pu (packet 48 (bs [1, 1, 0, 0, 1, 0, 0, 0, 0, 0] ++ leBytes 2 0xFFFF ++ List.replicate 16 0 ++ leBytes 8 (4 * 65536))) 34 2, syncOffset := ps (packet 48 (bs [1, 1, 0, 0, 1, 0, 0, 0, 0, 0] ++ leBytes 2 0xFFFF ++ List.replicate 16 0 ++ leBytes 8 (4 * 65536))) 36 4, frameT0 := pu (packet 48 (bs [1, 1, 0, 0, 1, 0, 0, 0, 0, 0] ++ leBytes 2 0xFFFF ++ List.replicate 16 0 ++ leBytes 8 (4 * 65536))) 40 8 } : TddSet).enable = true) ∧ ((freshPages ((((inState 3).advance 0).started 0x0501 (packet 48 (bs [1, 1, 0, 0, 1, 0, 0, 0, 0, 0] ++ leBytes 2 0xFFFF ++ List.replicate 16 0 ++ leBytes 8 (4 * 65536)))).tddSet (instOf (packet 48 (bs [1, 1, 0, 0, 1, 0, 0, 0, 0, 0] ++ leBytes 2 0xFFFF ++ List.replicate 16 0 ++ leBytes 8 (4 * 65536)))) : TddSet) { ((((inState 3).advance 0).started 0x0501 (packet 48 (bs [1, 1, 0, 0, 1, 0, 0, 0, 0, 0] ++ leBytes 2 0xFFFF ++ List.replicate 16 0 ++ leBytes 8 (4 * 65536)))).tddSet (instOf (packet 48 (bs [1, 1, 0, 0, 1, 0, 0, 0, 0, 0] ++ leBytes 2 0xFFFF ++ List.replicate 16 0 ++ leBytes 8 (4 * 65536)))) : TddSet) with enable := flag (packet 48 (bs [1, 1, 0, 0, 1, 0, 0, 0, 0, 0] ++ leBytes 2 0xFFFF ++ List.replicate 16 0 ++ leBytes 8 (4 * 65536))) 0 0, learn := flag (packet 48 (bs [1, 1, 0, 0, 1, 0, 0, 0, 0, 0] ++ leBytes 2 0xFFFF ++ List.replicate 16 0 ++ leBytes 8 (4 * 65536))) 0 1, autoApply := flag (packet 48 (bs [1, 1, 0, 0, 1, 0, 0, 0, 0, 0] ++ leBytes 2 0xFFFF ++ List.replicate 16 0 ++ leBytes 8 (4 * 65536))) 0 2, source := pu (packet 48 (bs [1, 1, 0, 0, 1, 0, 0, 0, 0, 0] ++ leBytes 2 0xFFFF ++ List.replicate 16 0 ++ leBytes 8 (4 * 65536))) 1 1, scs := pu (packet 48 (bs [1, 1, 0, 0, 1, 0, 0, 0, 0, 0] ++ leBytes 2 0xFFFF ++ List.replicate 16 0 ++ leBytes 8 (4 * 65536))) 2 1, period := pu (packet 48 (bs [1, 1, 0, 0, 1, 0, 0, 0, 0, 0] ++ leBytes 2 0xFFFF ++ List.replicate 16 0 ++ leBytes 8 (4 * 65536))) 3 1, maskDl := BitVec.ofNat 16 (pu (packet 48 (bs [1, 1, 0, 0, 1, 0, 0, 0, 0, 0] ++ leBytes 2 0xFFFF ++ List.replicate 16 0 ++ leBytes 8 (4 * 65536))) 4 2), maskUl := BitVec.ofNat 16 (pu (packet 48 (bs [1, 1, 0, 0, 1, 0, 0, 0, 0, 0] ++ leBytes 2 0xFFFF ++ List.replicate 16 0 ++ leBytes 8 (4 * 65536))) 6 2), detSb := pu (packet 48 (bs [1, 1, 0, 0, 1, 0, 0, 0, 0, 0] ++ leBytes 2 0xFFFF ++ List.replicate 16 0 ++ leBytes 8 (4 * 65536))) 8 1, holdoverS := pu (packet 48 (bs [1, 1, 0, 0, 1, 0, 0, 0, 0, 0] ++ leBytes 2 0xFFFF ++ List.replicate 16 0 ++ leBytes 8 (4 * 65536))) 9 1, nId := pu (packet 48 (bs [1, 1, 0, 0, 1, 0, 0, 0, 0, 0] ++ leBytes 2 0xFFFF ++ List.replicate 16 0 ++ leBytes 8 (4 * 65536))) 10 2, ssbOffset := ps (packet 48 (bs [1, 1, 0, 0, 1, 0, 0, 0, 0, 0] ++ leBytes 2 0xFFFF ++ List.replicate 16 0 ++ leBytes 8 (4 * 65536))) 12 4, leadDl := pu (packet 48 (bs [1, 1, 0, 0, 1, 0, 0, 0, 0, 0] ++ leBytes 2 0xFFFF ++ List.replicate 16 0 ++ leBytes 8 (4 * 65536))) 16 2, lagDl := pu (packet 48 (bs [1, 1, 0, 0, 1, 0, 0, 0, 0, 0] ++ leBytes 2 0xFFFF ++ List.replicate 16 0 ++ leBytes 8 (4 * 65536))) 18 2, leadUl := pu (packet 48 (bs [1, 1, 0, 0, 1, 0, 0, 0, 0, 0] ++ leBytes 2 0xFFFF ++ List.replicate 16 0 ++ leBytes 8 (4 * 65536))) 20 2, lagUl := pu (packet 48 (bs [1, 1, 0, 0, 1, 0, 0, 0, 0, 0] ++ leBytes 2 0xFFFF ++ List.replicate 16 0 ++ leBytes 8 (4 * 65536))) 22 2, ulAdvance := pu (packet 48 (bs [1, 1, 0, 0, 1, 0, 0, 0, 0, 0] ++ leBytes 2 0xFFFF ++ List.replicate 16 0 ++ leBytes 8 (4 * 65536))) 24 4, baseDl := pu (packet 48 (bs [1, 1, 0, 0, 1, 0, 0, 0, 0, 0] ++ leBytes 2 0xFFFF ++ List.replicate 16 0 ++ leBytes 8 (4 * 65536))) 28 2, lenDl := pu (packet 48 (bs [1, 1, 0, 0, 1, 0, 0, 0, 0, 0] ++ leBytes 2 0xFFFF ++ List.replicate 16 0 ++ leBytes 8 (4 * 65536))) 30 2, baseUl := pu (packet 48 (bs [1, 1, 0, 0, 1, 0, 0, 0, 0, 0] ++ leBytes 2 0xFFFF ++ List.replicate 16 0 ++ leBytes 8 (4 * 65536))) 32 2, lenUl := pu (packet 48 (bs [1, 1, 0, 0, 1, 0, 0, 0, 0, 0] ++ leBytes 2 0xFFFF ++ List.replicate 16 0 ++ leBytes 8 (4 * 65536))) 34 2, syncOffset := ps (packet 48 (bs [1, 1, 0, 0, 1, 0, 0, 0, 0, 0] ++ leBytes 2 0xFFFF ++ List.replicate 16 0 ++ leBytes 8 (4 * 65536))) 36 4, frameT0 := pu (packet 48 (bs [1, 1, 0, 0, 1, 0, 0, 0, 0, 0] ++ leBytes 2 0xFFFF ++ List.replicate 16 0 ++ leBytes 8 (4 * 65536))) 40 8 } : TddSet).source ≠ 0) := by decide

theorem test_witness_TimingCommandsComplete_5 :
    ((untimed).advance 0).takes cmdTddSetGates (withBit (withBit (packet 24 (bs [2])) 0 2 false) 0 3 false) = true ∧ ((((untimed).advance 0).started 0x0502 (withBit (withBit (packet 24 (bs [2])) 0 2 false) 0 3 false)).activation (instOf (packet 24 (bs [2]))) (flag (withBit (withBit (packet 24 (bs [2])) 0 2 false) 0 3 false) 0 1) (pu (withBit (withBit (packet 24 (bs [2])) 0 2 false) 0 3 false) 1 1) (pu (withBit (withBit (packet 24 (bs [2])) 0 2 false) 0 3 false) 2 2) = none) := by decide

theorem test_witness_TimingCommandsComplete_6 :
    ((timed).advance 0).takes cmdTddSetGates (withBit (withBit (packet 24 []) 0 2 false) 0 3 false) = true ∧ ((((timed).advance 0).started 0x0502 (withBit (withBit (packet 24 []) 0 2 false) 0 3 false)).activation (instOf (packet 24 [])) (flag (withBit (withBit (packet 24 []) 0 2 false) 0 3 false) 0 1) (pu (withBit (withBit (packet 24 []) 0 2 false) 0 3 false) 1 1) (pu (withBit (withBit (packet 24 []) 0 2 false) 0 3 false) 2 2) = some 20132659200) := by decide

theorem test_witness_TimingCommandsComplete_7 :
    ((untimed).advance 0).takes cmdTddSetGates (withBit (withBit (packet 24 (bs [6])) 0 2 true) 0 3 false) = true ∧ ((((untimed).advance 0).started 0x0502 (withBit (withBit (packet 24 (bs [6])) 0 2 true) 0 3 false)).activation (instOf (packet 24 (bs [6]))) (flag (withBit (withBit (packet 24 (bs [6])) 0 2 true) 0 3 false) 0 1) (pu (withBit (withBit (packet 24 (bs [6])) 0 2 true) 0 3 false) 1 1) (pu (withBit (withBit (packet 24 (bs [6])) 0 2 true) 0 3 false) 2 2) = none) := by decide

theorem test_witness_TimingCommandsComplete_8 :
    ((timed).advance 0).takes cmdTddSetGates (withBit (withBit (packet 24 (bs [4])) 0 2 true) 0 3 false) = true ∧ ((((timed).advance 0).started 0x0502 (withBit (withBit (packet 24 (bs [4])) 0 2 true) 0 3 false)).activation (instOf (packet 24 (bs [4]))) (flag (withBit (withBit (packet 24 (bs [4])) 0 2 true) 0 3 false) 0 1) (pu (withBit (withBit (packet 24 (bs [4])) 0 2 true) 0 3 false) 1 1) (pu (withBit (withBit (packet 24 (bs [4])) 0 2 true) 0 3 false) 2 2) = some 20132659200) := by decide

theorem test_witness_TimingCommandsComplete_9 :
    ((timed).advance 0).takes cmdTddSetGates (withBit (withBit (packet 24 (bs [8, 0] ++ List.replicate 18 0 ++ leBytes 4 32)) 0 2 false) 0 3 true) = true := by decide

theorem test_witness_LimitCommandsComplete_1 :
    ((up).advance 0).takes cmdNpSetLimits (withByte (packet 16 []) 0 0) = true := by decide

theorem test_witness_LimitCommandsComplete_2 :
    ((up).advance 0).takes cmdNpSetLimits (withByte (packet 16 (List.replicate 12 0 ++ leBytes 2 57536 ++ leBytes 2 100)) 0 1) = true := by decide

theorem test_witness_LimitCommandsComplete_3 :
    ((up).advance 0).takes cmdNpSetLimits (withByte (packet 16 (bs [0, 0, 0, 0, 40])) 0 2) = true := by decide

theorem test_witness_FrontEndCommandsComplete_1 :
    ((up).advance 0).takes cmdFeSeq (withByte (packet 24 (bs [0, 0] ++ leBytes 2 0 ++ leBytes 2 0 ++ leBytes 2 0 ++ leBytes 2 25 ++ leBytes 2 25)) 0 0) = true := by decide

theorem test_witness_FrontEndCommandsComplete_2 :
    ((up).advance 0).takes cmdFeSeq (withByte (packet 24 []) 0 1) = true := by decide

theorem test_witness_FrontEndCommandsComplete_3 :
    ((inState 2).advance 0).takes cmdPgConfigure (packet 24 []) = true ∧ (((((inState 2).advance 0).started 0x0610 (packet 24 [])).pgOf (instOf (packet 24 []))).change = none) ∧ (((((inState 2).advance 0).started 0x0610 (packet 24 [])).pgSet (instOf (packet 24 []))).enable = false) := by decide

theorem test_witness_FrontEndCommandsComplete_4 :
    ((pulsing).advance 0).takes cmdPgConfigure (packet 24 []) = true ∧ (((((pulsing).advance 0).started 0x0610 (packet 24 [])).pgOf (instOf (packet 24 []))).change = none) ∧ (((((pulsing).advance 0).started 0x0610 (packet 24 [])).pgSet (instOf (packet 24 []))).enable = true) ∧ (2 ≤ (((pulsing).advance 0).started 0x0610 (packet 24 [])).radio.state) ∧ (((((pulsing).advance 0).started 0x0610 (packet 24 [])).pgSet (instOf (packet 24 []))).src = 3) := by decide

theorem test_witness_FrontEndCommandsComplete_5 :
    ((inState 2).advance 0).takes cmdWmConfigure (packet 16 (bs [0, 0, 0, 0, 0, 0, 0, 0, 0, 255, 0, 0, 255])) = true := by decide

theorem test_witness_FrontEndCommandsComplete_6 :
    ((up).advance 0).takes cmdWmClear (packet 4 []) = true := by decide

theorem test_witness_FrontEndCommandsComplete_7 :
    ((up).advance 0).takes cmdPinAssign (packet 4 (bs [1])) = true ∧ ((((up).advance 0).started 0x0630 (packet 4 (bs [1]))).gpio (instOf (packet 4 (bs [1]))) = 0) ∧ (pu (packet 4 (bs [1])) 0 1 ≠ 0) := by decide

/-! Witnesses of part H. -/

def capturing (st : Nat) : State := { inState 3 with
  cap := { up.cap with
    owner := 1, state := st } }
def streaming : State := { sb0 3 true with
  set := { (sb0 3 true).set with
    cap := [(1, { configured := true, point := 2, nsrc := 1, srcs := [0], blockKib := 4 })] } }

def streaming0 : State := { streaming with
  set := { streaming.set with
    cap := [(0, { configured := true, point := 2, nsrc := 1, srcs := [0] })] } }
def streaming3 : State := { streaming with
  link := { up.link with
    mode := 4, usb3Up := true } }

def frozen : State := { up with
  rcd := { up.rcd with
    frozen := some 100 } }
def permitted : State := { up with
  now := 1000000000
  pins := { up.pins with
    clrPermitN := false, clrPermitAt := 0 } }
def armed : State := { permitted with
  rcd := { up.rcd with
    arm := some (permitted.newestSeq, false, 1000000000), armed := true } }

theorem test_witness_HousekeepingCommandsComplete_1 :
    ((inState 2).advance 0).takes cmdHkConfigure (withByte (packet 16 []) 0 0) = true := by decide

theorem test_witness_HousekeepingCommandsComplete_2 :
    ((inState 2).advance 0).takes cmdHkConfigure (withByte (packet 16 (bs [0, 1, 0, 0, 2])) 0 1) = true := by decide

theorem test_witness_HousekeepingCommandsComplete_3 :
    ((up).advance 0).takes cmdHkConfigure (withByte (packet 16 []) 0 2) = true := by decide

theorem test_witness_HousekeepingCommandsComplete_4 :
    ((up).advance 0).takes cmdThConfigure (withByte (packet 16 []) 0 0) = true := by decide

theorem test_witness_HousekeepingCommandsComplete_5 :
    ((up).advance 0).takes cmdThConfigure (withByte (packet 16 (bs [0, 0, 0, 4, 0, 0, 0, 0, 1])) 0 1) = true := by decide

theorem test_witness_HousekeepingCommandsComplete_6 :
    ((up).advance 0).takes cmdThConfigure (withByte (onInst (packet 16 []) 4) 0 2) = true := by decide

theorem test_witness_CaptureCommandsComplete_1 :
    ((up).advance 0).takes cmdCapConfigure (packet 32 (bs [0, 0, 1])) = true := by decide

theorem test_witness_CaptureCommandsComplete_2 :
    ((streaming0).advance 0).takes cmdCapStart (packet 4 []) = true ∧ (instOf (packet 4 []) = 0) := by decide

theorem test_witness_CaptureCommandsComplete_3 :
    ((streaming3).advance 0).takes cmdCapStart (onInst { packet 4 [] with src := .usb3 0 } 1) = true ∧ (instOf (onInst { packet 4 [] with src := .usb3 0 } 1) ≠ 0) := by decide

theorem test_witness_CaptureCommandsComplete_4 :
    ((up).advance 0).takes cmdCapStop (packet 4 []) = true ∧ ((((up).advance 0).started 0x0803 (packet 4 [])).slotRuns (instOf (packet 4 [])) = false) := by decide

theorem test_witness_CaptureCommandsComplete_5 :
    (({ up with streams := [(1, { run := true })] }).advance 0).takes cmdCapStop (onInst (packet 4 []) 1) = true ∧ (((({ up with streams := [(1, { run := true })] }).advance 0).started 0x0803 (onInst (packet 4 []) 1)).slotRuns (instOf (onInst (packet 4 []) 1)) = true) ∧ (instOf (onInst (packet 4 []) 1) ≠ 0) := by decide

theorem test_witness_CaptureCommandsComplete_6 :
    ((capturing 2).advance 0).takes cmdCapStop (packet 4 []) = true ∧ ((((capturing 2).advance 0).started 0x0803 (packet 4 [])).slotRuns (instOf (packet 4 [])) = true) ∧ (instOf (packet 4 []) = 0) ∧ (flag (packet 4 []) 0 0 = false) := by decide

theorem test_witness_CaptureCommandsComplete_7 :
    ((capturing 2).advance 0).takes cmdCapStop (packet 4 (bs [1])) = true ∧ ((((capturing 2).advance 0).started 0x0803 (packet 4 (bs [1]))).slotRuns (instOf (packet 4 (bs [1]))) = true) ∧ (instOf (packet 4 (bs [1])) = 0) ∧ (flag (packet 4 (bs [1])) 0 0 = true) := by decide

theorem test_witness_CaptureCommandsComplete_8 :
    ((up).advance 0).takes cmdCapRead (packet 24 []) = true := by decide

theorem test_witness_FaultCommandsComplete_1 :
    ((up).advance 0).takes cmdFltConfigure (withByte (packet 8 []) 0 0) = true := by decide

theorem test_witness_FaultCommandsComplete_2 :
    ((up).advance 0).takes cmdFltConfigure (withByte (packet 8 (bs [0, 1, 1])) 0 1) = true := by decide

theorem test_witness_FaultCommandsComplete_3 :
    ((up).advance 0).takes cmdFltAck (packet 16 []) = true := by decide

theorem test_witness_FaultCommandsComplete_4 :
    ((up).advance 0).takes cmdFltForce (withByte (packet 8 []) 0 0) = true := by decide

theorem test_witness_FaultCommandsComplete_5 :
    ((up).advance 0).takes cmdFltForce (withByte (packet 8 []) 0 1) = true := by decide

theorem test_witness_FaultCommandsComplete_6 :
    ((up).advance 0).takes cmdFltForce (withByte (packet 8 []) 0 2) = true := by decide

theorem test_witness_RecorderCommandsComplete_1 :
    ((up).advance 0).takes cmdRecFreeze (withBit (packet 4 []) 0 0 true) = true := by decide

theorem test_witness_RecorderCommandsComplete_2 :
    ((frozen).advance 0).takes cmdRecFreeze (withBit (packet 4 []) 0 0 false) = true ∧ ((((frozen).advance 0).started 0x0A01 (withBit (packet 4 []) 0 0 false)).rcd.frozen.isSome = true) := by decide

theorem test_witness_RecorderCommandsComplete_3 :
    ((up).advance 0).takes cmdRecFreeze (withBit (packet 4 []) 0 0 false) = true ∧ ((((up).advance 0).started 0x0A01 (withBit (packet 4 []) 0 0 false)).rcd.frozen.isSome = false) := by decide

theorem test_witness_RecorderCommandsComplete_4 :
    ((up).advance 0).takes cmdRecRead (packet 24 (List.replicate 16 0 ++ leBytes 4 1 ++ leBytes 4 256)) = true := by decide

theorem test_witness_RecorderCommandsComplete_5 :
    (({ up with store := { up.store with hostValid := true } }).advance 0).takes cmdHosttime (packet 16 []) = true ∧ (((({ up with store := { up.store with hostValid := true } }).advance 0).started 0x0A05 (packet 16 [])).store.hostValid = true) ∧ (((({ up with store := { up.store with hostValid := true } }).advance 0).started 0x0A05 (packet 16 [])).askedOfs (pu (packet 16 []) 0 8) = ((({ up with store := { up.store with hostValid := true } }).advance 0).started 0x0A05 (packet 16 [])).store.hostOfs) := by decide

theorem test_witness_RecorderCommandsComplete_6 :
    ((up).advance 0).takes cmdHosttime (packet 16 []) = true ∧ ((((up).advance 0).started 0x0A05 (packet 16 [])).store.hostValid = false ∨ ((((up).advance 0).started 0x0A05 (packet 16 [])).askedOfs (pu (packet 16 []) 0 8) : Int) ≠ (((up).advance 0).started 0x0A05 (packet 16 [])).store.hostOfs) := by decide

theorem test_witness_RecorderCommandsComplete_7 :
    ((permitted).advance 0).takes cmdClearArm (packet 8 (leBytes 4 permitted.newestSeq)) = true := by decide

theorem test_witness_RecorderCommandsComplete_8 :
    ((armed).advance 0).takes cmdClearExec (packet 8 (leBytes 4 permitted.newestSeq)) = true := by decide

/-! Witnesses of part I. -/

def busy2 : State := { inState 2 with
  set := { up.set with
    twb := [(0, { enable := true, sclTo := 25, sdaTo := 25, araMax := 4 })] } }
def clearing2 : State := { busy2 with
  twb := [(0, { busy := .transfer })] }
def attended : State := { busy2 with
  twb := [(0, { attn := [(0, 0, 0, 0)] })] }

theorem test_witness_BusCommandsComplete_1 :
    ((up).advance 0).takes cmdTwbConfigure (packet 8 (bs [0, 0, 0, 25, 25, 4])) = true ∧ (({ enable := flag (packet 8 (bs [0, 0, 0, 25, 25, 4])) 0 0, alertEn := flag (packet 8 (bs [0, 0, 0, 25, 25, 4])) 0 1, notifyEn := flag (packet 8 (bs [0, 0, 0, 25, 25, 4])) 0 2, mode := pu (packet 8 (bs [0, 0, 0, 25, 25, 4])) 1 1, retries := pu (packet 8 (bs [0, 0, 0, 25, 25, 4])) 2 1, sclTo := pu (packet 8 (bs [0, 0, 0, 25, 25, 4])) 3 1, sdaTo := pu (packet 8 (bs [0, 0, 0, 25, 25, 4])) 4 1, araMax := pu (packet 8 (bs [0, 0, 0, 25, 25, 4])) 5 1 } : TwbSet).enable = false) ∧ (((((up).advance 0).started 0x0B01 (packet 8 (bs [0, 0, 0, 25, 25, 4]))).twbSet (instOf (packet 8 (bs [0, 0, 0, 25, 25, 4])))).enable = false) := by decide

theorem test_witness_BusCommandsComplete_2 :
    ((busy2).advance 0).takes cmdTwbConfigure (packet 8 (bs [0, 0, 0, 25, 25, 4])) = true ∧ (({ enable := flag (packet 8 (bs [0, 0, 0, 25, 25, 4])) 0 0, alertEn := flag (packet 8 (bs [0, 0, 0, 25, 25, 4])) 0 1, notifyEn := flag (packet 8 (bs [0, 0, 0, 25, 25, 4])) 0 2, mode := pu (packet 8 (bs [0, 0, 0, 25, 25, 4])) 1 1, retries := pu (packet 8 (bs [0, 0, 0, 25, 25, 4])) 2 1, sclTo := pu (packet 8 (bs [0, 0, 0, 25, 25, 4])) 3 1, sdaTo := pu (packet 8 (bs [0, 0, 0, 25, 25, 4])) 4 1, araMax := pu (packet 8 (bs [0, 0, 0, 25, 25, 4])) 5 1 } : TwbSet).enable = false) ∧ (((((busy2).advance 0).started 0x0B01 (packet 8 (bs [0, 0, 0, 25, 25, 4]))).twbSet (instOf (packet 8 (bs [0, 0, 0, 25, 25, 4])))).enable = true) := by decide

theorem test_witness_BusCommandsComplete_3 :
    ((busy2).advance 0).takes cmdTwbConfigure (packet 8 (bs [1, 0, 0, 25, 25, 4])) = true ∧ (({ enable := flag (packet 8 (bs [1, 0, 0, 25, 25, 4])) 0 0, alertEn := flag (packet 8 (bs [1, 0, 0, 25, 25, 4])) 0 1, notifyEn := flag (packet 8 (bs [1, 0, 0, 25, 25, 4])) 0 2, mode := pu (packet 8 (bs [1, 0, 0, 25, 25, 4])) 1 1, retries := pu (packet 8 (bs [1, 0, 0, 25, 25, 4])) 2 1, sclTo := pu (packet 8 (bs [1, 0, 0, 25, 25, 4])) 3 1, sdaTo := pu (packet 8 (bs [1, 0, 0, 25, 25, 4])) 4 1, araMax := pu (packet 8 (bs [1, 0, 0, 25, 25, 4])) 5 1 } : TwbSet).enable = true) ∧ (((((busy2).advance 0).started 0x0B01 (packet 8 (bs [1, 0, 0, 25, 25, 4]))).twbSet (instOf (packet 8 (bs [1, 0, 0, 25, 25, 4])))).enable = true) ∧ ((((((busy2).advance 0).started 0x0B01 (packet 8 (bs [1, 0, 0, 25, 25, 4]))).withSet { (((busy2).advance 0).started 0x0B01 (packet 8 (bs [1, 0, 0, 25, 25, 4]))).set with twb := Table.set {} (((busy2).advance 0).started 0x0B01 (packet 8 (bs [1, 0, 0, 25, 25, 4]))).set.twb (instOf (packet 8 (bs [1, 0, 0, 25, 25, 4]))) ({ enable := flag (packet 8 (bs [1, 0, 0, 25, 25, 4])) 0 0, alertEn := flag (packet 8 (bs [1, 0, 0, 25, 25, 4])) 0 1, notifyEn := flag (packet 8 (bs [1, 0, 0, 25, 25, 4])) 0 2, mode := pu (packet 8 (bs [1, 0, 0, 25, 25, 4])) 1 1, retries := pu (packet 8 (bs [1, 0, 0, 25, 25, 4])) 2 1, sclTo := pu (packet 8 (bs [1, 0, 0, 25, 25, 4])) 3 1, sdaTo := pu (packet 8 (bs [1, 0, 0, 25, 25, 4])) 4 1, araMax := pu (packet 8 (bs [1, 0, 0, 25, 25, 4])) 5 1 } : TwbSet) } : State).twbOf (instOf (packet 8 (bs [1, 0, 0, 25, 25, 4])))).disabling = false) ∧ (flag (packet 8 (bs [1, 0, 0, 25, 25, 4])) 0 3 = false) := by decide

theorem test_witness_BusCommandsComplete_4 :
    ((up).advance 0).takes cmdTwbConfigure (packet 8 (bs [1, 0, 0, 25, 25, 4])) = true ∧ (({ enable := flag (packet 8 (bs [1, 0, 0, 25, 25, 4])) 0 0, alertEn := flag (packet 8 (bs [1, 0, 0, 25, 25, 4])) 0 1, notifyEn := flag (packet 8 (bs [1, 0, 0, 25, 25, 4])) 0 2, mode := pu (packet 8 (bs [1, 0, 0, 25, 25, 4])) 1 1, retries := pu (packet 8 (bs [1, 0, 0, 25, 25, 4])) 2 1, sclTo := pu (packet 8 (bs [1, 0, 0, 25, 25, 4])) 3 1, sdaTo := pu (packet 8 (bs [1, 0, 0, 25, 25, 4])) 4 1, araMax := pu (packet 8 (bs [1, 0, 0, 25, 25, 4])) 5 1 } : TwbSet).enable = true) ∧ (((((up).advance 0).started 0x0B01 (packet 8 (bs [1, 0, 0, 25, 25, 4]))).twbSet (instOf (packet 8 (bs [1, 0, 0, 25, 25, 4])))).enable = false) ∧ (flag (packet 8 (bs [1, 0, 0, 25, 25, 4])) 0 3 = false) := by decide

theorem test_witness_BusCommandsComplete_5 :
    ((busy2).advance 0).takes cmdTwbConfigure (withBit (packet 8 (bs [1, 0, 0, 25, 25, 4])) 0 3 true) = true ∧ (({ enable := flag (withBit (packet 8 (bs [1, 0, 0, 25, 25, 4])) 0 3 true) 0 0, alertEn := flag (withBit (packet 8 (bs [1, 0, 0, 25, 25, 4])) 0 3 true) 0 1, notifyEn := flag (withBit (packet 8 (bs [1, 0, 0, 25, 25, 4])) 0 3 true) 0 2, mode := pu (withBit (packet 8 (bs [1, 0, 0, 25, 25, 4])) 0 3 true) 1 1, retries := pu (withBit (packet 8 (bs [1, 0, 0, 25, 25, 4])) 0 3 true) 2 1, sclTo := pu (withBit (packet 8 (bs [1, 0, 0, 25, 25, 4])) 0 3 true) 3 1, sdaTo := pu (withBit (packet 8 (bs [1, 0, 0, 25, 25, 4])) 0 3 true) 4 1, araMax := pu (withBit (packet 8 (bs [1, 0, 0, 25, 25, 4])) 0 3 true) 5 1 } : TwbSet).enable = true) ∧ (((((busy2).advance 0).started 0x0B01 (withBit (packet 8 (bs [1, 0, 0, 25, 25, 4])) 0 3 true)).twbSet (instOf (withBit (packet 8 (bs [1, 0, 0, 25, 25, 4])) 0 3 true))).enable = true) ∧ ((((((busy2).advance 0).started 0x0B01 (withBit (packet 8 (bs [1, 0, 0, 25, 25, 4])) 0 3 true)).withSet { (((busy2).advance 0).started 0x0B01 (withBit (packet 8 (bs [1, 0, 0, 25, 25, 4])) 0 3 true)).set with twb := Table.set {} (((busy2).advance 0).started 0x0B01 (withBit (packet 8 (bs [1, 0, 0, 25, 25, 4])) 0 3 true)).set.twb (instOf (withBit (packet 8 (bs [1, 0, 0, 25, 25, 4])) 0 3 true)) ({ enable := flag (withBit (packet 8 (bs [1, 0, 0, 25, 25, 4])) 0 3 true) 0 0, alertEn := flag (withBit (packet 8 (bs [1, 0, 0, 25, 25, 4])) 0 3 true) 0 1, notifyEn := flag (withBit (packet 8 (bs [1, 0, 0, 25, 25, 4])) 0 3 true) 0 2, mode := pu (withBit (packet 8 (bs [1, 0, 0, 25, 25, 4])) 0 3 true) 1 1, retries := pu (withBit (packet 8 (bs [1, 0, 0, 25, 25, 4])) 0 3 true) 2 1, sclTo := pu (withBit (packet 8 (bs [1, 0, 0, 25, 25, 4])) 0 3 true) 3 1, sdaTo := pu (withBit (packet 8 (bs [1, 0, 0, 25, 25, 4])) 0 3 true) 4 1, araMax := pu (withBit (packet 8 (bs [1, 0, 0, 25, 25, 4])) 0 3 true) 5 1 } : TwbSet) } : State).twbOf (instOf (withBit (packet 8 (bs [1, 0, 0, 25, 25, 4])) 0 3 true))).disabling = false) ∧ ((((((busy2).advance 0).started 0x0B01 (withBit (packet 8 (bs [1, 0, 0, 25, 25, 4])) 0 3 true)).withSet { (((busy2).advance 0).started 0x0B01 (withBit (packet 8 (bs [1, 0, 0, 25, 25, 4])) 0 3 true)).set with twb := Table.set {} (((busy2).advance 0).started 0x0B01 (withBit (packet 8 (bs [1, 0, 0, 25, 25, 4])) 0 3 true)).set.twb (instOf (withBit (packet 8 (bs [1, 0, 0, 25, 25, 4])) 0 3 true)) ({ enable := flag (withBit (packet 8 (bs [1, 0, 0, 25, 25, 4])) 0 3 true) 0 0, alertEn := flag (withBit (packet 8 (bs [1, 0, 0, 25, 25, 4])) 0 3 true) 0 1, notifyEn := flag (withBit (packet 8 (bs [1, 0, 0, 25, 25, 4])) 0 3 true) 0 2, mode := pu (withBit (packet 8 (bs [1, 0, 0, 25, 25, 4])) 0 3 true) 1 1, retries := pu (withBit (packet 8 (bs [1, 0, 0, 25, 25, 4])) 0 3 true) 2 1, sclTo := pu (withBit (packet 8 (bs [1, 0, 0, 25, 25, 4])) 0 3 true) 3 1, sdaTo := pu (withBit (packet 8 (bs [1, 0, 0, 25, 25, 4])) 0 3 true) 4 1, araMax := pu (withBit (packet 8 (bs [1, 0, 0, 25, 25, 4])) 0 3 true) 5 1 } : TwbSet) } : State).twbOf (instOf (withBit (packet 8 (bs [1, 0, 0, 25, 25, 4])) 0 3 true))).idle = true) := by decide

theorem test_witness_BusCommandsComplete_6 :
    ((clearing2).advance 0).takes cmdTwbConfigure (withBit (packet 8 (bs [1, 0, 0, 25, 25, 4])) 0 3 true) = true ∧ (({ enable := flag (withBit (packet 8 (bs [1, 0, 0, 25, 25, 4])) 0 3 true) 0 0, alertEn := flag (withBit (packet 8 (bs [1, 0, 0, 25, 25, 4])) 0 3 true) 0 1, notifyEn := flag (withBit (packet 8 (bs [1, 0, 0, 25, 25, 4])) 0 3 true) 0 2, mode := pu (withBit (packet 8 (bs [1, 0, 0, 25, 25, 4])) 0 3 true) 1 1, retries := pu (withBit (packet 8 (bs [1, 0, 0, 25, 25, 4])) 0 3 true) 2 1, sclTo := pu (withBit (packet 8 (bs [1, 0, 0, 25, 25, 4])) 0 3 true) 3 1, sdaTo := pu (withBit (packet 8 (bs [1, 0, 0, 25, 25, 4])) 0 3 true) 4 1, araMax := pu (withBit (packet 8 (bs [1, 0, 0, 25, 25, 4])) 0 3 true) 5 1 } : TwbSet).enable = true) ∧ (((((clearing2).advance 0).started 0x0B01 (withBit (packet 8 (bs [1, 0, 0, 25, 25, 4])) 0 3 true)).twbSet (instOf (withBit (packet 8 (bs [1, 0, 0, 25, 25, 4])) 0 3 true))).enable = true) ∧ ((((((clearing2).advance 0).started 0x0B01 (withBit (packet 8 (bs [1, 0, 0, 25, 25, 4])) 0 3 true)).withSet { (((clearing2).advance 0).started 0x0B01 (withBit (packet 8 (bs [1, 0, 0, 25, 25, 4])) 0 3 true)).set with twb := Table.set {} (((clearing2).advance 0).started 0x0B01 (withBit (packet 8 (bs [1, 0, 0, 25, 25, 4])) 0 3 true)).set.twb (instOf (withBit (packet 8 (bs [1, 0, 0, 25, 25, 4])) 0 3 true)) ({ enable := flag (withBit (packet 8 (bs [1, 0, 0, 25, 25, 4])) 0 3 true) 0 0, alertEn := flag (withBit (packet 8 (bs [1, 0, 0, 25, 25, 4])) 0 3 true) 0 1, notifyEn := flag (withBit (packet 8 (bs [1, 0, 0, 25, 25, 4])) 0 3 true) 0 2, mode := pu (withBit (packet 8 (bs [1, 0, 0, 25, 25, 4])) 0 3 true) 1 1, retries := pu (withBit (packet 8 (bs [1, 0, 0, 25, 25, 4])) 0 3 true) 2 1, sclTo := pu (withBit (packet 8 (bs [1, 0, 0, 25, 25, 4])) 0 3 true) 3 1, sdaTo := pu (withBit (packet 8 (bs [1, 0, 0, 25, 25, 4])) 0 3 true) 4 1, araMax := pu (withBit (packet 8 (bs [1, 0, 0, 25, 25, 4])) 0 3 true) 5 1 } : TwbSet) } : State).twbOf (instOf (withBit (packet 8 (bs [1, 0, 0, 25, 25, 4])) 0 3 true))).disabling = false) ∧ ((((((clearing2).advance 0).started 0x0B01 (withBit (packet 8 (bs [1, 0, 0, 25, 25, 4])) 0 3 true)).withSet { (((clearing2).advance 0).started 0x0B01 (withBit (packet 8 (bs [1, 0, 0, 25, 25, 4])) 0 3 true)).set with twb := Table.set {} (((clearing2).advance 0).started 0x0B01 (withBit (packet 8 (bs [1, 0, 0, 25, 25, 4])) 0 3 true)).set.twb (instOf (withBit (packet 8 (bs [1, 0, 0, 25, 25, 4])) 0 3 true)) ({ enable := flag (withBit (packet 8 (bs [1, 0, 0, 25, 25, 4])) 0 3 true) 0 0, alertEn := flag (withBit (packet 8 (bs [1, 0, 0, 25, 25, 4])) 0 3 true) 0 1, notifyEn := flag (withBit (packet 8 (bs [1, 0, 0, 25, 25, 4])) 0 3 true) 0 2, mode := pu (withBit (packet 8 (bs [1, 0, 0, 25, 25, 4])) 0 3 true) 1 1, retries := pu (withBit (packet 8 (bs [1, 0, 0, 25, 25, 4])) 0 3 true) 2 1, sclTo := pu (withBit (packet 8 (bs [1, 0, 0, 25, 25, 4])) 0 3 true) 3 1, sdaTo := pu (withBit (packet 8 (bs [1, 0, 0, 25, 25, 4])) 0 3 true) 4 1, araMax := pu (withBit (packet 8 (bs [1, 0, 0, 25, 25, 4])) 0 3 true) 5 1 } : TwbSet) } : State).twbOf (instOf (withBit (packet 8 (bs [1, 0, 0, 25, 25, 4])) 0 3 true))).idle = false) := by decide

theorem test_witness_BusCommandsComplete_7 :
    ((busy2).advance 0).takes cmdTwbTransfer (packet 48 (bs [0, 0, 80, 0, 1])) = true ∧ (pu (packet 48 (bs [0, 0, 80, 0, 1])) 0 1 ≠ 3) := by decide

theorem test_witness_BusCommandsComplete_8 :
    ((attended).advance 0).takes cmdTwbTransfer (withByte (packet 48 []) 0 3) = true ∧ (((((attended).advance 0).started 0x0B02 (withByte (packet 48 []) 0 3)).twbOf (instOf (withByte (packet 48 []) 0 3))).attn = (0, 0, 0, 0) :: []) := by decide

theorem test_witness_BusCommandsComplete_9 :
    ((busy2).advance 0).takes cmdTwbTransfer (withByte (packet 48 []) 0 3) = true ∧ (((((busy2).advance 0).started 0x0B02 (withByte (packet 48 []) 0 3)).twbOf (instOf (withByte (packet 48 []) 0 3))).attn = []) := by decide

theorem test_witness_BootCommandsComplete_1 :
    ((up).advance 0).takes cmdLedgerRead (packet 24 []) = true := by decide

theorem test_witness_BootCommandsComplete_2 :
    ((up).advance 0).takes cmdFwUpdate (withData (packet 24 (bs [0, 1] ++ List.replicate 14 0 ++ leBytes 4 4096)) (List.replicate 4096 0)) = true := by decide

/-! Witnesses of part J. -/

def cnv0 (n : Nat) (x : Cnv) : State := { sb0 n true with
  cnv := [(0, x)]
  set := { (sb0 n true).set with
    att := [(0, { fastEn := true, fastThr := 1000 })] } }
def oneStep : FastStep := { codes := 12, comp := 600, stepCal := 600, align := 0, thr := 1000 }

theorem test_witness_ConverterEventsComplete_1 :
    (shadowPasses ({ samples := 1, sum := 0 } : Shadow) = true) ∧ ((0 : Nat) < 8) ∧ ((((cnv0 2 { rotRun := true }).advance 0).cnvOf (0 : Nat)).rotRun = true) ∧ ((((cnv0 2 { rotRun := true }).advance 0).cnvOf (0 : Nat)).swapDue ≤ ((cnv0 2 { rotRun := true }).advance 0).now) ∧ ((((cnv0 2 { rotRun := true }).advance 0).cnvOf (0 : Nat)).ovrActive = false) := ⟨by norm_num [shadowPasses, moreThanDb], by decide⟩

theorem test_witness_ConverterEventsComplete_2 :
    ((7 - 7 : Nat) < 8) ∧ (((({ cnv0 2 { rotRun := true, ovrActive := true } with now := 1000000000 }).advance 0).cnvOf (7 - 7 : Nat)).rotRun = true) ∧ (((({ cnv0 2 { rotRun := true, ovrActive := true } with now := 1000000000 }).advance 0).cnvOf (7 - 7 : Nat)).swapDue + swapPeriod ≤ (({ cnv0 2 { rotRun := true, ovrActive := true } with now := 1000000000 }).advance 0).now) ∧ (((({ cnv0 2 { rotRun := true, ovrActive := true } with now := 1000000000 }).advance 0).cnvOf (7 - 7 : Nat)).ovrActive = true) := by decide

theorem test_witness_ConverterEventsComplete_3 :
    (shadowPasses ({ samples := 1, sum := 4190209 } : Shadow) = false) ∧ ((0 : Nat) < 8) ∧ ((((cnv0 2 { rotRun := true }).advance 0).cnvOf (0 : Nat)).rotRun = true) ∧ ((((cnv0 2 { rotRun := true }).advance 0).cnvOf (0 : Nat)).swapDue ≤ ((cnv0 2 { rotRun := true }).advance 0).now) ∧ ((((cnv0 2 { rotRun := true }).advance 0).cnvOf (0 : Nat)).ovrActive = false) := ⟨by norm_num [shadowPasses, moreThanDb], by decide⟩

theorem test_witness_ConverterEventsComplete_4 :
    ((7) < 8) ∧ ((32) < 33) ∧ (2 ≤ ((inState 2).advance 0).radio.state) ∧ ((((inState 2).advance 0).cnvOf (7)).fenced = false) ∧ (bit (((inState 2).advance 0).cnvOf (7)).sliceFenced (32) = false) := by decide

theorem test_witness_ConverterEventsComplete_5 :
    ((7) < 8) ∧ (2 ≤ ((inState 2).advance 0).radio.state) ∧ ((((inState 2).advance 0).cnvOf (7)).ovrActive = false) := by decide

theorem test_witness_ConverterEventsComplete_6 :
    ((0) < 8) ∧ ((((cnv0 3 { ovrActive := true }).advance 0).cnvOf (0)).ovrActive = true) := by decide

theorem test_witness_ConverterEventsComplete_7 :
    ((0) < 8) ∧ ((((cnv0 3 { ovrActive := true }).advance 0).cnvOf (0)).ovrActive = true) := by decide

theorem test_witness_AttenuatorEventsComplete_1 :
    (((cnv0 3 {}).advance 0).mayStep (0) = true) ∧ ((((cnv0 3 {}).advance 0).attOf (0)).fastThr ≤ (1000 : Nat)) ∧ ((1000 : Nat) ≤ 2047) ∧ ((((cnv0 3 {}).advance 0).cnvOf (0)).stepAt = none) := by decide

theorem test_witness_AttenuatorEventsComplete_2 :
    ((({ cnv0 3 { stepAt := some 1000 } with now := 1394 }).advance 0).mayStep (0) = true) ∧ (((({ cnv0 3 { stepAt := some 1000 } with now := 1394 }).advance 0).attOf (0)).fastThr ≤ (2047 : Nat)) ∧ ((2047 : Nat) ≤ 2047) ∧ (((({ cnv0 3 { stepAt := some 1000 } with now := 1394 }).advance 0).cnvOf (0)).stepAt = some (1000 : Time)) ∧ ((1000 : Time) + 394 ≤ (({ cnv0 3 { stepAt := some 1000 } with now := 1394 }).advance 0).now) := by decide

theorem test_witness_AttenuatorEventsComplete_3 :
    (((cnv0 3 { steps := [oneStep] }).advance 0).mayStep (0) = false) ∧ ((0) < 8) ∧ ((((cnv0 3 { steps := [oneStep] }).advance 0).cnvOf (0)).steps ≠ []) ∧ ((((cnv0 3 { steps := [oneStep] }).advance 0).attOf (0)).fastThr ≤ (2047 : Nat)) := by decide

theorem test_witness_AttenuatorEventsComplete_4 :
    ((0) < 8) ∧ (((cnv0 3 { steps := [oneStep], ovrActive := true }).advance 0).listening = true) ∧ ((((cnv0 3 { steps := [oneStep], ovrActive := true }).advance 0).cnvOf (0)).steps.getLast? = some (oneStep)) ∧ ((((cnv0 3 { steps := [oneStep], ovrActive := true }).advance 0).cnvOf (0)).ovrActive = true ∨ belowRelease (2047 : Nat) (oneStep).thr (oneStep).stepCal (((cnv0 3 { steps := [oneStep], ovrActive := true }).advance 0).attOf (0)).hystDb = false) := by decide

theorem test_witness_AttenuatorEventsComplete_5 :
    ((0) < 8) ∧ ((({ cnv0 3 { steps := [oneStep] } with now := 1000000000 }).advance 0).listening = true) ∧ (((({ cnv0 3 { steps := [oneStep] } with now := 1000000000 }).advance 0).cnvOf (0)).steps.getLast? = some (oneStep)) ∧ (((({ cnv0 3 { steps := [oneStep] } with now := 1000000000 }).advance 0).cnvOf (0)).ovrActive = false) ∧ (belowRelease (0 : Nat) (oneStep).thr (oneStep).stepCal ((({ cnv0 3 { steps := [oneStep] } with now := 1000000000 }).advance 0).attOf (0)).hystDb = true) ∧ (((({ cnv0 3 { steps := [oneStep] } with now := 1000000000 }).advance 0).cnvOf (0)).holdFrom + ((({ cnv0 3 { steps := [oneStep] } with now := 1000000000 }).advance 0).attOf (0)).holdMs * perMs ≤ (({ cnv0 3 { steps := [oneStep] } with now := 1000000000 }).advance 0).now) := by decide +kernel

theorem test_witness_AttenuatorEventsComplete_6 :
    ((0) < 8) ∧ (((cnv0 3 { startTest := some 0 }).advance 0).listening = true) ∧ ((((cnv0 3 { startTest := some 0 }).advance 0).cnvOf (0)).startTest = some (0 : Time)) ∧ ((0 : Time) ≤ ((cnv0 3 { startTest := some 0 }).advance 0).now) ∧ (((((cnv0 3 { startTest := some 0 }).advance 0).modCnv 0 (fun x => { x with startTest := none }))).mayStep (0) = true) ∧ ((999 : Nat) < (((cnv0 3 { startTest := some 0 }).advance 0).attOf (0)).fastThr) ∧ (belowRelease (999 : Nat) (((cnv0 3 { startTest := some 0 }).advance 0).attOf (0)).fastThr (((cnv0 3 { startTest := some 0 }).advance 0).attOf (0)).stepCal (((cnv0 3 { startTest := some 0 }).advance 0).attOf (0)).hystDb = false) := by decide +kernel

theorem test_witness_AttenuatorEventsComplete_7 :
    ((7 : Nat) < 8) ∧ (0 < ((({ inState 4 with dac := [(7, { begun := 1 })] }).advance 0).dacOf (7 : Nat)).begun) := by decide

theorem test_witness_AttenuatorEventsComplete_8 :
    ((7 : Nat) < 8) ∧ ((({ inState 4 with now := 1000000000000, fe := [(7, { txActive := true })] }).advance 0).transmits (7 : Nat) = true) ∧ ((({ inState 4 with now := 1000000000000, fe := [(7, { txActive := true })] }).advance 0).trafficQuiet (7 : Nat) = true) := by decide

theorem test_witness_AttenuatorEventsComplete_9 :
    ((7 : Nat) < 8) ∧ (((up).advance 0).trafficQuiet (7 : Nat) = false) := by decide

theorem test_witness_AttenuatorEventsComplete_10 :
    (2 ≤ (({ inState 2 with now := 1000000000000, boot := { up.boot with step := 11 } }).advance 0).radio.state) ∧ ((({ inState 2 with now := 1000000000000, boot := { up.boot with step := 11 } }).advance 0).firmwareRuns = true) ∧ ((({ inState 2 with now := 1000000000000, boot := { up.boot with step := 11 } }).advance 0).th.trimAt + storeInterval (({ inState 2 with now := 1000000000000, boot := { up.boot with step := 11 } }).advance 0).th.band * perSecond ≤ (({ inState 2 with now := 1000000000000, boot := { up.boot with step := 11 } }).advance 0).now) := by decide

theorem test_witness_SubbandEventsComplete_1 :
    (((({ sb0 3 true with sb := [(0, { retunes := [{ due := 0, seq := 0, cmd := none, members := [0], fcwRx := 0, fcwTx := 0 }] })] }).advance 0).sbOf (0)).retunes = ({ due := 0, seq := 0, cmd := none, members := [0], fcwRx := 0, fcwTx := 0 } : Retune) :: ([])) ∧ (({ due := 0, seq := 0, cmd := none, members := [0], fcwRx := 0, fcwTx := 0 } : Retune).due ≤ (({ sb0 3 true with sb := [(0, { retunes := [{ due := 0, seq := 0, cmd := none, members := [0], fcwRx := 0, fcwTx := 0 }] })] }).advance 0).window) := by decide

theorem test_witness_SubbandEventsComplete_2 :
    ((0) < 128) ∧ (((({ sb0 3 true with now := 1000000, sb := [(0, { fadeRx := some { cmd := none, first := 16, outputs := 1 }, fadeTx := some { cmd := none, first := 16, outputs := 1 } })] }).advance 0).sbOf (0)).fadeRx = some ({ cmd := none, first := 16, outputs := 1 } : Fade)) ∧ ((({ sb0 3 true with now := 1000000, sb := [(0, { fadeRx := some { cmd := none, first := 16, outputs := 1 }, fadeTx := some { cmd := none, first := 16, outputs := 1 } })] }).advance 0).fadeOver (0) ({ cmd := none, first := 16, outputs := 1 } : Fade) = true) ∧ (((({ sb0 3 true with now := 1000000, sb := [(0, { fadeRx := some { cmd := none, first := 16, outputs := 1 }, fadeTx := some { cmd := none, first := 16, outputs := 1 } })] }).advance 0).sbOf (0)).fadeTx = some ({ cmd := none, first := 16, outputs := 1 } : Fade)) ∧ ((({ sb0 3 true with now := 1000000, sb := [(0, { fadeRx := some { cmd := none, first := 16, outputs := 1 }, fadeTx := some { cmd := none, first := 16, outputs := 1 } })] }).advance 0).fadeOver (0) ({ cmd := none, first := 16, outputs := 1 } : Fade) = true) := by decide

theorem test_witness_SubbandEventsComplete_3 :
    (((({ sb0 3 true with sb := [(0, { hard := some { due := 0, cmd := none, members := [0], rx := true, tx := false } })] }).advance 0).sbOf (0)).hard = some ({ due := 0, cmd := none, members := [0], rx := true, tx := false } : HardSwitch)) ∧ (({ due := 0, cmd := none, members := [0], rx := true, tx := false } : HardSwitch).due ≤ (({ sb0 3 true with sb := [(0, { hard := some { due := 0, cmd := none, members := [0], rx := true, tx := false } })] }).advance 0).window) := by decide

theorem test_witness_SubbandEventsComplete_4 :
    (((({ sb0 3 true with sb := [(0, { syncs := [{ due := 0, cmd := none, members := [0], fresh := true }] })] }).advance 0).sbOf (0)).syncs = ({ due := 0, cmd := none, members := [0], fresh := true } : SyncReset) :: ([])) ∧ (({ due := 0, cmd := none, members := [0], fresh := true } : SyncReset).due ≤ (({ sb0 3 true with sb := [(0, { syncs := [{ due := 0, cmd := none, members := [0], fresh := true }] })] }).advance 0).window) := by decide

theorem test_witness_SubbandEventsComplete_5 :
    ((0) < 128) ∧ (((({ sb0 3 true with sb := [(0, { ramp := some (0, none) })] }).advance 0).sbOf (0)).ramp = some ((0 : Time), (none))) ∧ ((0 : Time) ≤ (({ sb0 3 true with sb := [(0, { ramp := some (0, none) })] }).advance 0).now) := by decide

theorem test_witness_SubbandEventsComplete_6 :
    (((({ sb0 3 true with sb := [(0, { loads := [{ cmd := none, startedAt := 0, members := [0], tx := false, bank := 0, taps := [] }] })] }).advance 0).sbOf (0)).loads = ({ cmd := none, startedAt := 0, members := [0], tx := false, bank := 0, taps := [] } : CoefLoad) :: ([])) := by decide

/-! Witnesses of part K. -/

def canRun : State := { can0 with
  now := 1000000000
  can := [(0, { nb := 1, moving := some (3, 0), mode := 1, acqTime := 100000000, divRun := 0 })] }
def govAt (x : Gov) : State := { sb0 4 true with
  now := 1000000000000
  boot := { up.boot with step := 11 }
  gov := [(0, x)] }
def govProbe : Probe := { cmd := none, level := 10, stop := 100, used := 0, powers := [], spectra := [], suspended := true, everSuspended := true, lastAbove := 0 }

theorem test_witness_CancellerEventsComplete_1 :
    ((0) < 128) ∧ (0 < (((canRun).advance 0).canOf (0)).nb) ∧ (((canRun).advance 0).outputsRun (0) = true) ∧ (((canRun).advance 0).blockStart (0) + ((canRun).advance 0).blockLength (0) < ((canRun).advance 0).window + (((canRun).advance 0).cfg (0)).d) := by decide

theorem test_witness_CancellerEventsComplete_2 :
    ((((canRun).advance 0).canOf (0 : Nat)).mode = 1) ∧ ((((canRun).advance 0).canSet (0 : Nat)).acqMs * perMs ≤ (((canRun).advance 0).canOf (0 : Nat)).acqTime) := by decide

theorem test_witness_CancellerEventsComplete_3 :
    ((0) < 128) ∧ (0 < ((({ canRun with now := 0 }).advance 0).canOf (0)).nb) ∧ ((({ canRun with now := 0 }).advance 0).outputsRun (0) = true) ∧ ((({ canRun with now := 0 }).advance 0).window = (({ canRun with now := 0 }).advance 0).outputNow (0) * ((({ canRun with now := 0 }).advance 0).cfg (0)).d) ∧ ((({ canRun with now := 0 }).advance 0).partitionFrom (0) ((({ canRun with now := 0 }).advance 0).outputNow (0)) = (({ canRun with now := 0 }).advance 0).outputNow (0)) := by decide

theorem test_witness_CancellerEventsComplete_4 :
    ((((canRun).advance 0).canOf (0)).moving = some ((3 : Nat), (0 : Time))) := by decide

theorem test_witness_CancellerEventsComplete_5 :
    ((((canRun).advance 0).canOf (0)).moving = some ((3 : Nat), (0 : Time))) ∧ ((0 : Time) + perMs ≤ ((canRun).advance 0).now) := by decide

theorem test_witness_CancellerEventsComplete_6 :
    (((({ can0 with can := [(0, { nb := 1, reading := [{ cmd := { src := 0, id := 0 }, startedAt := 0, paths := [], addr := 0, data := some [] }] })] }).advance 0).canOf (0)).reading = ({ cmd := { src := 0, id := 0 }, startedAt := 0, paths := [], addr := 0, data := some [] } : MapRead) :: ([])) ∧ (({ cmd := { src := 0, id := 0 }, startedAt := 0, paths := [], addr := 0, data := some [] } : MapRead).data.isNone = false ∨ (({ can0 with can := [(0, { nb := 1, reading := [{ cmd := { src := 0, id := 0 }, startedAt := 0, paths := [], addr := 0, data := some [] }] })] }).advance 0).outputsRun (0) = false) := by decide

theorem test_witness_GovernorEventsComplete_1 :
    ((0) < 128) ∧ (((govAt {}).advance 0).outputsRun (0) = true) ∧ ((((govAt {}).advance 0).cfg (0)).offFreq = false) ∧ ((((govAt {}).advance 0).govOutput (0) + binsOf (((govAt {}).advance 0).cfg (0)).d) * (((govAt {}).advance 0).cfg (0)).d < ((govAt {}).advance 0).window + (((govAt {}).advance 0).cfg (0)).d) := by decide

theorem test_witness_GovernorEventsComplete_2 :
    ((0) < 128) ∧ (((({ govAt {} with sig := [(0, { detect := { tripped := true } })] })).advance 0).listening = true) ∧ (((({ govAt {} with sig := [(0, { detect := { tripped := true } })] })).advance 0).enabled (0) = true) ∧ (((({ govAt {} with sig := [(0, { detect := { tripped := true } })] })).advance 0).muted (0) = false) ∧ ((((({ govAt {} with sig := [(0, { detect := { tripped := true } })] })).advance 0).sigOf (0)).detect.tripped = true) ∧ ((((((({ govAt {} with sig := [(0, { detect := { tripped := true } })] }).advance 0).modSig 0 (fun x => { x with detect := { x.detect with tripped := false } })).each ((({ govAt {} with sig := [(0, { detect := { tripped := true } })] }).advance 0).tied 0) (fun w h => w.modGov h (fun x => { x with trips := (w.now, w.appliedGain h) :: x.trips.filter (fun e => decide (w.now ≤ e.1 + tenSeconds)), capRepeat := 0, capFrom := x.capFrom.map (fun _ => w.now) })))).govOf (0)).trips.length < 3) := by decide

theorem test_witness_GovernorEventsComplete_3 :
    ((0) < 128) ∧ (((({ govAt { trips := [(1000000000000, 0), (1000000000000, 0)] } with sig := [(0, { detect := { tripped := true } })] })).advance 0).listening = true) ∧ (((({ govAt { trips := [(1000000000000, 0), (1000000000000, 0)] } with sig := [(0, { detect := { tripped := true } })] })).advance 0).enabled (0) = true) ∧ (((({ govAt { trips := [(1000000000000, 0), (1000000000000, 0)] } with sig := [(0, { detect := { tripped := true } })] })).advance 0).muted (0) = false) ∧ ((((({ govAt { trips := [(1000000000000, 0), (1000000000000, 0)] } with sig := [(0, { detect := { tripped := true } })] })).advance 0).sigOf (0)).detect.tripped = true) ∧ (3 ≤ (((((({ govAt { trips := [(1000000000000, 0), (1000000000000, 0)] } with sig := [(0, { detect := { tripped := true } })] }).advance 0).modSig 0 (fun x => { x with detect := { x.detect with tripped := false } })).each ((({ govAt { trips := [(1000000000000, 0), (1000000000000, 0)] } with sig := [(0, { detect := { tripped := true } })] }).advance 0).tied 0) (fun w h => w.modGov h (fun x => { x with trips := (w.now, w.appliedGain h) :: x.trips.filter (fun e => decide (w.now ≤ e.1 + tenSeconds)), capRepeat := 0, capFrom := x.capFrom.map (fun _ => w.now) })))).govOf (0)).trips.length) := by decide

theorem test_witness_GovernorEventsComplete_4 :
    ((((govAt { clamp := some (0, 0) }).advance 0).govOf (0)).clamp = some ((0 : Int), (0 : Time))) ∧ ((0 : Time) ≤ ((govAt { clamp := some (0, 0) }).advance 0).now) := by decide

theorem test_witness_GovernorEventsComplete_5 :
    ((((govAt { state := 2, holdoff := some 0 }).advance 0).govOf (0)).state = 2) ∧ ((((govAt { state := 2, holdoff := some 0 }).advance 0).govOf (0)).holdoff = some (0 : Time)) ∧ ((0 : Time) ≤ ((govAt { state := 2, holdoff := some 0 }).advance 0).now) ∧ (((govAt { state := 2, holdoff := some 0 }).advance 0).firmwareRuns = true) := by decide

theorem test_witness_GovernorEventsComplete_6 :
    ((((govAt { cap := some 0, capRepeat := failWindow }).advance 0).govOf (0)).cap.isSome = true) ∧ (failWindow ≤ (((govAt { cap := some 0, capRepeat := failWindow }).advance 0).govOf (0)).capRepeat) := by decide

theorem test_witness_GovernorEventsComplete_7 :
    ((0) < 128) ∧ ((((govAt { floor := true, floorSince := some 0 }).advance 0).govSet (0)).probeAuto = true) ∧ (((govAt { floor := true, floorSince := some 0 }).advance 0).radio.state = 4) ∧ (((govAt { floor := true, floorSince := some 0 }).advance 0).enabled (0) = true) ∧ ((((govAt { floor := true, floorSince := some 0 }).advance 0).cfg (0)).offFreq = false) ∧ (((govAt { floor := true, floorSince := some 0 }).advance 0).muted (0) = false) ∧ ((((govAt { floor := true, floorSince := some 0 }).advance 0).govOf (0)).probe.isNone = true) ∧ ((((govAt { floor := true, floorSince := some 0 }).advance 0).govOf (0)).floor = true) ∧ ((((govAt { floor := true, floorSince := some 0 }).advance 0).govOf (0)).floorSince = some (0 : Time)) ∧ ((0 : Time) + 500 * perMs ≤ ((govAt { floor := true, floorSince := some 0 }).advance 0).now) := by decide

theorem test_witness_GovernorEventsComplete_8 :
    ((((govAt { probe := some govProbe }).advance 0).govOf (0)).probe = some (govProbe)) ∧ ((govProbe).stop ≤ ((govAt { probe := some govProbe }).advance 0).now) := by decide

/-- A sub-band whose TX bank has gain, and whose latest stage-9 output without the probe is given. -/
def drownBase : State := { govAt {} with
  set := { (govAt {}).set with
    sb := [(0, { cfg := { enable := true, d := 16, l := 64, lTx := 64 }, tx0 := { loaded := true, sumRe := 131072 } })] } }
def drowned (n : Int) : State := { drownBase with sig := [(0, { bare := (n, 0) })] }
theorem drownBase_gain : 0 < drownBase.txNetAt 0 drownBase.window := by
  have hm : magnitude 131072 0 = 131072 := by
    have h : largest (fun k => decide (k * k ≤ 17179869184 * 2 ^ 64)) 96 0 = 2 ^ 49 := by decide +kernel
    have h2 : (131072 * 131072 + 0 * 0 : Int).toNat = 17179869184 := by decide
    simp only [magnitude, h2, h]
    norm_num
  have hb : drownBase.bankUsed 0 drownBase.window true = { loaded := true, sumRe := 131072 } := by decide +kernel
  have h1 : 0 < (drownBase.cfg 0).dcUsed := by decide +kernel
  have h2 : 0 < (drownBase.cfg 0).dfUsed := by decide +kernel
  simp only [State.txNetAt, SbConfig.txNet, hb, Bank.sum, hm]
  positivity
theorem test_witness_GovernorEventsComplete_10 :
    ∃ n : Int, ((drowned n).advance 0).probeDrowned 0 = true := by
  have hu : 0 < drownBase.txNetAt 0 drownBase.window / 32752 := div_pos drownBase_gain (by norm_num)
  generalize hg : drownBase.txNetAt 0 drownBase.window / 32752 = u at hu
  obtain ⟨n, hn⟩ := exists_nat_gt (linear (drownBase.txFloor 0 + 300) / (u * u) + 1)
  refine ⟨n, decide_eq_true ?_⟩
  have h1 : linear (drownBase.txFloor 0 + 300) < (n : Rat) * (u * u) := by
    rw [← div_lt_iff₀ (mul_pos hu hu)]; linarith
  have h2 : (n : Rat) * (u * u) ≤ ((Iq.power ((n : Int), 0) : Nat) : Rat) * u * u := by
    have h3 : Iq.power ((n : Int), 0) = n * n := by simp only [Iq.power]; norm_cast
    rw [h3, mul_assoc]
    refine mul_le_mul_of_nonneg_right ?_ (mul_pos hu hu).le
    exact_mod_cast Nat.le_mul_self n
  rw [← hg] at h1 h2
  exact lt_of_lt_of_le h1 h2

theorem test_witness_GovernorEventsComplete_11 :
    ((({ govAt {} with now := 2000000000000 }).advance 0).firmwareRuns = true) ∧ ((({ govAt {} with now := 2000000000000 }).advance 0).th.isoAt + 600 * perSecond ≤ (({ govAt {} with now := 2000000000000 }).advance 0).now) := by decide

theorem test_witness_ControlEventsComplete_1 :
    (((sb0 3 true).advance 0).listening = true) ∧ (((sb0 3 true).advance 0).ctlTick ≠ some (((sb0 3 true).advance 0).window / perControl)) := by decide

theorem test_witness_ControlEventsComplete_2 :
    ((0) < 8) ∧ (((({ govAt {} with plaus := [(0, { timer := some 0 })] }).advance 0).plausOf (0)).timer = some (0 : Time)) ∧ ((0 : Time) + ((({ govAt {} with plaus := [(0, { timer := some 0 })] }).advance 0).plausSet (0)).timeMs * perMs ≤ (({ govAt {} with plaus := [(0, { timer := some 0 })] }).advance 0).now) ∧ (((({ govAt {} with plaus := [(0, { timer := some 0 })] }).advance 0).plausOf (0)).raised = false) := by decide

theorem test_witness_ControlEventsComplete_3 :
    (((({ sb0 3 true with loops := [(0, { waitSp := some { cmd := { src := 0, id := 0 }, startedAt := 0 } })] }).advance 0).loopOf (0 : Nat)).wait 0 = some ({ cmd := { src := 0, id := 0 }, startedAt := 0 } : SetPointWait)) ∧ ((0 : Nat) < 128) ∧ (((({ sb0 3 true with loops := [(0, { waitSp := some { cmd := { src := 0, id := 0 }, startedAt := 0 } })] }).advance 0).loopOf (0 : Nat)).spRamp = ofCenti ((({ sb0 3 true with loops := [(0, { waitSp := some { cmd := { src := 0, id := 0 }, startedAt := 0 } })] }).advance 0).loopSet (0 : Nat)).sp) := by decide

theorem test_witness_ControlEventsComplete_4 :
    (((({ sb0 3 true with loops := [(0, { gfixRamp := 0, waitGfix := some { cmd := { src := 0, id := 0 }, startedAt := 0 } })] }).advance 0).loopOf (0 : Nat)).wait 1 = some ({ cmd := { src := 0, id := 0 }, startedAt := 0 } : SetPointWait)) ∧ ((0 : Nat) < 128) ∧ (((({ sb0 3 true with loops := [(0, { gfixRamp := 0, waitGfix := some { cmd := { src := 0, id := 0 }, startedAt := 0 } })] }).advance 0).loopOf (0 : Nat)).gfixRamp = ofCenti ((({ sb0 3 true with loops := [(0, { gfixRamp := 0, waitGfix := some { cmd := { src := 0, id := 0 }, startedAt := 0 } })] }).advance 0).loopSet (0 : Nat)).gFix) := by decide

theorem test_witness_ControlEventsComplete_5 :
    (((({ sb0 3 true with loops := [(0, { inj := some { cmd := { src := 0, id := 0 }, point := 0, capture := false, kind := 0, amp := 0, duration := 1, pre := 0, order := 7, hold := 1, fStart := 0, fEnd := 0, done := 1, lfsr := 1, limited := false } })] }).advance 0).loopOf (0 : Nat)).inj = some ({ cmd := { src := 0, id := 0 }, point := 0, capture := false, kind := 0, amp := 0, duration := 1, pre := 0, order := 7, hold := 1, fStart := 0, fEnd := 0, done := 1, lfsr := 1, limited := false } : Injection)) ∧ (({ cmd := { src := 0, id := 0 }, point := 0, capture := false, kind := 0, amp := 0, duration := 1, pre := 0, order := 7, hold := 1, fStart := 0, fEnd := 0, done := 1, lfsr := 1, limited := false } : Injection).pre + ({ cmd := { src := 0, id := 0 }, point := 0, capture := false, kind := 0, amp := 0, duration := 1, pre := 0, order := 7, hold := 1, fStart := 0, fEnd := 0, done := 1, lfsr := 1, limited := false } : Injection).duration ≤ ({ cmd := { src := 0, id := 0 }, point := 0, capture := false, kind := 0, amp := 0, duration := 1, pre := 0, order := 7, hold := 1, fStart := 0, fEnd := 0, done := 1, lfsr := 1, limited := false } : Injection).done) := by decide

/-! Witnesses of part L. -/

def tddAt (x : Tdd) (src : Nat) : State := { sb0 4 true with
  now := 1000000000000
  boot := { up.boot with step := 11 }
  tdd := [(1, x)]
  set := { (sb0 4 true).set with
    tdd := [(1, { enable := true, source := src })] } }
def protecting : State := { sb0 4 true with
  now := 1000000000000
  band := [(3, { muted := true, aboveFrom := some 0 })]
  fe := [(0, { txActive := true })]
  regrowth := [(0, { db := 60, overRun := 9, clean := 9 })]
  plaus := [(0, { pComp := 0 })] }

theorem test_witness_TimingEventsComplete_1 :
    ((1) < 4) ∧ ((((tddAt { sync := 1, heardAt := some 0 } 5).advance 0).tddSet (1)).enable = true) ∧ ((((tddAt { sync := 1, heardAt := some 0 } 5).advance 0).tddSet (1)).source ≠ 0) ∧ ((((tddAt { sync := 1, heardAt := some 0 } 5).advance 0).tddOf (1)).srcLost = false) ∧ ((((tddAt { sync := 1, heardAt := some 0 } 5).advance 0).tddOf (1)).sync = 1 ∨ (((tddAt { sync := 1, heardAt := some 0 } 5).advance 0).tddOf (1)).sync = 4) ∧ (((tddAt { sync := 1, heardAt := some 0 } 5).advance 0).acquirable (1) = true) := by decide

theorem test_witness_TimingEventsComplete_2 :
    ((1) < 4) ∧ ((((tddAt { sync := 3 } 1).advance 0).tddSet (1)).enable = true) ∧ ((((tddAt { sync := 3 } 1).advance 0).tddSet (1)).source ≠ 0) ∧ ((((tddAt { sync := 3 } 1).advance 0).tddOf (1)).srcLost = false) ∧ ((((tddAt { sync := 3 } 1).advance 0).tddOf (1)).sync = 3) ∧ (((-24) : Int).natAbs ≤ 24) := by decide

theorem test_witness_TimingEventsComplete_3 :
    ((1) < 4) ∧ ((((tddAt { sync := 3 } 1).advance 0).tddSet (1)).enable = true) ∧ ((((tddAt { sync := 3 } 1).advance 0).tddSet (1)).source ≠ 0) ∧ ((((tddAt { sync := 3 } 1).advance 0).tddOf (1)).srcLost = false) ∧ ((((tddAt { sync := 3 } 1).advance 0).tddOf (1)).sync = 3) ∧ (24 < (25 : Int).natAbs) := by decide

theorem test_witness_TimingEventsComplete_4 :
    ((1) < 4) ∧ ((((tddAt { sync := 2 } 1).advance 0).tddSet (1)).enable = true) ∧ ((((tddAt { sync := 2 } 1).advance 0).tddSet (1)).source ≠ 0) ∧ ((((tddAt { sync := 2 } 1).advance 0).tddOf (1)).srcLost = false) ∧ ((((tddAt { sync := 2 } 1).advance 0).tddOf (1)).sync = 2) ∧ ((24 : Int).natAbs ≤ 24) ∧ (edgeMissing (((tddAt { sync := 2 } 1).advance 0).tddSet (1)).source (24 : Int) = false) := by decide

theorem test_witness_TimingEventsComplete_5 :
    ((1) < 4) ∧ ((((tddAt { sync := 3 } 5).advance 0).tddSet (1)).enable = true) ∧ ((((tddAt { sync := 3 } 5).advance 0).tddSet (1)).source ≠ 0) ∧ ((((tddAt { sync := 3 } 5).advance 0).tddOf (1)).srcLost = false) ∧ ((((tddAt { sync := 3 } 5).advance 0).tddOf (1)).sync = 3) ∧ (((-24) : Int).natAbs ≤ 24) ∧ (edgeMissing (((tddAt { sync := 3 } 5).advance 0).tddSet (1)).source ((-24) : Int) = false) := by decide

theorem test_witness_TimingEventsComplete_6 :
    ((1) < 4) ∧ ((((tddAt { sync := 2, bad := 2 } 5).advance 0).tddSet (1)).enable = true) ∧ ((((tddAt { sync := 2, bad := 2 } 5).advance 0).tddSet (1)).source ≠ 0) ∧ ((((tddAt { sync := 2, bad := 2 } 5).advance 0).tddOf (1)).srcLost = false) ∧ ((((tddAt { sync := 2, bad := 2 } 5).advance 0).tddOf (1)).sync = 2 ∨ (((tddAt { sync := 2, bad := 2 } 5).advance 0).tddOf (1)).sync = 3) ∧ (24 < (122 : Int).natAbs) ∧ (edgeMissing (((tddAt { sync := 2, bad := 2 } 5).advance 0).tddSet (1)).source (122 : Int) = false) := by decide

theorem test_witness_TimingEventsComplete_7 :
    ((1) < 4) ∧ ((((tddAt { sync := 2 } 5).advance 0).tddSet (1)).enable = true) ∧ ((((tddAt { sync := 2 } 5).advance 0).tddSet (1)).source ≠ 0) ∧ ((((tddAt { sync := 2 } 5).advance 0).tddOf (1)).srcLost = false) ∧ ((((tddAt { sync := 2 } 5).advance 0).tddOf (1)).sync = 2 ∨ (((tddAt { sync := 2 } 5).advance 0).tddOf (1)).sync = 3) ∧ (edgeMissing (((tddAt { sync := 2 } 5).advance 0).tddSet (1)).source (123 : Int) = true) := by decide

theorem test_witness_TimingEventsComplete_8 :
    ((1) < 4) ∧ ((((tddAt { sync := 1 } 5).advance 0).tddSet (1)).enable = true) ∧ ((((tddAt { sync := 1 } 5).advance 0).tddSet (1)).source ≠ 0) ∧ ((((tddAt { sync := 1 } 5).advance 0).tddOf (1)).srcLost = false) ∧ ((((tddAt { sync := 1 } 5).advance 0).tddOf (1)).sync ≠ 2) ∧ ((((tddAt { sync := 1 } 5).advance 0).tddOf (1)).sync ≠ 3) := by decide

theorem test_witness_TimingEventsComplete_9 :
    ((1) < 4) ∧ ((((tddAt { sync := 2, heardAt := some 0 } 1).advance 0).tddOf (1)).sync = 2) ∧ ((((tddAt { sync := 2, heardAt := some 0 } 1).advance 0).tddSet (1)).source ≠ 0) ∧ ((((tddAt { sync := 2, heardAt := some 0 } 1).advance 0).tddOf (1)).heardAt = some (0 : Time)) ∧ ((0 : Time) + lossTime (((tddAt { sync := 2, heardAt := some 0 } 1).advance 0).tddSet (1)).source (((tddAt { sync := 2, heardAt := some 0 } 1).advance 0).tddOf (1)).beat ≤ ((tddAt { sync := 2, heardAt := some 0 } 1).advance 0).now) := by decide

theorem test_witness_TimingEventsComplete_10 :
    ((1) < 4) ∧ ((((tddAt { sync := 2 } 1).advance 0).tddOf (1)).sync = 2) ∧ ((((tddAt { sync := 2 } 1).advance 0).tddSet (1)).source ≠ 0) ∧ ((((tddAt { sync := 2 } 1).advance 0).tddOf (1)).heardAt = none) := by decide

theorem test_witness_TimingEventsComplete_11 :
    ((1) < 4) ∧ ((((tddAt { sync := 3 } 1).advance 0).tddOf (1)).sync = 3) ∧ ((((tddAt { sync := 3 } 1).advance 0).tddOf (1)).holdEnd ≤ ((tddAt { sync := 3 } 1).advance 0).now) := by decide

theorem test_witness_GatingEventsComplete_1 :
    ((1) < 4) ∧ ((((tddAt { sync := 3 } 1).advance 0).tddOf (1)).sync = 2 ∨ (((tddAt { sync := 3 } 1).advance 0).tddOf (1)).sync = 3) ∧ ((((tddAt { sync := 3 } 1).advance 0).tddOf (1)).frame + (((((tddAt { sync := 3 } 1).advance 0).tddOf (1)).gf + 1) * framePeriod (((tddAt { sync := 3 } 1).advance 0).tddSet (1)).period : Nat) ≤ (((tddAt { sync := 3 } 1).advance 0).window : Int)) := by decide

theorem test_witness_GatingEventsComplete_2 :
    ((1) < 4) ∧ ((((tddAt { sync := 3, gating := true } 1).advance 0).tddSet (1)).enable = true) ∧ ((((tddAt { sync := 3, gating := true } 1).advance 0).tddOf (1)).gating = true) ∧ ((((tddAt { sync := 3, gating := true } 1).advance 0).tddOf (1)).sync = 2 ∨ (((tddAt { sync := 3, gating := true } 1).advance 0).tddOf (1)).sync = 3) := by decide

theorem test_witness_GatingEventsComplete_3 :
    ((1) < 4) ∧ ((((tddAt { sync := 2, learning := some 200 } 1).advance 0).tddOf (1)).sync = 2) ∧ ((((tddAt { sync := 2, learning := some 200 } 1).advance 0).tddOf (1)).learning = some 200) ∧ ((((tddAt { sync := 2, learning := some 200 } 1).advance 0).tddOf (1)).pendDl.isNone = true) ∧ ((((tddAt { sync := 2, learning := some 200 } 1).advance 0).tddOf (1)).pendUl.isNone = true) ∧ (((tddAt { sync := 2, learning := some 200 } 1).advance 0).firmwareRuns = true) := by decide

theorem test_witness_ProtectionEventsComplete_1 :
    (((sb0 3 true).advance 0).listening = true) ∧ ((List.range 16).all (fun b => ((sb0 3 true).advance 0).due100 (((sb0 3 true).advance 0).bandOf b).evalAt) = true) := by decide

theorem test_witness_ProtectionEventsComplete_2 :
    ((3 : Nat) < 16) ∧ ((({ protecting with band := [(3, { undetectedFrom := some 0 })] }).advance 0).listening = true) ∧ (((({ protecting with band := [(3, { undetectedFrom := some 0 })] }).advance 0).npBand (3 : Nat)).donorEn = true) ∧ (((({ protecting with band := [(3, { undetectedFrom := some 0 })] }).advance 0).bandOf (3 : Nat)).muted = false) ∧ (((({ protecting with band := [(3, { undetectedFrom := some 0 })] }).advance 0).bandOf (3 : Nat)).undetectedFrom = some (0 : Time)) ∧ ((0 : Time) + ((({ protecting with band := [(3, { undetectedFrom := some 0 })] }).advance 0).npBand (3 : Nat)).donorLossMs * perMs ≤ (({ protecting with band := [(3, { undetectedFrom := some 0 })] }).advance 0).now) := by decide

theorem test_witness_ProtectionEventsComplete_3 :
    ((3 : Nat) < 16) ∧ (((protecting).advance 0).listening = true) ∧ ((((protecting).advance 0).bandOf (3 : Nat)).muted = true) ∧ ((((protecting).advance 0).bandOf (3 : Nat)).aboveFrom = some (0 : Time)) ∧ ((0 : Time) + 200 * perMs ≤ ((protecting).advance 0).now) := by decide

theorem test_witness_ProtectionEventsComplete_4 :
    (((up).advance 0).transmits (0) = false ∨ ((up).advance 0).due100 (((up).advance 0).regrowthOf (0)).evalAt = false) := by decide

theorem test_witness_ProtectionEventsComplete_5 :
    ((0) < 8) ∧ (((protecting).advance 0).transmits (0) = true) ∧ (((protecting).advance 0).due100 (((protecting).advance 0).regrowthOf (0)).evalAt = true) ∧ (((((protecting).advance 0).regrowthBegins 0)).worstAclr (0) ((allSbs.take 16).map (fun g => { g := g, inBand := (0 : Int), lower := 0, upper := 0 })) = none ∨ (0 : Nat) < hundredMicros ∨ (((((protecting).advance 0).regrowthBegins 0)).npChain (0)).regrowthEn = false ∨ (((((protecting).advance 0).regrowthBegins 0)).plausOf (0)).pComp < -671088640) := by decide

theorem test_witness_ProtectionEventsComplete_6 :
    ((0) < 8) ∧ (((protecting).advance 0).transmits (0) = true) ∧ (((protecting).advance 0).due100 (((protecting).advance 0).regrowthOf (0)).evalAt = true) ∧ (((((protecting).advance 0).regrowthBegins 0)).worstAclr (0) ((allSbs.take 16).map (fun g => { g := g, inBand := (0 : Int), lower := 0, upper := 0 })) = some ((0) : Int)) ∧ (hundredMicros ≤ (hundredMicros)) ∧ ((((((protecting).advance 0).regrowthBegins 0)).npChain (0)).regrowthEn = true) ∧ (-671088640 ≤ (((((protecting).advance 0).regrowthBegins 0)).plausOf (0)).pComp) ∧ (((0) : Int) < ((((((protecting).advance 0).regrowthBegins 0)).npChain (0)).aclrLim * 100 : Nat)) := by decide

theorem test_witness_ProtectionEventsComplete_7 :
    ((0) < 8) ∧ (((protecting).advance 0).transmits (0) = true) ∧ (((protecting).advance 0).due100 (((protecting).advance 0).regrowthOf (0)).evalAt = true) ∧ (((((protecting).advance 0).regrowthBegins 0)).worstAclr (0) ((allSbs.take 16).map (fun g => { g := g, inBand := (4800 : Int), lower := 0, upper := 0 })) = some ((4800) : Int)) ∧ (hundredMicros ≤ (hundredMicros)) ∧ ((((((protecting).advance 0).regrowthBegins 0)).npChain (0)).regrowthEn = true) ∧ (-671088640 ≤ (((((protecting).advance 0).regrowthBegins 0)).plausOf (0)).pComp) ∧ (((((((protecting).advance 0).regrowthBegins 0)).npChain (0)).aclrLim * 100 : Nat) ≤ ((4800) : Int)) ∧ ((((((((protecting).advance 0).regrowthBegins 0)).npChain (0)).aclrLim + 3) * 100 : Nat) ≤ ((4800) : Int)) ∧ ((((((protecting).advance 0).regrowthBegins 0).regrowthOf 0)).clean + 1 = 10) := by decide

theorem test_witness_ProtectionEventsComplete_8 :
    ((0) < 8) ∧ ((({ protecting with regrowth := [] }).advance 0).transmits (0) = true) ∧ ((({ protecting with regrowth := [] }).advance 0).due100 ((({ protecting with regrowth := [] }).advance 0).regrowthOf (0)).evalAt = true) ∧ ((((({ protecting with regrowth := [] }).advance 0).regrowthBegins 0)).worstAclr (0) ((allSbs.take 16).map (fun g => { g := g, inBand := (4800 : Int), lower := 0, upper := 0 })) = some ((4800) : Int)) ∧ (hundredMicros ≤ (hundredMicros)) ∧ (((((({ protecting with regrowth := [] }).advance 0).regrowthBegins 0)).npChain (0)).regrowthEn = true) ∧ (-671088640 ≤ ((((({ protecting with regrowth := [] }).advance 0).regrowthBegins 0)).plausOf (0)).pComp) ∧ ((((((({ protecting with regrowth := [] }).advance 0).regrowthBegins 0)).npChain (0)).aclrLim * 100 : Nat) ≤ ((4800) : Int)) ∧ (((((((({ protecting with regrowth := [] }).advance 0).regrowthBegins 0)).npChain (0)).aclrLim + 3) * 100 : Nat) ≤ ((4800) : Int)) ∧ (((((({ protecting with regrowth := [] }).advance 0).regrowthBegins 0).regrowthOf 0)).clean + 1 ≠ 10) := by decide

theorem test_witness_ProtectionEventsComplete_9 :
    ((0) < 8) ∧ (((protecting).advance 0).transmits (0) = true) ∧ (((protecting).advance 0).due100 (((protecting).advance 0).regrowthOf (0)).evalAt = true) ∧ (((((protecting).advance 0).regrowthBegins 0)).worstAclr (0) ((allSbs.take 16).map (fun g => { g := g, inBand := (4500 : Int), lower := 0, upper := 0 })) = some ((4500) : Int)) ∧ (hundredMicros ≤ (hundredMicros)) ∧ ((((((protecting).advance 0).regrowthBegins 0)).npChain (0)).regrowthEn = true) ∧ (-671088640 ≤ (((((protecting).advance 0).regrowthBegins 0)).plausOf (0)).pComp) ∧ (((((((protecting).advance 0).regrowthBegins 0)).npChain (0)).aclrLim * 100 : Nat) ≤ ((4500) : Int)) ∧ (((4500) : Int) < (((((((protecting).advance 0).regrowthBegins 0)).npChain (0)).aclrLim + 3) * 100 : Nat)) := by decide

theorem test_witness_ProtectionEventsComplete_10 :
    (((up).advance 0).pins.muteN = true) := by decide

theorem test_witness_ProtectionEventsComplete_11 :
    ((({ up with pins := { up.pins with muteN := false } }).advance 0).pins.muteN = false) := by decide

/-! Witnesses of part M. -/

def feAt (x : Fe) : State := { inState 4 with
  now := 1000000000000
  fe := [(2, x)] }
def seqOf (up : Bool) : Seq := { up := up, startedAt := 0, cfg := {}, bias := true, paen := true }
def monitoring (n : Nat) (k : WmSet) : State := { inState 4 with
  now := 1000000000000
  boot := { up.boot with driven := true }
  wm := [(n, { blank := some 0 })]
  set := { up.set with
    wm := [(n, k)]
    gpio := [(5, 0x31)] } }
def pulsed : State := { inState 4 with
  now := perTick * 7
  set := { up.set with
    pg := [(3, { enable := true, src := 3, p0 := 16, p1 := 8 })] } }

theorem test_witness_SequenceEventsComplete_1 :
    ((2) < 8) ∧ ((((feAt { dueUp := true }).advance 0).feOf (2)).dueUp = true) ∧ ((((feAt { dueUp := true }).advance 0).feOf (2)).free = true) := by decide

theorem test_witness_SequenceEventsComplete_2 :
    ((((feAt { seq := some (seqOf true) }).advance 0).feOf (2)).seq = some (seqOf true)) ∧ ((2) < 8) := by decide

theorem test_witness_SequenceEventsComplete_3 :
    ((((feAt { seq := some (seqOf true) }).advance 0).feOf (2)).seq = some (seqOf true)) ∧ ((2) < 8) ∧ ((seqOf true).up = true) ∧ ((seqOf true).length ≤ ((feAt { seq := some (seqOf true) }).advance 0).seqTicks (seqOf true)) := by decide

theorem test_witness_SequenceEventsComplete_4 :
    ((2) < 8) ∧ ((((feAt { dueDown := true }).advance 0).feOf (2)).dueDown = true) := by decide

theorem test_witness_SequenceEventsComplete_5 :
    ((((feAt { seq := some (seqOf false) }).advance 0).feOf (2)).seq = some (seqOf false)) ∧ ((2) < 8) ∧ ((seqOf false).up = false) ∧ ((seqOf false).length ≤ ((feAt { seq := some (seqOf false) }).advance 0).seqTicks (seqOf false)) := by decide

theorem test_witness_PulseAndMonitorEventsComplete_1 :
    (((({ pulsed with now := perTick * 16, pg := [(3, { change := some ({}, { src := 0, id := 0 }) })] }).advance 0).pgOf (3 : Nat)).change = some (({} : PgSet), ({ src := 0, id := 0 } : CmdRef))) ∧ ((3 : Nat) < 16) ∧ (((({ pulsed with now := perTick * 16, pg := [(3, { change := some ({}, { src := 0, id := 0 }) })] }).advance 0).pgSet (3 : Nat)).src = 3) ∧ ((({ pulsed with now := perTick * 16, pg := [(3, { change := some ({}, { src := 0, id := 0 }) })] }).advance 0).tick % ((({ pulsed with now := perTick * 16, pg := [(3, { change := some ({}, { src := 0, id := 0 }) })] }).advance 0).pgSet (3 : Nat)).p0 = ((({ pulsed with now := perTick * 16, pg := [(3, { change := some ({}, { src := 0, id := 0 }) })] }).advance 0).pgSet (3 : Nat)).p2) := by decide

theorem test_witness_PulseAndMonitorEventsComplete_2 :
    (((({ inState 4 with tdd := [(0, { sync := 2 })], pg := [(3, { change := some ({}, { src := 0, id := 0 }) })] }).advance 0).pgOf (3 : Nat)).change = some (({} : PgSet), ({ src := 0, id := 0 } : CmdRef))) ∧ ((3 : Nat) < 16) ∧ (((({ inState 4 with tdd := [(0, { sync := 2 })], pg := [(3, { change := some ({}, { src := 0, id := 0 }) })] }).advance 0).pgSet (3 : Nat)).src ≠ 3) ∧ (((({ inState 4 with tdd := [(0, { sync := 2 })], pg := [(3, { change := some ({}, { src := 0, id := 0 }) })] }).advance 0).tddOf ((({ inState 4 with tdd := [(0, { sync := 2 })], pg := [(3, { change := some ({}, { src := 0, id := 0 }) })] }).advance 0).pgSet (3 : Nat)).group).sync = 2 ∨ ((({ inState 4 with tdd := [(0, { sync := 2 })], pg := [(3, { change := some ({}, { src := 0, id := 0 }) })] }).advance 0).tddOf ((({ inState 4 with tdd := [(0, { sync := 2 })], pg := [(3, { change := some ({}, { src := 0, id := 0 }) })] }).advance 0).pgSet (3 : Nat)).group).sync = 3) ∧ ((((({ inState 4 with tdd := [(0, { sync := 2 })], pg := [(3, { change := some ({}, { src := 0, id := 0 }) })] }).advance 0).window : Int) - ((({ inState 4 with tdd := [(0, { sync := 2 })], pg := [(3, { change := some ({}, { src := 0, id := 0 }) })] }).advance 0).tddOf ((({ inState 4 with tdd := [(0, { sync := 2 })], pg := [(3, { change := some ({}, { src := 0, id := 0 }) })] }).advance 0).pgSet (3 : Nat)).group).frame) % framePeriod ((({ inState 4 with tdd := [(0, { sync := 2 })], pg := [(3, { change := some ({}, { src := 0, id := 0 }) })] }).advance 0).tddSet ((({ inState 4 with tdd := [(0, { sync := 2 })], pg := [(3, { change := some ({}, { src := 0, id := 0 }) })] }).advance 0).pgSet (3 : Nat)).group).period < perTick) := by decide

theorem test_witness_PulseAndMonitorEventsComplete_3 :
    (((({ up with pg := [(3, { change := some ({}, { src := 0, id := 0 }) })] }).advance 0).pgOf (3 : Nat)).change = some (({} : PgSet), ({ src := 0, id := 0 } : CmdRef))) ∧ ((3 : Nat) < 16) ∧ (((({ up with pg := [(3, { change := some ({}, { src := 0, id := 0 }) })] }).advance 0).pgSet (3 : Nat)).src ≠ 3) ∧ (¬(((({ up with pg := [(3, { change := some ({}, { src := 0, id := 0 }) })] }).advance 0).tddOf ((({ up with pg := [(3, { change := some ({}, { src := 0, id := 0 }) })] }).advance 0).pgSet (3 : Nat)).group).sync = 2 ∨ ((({ up with pg := [(3, { change := some ({}, { src := 0, id := 0 }) })] }).advance 0).tddOf ((({ up with pg := [(3, { change := some ({}, { src := 0, id := 0 }) })] }).advance 0).pgSet (3 : Nat)).group).sync = 3)) := by decide

theorem test_witness_PulseAndMonitorEventsComplete_4 :
    ((((up).advance 0).pgOf (3 : Nat)).change = none) := by decide

theorem test_witness_PulseAndMonitorEventsComplete_5 :
    ((3 : Nat) < 16) ∧ ((((pulsed).advance 0).pgSet (3 : Nat)).enable = true) ∧ (2 ≤ ((pulsed).advance 0).radio.state) ∧ (((pulsed).advance 0).pgLevel (3 : Nat) = true) ∧ ((((pulsed).advance 0).pgOf (3 : Nat)).level = false) := by decide

theorem test_witness_PulseAndMonitorEventsComplete_6 :
    ((3 : Nat) < 16) ∧ (((({ pulsed with now := perTick * 9, pg := [(3, { level := true })] }).advance 0).pgSet (3 : Nat)).enable = true) ∧ (2 ≤ (({ pulsed with now := perTick * 9, pg := [(3, { level := true })] }).advance 0).radio.state) ∧ ((({ pulsed with now := perTick * 9, pg := [(3, { level := true })] }).advance 0).pgLevel (3 : Nat) = false) ∧ (((({ pulsed with now := perTick * 9, pg := [(3, { level := true })] }).advance 0).pgOf (3 : Nat)).level = true) := by decide

theorem test_witness_PulseAndMonitorEventsComplete_7 :
    ((2) < 16) ∧ ((((monitoring 2 { enable := true, hi := 100 }).advance 0).wmSet (2)).enable = true) ∧ (2 ≤ ((monitoring 2 { enable := true, hi := 100 }).advance 0).radio.state) ∧ ((((monitoring 2 { enable := true, hi := 100 }).advance 0).wmSet (2)).asserts (101 : Nat) = true) := by decide

theorem test_witness_PulseAndMonitorEventsComplete_8 :
    ((2) < 16) ∧ ((((monitoring 2 { enable := true, hi := 100 }).advance 0).wmSet (2)).enable = true) ∧ (2 ≤ ((monitoring 2 { enable := true, hi := 100 }).advance 0).radio.state) ∧ ((((monitoring 2 { enable := true, hi := 100 }).advance 0).wmSet (2)).releases (91 : Nat) = true) := by decide

theorem test_witness_PulseAndMonitorEventsComplete_9 :
    ((1) < 4) ∧ ((((monitoring 17 { enable := true }).advance 0).pinOf (0x30 + (1))).isSome = true) ∧ (bit ((monitoring 17 { enable := true }).advance 0).pins.xtrip.toNat (1) = false) := by decide

theorem test_witness_PulseAndMonitorEventsComplete_10 :
    ((3) < 4) := by decide

theorem test_witness_PulseAndMonitorEventsComplete_11 :
    ((((monitoring 2 {}).advance 0).wmOf (2 : Nat)).blank = some (0 : Time)) ∧ ((0 : Time) ≤ ((monitoring 2 {}).advance 0).now) := by decide

theorem test_witness_PulseAndMonitorEventsComplete_12 :
    (((monitoring 2 {}).advance 0).drives = true) ∧ ((23 : Nat) < 24 ∨ 32 ≤ (23 : Nat) ∧ (23 : Nat) < 48 ∧ (((monitoring 2 {}).advance 0).pgDrives ((23 : Nat) - 32)).isSome = true) := by decide

/-! Witnesses of part N. -/

def hkAt (k : HkTimer) : State := { inState 4 with
  now := 1000000000000
  boot := { up.boot with step := 11 }
  hk := {
    delayed := [{ cls := 2, due := 0, entry := 5, channel := 7, engine := false }]
    busy := some ({ cls := 2, due := 0, entry := 4, channel := 6, engine := false }, 0) }
  set := { up.set with
    hkTimer := [(2, k)]
    gpio := [(5, 0x22)] } }
def stopping : State := { hkAt {} with
  th := { up.th with
    inRound := true, fadeEnd := some 0, stop := true, cool := 1000, resume := (3, 255, 3) } }

theorem test_witness_HousekeepingEventsComplete_1 :
    ((2 : Nat) < 8) ∧ ((((hkAt { enable := true, edge := true, edges := [0] }).advance 0).hkTimer (2 : Nat)).enable = true) ∧ (2 ≤ ((hkAt { enable := true, edge := true, edges := [0] }).advance 0).radio.state) ∧ ((((hkAt { enable := true, edge := true, edges := [0] }).advance 0).hkTimer (2 : Nat)).edges = (0 : Time) :: ([])) ∧ ((0 : Time) + 3 * perTick ≤ ((hkAt { enable := true, edge := true, edges := [0] }).advance 0).now) := by decide

theorem test_witness_HousekeepingEventsComplete_2 :
    ((2 : Nat) < 8) ∧ (((({ hkAt { enable := true, period := 1024, phase := 1 } with now := perTick * 1025 }).advance 0).hkTimer (2 : Nat)).enable = true) ∧ (2 ≤ (({ hkAt { enable := true, period := 1024, phase := 1 } with now := perTick * 1025 }).advance 0).radio.state) ∧ (((({ hkAt { enable := true, period := 1024, phase := 1 } with now := perTick * 1025 }).advance 0).hkTimer (2 : Nat)).edge = false) ∧ (((({ hkAt { enable := true, period := 1024, phase := 1 } with now := perTick * 1025 }).advance 0).hkTimer (2 : Nat)).edges = []) ∧ ((({ hkAt { enable := true, period := 1024, phase := 1 } with now := perTick * 1025 }).advance 0).tick % ((({ hkAt { enable := true, period := 1024, phase := 1 } with now := perTick * 1025 }).advance 0).hkTimer (2 : Nat)).period = ((({ hkAt { enable := true, period := 1024, phase := 1 } with now := perTick * 1025 }).advance 0).hkTimer (2 : Nat)).phase) ∧ (((({ hkAt { enable := true, period := 1024, phase := 1 } with now := perTick * 1025 }).advance 0).hkTimer (2 : Nat)).last ≠ some (({ hkAt { enable := true, period := 1024, phase := 1 } with now := perTick * 1025 }).advance 0).tick) := by decide

theorem test_witness_HousekeepingEventsComplete_3 :
    ((2 : Nat) < 8) ∧ ((((hkAt { enable := true, edge := true }).advance 0).hkTimer (2 : Nat)).enable = true) ∧ ((((hkAt { enable := true, edge := true }).advance 0).hkTimer (2 : Nat)).edge = true) ∧ ((((hkAt { enable := true, edge := true }).advance 0).hkTimer (2 : Nat)).pinLost = false) ∧ ((((hkAt { enable := true, edge := true }).advance 0).pinOf (0x20 + (2 : Nat))).isSome = true) ∧ (2 ≤ ((hkAt { enable := true, edge := true }).advance 0).radio.state) := by decide

theorem test_witness_HousekeepingEventsComplete_4 :
    (((hkAt {}).advance 0).hk.delayed.find? (fun w => decide (w.entry = (5)) && decide (w.due ≤ ((hkAt {}).advance 0).now)) = some ({ cls := 2, due := 0, entry := 5, channel := 7, engine := false } : HkReq)) := by decide

theorem test_witness_HousekeepingEventsComplete_5 :
    (((hkAt {}).advance 0).hk.busy = some (({ cls := 2, due := 0, entry := 4, channel := 6, engine := false } : HkReq), (0 : Time))) ∧ ((0 : Time) ≤ ((hkAt {}).advance 0).now) ∧ (((hkAt {}).advance 0).hk.fenced = false) := by decide

theorem test_witness_HousekeepingEventsComplete_6 :
    ((({ hkAt {} with hk := { (hkAt {}).hk with fenced := true } }).advance 0).hk.busy = some (({ cls := 2, due := 0, entry := 4, channel := 6, engine := false } : HkReq), (0 : Time))) ∧ ((0 : Time) ≤ (({ hkAt {} with hk := { (hkAt {}).hk with fenced := true } }).advance 0).now) ∧ ((({ hkAt {} with hk := { (hkAt {}).hk with fenced := true } }).advance 0).hk.fenced = true) := by decide

theorem test_witness_ThermalEventsComplete_1 :
    ((({ hkAt {} with now := 0 }).advance 0).firmwareRuns = true) ∧ ((({ hkAt {} with now := 0 }).advance 0).th.inRound = false) ∧ ((({ hkAt {} with now := 0 }).advance 0).th.lastRound = none) ∧ ((({ hkAt {} with now := 0 }).advance 0).roundDue = true) := by decide

theorem test_witness_ThermalEventsComplete_2 :
    ((({ hkAt {} with now := 1966080000, th := { up.th with lastRound := some 0 } }).advance 0).firmwareRuns = true) ∧ ((({ hkAt {} with now := 1966080000, th := { up.th with lastRound := some 0 } }).advance 0).th.inRound = false) ∧ ((({ hkAt {} with now := 1966080000, th := { up.th with lastRound := some 0 } }).advance 0).th.lastRound = some (0 : Time)) ∧ ((0 : Time) + (if (({ hkAt {} with now := 1966080000, th := { up.th with lastRound := some 0 } }).advance 0).radio.fallback ∧ (({ hkAt {} with now := 1966080000, th := { up.th with lastRound := some 0 } }).advance 0).th.lastFallback then 19 * perMs / 2 else 10 * perMs) ≤ (({ hkAt {} with now := 1966080000, th := { up.th with lastRound := some 0 } }).advance 0).now) ∧ ((({ hkAt {} with now := 1966080000, th := { up.th with lastRound := some 0 } }).advance 0).roundDue = true) := by decide

theorem test_witness_ThermalEventsComplete_3 :
    (((stopping).advance 0).th.inRound = true) ∧ (((stopping).advance 0).firmwareRuns = true) ∧ (((stopping).advance 0).roundWaits = false) := by decide

theorem test_witness_ThermalEventsComplete_4 :
    (((stopping).advance 0).th.fadeEnd = some (0 : Time)) ∧ ((0 : Time) ≤ ((stopping).advance 0).now) ∧ (((stopping).advance 0).th.fadeDone = false) := by decide

theorem test_witness_ThermalEventsComplete_5 :
    ((11) < 12) ∧ (((stopping).advance 0).radio.state ≠ 0) ∧ (((stopping).advance 0).radio.inReset = false) ∧ (((stopping).advance 0).th.tripAnalog = false) := by decide

theorem test_witness_ThermalEventsComplete_6 :
    ((11) < 12) ∧ ((({ stopping with th := { stopping.th with tripAnalog := true } }).advance 0).radio.state ≠ 0) ∧ ((({ stopping with th := { stopping.th with tripAnalog := true } }).advance 0).radio.inReset = false) ∧ ((({ stopping with th := { stopping.th with tripAnalog := true } }).advance 0).th.tripAnalog = true) := by decide

theorem test_witness_ThermalEventsComplete_8 :
    (((stopping).advance 0).th.stop = true) ∧ (1000 ≤ ((stopping).advance 0).th.cool) ∧ (((stopping).advance 0).th.tripAnalog = false) ∧ (((stopping).advance 0).firmwareRuns = true) := by decide

/-! Witnesses of part O. -/

def linked : State := { sb0 4 true with
  now := 1000000000000
  boot := { up.boot with step := 11 }
  link := { up.link with
    mode := 1, pcieUp := true, usb3Up := true, msixPend := [(7, true)] }
  radio := { (sb0 4 true).radio with
    srcPresent := true }
  cap := { owner := 1, state := 2, cmd := some { src := 0, id := 0 } }
  streams := [(3, { run := true })] }
def unlinked : State := { linked with
  boot := { linked.boot with driven := true, running := false }
  link := {} }

theorem test_witness_LinkEventsComplete_3 :
    ((LinkReset.pcieHot) ≠ .usb4) ∧ (((linked).advance 0).link.pcieUp = true) := by decide

theorem test_witness_LinkEventsComplete_4 :
    (((unlinked).advance 0).link.mode = 0) ∧ (((unlinked).advance 0).pathsRun = true) ∧ (((unlinked).advance 0).modeFits (4 : Nat) = true) ∧ (((unlinked).advance 0).link.startG3 = false ∨ (4 : Nat) ≠ 4) ∧ (((unlinked).advance 0).usb4Offered = true) := by decide

theorem test_witness_LinkEventsComplete_5 :
    (((({ linked with jcp := { up.jcp with rings := [(0, { state := 4 })] } }).advance 0).ring 0).state = 4) ∧ ((({ linked with jcp := { up.jcp with rings := [(0, { state := 4 })] } }).advance 0).jcp.cause ≠ 2) ∧ ((({ linked with jcp := { up.jcp with rings := [(0, { state := 4 })] } }).advance 0).link.lostTime + (({ linked with jcp := { up.jcp with rings := [(0, { state := 4 })] } }).advance 0).set.keepS * perSecond < (({ linked with jcp := { up.jcp with rings := [(0, { state := 4 })] } }).advance 0).now) := by decide

theorem test_witness_LinkEventsComplete_6 :
    ((1) < 2) ∧ (bit ((linked).advance 0).link.lanesOk.toNat (1) = true) := by decide

theorem test_witness_LinkEventsComplete_7 :
    (((linked).advance 0).link.mode ≠ 0) ∧ ((3 : Nat) ≠ ((linked).advance 0).link.mode) ∧ (((linked).advance 0).modeFits (3 : Nat) = true) ∧ (((linked).advance 0).link.startG3 = false ∨ (3 : Nat) ≠ 4) := by decide

theorem test_witness_LinkEventsComplete_8 :
    (((up).advance 0).link.usb2Up = true) := by decide

theorem test_witness_LinkEventsComplete_9 :
    (((linked).advance 0).link.usb3Up = true) := by decide

theorem test_witness_LinkEventsComplete_10 :
    (((linked).advance 0).pathsRun = true) ∧ (3 < ((linked).advance 0).boot.step) ∧ (((linked).advance 0).flt.mgmt = false) := by decide

theorem test_witness_LinkEventsComplete_11 :
    (((linked).advance 0).pathsRun = true) ∧ (((linked).advance 0).link.mode ≠ 0) := by decide

theorem test_witness_LinkEventsComplete_12 :
    (((linked).advance 0).link.pcieUp = true) := by decide

theorem test_witness_LinkEventsComplete_13 :
    (((linked).advance 0).link.pcieUp = true) ∧ ((2047) < 2048) := by decide

theorem test_witness_LinkEventsComplete_14 :
    (((linked).advance 0).link.pcieUp = true) := by decide

theorem test_witness_CaptureEventsComplete_1 :
    (((linked).advance 0).link.usb3Up = true) ∧ ((7 : Nat) < 8) := by decide

theorem test_witness_CaptureEventsComplete_2 :
    (((up).advance 0).link.usb2Up = true) := by decide

theorem test_witness_CaptureEventsComplete_3 :
    (((linked).advance 0).link.usb3Up = true) ∧ (9 ≤ (12 : Nat)) ∧ ((12 : Nat) ≤ 12) := by decide

theorem test_witness_CaptureEventsComplete_4 :
    ((({ linked with cap := { owner := 1, state := 1 } }).advance 0).cap.owner = 1) ∧ ((({ linked with cap := { owner := 1, state := 1 } }).advance 0).cap.state = 1) ∧ ((({ linked with cap := { owner := 1, state := 1 } }).advance 0).armedAt ≤ (({ linked with cap := { owner := 1, state := 1 } }).advance 0).window) := by decide

theorem test_witness_CaptureEventsComplete_5 :
    (((linked).advance 0).cap.owner = 1) ∧ (((linked).advance 0).cap.state = 2) ∧ (((linked).advance 0).trigFits (0 : Nat) (0 : Nat) (0 : Nat) = true) := by decide

theorem test_witness_CaptureEventsComplete_6 :
    ((({ linked with cap := { owner := 1, state := 3 } }).advance 0).cap.owner = 1) ∧ ((({ linked with cap := { owner := 1, state := 3 } }).advance 0).cap.state = 3) ∧ ((({ linked with cap := { owner := 1, state := 3 } }).advance 0).capEnd ≤ (({ linked with cap := { owner := 1, state := 3 } }).advance 0).window) := by decide

theorem test_witness_CaptureEventsComplete_7 :
    ((({ linked with radio := { linked.radio with state := 1 } }).advance 0).slotRuns 0 = true) ∧ ((({ linked with radio := { linked.radio with state := 1 } }).advance 0).sourceOff ((({ linked with radio := { linked.radio with state := 1 } }).advance 0).capSet 0) = true) := by decide

theorem test_witness_CaptureEventsComplete_8 :
    ((3 : Nat) ≠ 0) ∧ ((({ linked with radio := { linked.radio with state := 1 } }).advance 0).slotRuns (3 : Nat) = true) ∧ ((({ linked with radio := { linked.radio with state := 1 } }).advance 0).sourceOff ((({ linked with radio := { linked.radio with state := 1 } }).advance 0).capSet (3 : Nat)) = true) := by decide

theorem test_witness_CaptureEventsComplete_9 :
    ((({ linked with set := { linked.set with cap := [(3, { blockKib := 1 })] } }).advance 0).closing (3 : Nat) = none) := by decide

theorem test_witness_CaptureEventsComplete_10 :
    ((3 : Nat) ≠ 0) ∧ ((({ linked with streams := [(3, { run := true, ending := some (0, 0) })] }).advance 0).slotRuns (3 : Nat) = true) ∧ ((({ linked with streams := [(3, { run := true, ending := some (0, 0) })] }).advance 0).closing (3 : Nat) = some ([])) := by decide

/-! Witnesses of part P. -/

def running : State := { sb0 4 true with
  now := 1000000000000000
  boot := { up.boot with step := 11 }
  flt := { up.flt with
    startup := false, due := [{ bit := 10, addr := 0, kind := 0 }], test := some 0, fed := some 0, watch := some 0
    shadows := [(2, 0)], queue := [(3, 1, false)] } }

theorem test_witness_FaultEventsComplete_1 :
    (((running).advance 0).collects = true) ∧ (((running).advance 0).flt.due.contains ⟨(10), (0), (0)⟩ = true) := by decide

theorem test_witness_FaultEventsComplete_2 :
    (((running).advance 0).collects = true) ∧ (((running).advance 0).flt.due.contains ⟨(12), (0), (0)⟩ = false) ∧ (((running).advance 0).canOccur ⟨(12), (0), (0)⟩ = true) := by decide

theorem test_witness_FaultEventsComplete_3 :
    (((({ running with flt := { running.flt with test := none } } : State).modFlt (fun f => { f with shadows := [] })).advance 0).phaseNow = 0) ∧ (((({ running with flt := { running.flt with test := none } } : State).modFlt (fun f => { f with shadows := [] })).advance 0).collects = true) := by decide

theorem test_witness_FaultEventsComplete_4 :
    ((({ running with flt := { running.flt with test := none } }).advance 0).phaseNow = 0) ∧ ((({ running with flt := { running.flt with test := none } }).advance 0).collects = true) := by decide

theorem test_witness_FaultEventsComplete_5 :
    (((running).advance 0).flt.test = some (0 : Time)) ∧ ((0 : Time) + 600 * perSecond ≤ ((running).advance 0).now) := by decide

theorem test_witness_FaultEventsComplete_6 :
    (((running).advance 0).flt.queue = ((3), (1), (false)) :: ([])) ∧ (((running).advance 0).sinkUp = true) ∧ (((running).advance 0).firmwareRuns = true) := by decide

theorem test_witness_FaultEventsComplete_7 :
    ((({ running with flt := { running.flt with fed := some 1000000000000000 } }).advance 0).aliveRuns = true) ∧ ((({ running with flt := { running.flt with fed := some 1000000000000000 } }).advance 0).flt.aliveAt + (({ running with flt := { running.flt with fed := some 1000000000000000 } }).advance 0).aliveMs ≤ (({ running with flt := { running.flt with fed := some 1000000000000000 } }).advance 0).now) ∧ ((({ running with flt := { running.flt with fed := some 1000000000000000 } }).advance 0).flt.aliveOk ≤ (({ running with flt := { running.flt with fed := some 1000000000000000 } }).advance 0).aliveEdge) := by decide

theorem test_witness_FaultEventsComplete_8 :
    (((running).advance 0).firmwareRuns = true) := by decide

theorem test_witness_FaultEventsComplete_9 :
    (((running).advance 0).flt.watch = some (0 : Time)) ∧ ((0 : Time) + 100 * perMs < ((running).advance 0).now) ∧ (((running).advance 0).collects = true) := by decide

theorem test_witness_FaultEventsComplete_10 :
    ((({ running with boot := { up.boot with takeover := true, pairFenced := 1 } }).advance 0).boot.takeover = true) ∧ ((({ running with boot := { up.boot with takeover := true, pairFenced := 1 } }).advance 0).boot.pairFenced ≠ 3) := by decide

theorem test_witness_MemoryEventsComplete_1 :
    (((running).advance 0).collects = true) ∧ ((9) < 10) ∧ ((0 : Nat) < memWords.getD (9) 0) := by decide

theorem test_witness_MemoryEventsComplete_2 :
    (((running).advance 0).collects = true) ∧ (((running).advance 0).mem.sramPass + perSecond ≤ ((running).advance 0).now) := by decide

theorem test_witness_MemoryEventsComplete_3 :
    (((running).advance 0).collects = true) ∧ (((running).advance 0).mem.mramPass + 86400 * perSecond ≤ ((running).advance 0).now) := by decide

theorem test_witness_MemoryEventsComplete_4 :
    (((running).advance 0).collects = true) ∧ (((running).advance 0).radio.pllLocked = true) ∧ (((running).advance 0).mem.ncoAt + perSecond ≤ ((running).advance 0).now) := by decide

/-! Witnesses of part Q. -/

def aSnap : Snap := { trigger := 1, source := 0, seconds := 0, subsec := 0, powerCycles := 0, injected := false, hostValid := false, hostSeconds := 0, trunc := false, noSubj := true, nobj := 0, payload := [], repeats := 0, last := 0, lastAt := 0 }
def recording : State := { inState 4 with
  now := 1000000000000000
  boot := { up.boot with step := 11 }
  rcd := { waiting := [aSnap], arm := some (1, false, 0), armed := true, due := [(2, 0, false)] } }

theorem test_witness_RecorderEventsComplete_2 :
    (((recording).advance 0).rcd.due = ((2), (0), (false)) :: ([])) := by decide

theorem test_witness_RecorderEventsComplete_3 :
    (((recording).advance 0).rcd.waiting = (aSnap) :: ([])) ∧ (((recording).advance 0).rcd.frozen.isSome = false) ∧ (((recording).advance 0).firmwareRuns = true) := by decide

theorem test_witness_RecorderEventsComplete_4 :
    (((recording).advance 0).firmwareRuns = true) ∧ (((recording).advance 0).rcd.frozen.isNone = true) ∧ (((recording).advance 0).rcd.coalesceAt + 100 * perMs ≤ ((recording).advance 0).now) := by decide

theorem test_witness_RecorderEventsComplete_5 :
    ((({ recording with opOfs := 3600 * 65536 }).advance 0).firmwareRuns = true) ∧ ((({ recording with opOfs := 3600 * 65536 }).advance 0).seconds / 3600 ≠ (({ recording with opOfs := 3600 * 65536 }).advance 0).rcd.hourNo) := by decide

theorem test_witness_RecorderEventsComplete_6 :
    (((recording).advance 0).firmwareRuns = true) ∧ (((recording).advance 0).rcd.opsecAt + 10 * perSecond ≤ ((recording).advance 0).now) := by decide

theorem test_witness_RecorderEventsComplete_7 :
    ((({ recording with rcd := { recording.rcd with frozen := some 0 } }).advance 0).rcd.frozen = some (0 : Time)) ∧ ((0 : Time) ≤ (({ recording with rcd := { recording.rcd with frozen := some 0 } }).advance 0).now) := by decide

theorem test_witness_RecorderEventsComplete_9 :
    (((recording).advance 0).link.mirrorAt + perMs ≤ ((recording).advance 0).now) ∧ (((recording).advance 0).radio.gated = false) ∧ (((recording).advance 0).radio.inReset = false) := by decide

theorem test_witness_RecorderEventsComplete_10 :
    (((up).advance 0).now < ((up).advance 0).link.mirrorAt + perMs) ∧ (((up).advance 0).radio.gated = false) ∧ (((up).advance 0).radio.inReset = false) := by decide

theorem test_witness_RecorderEventsComplete_11 :
    (((recording).advance 0).rcd.arm = some ((1 : Nat), (false), (0 : Time))) ∧ ((0 : Time) + 5 * perSecond < ((recording).advance 0).now) := by decide

/-! Witnesses of part R. -/

def aTransfer : Transfer := { cmd := { src := 0, id := 0 }, op := 0, addr10 := false, pec := false, buf := false, target := 80, wdata := [], rlen := 0, hostAddr := 0, retries := 0 }
def busAt (x : Twb) : State := { inState 2 with
  now := 1000000000000
  twb := [(1, x)]
  set := { up.set with
    twb := [(1, { enable := true, notifyEn := true })] } }

theorem test_witness_BusEventsComplete_1 :
    ((((busAt { wait := some ({ src := 0, id := 0 }, some 0) }).advance 0).twbOf (1)).wait = some (({ src := 0, id := 0 } : CmdRef), some (0 : Time))) ∧ ((0 : Time) ≤ ((busAt { wait := some ({ src := 0, id := 0 }, some 0) }).advance 0).now) := by decide

theorem test_witness_BusEventsComplete_2 :
    ((((busAt { queue := [aTransfer] }).advance 0).twbOf (1)).queue = (aTransfer) :: ([])) ∧ (((busAt { queue := [aTransfer] }).advance 0).busOn (1) = true) ∧ ((((busAt { queue := [aTransfer] }).advance 0).twbOf (1)).idle = true) ∧ ((((busAt { queue := [aTransfer] }).advance 0).twbOf (1)).clearDue.isNone = true) ∧ ((((busAt { queue := [aTransfer] }).advance 0).twbOf (1)).disabling = false) ∧ ((((busAt { queue := [aTransfer] }).advance 0).twbOf (1)).freeAt ≤ ((busAt { queue := [aTransfer] }).advance 0).now) ∧ (((busAt { queue := [aTransfer] }).advance 0).alertWaits (1) = false) := by decide

theorem test_witness_BusEventsComplete_3 :
    ((((busAt { busy := .transfer, queue := [aTransfer] }).advance 0).twbOf (1)).transfers = some (aTransfer)) ∧ ((aTransfer).canEnd (BusResult.addressNack) = true) ∧ (((busAt { busy := .transfer, queue := [aTransfer] }).advance 0).busLasted (1) (aTransfer) (BusResult.addressNack) = true) := by decide

theorem test_witness_BusEventsComplete_4 :
    ((((busAt { busy := .transfer, queue := [aTransfer] }).advance 0).twbOf (1)).transfers.isSome = true) := by decide

theorem test_witness_BusEventsComplete_5 :
    ((((busAt { busy := .transfer, queue := [aTransfer] }).advance 0).twbOf (1)).transfers.any (fun x => decide ((0 : Nat) < x.allBytes)) = true) := by decide

theorem test_witness_BusEventsComplete_6 :
    ((((busAt { busy := .transfer, queue := [aTransfer] }).advance 0).twbOf (1)).transfers = some (aTransfer)) ∧ ((((busAt { busy := .transfer, queue := [aTransfer] }).advance 0).twbOf (1)).startAt + (((busAt { busy := .transfer, queue := [aTransfer] }).advance 0).twbOf (1)).inForce.sclTo * perMs ≤ ((busAt { busy := .transfer, queue := [aTransfer] }).advance 0).now) := by decide

theorem test_witness_BusEventsComplete_7 :
    (((busAt {}).advance 0).busOn (1) = true) ∧ ((((busAt {}).advance 0).twbOf (1)).idle = true) ∧ ((((busAt {}).advance 0).twbOf (1)).idleAt + (((busAt {}).advance 0).twbSet (1)).sdaTo * perMs ≤ ((busAt {}).advance 0).now) := by decide

theorem test_witness_BusEventsComplete_8 :
    ((((busAt { queue := [aTransfer] }).advance 0).twbOf (1)).queue = (aTransfer) :: ([])) ∧ (((busAt { queue := [aTransfer] }).advance 0).busOn (1) = true) ∧ ((((busAt { queue := [aTransfer] }).advance 0).twbOf (1)).idle = true) ∧ ((((busAt { queue := [aTransfer] }).advance 0).twbOf (1)).waitFrom + ((((busAt { queue := [aTransfer] }).advance 0).twbSet (1)).sclTo + (((busAt { queue := [aTransfer] }).advance 0).twbSet (1)).sdaTo) * perMs < ((busAt { queue := [aTransfer] }).advance 0).now) := by decide

theorem test_witness_BusAttentionEventsComplete_1 :
    ((((busAt { busy := .clear (some { src := 0, id := 0 }) false }).advance 0).twbOf (1)).busy = .clear (some ({ src := 0, id := 0 } : CmdRef)) (false)) ∧ (((busAt { busy := .clear (some { src := 0, id := 0 }) false }).advance 0).clearLasted (1) (9 : Nat) true = true) := by decide

theorem test_witness_BusAttentionEventsComplete_2 :
    ((((busAt { busy := .clear none false }).advance 0).twbOf (1)).busy = .clear none (false)) ∧ (((busAt { busy := .clear none false }).advance 0).clearLasted (1) (9 : Nat) true = true) := by decide

theorem test_witness_BusAttentionEventsComplete_3 :
    ((((busAt { busy := .clear (some { src := 0, id := 0 }) false }).advance 0).twbOf (1)).busy = .clear (some ({ src := 0, id := 0 } : CmdRef)) (false)) ∧ (((busAt { busy := .clear (some { src := 0, id := 0 }) false }).advance 0).clearLasted (1) (9 : Nat) false = true) := by decide

theorem test_witness_BusAttentionEventsComplete_4 :
    ((((busAt { busy := .clear none true }).advance 0).twbOf (1)).busy = .clear none (true)) ∧ (((busAt { busy := .clear none true }).advance 0).clearLasted (1) (9 : Nat) false = true) := by decide

theorem test_witness_BusAttentionEventsComplete_5 :
    ((1) < 2) ∧ (1 ≤ ((busAt {}).advance 0).radio.state) ∧ ((((busAt {}).advance 0).twbOf (1)).alertIn = false) := by decide

theorem test_witness_BusAttentionEventsComplete_6 :
    (((busAt { alertIn := true }).advance 0).alertReads (1) = true) ∧ (max (((busAt { alertIn := true }).advance 0).twbOf (1)).freeAt (((busAt { alertIn := true }).advance 0).twbOf (1)).alertAt + ((busAt { alertIn := true }).advance 0).busLength (1) 2 0 ≤ ((busAt { alertIn := true }).advance 0).now) := by decide

theorem test_witness_BusAttentionEventsComplete_7 :
    ((1) < 2) := by decide

theorem test_witness_BusAttentionEventsComplete_8 :
    (((busAt {}).advance 0).busOn (1) = true) ∧ ((((busAt {}).advance 0).twbSet (1)).notifyEn = true) := by decide

/-! Witnesses of part S. -/

def bootAt (n : Nat) : State := { up with
  boot := { up.boot with
    step := n, early := true, earlyDue := true, update := some ({ src := 0, id := 0 }, 1, true, [], 0) }
  store := { up.store with
    ledger := [{ bootNum := 1, powerCycles := 1, seconds := 0, resetSrc := 0, image := 0, result := 0, early := true, outcome := [], detail := [], endMs := [], alt := 0, clearCount := 0 }] }
  radio := { up.radio with
    fgCal := true } }
def restarting : State := { bootAt 15 with
  flt := { up.flt with
    mgmt := true } }

theorem test_witness_BootEventsComplete_1 :
    (((bootAt 5).advance 0).booting = true) := by decide

theorem test_witness_BootEventsComplete_2 :
    (((bootAt 5).advance 0).booting = true) ∧ (((bootAt 5).advance 0).boot.earlyDue = true) ∧ (((bootAt 5).advance 0).boot.early = true) := by decide

theorem test_witness_BootEventsComplete_3 :
    (((bootAt 10).advance 0).booting = true) ∧ (((bootAt 10).advance 0).boot.step = 10) ∧ (((bootAt 10).advance 0).radio.fgCal = true) := by decide

theorem test_witness_BootEventsComplete_4 :
    (((restarting).advance 0).flt.mgmt = true) ∧ (((restarting).advance 0).radio.inReset = false) := by decide

theorem test_witness_BootEventsComplete_5 :
    ((((bootAt 15).advance 0).firmwareRuns || (((bootAt 15).advance 0).boot.recovery && ((bootAt 15).advance 0).collects && !((bootAt 15).advance 0).flt.mgmt)) = true) ∧ (((bootAt 15).advance 0).boot.update = some (({ src := 0, id := 0 } : CmdRef), (1), (true), ([]), (0 : Time))) := by decide

/-! Witnesses of part T. -/

theorem test_witness_PinStateBytes :
    (onObject (packet 32 []) 0x0630).object = 0x0630 ∧ instOf (onObject (packet 32 []) 0x0630) = 0 := by decide

theorem test_witness_IdentificationRegister : (up.pins).tap = 1 := by decide

end Sys2Proof.Tests
end

section
/-!
The PIN_STATE object (R440): the little-endian bytes of a number given by its base-256 digits, and O59.
-/

namespace Sys2Proof

/-- The little-endian bytes of a number written in base 256 are its digits. -/
theorem leBytes_ofDigits (ds : List Nat) (hds : ∀ d ∈ ds, d < 256) :
    leBytes ds.length (Nat.ofDigits 256 ds) = ds.map (BitVec.ofNat 8) := by
  induction ds with
  | nil => rfl
  | cons d ds ih =>
    obtain ⟨hd, hrest⟩ := List.forall_mem_cons.mp hds
    have hlow : BitVec.ofNat 8 (d + 256 * Nat.ofDigits 256 ds) = BitVec.ofNat 8 d := by
      apply BitVec.eq_of_toNat_eq
      simp
    have hhigh : (d + 256 * Nat.ofDigits 256 ds) / 256 = Nat.ofDigits 256 ds := by omega
    simp only [Nat.ofDigits_cons, List.length_cons, List.map_cons, leBytes, hlow, hhigh, ih hrest]

/-- A sum of digits at their places, as the model packs bytes, is the number of those digits. -/
theorem foldl_places_eq_ofDigits (f : Nat → Nat) (n : Nat) :
    (List.range n).foldl (fun a g => a + f g * 256 ^ g) 0 = Nat.ofDigits 256 ((List.range n).map f) := by
  induction n with
  | zero => rfl
  | succ n ih => simp [List.range_succ, ih, Nat.ofDigits_append, Nat.mul_comm]

end Sys2Proof

namespace Sys2Proof.Machine

/-- PIN_STATE spells the functions of the 16 GPIOs, byte by byte (R440). -/
theorem leBytes_pinStateValue (s : State) :
    leBytes 16 (pinStateValue s) = (List.range 16).map (fun g => BitVec.ofNat 8 (s.gpio g)) := by
  have hds : ∀ d ∈ (List.range 16).map (fun g => s.gpio g % 256), d < 256 := by
    simpa using fun g _ => Nat.mod_lt (s.gpio g) (by decide)
  have hbytes := leBytes_ofDigits _ hds
  rw [List.length_map, List.length_range, ← foldl_places_eq_ofDigits, List.map_map] at hbytes
  rw [pinStateValue, hbytes]
  refine List.map_congr_left fun g _ => BitVec.eq_of_toNat_eq ?_
  simp

theorem objValue_pinState (s : State) : s.objValue 0x0630 0 = pinStateValue s := rfl

@[simp] theorem gpio_reset (g : Nat) : State.reset.gpio g = 0 := rfl

/-- An ID that names no object has no instances (R567). -/
theorem objShape_isSome_of_objHas {o first count : Nat} (h : objHas o first count = true) : (objShape o).isSome := by
  cases hshape : objShape o with
  | none => simp [objHas, hshape] at h
  | some _ => rfl

/-- An existing instance of an object without RW and W1C bits refuses every write as read-only (R538, R560). -/
theorem checkObjWrite_readOnly (r : Request) (s : State) (hinst : objHas r.object.toNat (instOf r) 1 = true)
    (hrw : objRw r.object.toNat = []) (hw1c : objW1c r.object.toNat = []) :
    checkObjWrite r s = .fail stBadObject 3 := by
  have hobj : (objShape r.object.toNat).isNone = false := by simpa using objShape_isSome_of_objHas hinst
  simp [checkObjWrite, checks, hobj, hinst, hrw, hw1c]

end Sys2Proof.Machine

namespace Sys2Proof.Proofs
open Sys2Proof Sys2Proof.Machine

/-- Settles O59: the packed value spells the GPIO functions, and 0x0630 has neither RC, RW nor W1C fields. -/
theorem pinStateBytes : Obligations.PinStateBytes := by
  unfold Obligations.PinStateBytes
  refine ⟨rfl, ?bytes, ?reset, fun _ => rfl, ?write⟩
  case bytes =>
    intro s g hg
    rw [objValue_pinState, leBytes_pinStateValue, List.getElem?_map, List.getElem?_range hg, Option.map_some]
  case reset =>
    rw [objValue_pinState, leBytes_pinStateValue]
    simp only [gpio_reset, List.map_const', List.length_range]
    rfl
  case write =>
    intro s r hobj hinst
    have hid : r.object.toNat = 0x0630 := by rw [hobj]; rfl
    have hhas : objHas r.object.toNat (instOf r) 1 = true := by rw [hid, hinst]; decide
    exact checkObjWrite_readOnly r s hhas (by rw [hid]; rfl) (by rw [hid]; rfl)

end Sys2Proof.Proofs
end

section
/-!
The identification register (R700): what the TAP shifts out at IDCODE, and O60.
-/

namespace Sys2Proof.Machine

/-- At IDCODE (R699) the boundary-scan register is not between TDI and TDO: the identification register is. -/
theorem Pins.dataOut_of_idcode {p : Pins} (htap : p.tap = 1) : p.dataOut = idRegister.toNat := by
  have hcells : scanShifts p.tap = false := by rw [htap]; decide
  rw [Pins.dataOut, hcells, if_neg Bool.false_ne_true, if_pos htap]

end Sys2Proof.Machine

namespace Sys2Proof.Proofs
open Sys2Proof Sys2Proof.Machine

/-- Settles O60: at IDCODE the identification register is shifted out, and its fields are read off its value. -/
theorem identificationRegister : Obligations.IdentificationRegister := by
  unfold Obligations.IdentificationRegister
  intro p htap
  rw [Pins.dataOut_of_idcode htap]
  decide

end Sys2Proof.Proofs
end

section
/-!
What every step keeps (R588, R605, R650): one row after another keeps the bounds of the message queues, the waiting
commands and the time, so that O1 to O5 follow from the step's two cases.
-/

namespace Sys2Proof.Machine

/-- Every command and event answers with a next state that keeps what `Kept` names, past the time it lets pass. -/
theorem exec_kept (c : Instr) (s : State) : ∃ dt t, exec c s = .next t ∧ Kept (s.advance dt) t := by
  cases c with
  | nop dt r => exact ⟨dt, execNop_kept dt r s⟩
  | identify dt r => exact ⟨dt, execIdentify_kept dt r s⟩
  | objRead dt r => exact ⟨dt, execObjRead_kept dt r s⟩
  | objWrite dt r => exact ⟨dt, execObjWrite_kept dt r s⟩
  | radioConfigWrite dt r => exact ⟨dt, execRadioConfigWrite_kept dt r s⟩
  | winConfigWrite dt r => exact ⟨dt, execWinConfigWrite_kept dt r s⟩
  | cnvAttConfigWrite dt r => exact ⟨dt, execCnvAttConfigWrite_kept dt r s⟩
  | ctlPlausConfigWrite dt r => exact ⟨dt, execCtlPlausConfigWrite_kept dt r s⟩
  | ctlLineupWrite dt r => exact ⟨dt, execCtlLineupWrite_kept dt r s⟩
  | tddOutConfigWrite dt r => exact ⟨dt, execTddOutConfigWrite_kept dt r s⟩
  | jcpConfigWrite dt r => exact ⟨dt, execJcpConfigWrite_kept dt r s⟩
  | fltStatusWrite dt r => exact ⟨dt, execFltStatusWrite_kept dt r s⟩
  | recTrigConfigWrite dt r => exact ⟨dt, execRecTrigConfigWrite_kept dt r s⟩
  | recSnapListWrite dt r => exact ⟨dt, execRecSnapListWrite_kept dt r s⟩
  | recCmdSelWrite dt r => exact ⟨dt, execRecCmdSelWrite_kept dt r s⟩
  | recStatsConfigWrite dt r => exact ⟨dt, execRecStatsConfigWrite_kept dt r s⟩
  | bootConfigWrite dt r => exact ⟨dt, execBootConfigWrite_kept dt r s⟩
  | bootConfigSave dt r => exact ⟨dt, execBootConfigSave_kept dt r s⟩
  | doorbellWrite dt off size value => exact ⟨dt, execDoorbellWrite_kept dt off size value s⟩
  | setupBaseLo dt sel value => exact ⟨dt, execSetupBaseLo_kept dt sel value s⟩
  | setupBaseHi dt sel value => exact ⟨dt, execSetupBaseHi_kept dt sel value s⟩
  | setupShape dt sel value => exact ⟨dt, execSetupShape_kept dt sel value s⟩
  | setupGo dt sel value => exact ⟨dt, execSetupGo_kept dt sel value s⟩
  | setupResume dt sel value => exact ⟨dt, execSetupResume_kept dt sel value s⟩
  | usbCommandPacket dt op r => exact ⟨dt, execUsbCommandPacket_kept dt op r s⟩
  | commandFetch dt op r => exact ⟨dt, execCommandFetch_kept dt op r s⟩
  | commandStart dt src => exact ⟨dt, execCommandStart_kept dt src s⟩
  | heldCommandRelease dt src => exact ⟨dt, execHeldCommandRelease_kept dt src s⟩
  | deferLimitExpiry dt src => exact ⟨dt, execDeferLimitExpiry_kept dt src s⟩
  | completionPost dt src => exact ⟨dt, execCompletionPost_kept dt src s⟩
  | fenceCommandStart dt src => exact ⟨dt, execFenceCommandStart_kept dt src s⟩
  | msixModerationExpiry dt ring => exact ⟨dt, execMsixModerationExpiry_kept dt ring s⟩
  | ringCreate dt r => exact ⟨dt, execRingCreate_kept dt r s⟩
  | ringDelete dt r => exact ⟨dt, execRingDelete_kept dt r s⟩
  | ringDrained dt ring => exact ⟨dt, execRingDrained_kept dt ring s⟩
  | ringError dt ring err => exact ⟨dt, execRingError_kept dt ring err s⟩
  | tlmConfigure dt r => exact ⟨dt, execTlmConfigure_kept dt r s⟩
  | telemetryEntry dt ring => exact ⟨dt, execTelemetryEntry_kept dt ring s⟩
  | abort dt r => exact ⟨dt, execAbort_kept dt r s⟩
  | deviceReset dt r => exact ⟨dt, execDeviceReset_kept dt r s⟩
  | mgmtReset dt r => exact ⟨dt, execMgmtReset_kept dt r s⟩
  | testEcho dt r => exact ⟨dt, execTestEcho_kept dt r s⟩
  | testEccInject dt r => exact ⟨dt, execTestEccInject_kept dt r s⟩
  | radioSetState dt r => exact ⟨dt, execRadioSetState_kept dt r s⟩
  | walkStepEnd dt ok => exact ⟨dt, execWalkStepEnd_kept dt ok s⟩
  | quickCalibrationEnd dt failed => exact ⟨dt, execQuickCalibrationEnd_kept dt failed s⟩
  | sleepEntered dt => exact ⟨dt, execSleepEntered_kept dt s⟩
  | hostPathGating dt => exact ⟨dt, execHostPathGating_kept dt s⟩
  | wakeUsbResume dt => exact ⟨dt, execWakeUsbResume_kept dt s⟩
  | wakeGpioEdge dt gpio => exact ⟨dt, execWakeGpioEdge_kept dt gpio s⟩
  | resetNAssert dt => exact ⟨dt, execResetNAssert_kept dt s⟩
  | railFail dt rail => exact ⟨dt, execRailFail_kept dt rail s⟩
  | railsGood dt m => exact ⟨dt, execRailsGood_kept dt m s⟩
  | hostLinkReset dt kind => exact ⟨dt, execHostLinkReset_kept dt kind s⟩
  | trstNReset dt => exact ⟨dt, execTrstNReset_kept dt s⟩
  | tapInstruction dt m => exact ⟨dt, execTapInstruction_kept dt m s⟩
  | rootPllLock dt => exact ⟨dt, execRootPllLock_kept dt s⟩
  | clkLockfail dt => exact ⟨dt, execClkLockfail_kept dt s⟩
  | clkUnlock dt => exact ⟨dt, execClkUnlock_kept dt s⟩
  | clkRefloss dt => exact ⟨dt, execClkRefloss_kept dt s⟩
  | clkXtal dt running => exact ⟨dt, execClkXtal_kept dt running s⟩
  | crystalRestart dt => exact ⟨dt, execCrystalRestart_kept dt s⟩
  | rootSourceReturn dt => exact ⟨dt, execRootSourceReturn_kept dt s⟩
  | sliceSwap dt c shadow => exact ⟨dt, execSliceSwap_kept dt c shadow s⟩
  | sliceFault dt c slice kind => exact ⟨dt, execSliceFault_kept dt c slice kind s⟩
  | overrangeStart dt c slices => exact ⟨dt, execOverrangeStart_kept dt c slices s⟩
  | overrangeEnd dt c slices => exact ⟨dt, execOverrangeEnd_kept dt c slices s⟩
  | fastStepTake dt c magnitude => exact ⟨dt, execFastStepTake_kept dt c magnitude s⟩
  | fastStepRelease dt c peak => exact ⟨dt, execFastStepRelease_kept dt c peak s⟩
  | fastStepStartTest dt c peak => exact ⟨dt, execFastStepStartTest_kept dt c peak s⟩
  | dacClipEpisode dt c => exact ⟨dt, execDacClipEpisode_kept dt c s⟩
  | dacCalHold dt c => exact ⟨dt, execDacCalHold_kept dt c s⟩
  | sbConfigure dt r => exact ⟨dt, execSbConfigure_kept dt r s⟩
  | sbRetune dt r => exact ⟨dt, execSbRetune_kept dt r s⟩
  | retuneApply dt g => exact ⟨dt, execRetuneApply_kept dt g s⟩
  | sbLoadCoef dt r => exact ⟨dt, execSbLoadCoef_kept dt r s⟩
  | sbSwitchBank dt r => exact ⟨dt, execSbSwitchBank_kept dt r s⟩
  | crossFadeEnd dt g => exact ⟨dt, execCrossFadeEnd_kept dt g s⟩
  | hardSwitchOutput dt g => exact ⟨dt, execHardSwitchOutput_kept dt g s⟩
  | sbSyncReset dt r => exact ⟨dt, execSbSyncReset_kept dt r s⟩
  | syncResetSample dt g => exact ⟨dt, execSyncResetSample_kept dt g s⟩
  | sbDcb dt r => exact ⟨dt, execSbDcb_kept dt r s⟩
  | disableRampEnd dt g => exact ⟨dt, execDisableRampEnd_kept dt g s⟩
  | canConfigure dt r => exact ⟨dt, execCanConfigure_kept dt r s⟩
  | canFreeze dt r => exact ⟨dt, execCanFreeze_kept dt r s⟩
  | canMapRead dt r => exact ⟨dt, execCanMapRead_kept dt r s⟩
  | canMapWrite dt r => exact ⟨dt, execCanMapWrite_kept dt r s⟩
  | cancellerBlockEnd dt g m => exact ⟨dt, execCancellerBlockEnd_kept dt g m s⟩
  | acqMsExpiry dt g => exact ⟨dt, execAcqMsExpiry_kept dt g s⟩
  | partitionBoundary dt g => exact ⟨dt, execPartitionBoundary_kept dt g s⟩
  | mapMoveEnd dt g => exact ⟨dt, execMapMoveEnd_kept dt g s⟩
  | canMove dt g => exact ⟨dt, execCanMove_kept dt g s⟩
  | govConfigure dt r => exact ⟨dt, execGovConfigure_kept dt r s⟩
  | govRestart dt r => exact ⟨dt, execGovRestart_kept dt r s⟩
  | governorBlockEnd dt g m => exact ⟨dt, execGovernorBlockEnd_kept dt g m s⟩
  | oscillationTrip dt g => exact ⟨dt, execOscillationTrip_kept dt g s⟩
  | clampHoldEnd dt g => exact ⟨dt, execClampHoldEnd_kept dt g s⟩
  | holdoffEnd dt g => exact ⟨dt, execHoldoffEnd_kept dt g s⟩
  | restartCapRemoval dt g => exact ⟨dt, execRestartCapRemoval_kept dt g s⟩
  | canProbeStart dt r => exact ⟨dt, execCanProbeStart_kept dt r s⟩
  | canProbeStop dt r => exact ⟨dt, execCanProbeStop_kept dt r s⟩
  | probeAutoStart dt g => exact ⟨dt, execProbeAutoStart_kept dt g s⟩
  | probeEnd dt g => exact ⟨dt, execProbeEnd_kept dt g s⟩
  | probeResume dt g => exact ⟨dt, execProbeResume_kept dt g s⟩
  | isoStore dt => exact ⟨dt, execIsoStore_kept dt s⟩
  | controlTick dt missed => exact ⟨dt, execControlTick_kept dt missed s⟩
  | plausTimerExpiry dt c => exact ⟨dt, execPlausTimerExpiry_kept dt c s⟩
  | setPointArrived dt loop which => exact ⟨dt, execSetPointArrived_kept dt loop which s⟩
  | ctlSetMode dt r => exact ⟨dt, execCtlSetMode_kept dt r s⟩
  | ctlSetPoint dt r => exact ⟨dt, execCtlSetPoint_kept dt r s⟩
  | ctlSetSchedule dt r => exact ⟨dt, execCtlSetSchedule_kept dt r s⟩
  | ctlInjectStart dt r => exact ⟨dt, execCtlInjectStart_kept dt r s⟩
  | ctlInjectStop dt r => exact ⟨dt, execCtlInjectStop_kept dt r s⟩
  | injectionEnd dt loop => exact ⟨dt, execInjectionEnd_kept dt loop s⟩
  | ctlRepLearnStart dt r => exact ⟨dt, execCtlRepLearnStart_kept dt r s⟩
  | ctlRepLearnRelease dt r => exact ⟨dt, execCtlRepLearnRelease_kept dt r s⟩
  | ctlRepLearnModify dt r => exact ⟨dt, execCtlRepLearnModify_kept dt r s⟩
  | tddConfigure dt r => exact ⟨dt, execTddConfigure_kept dt r s⟩
  | tddSetGatesWrite dt r => exact ⟨dt, execTddSetGatesWrite_kept dt r s⟩
  | tddCommitLearned dt r => exact ⟨dt, execTddCommitLearned_kept dt r s⟩
  | tddReadback dt r => exact ⟨dt, execTddReadback_kept dt r s⟩
  | syncAcquired dt grp frameTick sfn err => exact ⟨dt, execSyncAcquired_kept dt grp frameTick sfn err s⟩
  | syncMeasurement dt grp err => exact ⟨dt, execSyncMeasurement_kept dt grp err s⟩
  | syncLoss dt grp => exact ⟨dt, execSyncLoss_kept dt grp s⟩
  | holdoverExpiry dt grp => exact ⟨dt, execHoldoverExpiry_kept dt grp s⟩
  | gatingFrameStart dt grp => exact ⟨dt, execGatingFrameStart_kept dt grp s⟩
  | gateEdge dt grp uplink opened beam => exact ⟨dt, execGateEdge_kept dt grp uplink opened beam s⟩
  | tddLearn dt grp counts => exact ⟨dt, execTddLearn_kept dt grp counts s⟩
  | npSetLimitsSubband dt r => exact ⟨dt, execNpSetLimitsSubband_kept dt r s⟩
  | npSetLimitsBand dt r => exact ⟨dt, execNpSetLimitsBand_kept dt r s⟩
  | npSetLimitsChain dt r => exact ⟨dt, execNpSetLimitsChain_kept dt r s⟩
  | npEvaluation dt levels => exact ⟨dt, execNpEvaluation_kept dt levels s⟩
  | donorLossMute dt band => exact ⟨dt, execDonorLossMute_kept dt band s⟩
  | donorRelease dt band => exact ⟨dt, execDonorRelease_kept dt band s⟩
  | regrowthEvaluation dt c gathered meas => exact ⟨dt, execRegrowthEvaluation_kept dt c gathered meas s⟩
  | muteNFall dt => exact ⟨dt, execMuteNFall_kept dt s⟩
  | muteNRise dt => exact ⟨dt, execMuteNRise_kept dt s⟩
  | feSeqConfigurePa dt r => exact ⟨dt, execFeSeqConfigurePa_kept dt r s⟩
  | feSeqConfigureRx dt r => exact ⟨dt, execFeSeqConfigureRx_kept dt r s⟩
  | paPowerUpStart dt c => exact ⟨dt, execPaPowerUpStart_kept dt c s⟩
  | paSequenceOffset dt c => exact ⟨dt, execPaSequenceOffset_kept dt c s⟩
  | paPowerUpEnd dt c => exact ⟨dt, execPaPowerUpEnd_kept dt c s⟩
  | paPowerDownStart dt c => exact ⟨dt, execPaPowerDownStart_kept dt c s⟩
  | paPowerDownEnd dt c => exact ⟨dt, execPaPowerDownEnd_kept dt c s⟩
  | pgConfigure dt r => exact ⟨dt, execPgConfigure_kept dt r s⟩
  | pgConfigApply dt ch => exact ⟨dt, execPgConfigApply_kept dt ch s⟩
  | pgEdge dt ch asserting => exact ⟨dt, execPgEdge_kept dt ch asserting s⟩
  | wmConfigure dt r => exact ⟨dt, execWmConfigure_kept dt r s⟩
  | wmClear dt r => exact ⟨dt, execWmClear_kept dt r s⟩
  | monitorAssert dt m input => exact ⟨dt, execMonitorAssert_kept dt m input s⟩
  | monitorRelease dt m input => exact ⟨dt, execMonitorRelease_kept dt m input s⟩
  | xtripFall dt n => exact ⟨dt, execXtripFall_kept dt n s⟩
  | blankingEnd dt m => exact ⟨dt, execBlankingEnd_kept dt m s⟩
  | pinCheckMismatch dt ball => exact ⟨dt, execPinCheckMismatch_kept dt ball s⟩
  | pinAssign dt r => exact ⟨dt, execPinAssign_kept dt r s⟩
  | hkConfigureEntry dt r => exact ⟨dt, execHkConfigureEntry_kept dt r s⟩
  | hkConfigureTimer dt r => exact ⟨dt, execHkConfigureTimer_kept dt r s⟩
  | hkConfigureDac dt r => exact ⟨dt, execHkConfigureDac_kept dt r s⟩
  | htTimerFire dt n => exact ⟨dt, execHtTimerFire_kept dt n s⟩
  | htTriggerEdge dt n => exact ⟨dt, execHtTriggerEdge_kept dt n s⟩
  | hkRequest dt e => exact ⟨dt, execHkRequest_kept dt e s⟩
  | hkConversionEnd dt nv => exact ⟨dt, execHkConversionEnd_kept dt nv s⟩
  | thConfigureGlobal dt r => exact ⟨dt, execThConfigureGlobal_kept dt r s⟩
  | thConfigureSensor dt r => exact ⟨dt, execThConfigureSensor_kept dt r s⟩
  | thConfigureZone dt r => exact ⟨dt, execThConfigureZone_kept dt r s⟩
  | thermalRound dt => exact ⟨dt, execThermalRound_kept dt s⟩
  | thermalRoundEnd dt m => exact ⟨dt, execThermalRoundEnd_kept dt m s⟩
  | thermalFadeEnd dt => exact ⟨dt, execThermalFadeEnd_kept dt s⟩
  | analogueTrip dt sensor => exact ⟨dt, execAnalogueTrip_kept dt sensor s⟩
  | analogueTripRelease dt => exact ⟨dt, execAnalogueTripRelease_kept dt s⟩
  | thermalStopRelease dt => exact ⟨dt, execThermalStopRelease_kept dt s⟩
  | trimStore dt => exact ⟨dt, execTrimStore_kept dt s⟩
  | linkLoss dt => exact ⟨dt, execLinkLoss_kept dt s⟩
  | linkReturn dt mode => exact ⟨dt, execLinkReturn_kept dt mode s⟩
  | keepSExpiry dt => exact ⟨dt, execKeepSExpiry_kept dt s⟩
  | laneFault dt m => exact ⟨dt, execLaneFault_kept dt m s⟩
  | linkModeChange dt mode => exact ⟨dt, execLinkModeChange_kept dt mode s⟩
  | usbBusReset dt usb2 => exact ⟨dt, execUsbBusReset_kept dt usb2 s⟩
  | capConfigure dt r => exact ⟨dt, execCapConfigure_kept dt r s⟩
  | capStart dt r => exact ⟨dt, execCapStart_kept dt r s⟩
  | capStop dt r => exact ⟨dt, execCapStop_kept dt r s⟩
  | capRead dt r => exact ⟨dt, execCapRead_kept dt r s⟩
  | captureArmed dt => exact ⟨dt, execCaptureArmed_kept dt s⟩
  | captureTrigger dt tick cause arg => exact ⟨dt, execCaptureTrigger_kept dt tick cause arg s⟩
  | captureDone dt data sat => exact ⟨dt, execCaptureDone_kept dt data sat s⟩
  | captureSourceStop dt slot byHost => exact ⟨dt, execCaptureSourceStop_kept dt slot byHost s⟩
  | streamBlock dt slot payload nsamp t0 sat accepted => exact ⟨dt, execStreamBlock_kept dt slot payload nsamp t0 sat accepted s⟩
  | faultDetection dt src addr kind => exact ⟨dt, execFaultDetection_kept dt src addr kind s⟩
  | shadowEnd dt => exact ⟨dt, execShadowEnd_kept dt s⟩
  | mergePhaseEnd dt => exact ⟨dt, execMergePhaseEnd_kept dt s⟩
  | testPhaseTimeout dt => exact ⟨dt, execTestPhaseTimeout_kept dt s⟩
  | fault dt => exact ⟨dt, execFault_kept dt s⟩
  | fltConfigureSeverity dt r => exact ⟨dt, execFltConfigureSeverity_kept dt r s⟩
  | fltConfigureGlobal dt r => exact ⟨dt, execFltConfigureGlobal_kept dt r s⟩
  | fltAck dt r => exact ⟨dt, execFltAck_kept dt r s⟩
  | fltForcePulse dt r => exact ⟨dt, execFltForcePulse_kept dt r s⟩
  | fltForceHold dt r => exact ⟨dt, execFltForceHold_kept dt r s⟩
  | fltForceRelease dt r => exact ⟨dt, execFltForceRelease_kept dt r s⟩
  | memoryError dt mem word double => exact ⟨dt, execMemoryError_kept dt mem word double s⟩
  | sramScrubPass dt => exact ⟨dt, execSramScrubPass_kept dt s⟩
  | mramScrubPass dt => exact ⟨dt, execMramScrubPass_kept dt s⟩
  | ncoCheck dt bad => exact ⟨dt, execNcoCheck_kept dt bad s⟩
  | aliveToggle dt => exact ⟨dt, execAliveToggle_kept dt s⟩
  | keepaliveFeed dt => exact ⟨dt, execKeepaliveFeed_kept dt s⟩
  | keepaliveTimeout dt => exact ⟨dt, execKeepaliveTimeout_kept dt s⟩
  | pairTakeover dt => exact ⟨dt, execPairTakeover_kept dt s⟩
  | recoveryEnd dt => exact ⟨dt, execRecoveryEnd_kept dt s⟩
  | snapshotTrigger dt => exact ⟨dt, execSnapshotTrigger_kept dt s⟩
  | snapshotWrite dt verified => exact ⟨dt, execSnapshotWrite_kept dt verified s⟩
  | coalesceFlush dt => exact ⟨dt, execCoalesceFlush_kept dt s⟩
  | hourBoundary dt => exact ⟨dt, execHourBoundary_kept dt s⟩
  | opsecStore dt => exact ⟨dt, execOpsecStore_kept dt s⟩
  | recFreezeSet dt r => exact ⟨dt, execRecFreezeSet_kept dt r s⟩
  | recFreezeRelease dt r => exact ⟨dt, execRecFreezeRelease_kept dt r s⟩
  | freezeTimeout dt => exact ⟨dt, execFreezeTimeout_kept dt s⟩
  | recRead dt r => exact ⟨dt, execRecRead_kept dt r s⟩
  | recSetHosttime dt r => exact ⟨dt, execRecSetHosttime_kept dt r s⟩
  | recClearArm dt r => exact ⟨dt, execRecClearArm_kept dt r s⟩
  | recClearExec dt r => exact ⟨dt, execRecClearExec_kept dt r s⟩
  | zeroingEnd dt => exact ⟨dt, execZeroingEnd_kept dt s⟩
  | twbConfigure dt r => exact ⟨dt, execTwbConfigure_kept dt r s⟩
  | twbClear dt r => exact ⟨dt, execTwbClear_kept dt r s⟩
  | twbTransfer dt r => exact ⟨dt, execTwbTransfer_kept dt r s⟩
  | twbAttention dt r => exact ⟨dt, execTwbAttention_kept dt r s⟩
  | attentionWaitExpiry dt bus => exact ⟨dt, execAttentionWaitExpiry_kept dt bus s⟩
  | busTransferStart dt bus => exact ⟨dt, execBusTransferStart_kept dt bus s⟩
  | busTransferEnd dt bus res => exact ⟨dt, execBusTransferEnd_kept dt bus res s⟩
  | ackSlotStart dt bus => exact ⟨dt, execAckSlotStart_kept dt bus s⟩
  | arbitrationLost dt bus n => exact ⟨dt, execArbitrationLost_kept dt bus n s⟩
  | sclLowTimeout dt bus sdaLow => exact ⟨dt, execSclLowTimeout_kept dt bus sdaLow s⟩
  | sdaLowTimeout dt bus => exact ⟨dt, execSdaLowTimeout_kept dt bus s⟩
  | busFreeTimeout dt bus => exact ⟨dt, execBusFreeTimeout_kept dt bus s⟩
  | busClearEnd dt bus pulses ok => exact ⟨dt, execBusClearEnd_kept dt bus pulses ok s⟩
  | alert dt bus => exact ⟨dt, execAlert_kept dt bus s⟩
  | alertResponseRead dt bus resp released => exact ⟨dt, execAlertResponseRead_kept dt bus resp released s⟩
  | alertSuspendEnd dt bus => exact ⟨dt, execAlertSuspendEnd_kept dt bus s⟩
  | hostNotify dt bus bytes => exact ⟨dt, execHostNotify_kept dt bus bytes s⟩
  | bootStepEnd dt res => exact ⟨dt, execBootStepEnd_kept dt res s⟩
  | earlyFail dt => exact ⟨dt, execEarlyFail_kept dt s⟩
  | fgCalEnd dt failed => exact ⟨dt, execFgCalEnd_kept dt failed s⟩
  | firmwareRestart dt => exact ⟨dt, execFirmwareRestart_kept dt s⟩
  | bootLedgerRead dt r => exact ⟨dt, execBootLedgerRead_kept dt r s⟩
  | fwUpdate dt r => exact ⟨dt, execFwUpdate_kept dt r s⟩
  | resetNRelease dt clksel => exact ⟨dt, execResetNRelease_kept dt clksel s⟩
  | busMasterEnableWrite dt on => exact ⟨dt, execBusMasterEnableWrite_kept dt on s⟩
  | msixVectorUnmask dt w => exact ⟨dt, execMsixVectorUnmask_kept dt w s⟩
  | usbInTransfer dt ep => exact ⟨dt, execUsbInTransfer_kept dt ep s⟩
  | usbFunctionConfigured dt f => exact ⟨dt, execUsbFunctionConfigured_kept dt f s⟩
  | mirrorRefresh dt => exact ⟨dt, execMirrorRefresh_kept dt s⟩
  | xtripRise dt n => exact ⟨dt, execXtripRise_kept dt n s⟩
  | clearArmExpiry dt => exact ⟨dt, execClearArmExpiry_kept dt s⟩
  | calHoldEnd dt c => exact ⟨dt, execCalHoldEnd_kept dt c s⟩
  | probeSuspend dt g => exact ⟨dt, execProbeSuspend_kept dt g s⟩
  | coefLoadEnd dt g => exact ⟨dt, execCoefLoadEnd_kept dt g s⟩
  | mapReadEnd dt g => exact ⟨dt, execMapReadEnd_kept dt g s⟩
  | fwUpdateEnd dt => exact ⟨dt, execFwUpdateEnd_kept dt s⟩

/-- Time that passes leaves the message queues as they are. -/
theorem Depths.advance {s : State} (h : Depths s) (dt : Nat) : Depths (s.advance dt) := h

/-- The bounds do not depend on the commands that wait. -/
theorem Depths.withPending {s : State} (h : Depths s) (rest : List Instr) : Depths { s with pending := rest } := h

theorem step_of_pending_nil {s : State} (h : s.pending = []) : step s = .next s := by
  rw [step, h]

theorem step_of_pending_cons {s : State} {c : Instr} {rest : List Instr} (h : s.pending = c :: rest) :
    step s = exec c { s with pending := rest } := by
  rw [step, h]

end Sys2Proof.Machine

namespace Sys2Proof.Proofs
open Sys2Proof Sys2Proof.Machine

/-- Settles O1: the queue of the state met is not empty, so the step is its front's. -/
theorem stepTakesTheFront : Obligations.StepTakesTheFront := by
  unfold Obligations.StepTakesTheFront
  intro c rest s
  exact step_of_pending_cons rfl

/-- Settles O2: the step's case of an empty queue. -/
theorem emptyQueueIdles : Obligations.EmptyQueueIdles := by
  unfold Obligations.EmptyQueueIdles
  intro s hempty
  exact step_of_pending_nil hempty

/-- Settles O3: every row answers, and keeps the queue and the time it has advanced to. -/
theorem everyCommandAnswers : Obligations.EveryCommandAnswers := by
  unfold Obligations.EveryCommandAnswers
  intro c s
  obtain ⟨dt, t, hexec, hkept⟩ := exec_kept c s
  refine ⟨t, hexec, hkept.pending, ?_⟩
  rw [hkept.now, State.advance_now]
  exact Nat.le_add_right _ _

/-- Settles O4: every queue is empty at reset. -/
theorem queueBoundsAtReset : Obligations.QueueBoundsAtReset := by
  unfold Obligations.QueueBoundsAtReset
  refine ⟨?faults, ?snapshots, fun bus => ?attention⟩
  case faults => exact Nat.zero_le _
  case snapshots => exact Nat.zero_le _
  case attention => exact Nat.zero_le _

/-- Settles O5: a step idles or runs one row, and every row keeps the bounds. -/
theorem queueBoundsKept : Obligations.QueueBoundsKept := by
  unfold Obligations.QueueBoundsKept
  intro s t hs hstep
  cases hqueue : s.pending with
  | nil =>
    rw [step_of_pending_nil hqueue] at hstep
    cases hstep
    exact hs
  | cons c rest =>
    obtain ⟨dt, u, hexec, hkept⟩ := exec_kept c { s with pending := rest }
    rw [step_of_pending_cons hqueue, hexec] at hstep
    cases hstep
    exact hkept.depths ((hs.withPending rest).advance dt)

end Sys2Proof.Proofs
end

section
/-!
How a packet is checked and answered (R517, R533 to R537): the order of the header checks, a packet that fails them,
and the bytes of a completion; O6 to O9 and O11.
-/

namespace Sys2Proof.Machine

/-- Of an ordered list of checks the first that applies answers. -/
@[simp] theorem checks_cons_true (v : Verdict) (rest : List (Bool × Verdict)) : checks ((true, v) :: rest) = v := rfl
@[simp] theorem checks_cons_false (v : Verdict) (rest : List (Bool × Verdict)) :
    checks ((false, v) :: rest) = checks rest := rfl

/-- A packet delivered behind commands that have all begun is the first that waits (R539). -/
theorem State.firstWaiting_deliver {s : State} {op : Nat} {r : Request}
    (hbegun : (s.queue (srcKey r.src)).all (fun e => e.phase.begun) = true) :
    (s.deliver op r).firstWaiting (srcKey r.src) =
      some { id := s.jcp.nextId, op := op, req := r, fetchedAt := s.now } := by
  have hnone : (s.queue (srcKey r.src)).find? (fun e => !e.phase.begun) = none := by
    rw [List.find?_eq_none]
    intro e he
    simp [List.all_eq_true.mp hbegun e he]
  rw [State.firstWaiting, State.deliver_queue, List.find?_append, hnone, Option.none_or]
  rfl

/-- A packet that nothing holds back begins as it arrives: what follows is the answer of its checks (R537, R539). -/
theorem State.issue_eq_begin {s : State} {d : CmdDef} {r : Request} (hdeliver : s.canDeliver r.src = true)
    (hbegun : (s.queue (srcKey r.src)).all (fun e => e.phase.begun) = true)
    (hdoomed : (s.deliver d.op r).doomed (srcKey r.src) = none)
    (hstart : (s.deliver d.op r).mayStart (srcKey r.src)
      { id := s.jcp.nextId, op := d.op, req := r, fetchedAt := s.now } = true) :
    s.issue d r = (s.deliver d.op r).begin d (s.nextRef r) r := by
  simp only [State.issue, if_pos hdeliver, hdoomed, State.firstWaiting_deliver hbegun, hstart, and_self, if_true]
  rfl

/-- A command whose checks fail ends with their status and nothing else (R537). -/
theorem State.begin_of_fail {s : State} {d : CmdDef} {r : Request} {st sub : Nat} (ref : CmdRef)
    (h : s.verdict d r = .fail st sub) : s.begin d ref r = s.complete ref st sub 0 := by
  rw [State.begin, h]

/-- HOLD in microseconds, and in units of 16 µs with bit 13 above that (R535). -/
theorem holdField_of_le {us : Nat} (h : us ≤ 8191) : holdField us = us := if_pos h
theorem holdField_of_gt {us : Nat} (h : 8191 < us) : holdField us = 0x2000 + min 8191 ((us + 15) / 16) :=
  if_neg (Nat.not_le.mpr h)

/-- The completion of a command that ran OK after a hold (R534, R535). -/
theorem completionBytes_held {e : Entry} {us : Nat} (result : Nat) (h : e.heldUs = some us) :
    completionBytes e 0 0 result =
      leBytes 4 e.req.tag.toNat ++ leBytes 2 0 ++ leBytes 2 (0x4000 + holdField us) ++ leBytes 8 result := by
  simp [completionBytes, h, stOk]

/-- The completion of a command that was not held (R534). -/
theorem completionBytes_notHeld {e : Entry} (status sub result : Nat) (h : e.heldUs = none) :
    completionBytes e status sub result =
      leBytes 4 e.req.tag.toNat ++ leBytes 2 status ++ leBytes 2 (if status = 0 then 0 else sub % 16384) ++
        leBytes 8 (if status ∈ [0x0000, 0x0030, 0x0031, 0x0032] then result else 0) := by
  have hcodes : (status = stOk ∨ status = stTimeout ∨ status = stAbortedRecovery ∨ status = stAbortedHost) ↔
      status ∈ [0x0000, 0x0030, 0x0031, 0x0032] := by
    simp [stOk, stTimeout, stAbortedRecovery, stAbortedHost]
  simp only [completionBytes, h, if_congr hcodes rfl rfl]
  rfl

end Sys2Proof.Machine

namespace Sys2Proof.Proofs
open Sys2Proof Sys2Proof.Machine

/-- Settles O6: the packet begins as it arrives, and its checks end it. -/
theorem rejectedCommandOnlyCompletes : Obligations.RejectedCommandOnlyCompletes := by
  unfold Obligations.RejectedCommandOnlyCompletes
  intro s d r st sub hdeliver hbegun hdoomed hstart hverdict
  rw [State.issue_eq_begin hdeliver hbegun hdoomed hstart, State.begin_of_fail _ hverdict]

/-- Settles O7: each check of the header is met only where those before it pass. -/
theorem headerChecksInOrder : Obligations.HeaderChecksInOrder := by
  unfold Obligations.HeaderChecksInOrder
  intro s d r
  refine ⟨?right, ?length, ?reserved⟩
  case right =>
    intro hadmin
    rw [State.verdict, hadmin, checks_cons_true]
    rfl
  case length =>
    intro hadmin hplen
    rw [State.verdict, hadmin, decide_eq_true hplen, checks_cons_false, checks_cons_true]
    rfl
  case reserved =>
    intro hadmin hplen hbits
    have hflags : (decide (r.flags.toNat / 8 ≠ 0) || decide (r.rsvd ≠ 0)) = true := by
      rcases hbits with hflags | hrsvd
      · have hhigh : r.flags.toNat / 8 ≠ 0 := by omega
        rw [decide_eq_true hhigh, Bool.true_or]
      · rw [decide_eq_true hrsvd, Bool.or_true]
    rw [State.verdict, hadmin, hflags, Bool.true_or, decide_eq_false (not_not_intro hplen), checks_cons_false,
      checks_cons_false, checks_cons_true]
    rfl

/-- Settles O8: the three fields before RESULT, and the four statuses that carry one. -/
theorem completionLayout : Obligations.CompletionLayout := by
  unfold Obligations.CompletionLayout
  intro e status sub result hheld
  exact completionBytes_notHeld status sub result hheld

/-- Settles O9: bit 14 beside the two forms of HOLD. -/
theorem holdReported : Obligations.HoldReported := by
  unfold Obligations.HoldReported
  intro e us result hheld
  rw [completionBytes_held result hheld]
  refine ⟨?micros, ?sixteens⟩
  case micros =>
    intro hle
    rw [holdField_of_le hle]
  case sixteens =>
    intro hgt
    rw [holdField_of_gt hgt, ← Nat.add_assoc]

/-- Settles O11: the three fields of the ring after `Ring.produced`. -/
theorem ringEntryProduced : Obligations.RingEntryProduced := by
  unfold Obligations.RingEntryProduced
  intro r
  exact ⟨rfl, rfl, rfl⟩

end Sys2Proof.Proofs
end

section
/-!
Commands that start as they arrive, and what the protocol's own commands, the object writes and the resets then do
(R528 to R544, R557 to R565); O12 to O16.
-/

namespace Sys2Proof.Machine

/-- The row of a command that starts as it arrives has the command's first effect (R539). -/
theorem exec_of_takes {c : Instr} {d : CmdDef} {r : Request} {s₀ s : State} {dt : Nat} (hs : s₀.advance dt = s)
    (hrow : exec c s₀ = .next ((s₀.advance dt).issue d r)) (htakes : s.takes d r = true) :
    exec c s₀ = .next (d.apply (s.nextRef r) r (s.started d.op r)) := by
  rw [hrow, hs, State.issue_takes htakes]

/-- A write of an object that starts as it arrives: RW bits, then W1C bits, then the completion (R560). -/
theorem exec_write_of_takes {c : Instr} {q : Request} {s₀ s : State} {dt : Nat} (o : Nat) (hs : s₀.advance dt = s)
    (hrow : exec c s₀ = .next ((s₀.advance dt).issue cmdObjWrite q)) (ho : q.object.toNat = o)
    (htakes : s.takes cmdObjWrite q = true) :
    exec c s₀ = .next ((((s.started 4 q).objPut o (instOf q) ((s.started 4 q).merged q)).objW1cClear o (instOf q)
      (clearedBits q)).complete (s.nextRef q) 0 0 0) := by
  rw [exec_of_takes hs hrow htakes, cmdObjWrite_apply, applyObjWrite, ho]
  rfl

theorem cmdNop_apply (ref : CmdRef) (r : Request) (s : State) : cmdNop.apply ref r s = s.complete ref 0 0 0 := rfl
theorem cmdMgmtReset_apply (ref : CmdRef) (r : Request) (s : State) : cmdMgmtReset.apply ref r s = s.mgmtRestart := rfl

/-! What the RW bits of each object set (R560). -/

theorem objPut_jcpConfig (s : State) (i v : Nat) :
    s.objPut 0x0011 i v = s.withSet { s.set with keepS := bitsAt v 47 36 } := rfl
theorem objPut_radioConfig (s : State) (i v : Nat) : s.objPut 0x0101 i v = writeRadioConfig v s := rfl
theorem objPut_win (s : State) (i v : Nat) : s.objPut 0x0210 i v = writeWin i v s := rfl
theorem objPut_att (s : State) (i v : Nat) : s.objPut 0x0212 i v = writeAtt i v s := rfl
theorem objPut_plaus (s : State) (i v : Nat) : s.objPut 0x0422 i v = writePlaus i v s := rfl
theorem objPut_lineup (s : State) (i v : Nat) : s.objPut 0x0423 i v = writeLineup i v s := rfl
theorem objPut_tddOut (s : State) (i v : Nat) : s.objPut 0x0522 i v = writeTddOut v s := rfl
theorem objPut_recTrig (s : State) (i v : Nat) : s.objPut 0x0A10 i v = writeRecTrig i v s := rfl
theorem objPut_recSnap (s : State) (i v : Nat) : s.objPut 0x0A11 i v = writeRecSnap i v s := rfl
theorem objPut_recCmdSel (s : State) (i v : Nat) : s.objPut 0x0A12 i v = writeRecCmdSel i v s := rfl
theorem objPut_recStats (s : State) (i v : Nat) : s.objPut 0x0A20 i v = writeRecStats i v s := rfl
theorem objPut_bootConfig (s : State) (i v : Nat) : s.objPut 0x0C01 i v = writeBootConfig v s := rfl

/-- FLT_STATUS has no RW bits, and its W1C bits act as an acknowledgement (R592). -/
theorem objPut_faultStatus (s : State) (i v : Nat) : s.objPut 0x0900 i v = s := rfl
theorem objW1cClear_faultStatus (s : State) (i m : Nat) :
    s.objW1cClear 0x0900 i m = s.acknowledge (BitVec.ofNat 64 m) false := rfl

/-- The write of an object without W1C bits is that of its RW bits. -/
theorem State.objW1cClear_of_none {o : Nat} (h : objW1c o = []) (s : State) (i m : Nat) : s.objW1cClear o i m = s := by
  unfold State.objW1cClear
  split
  all_goals first | rfl | cases h

/-- Bytes that fill their length need no padding. -/
theorem take_append_replicate {b : List Byte} {n : Nat} (h : b.length = n) (x : Byte) :
    (b ++ List.replicate n x).take n = b := by
  rw [← h, List.take_left]

/-- A RING_DELETE without ABORT on an ACTIVE ring lets it drain, and ends nothing (R529). -/
theorem applyRingDelete_drains {ref : CmdRef} {r : Request} {s : State} (habort : flag r 0 0 = false)
    (hactive : (s.ring (instOf r)).state = 1) :
    applyRingDelete ref r s = s.modRing (instOf r) (fun k => { k with state := 3, drain := some (k.tail, ref, false) }) := by
  have hmod : ∀ f g : Ring → Ring, f (s.ring (instOf r)) = g (s.ring (instOf r)) →
      s.modRing (instOf r) f = s.modRing (instOf r) g := by
    intro f g hfg
    simp only [State.modRing, Table.modify]
    rw [show f (Table.get {} s.jcp.rings (instOf r)) = g (Table.get {} s.jcp.rings (instOf r)) from hfg]
  simp only [applyRingDelete, habort, Bool.false_and, Bool.false_eq_true, if_false, List.foldl_nil]
  exact hmod _ _ (by rw [hactive, if_pos rfl])

end Sys2Proof.Machine

namespace Sys2Proof.Proofs
open Sys2Proof Sys2Proof.Machine

/-- Settles O12: each command's effect, by the form its parameters select. -/
theorem protocolCommandsComplete : Obligations.ProtocolCommandsComplete := by
  unfold Obligations.ProtocolCommandsComplete
  intro s₀ dt r
  generalize hs : s₀.advance dt = s
  refine ⟨?nop, ?identify, ?readInline, ?readToBuffer, ?echo, ?inject, ?telemetry⟩
  case nop =>
    intro u htakes
    rw [exec_of_takes hs rfl htakes, cmdNop_apply]
    rfl
  case identify =>
    intro u htakes
    rw [exec_of_takes hs rfl htakes, cmdIdentify_apply, applyIdentify]
    rfl
  case readInline =>
    intro u htakes haddr
    rw [exec_of_takes hs rfl htakes, cmdObjRead_apply, applyObjRead, if_pos haddr]
    rfl
  case readToBuffer =>
    intro u htakes haddr
    rw [exec_of_takes hs rfl htakes, cmdObjRead_apply, applyObjRead, if_neg haddr]
    rfl
  case echo =>
    intro u htakes hlen
    rw [exec_of_takes hs rfl htakes, cmdTestEcho_apply, applyTestEcho, take_append_replicate hlen]
    rfl
  case inject =>
    intro u htakes
    rw [exec_of_takes hs rfl htakes, cmdTestEccInject_apply, applyTestEccInject]
    rfl
  case telemetry =>
    intro u htakes
    rw [exec_of_takes hs rfl htakes, cmdTlmConfigure_apply, applyTlm]
    rfl

/-- Settles O13: OBJ_WRITE by its two steps, and each named object by the fields its own chapter gives it. -/
theorem objectsAreWritten : Obligations.ObjectsAreWritten := by
  unfold Obligations.ObjectsAreWritten
  intro s₀ dt r
  generalize hs : s₀.advance dt = s
  refine ⟨?anyObject, ?jcpConfig, ?winConfig, ?attConfig, ?plausConfig, ?lineup, ?tddOut, ?recTrig, ?snapList, ?cmdSel⟩
  case anyObject =>
    intro u htakes
    rw [exec_write_of_takes _ hs rfl rfl htakes]
  case jcpConfig =>
    intro q u v htakes
    rw [exec_write_of_takes 0x0011 hs rfl rfl htakes, State.objW1cClear_of_none rfl, objPut_jcpConfig]
    rfl
  case winConfig =>
    intro q u v htakes
    rw [exec_write_of_takes 0x0210 hs rfl rfl htakes, State.objW1cClear_of_none rfl, objPut_win]
    show Host.Outcome.next ((writeWin (instOf r) v u).complete (s.nextRef r) 0 0 0) = _
    clear_value v u
    rfl
  case attConfig =>
    intro q u v htakes
    rw [exec_write_of_takes 0x0212 hs rfl rfl htakes, State.objW1cClear_of_none rfl, objPut_att]
    show Host.Outcome.next ((writeAtt (instOf r) v u).complete (s.nextRef r) 0 0 0) = _
    clear_value v u
    rfl
  case plausConfig =>
    intro q u v htakes
    rw [exec_write_of_takes 0x0422 hs rfl rfl htakes, State.objW1cClear_of_none rfl, objPut_plaus]
    show Host.Outcome.next ((writePlaus (instOf r) v u).complete (s.nextRef r) 0 0 0) = _
    clear_value v u
    by_cases hsame : bitsAt v 62 58 = (u.plausSet (instOf r)).detSrc
    · simp only [writePlaus, if_pos hsame]
      rfl
    · simp only [writePlaus, if_neg hsame]
      rfl
  case lineup =>
    intro q u v htakes
    rw [exec_write_of_takes 0x0423 hs rfl rfl htakes, State.objW1cClear_of_none rfl, objPut_lineup]
    show Host.Outcome.next ((writeLineup (instOf r) v u).complete (s.nextRef r) 0 0 0) = _
    clear_value v u
    rfl
  case tddOut =>
    intro q u v htakes
    rw [exec_write_of_takes 0x0522 hs rfl rfl htakes, State.objW1cClear_of_none rfl, objPut_tddOut]
    show Host.Outcome.next ((writeTddOut v u).complete (s.nextRef r) 0 0 0) = _
    clear_value v u
    cases hbeam : bit v 63
    · simp only [writeTddOut, hbeam, Bool.false_eq_true, if_false]
    · simp only [writeTddOut, hbeam, if_true]
  case recTrig =>
    intro q u v htakes
    rw [exec_write_of_takes 0x0A10 hs rfl rfl htakes, State.objW1cClear_of_none rfl, objPut_recTrig]
    show Host.Outcome.next ((writeRecTrig (instOf r) v u).complete (s.nextRef r) 0 0 0) = _
    clear_value v u
    rfl
  case snapList =>
    intro q u v htakes
    rw [exec_write_of_takes 0x0A11 hs rfl rfl htakes, State.objW1cClear_of_none rfl, objPut_recSnap]
    show Host.Outcome.next ((writeRecSnap (instOf r) v u).complete (s.nextRef r) 0 0 0) = _
    clear_value v u
    rfl
  case cmdSel =>
    intro q u v htakes
    rw [exec_write_of_takes 0x0A12 hs rfl rfl htakes, State.objW1cClear_of_none rfl, objPut_recCmdSel]
    show Host.Outcome.next ((writeRecCmdSel (instOf r) v u).complete (s.nextRef r) 0 0 0) = _
    clear_value v u
    rfl

/-- Settles O14: the objects whose write does more than set fields. -/
theorem specialObjectsAreWritten : Obligations.SpecialObjectsAreWritten := by
  unfold Obligations.SpecialObjectsAreWritten
  intro s₀ dt r
  generalize hs : s₀.advance dt = s
  refine ⟨?faultStatus, ?recStats, ?radioConfig, ?bootConfig, ?bootSave⟩
  case faultStatus =>
    intro q u v htakes
    rw [exec_write_of_takes 0x0900 hs rfl rfl htakes, objPut_faultStatus, objW1cClear_faultStatus]
    rfl
  case recStats =>
    intro q u v htakes
    rw [exec_write_of_takes 0x0A20 hs rfl rfl htakes, State.objW1cClear_of_none rfl, objPut_recStats]
    rfl
  case radioConfig =>
    intro q u v htakes
    rw [exec_write_of_takes 0x0101 hs rfl rfl htakes, State.objW1cClear_of_none rfl, objPut_radioConfig]
    rfl
  case bootConfig =>
    intro q u v htakes hsave
    rw [exec_write_of_takes 0x0C01 hs rfl rfl htakes, State.objW1cClear_of_none rfl, objPut_bootConfig]
    show Host.Outcome.next ((writeBootConfig v u).complete (s.nextRef q) 0 0 0) = _
    clear_value v u
    rw [writeBootConfig, hsave]
    rfl
  case bootSave =>
    intro q u v htakes hsave
    rw [exec_write_of_takes 0x0C01 hs rfl rfl htakes, State.objW1cClear_of_none rfl, objPut_bootConfig]
    show Host.Outcome.next ((writeBootConfig v u).complete (s.nextRef q) 0 0 0) = _
    clear_value v u
    simp only [writeBootConfig, if_pos hsave, State.repaired, State.modStore, State.withStore]
    rfl

/-- Settles O15: a ring made, a ring that drains, and the command that ABORT finds or does not find. -/
theorem ringCommandsComplete : Obligations.RingCommandsComplete := by
  unfold Obligations.RingCommandsComplete
  intro s₀ dt r
  generalize hs : s₀.advance dt = s
  refine ⟨?create, ?delete, ?abortFound, ?abortNone⟩
  case create =>
    intro u htakes
    rw [exec_of_takes hs rfl htakes, cmdRingCreate_apply, applyRingCreate]
    rfl
  case delete =>
    intro u htakes habort hactive
    rw [exec_of_takes hs rfl htakes, cmdRingDelete_apply, cmdRingDelete_op, applyRingDelete_drains habort hactive]
  case abortFound =>
    intro u htakes k e hkey hfind
    have hkey' : ((s.started 0x0020 r).abortKey r).getD 0 = k := by rw [hkey]; rfl
    rw [exec_of_takes hs rfl htakes, cmdAbort_apply, cmdAbort_op, applyAbort, hkey', hfind]
    rfl
  case abortNone =>
    intro u htakes k hkey hfind
    have hkey' : ((s.started 0x0020 r).abortKey r).getD 0 = k := by rw [hkey]; rfl
    rw [exec_of_takes hs rfl htakes, cmdAbort_apply, cmdAbort_op, applyAbort, hkey', hfind]
    rfl

/-- Settles O16: both resets are their command's effect. -/
theorem resetCommandsComplete : Obligations.ResetCommandsComplete := by
  unfold Obligations.ResetCommandsComplete
  intro s₀ dt r
  generalize hs : s₀.advance dt = s
  refine ⟨?deviceReset, ?mgmtReset⟩
  case deviceReset =>
    intro u htakes
    rw [exec_of_takes hs rfl htakes, cmdDeviceReset_apply, applyDeviceReset]
    rfl
  case mgmtReset =>
    intro u htakes
    rw [exec_of_takes hs rfl htakes, cmdMgmtReset_apply, cmdMgmtReset_op]

end Sys2Proof.Proofs
end

section
/-!
RADIO_SET_STATE and the commands of the sub-bands (R74 to R86, R176 to R218); O17 to O19.
-/

namespace Sys2Proof.Machine

/-- The sub-bands that count as used from now on (R623). -/
def State.marksUsed (s : State) (on : List Nat) : State :=
  { s with rcd := { s.rcd with used := s.rcd.used ++ on.filter (fun h => !s.rcd.used.contains h) } }

@[simp] theorem State.marksUsed_nil (s : State) : s.marksUsed [] = s := by
  simp [State.marksUsed]

/-- SB_CONFIGURE in its stages: store, begin, ramp, disable, complete (R176 to R183). -/
theorem applySbConfigure_stages (ref : CmdRef) (r : Request) (s : State) :
    applySbConfigure ref r s =
      (let g := instOf r
      let k := sbOfRequest r
      let gs := covered (flag r 0 5) g
      let on := s.turnsOn gs k
      let off := gs.filter (fun h => !k.enable && s.enabled h)
      let s := (s.each (gs.filter (fun h => !s.enabled h)) (fun s h => s.storeSb h k)).marksUsed on
      let s := if on = [] then s
        else if s.listening then s.beginOutputs on
        else on.foldl (fun s h => ((s.syncBins h).modLoop h (fun x => { x.atRest none with applied := none })).groupChanged h) s
      let ramped := off.filter (fun h => s.listening && !(s.sbOf h).shed)
      let s := s.each ramped (fun s h => s.modSb h (fun x => { x with ramp := some (s.now + 64 * (s.cfg h).d, some ref) }))
      let s := s.each (off.filter (fun h => !ramped.contains h)) State.disableNow
      if ramped = [] then s.complete ref 0 0 (s.sbResult g) else s) := rfl

/-- No sub-band turns on at a configuration that disables it (R176). -/
theorem State.turnsOn_of_disable (s : State) (gs : List Nat) {k : SbConfig} (h : k.enable = false) :
    s.turnsOn gs k = [] := by
  simp [State.turnsOn, h]

/-- At one that enables them, the disabled ones do. -/
theorem State.turnsOn_of_enable (s : State) (gs : List Nat) {k : SbConfig} (h : k.enable = true) :
    s.turnsOn gs k = gs.filter (fun g => !s.enabled g) := by
  simp [State.turnsOn, h]

/-- A command for one sub-band covers it alone (R181). -/
theorem covered_one (g : Nat) : covered false g = [g] := rfl

@[simp] theorem State.each_nil (s : State) (f : State → Nat → State) : s.each [] f = s := rfl
@[simp] theorem State.each_one (s : State) (g : Nat) (f : State → Nat → State) : s.each [g] f = f s g := rfl

/-- Storing a configuration leaves the radio alone. -/
@[simp] theorem State.storeSb_radio (s : State) (g : Nat) (k : SbConfig) : (s.storeSb g k).radio = s.radio := by
  have hleave : (s.leaveRetunes g).radio = s.radio :=
    State.foldl_keeps State.radio (fun s h => s.modSb h _) (fun _ _ => rfl) _ s
  rw [← hleave]
  rfl

/-- A fold of stores is met in the state of the radio before it. -/
theorem State.each_storeSb_listening (s : State) (gs : List Nat) (k : SbConfig) :
    (s.each gs (fun s h => s.storeSb h k)).listening = s.listening := by
  have hradio := State.foldl_keeps State.radio (fun s h => s.storeSb h k) (fun s h => s.storeSb_radio h k) gs s
  simp only [State.listening, State.each, hradio]

@[simp] theorem State.marksUsed_listening (s : State) (on : List Nat) : (s.marksUsed on).listening = s.listening := rfl

/-- SB_CONFIGURE of a disabled sub-band that stays disabled only stores (R176). -/
theorem applySbConfigure_stores (ref : CmdRef) {r : Request} {s : State} (hgroup : flag r 0 5 = false)
    (hdisable : flag r 0 0 = false) (hoff : s.enabled (instOf r) = false) :
    applySbConfigure ref r s = (s.storeSb (instOf r) (sbOfRequest r)).complete ref 0 0
      ((s.storeSb (instOf r) (sbOfRequest r)).sbResult (instOf r)) := by
  have hk : (sbOfRequest r).enable = false := hdisable
  rw [applySbConfigure_stages]
  simp [hgroup, covered_one, s.turnsOn_of_disable _ hk, hk, hoff]

/-- SB_CONFIGURE with ENABLE stores, and begins the outputs of what was disabled (R176, R179). -/
theorem applySbConfigure_begins (ref : CmdRef) {r : Request} {s : State} {on : List Nat}
    (henable : flag r 0 0 = true) (hlist : (covered (flag r 0 5) (instOf r)).filter (fun h => !s.enabled h) = on)
    (hon : on ≠ []) (hlisten : s.listening = true) :
    applySbConfigure ref r s =
      ((((on.foldl (fun t h => t.storeSb h (sbOfRequest r)) s).marksUsed on).beginOutputs on)).complete ref 0 0
        (((on.foldl (fun t h => t.storeSb h (sbOfRequest r)) s).marksUsed on).beginOutputs on |>.sbResult (instOf r)) := by
  have hk : (sbOfRequest r).enable = true := henable
  have hstored := (s.each_storeSb_listening on (sbOfRequest r)).trans hlisten
  rw [applySbConfigure_stages]
  simp only [s.turnsOn_of_enable _ hk, hlist, hk, hon, if_false, Bool.not_true, Bool.false_and, List.filter_false,
    List.filter_nil, State.each_nil, State.marksUsed_listening, hstored, if_true]
  rfl

/-- SB_CONFIGURE that disables an enabled sub-band in LISTEN or REPEAT starts its ramp (R180). -/
theorem applySbConfigure_ramps (ref : CmdRef) {r : Request} {s : State} (hgroup : flag r 0 5 = false)
    (hdisable : flag r 0 0 = false) (hon : s.enabled (instOf r) = true) (hlisten : s.listening = true)
    (hshed : (s.sbOf (instOf r)).shed = false) :
    applySbConfigure ref r s =
      s.modSb (instOf r) (fun x => { x with ramp := some (s.now + 64 * (s.cfg (instOf r)).d, some ref) }) := by
  have hk : (sbOfRequest r).enable = false := hdisable
  rw [applySbConfigure_stages]
  simp [hgroup, covered_one, s.turnsOn_of_disable _ hk, hk, hon, hlisten, hshed]

/-- SB_LOAD_COEF with the filter engines off takes the taps at once (R91, R193). -/
theorem State.finishLoad_of_passes {s : State} {l : CoefLoad} {ref : CmdRef} (hcmd : l.cmd = some ref)
    (hpass : s.loadFails l = none) :
    s.finishLoad l = ((l.members.foldl (fun t h => t.takeTaps h l) s).complete ref 0 0
      (bitsOf 32 (tau256 (bankOf l.taps) (l.members.foldl (fun t h => t.takeTaps h l) s).draws))).drawn := by
  simp only [State.finishLoad, hpass, hcmd]
  rfl

/-- SB_SWITCH_BANK in its stages, the exchange of what does not run first (R194 to R202). -/
theorem applySbSwitchBank_idle (ref : CmdRef) {r : Request} {s : State}
    (hlive : (covered (flag r 0 3) (instOf r)).filter (fun h => s.switchesLive h) = []) :
    applySbSwitchBank ref r s =
      (let v := ((covered (flag r 0 3) (instOf r)).filter (fun h => !s.switchesLive h)).foldl (fun t h =>
        let t := t.exchange h (flag r 0 0) (flag r 0 1)
        let t := if flag r 0 0 then t.switchedRx h else t
        if flag r 0 1 then t.switchedTx h else t) s
      v.complete ref 0 0 ((v.sbOf (instOf r)).latency % 65536 + if flag r 0 2 then 65536 else 0)) := by
  simp only [applySbSwitchBank, hlive, if_true]
  rfl

end Sys2Proof.Machine

namespace Sys2Proof.Proofs
open Sys2Proof Sys2Proof.Machine

/-- Settles O17: the two branches on the walk that stands once the earlier request has ended. -/
theorem radioStateRequested : Obligations.RadioStateRequested := by
  unfold Obligations.RadioStateRequested
  intro s₀ dt r
  generalize hs : s₀.advance dt = s
  refine ⟨?moves, ?redirects⟩
  case moves =>
    intro u htakes v hwalk
    rw [exec_of_takes hs rfl htakes, cmdRadio_apply, cmdRadio_op]
    show Host.Outcome.next (applyRadio (s.nextRef r) r u) = _
    clear_value u
    simp only [v] at hwalk
    simp only [applyRadio, stAbortedHost, hwalk]
    rfl
  case redirects =>
    intro u htakes w v hwalk
    rw [exec_of_takes hs rfl htakes, cmdRadio_apply, cmdRadio_op]
    show Host.Outcome.next (applyRadio (s.nextRef r) r u) = _
    clear_value u
    simp only [v] at hwalk
    simp only [applyRadio, stAbortedHost, hwalk]
    rfl

/-- Settles O18: the three cases of SB_CONFIGURE and the two of SB_RETUNE. -/
theorem subbandsAreConfigured : Obligations.SubbandsAreConfigured := by
  unfold Obligations.SubbandsAreConfigured
  intro s₀ dt r
  generalize hs : s₀.advance dt = s
  refine ⟨?stored, ?begun, ?ramps, ?retuneDue, ?retuneNow⟩
  case stored =>
    intro u htakes k hgroup hdisable hoff
    rw [exec_of_takes hs rfl htakes, cmdSbConfigure_apply, cmdSbConfigure_op,
      applySbConfigure_stores _ hgroup hdisable hoff]
    rfl
  case begun =>
    intro u htakes k on v henable hon hlisten
    rw [exec_of_takes hs rfl htakes, cmdSbConfigure_apply, cmdSbConfigure_op,
      applySbConfigure_begins _ henable rfl hon hlisten]
    rfl
  case ramps =>
    intro u htakes hgroup hdisable hon hlisten hshed
    rw [exec_of_takes hs rfl htakes, cmdSbConfigure_apply, cmdSbConfigure_op,
      applySbConfigure_ramps _ hgroup hdisable hon hlisten hshed]
  case retuneDue =>
    intro u htakes hlisten hany
    rw [exec_of_takes hs rfl htakes, cmdSbRetune_apply, cmdSbRetune_op, applySbRetune, if_pos ⟨hlisten, hany⟩]
  case retuneNow =>
    intro u htakes hnone
    have hnot : ¬(u.listening = true ∧ (covered (flag r 8 0) (instOf r)).any (fun h => u.enabled h) = true) := by
      rw [hnone]
      simp
    rw [exec_of_takes hs rfl htakes, cmdSbRetune_apply, cmdSbRetune_op, applySbRetune, if_neg hnot]
    rfl

/-- Settles O19: the load waits or ends at once, the switch meets sub-bands that run or do not. -/
theorem banksAreLoadedAndSwitched : Obligations.BanksAreLoadedAndSwitched := by
  unfold Obligations.BanksAreLoadedAndSwitched
  intro s₀ dt r
  generalize hs : s₀.advance dt = s
  refine ⟨?loadWaits, ?loadNow, ?exchanged, ?hard, ?fades, ?syncReset, ?dcBlocker⟩
  case loadWaits =>
    intro u htakes l hsynth
    rw [exec_of_takes hs rfl htakes, cmdSbLoadCoef_apply, cmdSbLoadCoef_op, applySbLoadCoef,
      if_neg (Nat.not_lt.mpr hsynth)]
  case loadNow =>
    intro u htakes l hbelow hpass
    rw [exec_of_takes hs rfl htakes, cmdSbLoadCoef_apply, cmdSbLoadCoef_op, applySbLoadCoef, if_pos hbelow,
      State.finishLoad_of_passes rfl hpass]
  case exchanged =>
    intro u htakes gs v hlive
    rw [exec_of_takes hs rfl htakes, cmdSbSwitchBank_apply, cmdSbSwitchBank_op, applySbSwitchBank_idle _ hlive]
  case hard =>
    intro u htakes g t gs hlive hidle hhard
    rw [exec_of_takes hs rfl htakes, cmdSbSwitchBank_apply, cmdSbSwitchBank_op]
    show Host.Outcome.next (applySbSwitchBank (s.nextRef r) r u) = _
    clear_value u
    simp only [gs] at hlive hidle
    simp only [applySbSwitchBank, hlive, hidle, State.each_nil, List.cons_ne_nil, if_false, hhard, if_true,
      List.headD_cons]
  case fades =>
    intro u htakes gs hne hlive hidle hsoft
    rw [exec_of_takes hs rfl htakes, cmdSbSwitchBank_apply, cmdSbSwitchBank_op]
    show Host.Outcome.next (applySbSwitchBank (s.nextRef r) r u) = _
    clear_value u
    simp only [gs] at hne hlive hidle
    simp only [applySbSwitchBank, hlive, hidle, State.each_nil, hne, if_false, hsoft, Bool.false_eq_true]
    rfl
  case syncReset =>
    intro u htakes g t hcovered
    rw [exec_of_takes hs rfl htakes, cmdSbSyncReset_apply, cmdSbSyncReset_op, applySbSyncReset, hcovered]
    rfl
  case dcBlocker =>
    intro u htakes
    rw [exec_of_takes hs rfl htakes, cmdSbDcb_apply, cmdSbDcb_op, applySbDcb]
    rfl

end Sys2Proof.Proofs
end

section
/-!
Doorbells and setup words, and how packets are fetched, started, completed and posted (R517 to R529, R533 to R556);
O20 and O21.
-/

namespace Sys2Proof.Machine

/-- A doorbell of an ACTIVE ring with a 16-bit value (R519). -/
theorem State.doorbell_of_active {s : State} {n v : Nat} (hup : s.link.pcieUp = true) (hn : n < 16384)
    (hactive : (s.ring n).state = 1) (hv : v < 65536) :
    s.doorbell (4 * n) 4 v =
      if 2 ^ (s.ring n).log2size ≤ v then s.stopRing n 1
      else if (s.ring n).type = 1 ∨ (s.ring n).type = 4 then s.modRing n (fun r => { r with tail := v })
      else ((s.modRing n (fun r => { r with head := v })).drain n).owedEvents := by
  have hoff : ¬(4 ≠ 4 ∨ 4 * n % 4 ≠ 0 ∨ 65536 ≤ 4 * n) := by omega
  have hdiv : 4 * n / 4 = n := by omega
  have hnot : ¬(n = 0 ∧ (s.ring n).state ≠ 1) := fun h => h.2 hactive
  have hkeep : ¬((s.ring n).state ≠ 1 ∨ 65536 ≤ v) := by omega
  simp only [State.doorbell, hup, Bool.not_true, Bool.false_eq_true, if_false, if_neg hoff, hdiv, if_neg hnot,
    if_neg hkeep]

/-- A doorbell of a ring that is not ACTIVE is dropped, ring 0 apart (R519, R526). -/
theorem State.doorbell_of_inactive {s : State} {n : Nat} (v : Nat) (hup : s.link.pcieUp = true) (hpos : 0 < n)
    (hn : n < 16384) (hinactive : (s.ring n).state ≠ 1) :
    s.doorbell (4 * n) 4 v = s.modLink (fun l => { l with dbDrop := satUp 0x7F l.dbDrop }) := by
  have hoff : ¬(4 ≠ 4 ∨ 4 * n % 4 ≠ 0 ∨ 65536 ≤ 4 * n) := by omega
  have hdiv : 4 * n / 4 = n := by omega
  have hnot : ¬(n = 0 ∧ (s.ring n).state ≠ 1) := by omega
  simp only [State.doorbell, hup, Bool.not_true, Bool.false_eq_true, if_false, if_neg hoff, hdiv, if_neg hnot,
    if_pos (Or.inl hinactive)]

/-- A write of another size than 4 bytes is dropped (R519). -/
theorem State.doorbell_of_size {s : State} {off size : Nat} (v : Nat) (hup : s.link.pcieUp = true) (hsize : size ≠ 4) :
    s.doorbell off size v = s.modLink (fun l => { l with dbDrop := satUp 0x7F l.dbDrop }) := by
  simp [State.doorbell, hup, if_pos (Or.inl hsize)]

/-- A setup word reaches the device while ring 0 is not ACTIVE, and its three fields are read back from it (R526). -/
theorem State.setupDoorbell_of_idle {s : State} {code : Nat} (sel : BitVec 2) (value : BitVec 26)
    (hup : s.link.pcieUp = true) (hidle : (s.ring 0).state ≠ 1) :
    s.setupDoorbell code sel value = s.setupWord code sel.toNat value.toNat := by
  have hsel : sel.toNat < 4 := sel.isLt
  have hvalue : value.toNat < 67108864 := value.isLt
  have hcode : (code * 268435456 + sel.toNat * 67108864 + value.toNat) / 268435456 = code := by omega
  have hselect : (code * 268435456 + sel.toNat * 67108864 + value.toNat) / 67108864 % 4 = sel.toNat := by omega
  have hrest : (code * 268435456 + sel.toNat * 67108864 + value.toNat) % 67108864 = value.toNat := by omega
  have hoff : ¬(4 ≠ 4 ∨ 0 % 4 ≠ 0 ∨ 65536 ≤ 0) := by omega
  simp only [State.setupDoorbell, State.doorbell, hup, Bool.not_true, Bool.false_eq_true, if_false, if_neg hoff,
    Nat.zero_div, if_pos (And.intro trivial hidle), hcode, hselect, hrest]

/-- GO with the three rings given, legal and apart, while the endpoint may start transfers (R527). -/
theorem State.setupGo_of_rings {s : State} {a b c : Ring} (ha : s.jcp.setup0.ring 1 1 = some a)
    (hb : s.jcp.setup1.ring 2 65535 = some b) (hc : s.jcp.setup2.ring 3 65535 = some c) (hab : a.overlaps b = false)
    (hac : a.overlaps c = false) (hbc : b.overlaps c = false) (hmasters : s.clearSetup.masters = true) :
    s.setupGo =
      (let t := if (s.clearSetup.ring 0).state = 4 ∧ s.clearSetup.jcp.cause ≠ 2 then s.clearSetup.discardRings
        else s.clearSetup
      ((((((t.drawn.modJcp (fun j => { j with session := (t.jcp.session + 1 + t.draw % 65535) % 65536, sinkRing := {} })).modRing
        0 (fun _ => a)).modRing 1 (fun _ => b)).modRing 2 (fun _ => c)).setItems 1 []).setItems 2 []).adminReady) := by
  simp [State.setupGo, ha, hb, hc, hab, hac, hbc, hmasters]

/-- An entry of the index that passes its checks starts (R537, R539). -/
theorem State.beginEntry_of_ok {s : State} {e : Entry} {d : CmdDef} (k : Nat) (hd : cmdOf e.op = some d)
    (hok : s.verdict d e.req = .ok) :
    s.beginEntry k e = d.apply { src := k, id := e.id } e.req (s.running { src := k, id := e.id }) := by
  simp only [State.beginEntry, hd, State.begin, hok, State.start]

/-- A packet that no barrier and no deletion has ended is delivered (R520, R533). -/
theorem State.receive_of_delivered {s : State} {op : Nat} {r : Request} (hdeliver : s.canDeliver r.src = true)
    (hdoomed : (s.deliver op r).doomed (srcKey r.src) = none) : s.receive op r = s.deliver op r := by
  simp [State.receive, hdeliver, hdoomed]

/-- An error stops an ACTIVE ring (R524). -/
theorem State.stopRing_of_active {s : State} {n : Nat} (e : Nat) (hactive : (s.ring n).state = 1) :
    s.stopRing n e =
      ((s.modRing n (fun r => { r with state := 2, err := e })).drain n).post 0x0005 (leBytes 2 n ++ leBytes 1 e) :=
  if_pos hactive

end Sys2Proof.Machine

namespace Sys2Proof.Proofs
open Sys2Proof Sys2Proof.Machine

/-- Settles O20: the doorbell by the state of its ring, the setup word by its code. -/
theorem doorbellsAct : Obligations.DoorbellsAct := by
  unfold Obligations.DoorbellsAct
  intro s₀ dt
  generalize hs : s₀.advance dt = s
  refine ⟨?tail, ?head, ?beyond, ?inactive, ?wrongSize, ?baseLo, ?baseHi, ?shape, ?go, ?goDiscards, ?resume⟩
  case tail =>
    intro n value hup hn hactive hvalue hsize htype
    show execDoorbellWrite dt (4 * n) 4 value s₀ = _
    rw [execDoorbellWrite, hs, State.doorbell_of_active hup hn hactive hvalue, if_neg (Nat.not_le.mpr hsize),
      if_pos htype]
  case head =>
    intro n value hup hn hactive hvalue hsize hsubmission hstream
    show execDoorbellWrite dt (4 * n) 4 value s₀ = _
    rw [execDoorbellWrite, hs, State.doorbell_of_active hup hn hactive hvalue, if_neg (Nat.not_le.mpr hsize),
      if_neg (not_or.mpr ⟨hsubmission, hstream⟩)]
  case beyond =>
    intro n value hup hn hactive hvalue hsize
    show execDoorbellWrite dt (4 * n) 4 value s₀ = _
    rw [execDoorbellWrite, hs, State.doorbell_of_active hup hn hactive hvalue, if_pos hsize,
      State.stopRing_of_active 1 hactive]
  case inactive =>
    intro n value hup hpos hn hinactive
    show execDoorbellWrite dt (4 * n) 4 value s₀ = _
    rw [execDoorbellWrite, hs, State.doorbell_of_inactive _ hup hpos hn hinactive]
  case wrongSize =>
    intro off size value hup hsize
    show execDoorbellWrite dt off size value s₀ = _
    rw [execDoorbellWrite, hs, State.doorbell_of_size _ hup hsize]
  case baseLo =>
    intro sel value hup hidle hsel
    show execSetupBaseLo dt sel value s₀ = _
    rw [execSetupBaseLo, hs, State.setupDoorbell_of_idle sel value hup hidle, State.setupWord, if_neg hsel, if_pos rfl,
      BitVec.ofNat_toNat, BitVec.setWidth_eq]
  case baseHi =>
    intro sel value hup hidle hsel
    show execSetupBaseHi dt sel value s₀ = _
    rw [execSetupBaseHi, hs, State.setupDoorbell_of_idle sel value hup hidle, State.setupWord, if_neg hsel,
      if_neg (by decide), if_pos rfl, BitVec.ofNat_toNat, BitVec.setWidth_eq]
  case shape =>
    intro sel value hup hidle hsel hsmall hlarge hzero
    have hlegal : shapeLegal value.toNat = true := by
      simp only [shapeLegal, hsmall, hlarge, hzero, decide_true, Bool.and_self]
    show execSetupShape dt sel value s₀ = _
    rw [execSetupShape, hs, State.setupDoorbell_of_idle sel value hup hidle, State.setupWord, if_neg hsel,
      if_neg (by decide), if_neg (by decide), if_pos rfl, if_pos hlegal, BitVec.ofNat_toNat, BitVec.setWidth_eq]
  case go =>
    intro a b c hup hidle hkept hmasters ha hb hc hab hac hbc
    have hstay : ¬((s.clearSetup.ring 0).state = 4 ∧ s.clearSetup.jcp.cause ≠ 2) := fun h => hkept h.1
    have hword : s.setupWord 10 (0 : BitVec 2).toNat (0 : BitVec 26).toNat = s.setupGo := rfl
    show execSetupGo dt 0 0 s₀ = _
    rw [execSetupGo, hs, State.setupDoorbell_of_idle 0 0 hup hidle, hword,
      State.setupGo_of_rings ha hb hc hab hac hbc hmasters, if_neg hstay]
  case goDiscards =>
    intro a b c hup hidle hkept hcause hmasters ha hb hc hab hac hbc
    have hword : s.setupWord 10 (0 : BitVec 2).toNat (0 : BitVec 26).toNat = s.setupGo := rfl
    show execSetupGo dt 0 0 s₀ = _
    rw [execSetupGo, hs, State.setupDoorbell_of_idle 0 0 hup hidle, hword,
      State.setupGo_of_rings ha hb hc hab hac hbc hmasters, if_pos ⟨hkept, hcause⟩]
  case resume =>
    intro value hup hkept hcause hsession hvalue hwithin
    have hidle : (s.ring 0).state ≠ 1 := by omega
    have hword : s.setupWord 11 (0 : BitVec 2).toNat value.toNat = s.setupResume value.toNat := by
      simp [State.setupWord, hvalue]
    show execSetupResume dt 0 value s₀ = _
    rw [execSetupResume, hs, State.setupDoorbell_of_idle 0 value hup hidle, hword, State.setupResume,
      if_pos ⟨hkept, hcause, hsession, hwithin⟩]
    rfl

/-- Settles O21: each row where its condition holds. -/
theorem packetEventsComplete : Obligations.PacketEventsComplete := by
  unfold Obligations.PacketEventsComplete
  intro s₀ dt
  generalize hs : s₀.advance dt = s
  refine ⟨?fetch, ?usbPacket, ?start, ?fence, ?released, ?deferLimit, ?post, ?moderation, ?drained, ?ringError, ?entry,
    ?entryLost, ?recovered⟩
  case fetch =>
    intro op r hpcie hdeliver hdoomed
    show execCommandFetch dt op r s₀ = _
    simp only [execCommandFetch, hs, if_pos hpcie, State.receive_of_delivered hdeliver hdoomed]
  case usbPacket =>
    intro op r husb hdeliver hdoomed
    show execUsbCommandPacket dt op r s₀ = _
    simp [execUsbCommandPacket, hs, husb, State.receive_of_delivered hdeliver hdoomed]
  case start =>
    intro src e d hnext hd hok
    show execCommandStart dt src s₀ = _
    simp only [execCommandStart, hs, hnext, State.beginEntry_of_ok _ hd hok]
  case fence =>
    intro src e d hnext hd hok hfence
    show execFenceCommandStart dt src s₀ = _
    simp only [execFenceCommandStart, hs, hnext, if_pos hfence, State.beginEntry_of_ok _ hd hok]
  case released =>
    intro src e d hnext hd hok
    show execHeldCommandRelease dt src s₀ = _
    simp only [execHeldCommandRelease, hs, hnext, State.beginEntry_of_ok _ hd hok]
  case deferLimit =>
    intro src e t hfirst hheld hlimit hwaits
    show execDeferLimitExpiry dt src s₀ = _
    simp [execDeferLimitExpiry, hs, hfirst, hheld, hlimit, hwaits, stTimeout]
  case post =>
    intro src hpair
    show execCompletionPost dt src s₀ = _
    simp only [execCompletionPost, hs, if_neg hpair]
    rfl
  case moderation =>
    intro ring hirq hstate hsince hmod hpast
    show execMsixModerationExpiry dt ring s₀ = _
    simp [execMsixModerationExpiry, hs, hirq, hstate, hsince, hmod, hpast]
  case drained =>
    intro ring a ref b hdrain hdrained
    show execRingDrained dt ring s₀ = _
    simp only [execRingDrained, hs, hdrain, if_pos hdrained, stOk]
  case ringError =>
    intro ring err hlow hhigh hactive
    show execRingError dt ring err s₀ = _
    simp only [execRingError, hs, if_pos (And.intro hlow hhigh), State.stopRing_of_active err hactive]
  case entry =>
    intro ring hitems hactive htype hdiv htick hlast hroom
    show execTelemetryEntry dt ring s₀ = _
    simp [execTelemetryEntry, hs, hitems, hactive, htype, hdiv, htick, hlast, Option.all_none, hroom]
  case entryLost =>
    intro ring hitems hactive htype hdiv htick hlast hfull
    show execTelemetryEntry dt ring s₀ = _
    simp only [execTelemetryEntry, hs, hitems, hactive, htype, hdiv, htick, hlast, Option.all_none,
      Nat.not_lt.mpr hfull, and_self, if_true, if_false, ne_eq, not_false_eq_true]
  case recovered =>
    intro b hdone
    show execRecoveryEnd dt s₀ = _
    simp only [execRecoveryEnd, hs, hdone]

end Sys2Proof.Proofs
end

section
/-!
Walks, sleep and wake, the root PLL and its source, resets and the TAP (R54 to R107, R699 to R701); O22 to O24.
-/

namespace Sys2Proof.Machine

/-- The quick calibration of a chain, its check of the trims common to both outcomes (R106, R107). -/
theorem State.quickCal_eq (s : State) (c : Nat) (failed : Bool) :
    s.quickCal c failed =
      (let k := s.storedSet c s.th.band
      let t := s.modCnv c (fun x => { x with quickFailed := failed })
      if failed then (t.modCnv c (fun x => x.calibrated k t.th.band)).raise 1 c 0
      else (t.modCnv c (fun x => x.calibrated (t.quickTrims k) t.th.band)).drawnBy 66).checkTrims c := by
  cases failed <;> rfl

/-- The row of a step's end while a walk is in progress that firmware carries on (R76, R667). -/
theorem execWalkStepEnd_of_walk {dt : Nat} {s₀ s : State} {w : Walk} (hs : s₀.advance dt = s) (ok : Bool)
    (hwaking : s.radio.waking = none) (hwalk : s.radio.walk = some w)
    (hruns : w.kind ≠ .thermal ∨ s.firmwareRuns = true) :
    execWalkStepEnd dt ok s₀ = .next (if ok then s.stepEnds w else s.stepFails w) := by
  have hnot : ¬(w.kind = .thermal ∧ (!s.firmwareRuns) = true) := by
    rcases hruns with hkind | hruns
    · exact fun h => hkind h.1
    · simp [hruns]
  simp only [execWalkStepEnd, hs, hwaking, hwalk, if_neg hnot]

/-- Loading a TAP instruction, its cells first where the one before it shifted (R698, R699). -/
theorem execTapInstruction_eq {dt : Nat} {s₀ s : State} (hs : s₀.advance dt = s) (m : TapLoad) :
    execTapInstruction dt m s₀ =
      (let t : State := { s with pins := { s.pins with
        tap := m.code, boundary := if scanShifts s.pins.tap then m.cells else s.pins.boundary } }
      .next (if (scanTakes s.pins.tap && !scanTakes m.code) = true then
        t.each (chains.filter (fun c => s.transmits c)) (fun s c =>
          (s.each ((sbsOf c).filter (fun g => s.enabled g)) State.restLoop).restLoop (128 + c))
      else t)) := by
  rw [execTapInstruction, hs]
  cases hshift : scanShifts s.pins.tap <;> rfl

end Sys2Proof.Machine

namespace Sys2Proof.Proofs
open Sys2Proof Sys2Proof.Machine

/-- Settles O22: the row of a step by what is in progress, and sleep and wake at their conditions. -/
theorem walkEventsComplete : Obligations.WalkEventsComplete := by
  unfold Obligations.WalkEventsComplete
  intro s₀ dt
  generalize hs : s₀.advance dt = s
  refine ⟨?wakeEnds, ?step6, ?step7, ?step8, ?stepFails, ?quickCal, ?sleeps, ?hostGated, ?wakeUsb, ?wakeGpio⟩
  case wakeEnds =>
    intro src t hwaking hpast
    show execWalkStepEnd dt true s₀ = _
    simp [execWalkStepEnd, hs, hwaking, hpast]
  case step6 =>
    intro w hwaking hwalk hruns hstep hpast
    show execWalkStepEnd dt true s₀ = _
    simp [execWalkStepEnd_of_walk hs _ hwaking hwalk hruns, State.stepEnds, hstep, hpast]
  case step7 =>
    intro w hwaking hwalk hruns hstep hpast
    show execWalkStepEnd dt true s₀ = _
    simp only [execWalkStepEnd_of_walk hs _ hwaking hwalk hruns, State.stepEnds, hstep, hpast, and_self, if_true]
    rfl
  case step8 =>
    intro w hwaking hwalk hruns hstep
    show execWalkStepEnd dt true s₀ = _
    simp only [execWalkStepEnd_of_walk hs _ hwaking hwalk hruns, State.stepEnds, hstep, if_true]
    rfl
  case stepFails =>
    intro w hwaking hwalk hruns hlow hhigh hrelock
    show execWalkStepEnd dt false s₀ = _
    simp only [execWalkStepEnd_of_walk hs _ hwaking hwalk hruns, State.stepFails, hlow, hhigh, hrelock,
      Option.isSome_none, and_self, if_true, if_false, Bool.false_eq_true]
  case quickCal =>
    intro failed w hwalk hstep hlocked hpast
    show execQuickCalibrationEnd dt failed s₀ = _
    simp only [execQuickCalibrationEnd, hs, hwalk, hstep, hlocked, hpast, State.quickCal_eq, and_self, if_true]
    rfl
  case sleeps =>
    intro w c hwalk hstep hstandby hbus0 hbus1 hcmd
    have hidle : (List.range 2).all (fun b => decide ((s.twbOf b).busy = .idle)) = true := by
      simp [List.range_succ, hbus0, hbus1]
    show execSleepEntered dt s₀ = _
    simp only [execSleepEntered, hs, hwalk, hstep, hstandby, hidle, hcmd, and_self, if_true]
    rfl
  case hostGated =>
    intro t hgate hpast hsleep hgated hwaking
    show execHostPathGating dt s₀ = _
    simp [execHostPathGating, hs, hgate, hpast, hsleep, hgated, hwaking]
  case wakeUsb =>
    intro hsleep hwaking henabled
    show execWakeUsbResume dt s₀ = _
    simp [execWakeUsbResume, hs, hsleep, hwaking, henabled, State.beginWake]
  case wakeGpio =>
    intro gpio hsleep hwaking hgpio hnamed
    show execWakeGpioEdge dt gpio s₀ = _
    simp [execWakeGpioEdge, hs, hsleep, hwaking, hgpio, hnamed, State.beginWake]

/-- Settles O23: each row by the state of the PLL and of its source. -/
theorem clockEventsComplete : Obligations.ClockEventsComplete := by
  unfold Obligations.ClockEventsComplete
  intro s₀ dt
  generalize hs : s₀.advance dt = s
  refine ⟨?lock, ?lockInWalk, ?lockEndsStep, ?lockfail, ?lockfailRelock, ?unlock, ?unlockRelocking, ?unlockFromSynth,
    ?refloss, ?reflossWaking, ?xtalStops, ?xtalLate, ?restart, ?crystalReturns, ?referenceReturns, ?lateCrystal,
    ?wakingReturn⟩
  case lock =>
    intro hon hunlocked hpresent hpast hwalk
    show execRootPllLock dt s₀ = _
    simp [execRootPllLock, hs, hon, hunlocked, hpresent, hpast, hwalk]
  case lockInWalk =>
    intro w hon hunlocked hpresent hpast hwalk hstep
    show execRootPllLock dt s₀ = _
    simp [execRootPllLock, hs, hon, hunlocked, hpresent, hpast, hwalk, hstep]
  case lockEndsStep =>
    intro w hon hunlocked hpresent hpast hwalk hstep
    show execRootPllLock dt s₀ = _
    simp [execRootPllLock, hs, hon, hunlocked, hpresent, hpast, hwalk, hstep]
  case lockfail =>
    intro w hon hunlocked hpast hwalk hstep hrelock
    show execClkLockfail dt s₀ = _
    simp [execClkLockfail, hs, hon, hunlocked, hpast, hwalk, hstep, hrelock, Option.isSome_none]
  case lockfailRelock =>
    intro w q hon hunlocked hpast hwalk hstep hrelock
    show execClkLockfail dt s₀ = _
    simp [execClkLockfail, hs, hon, hunlocked, hpast, hwalk, hstep, hrelock, Option.isSome_some]
  case unlock =>
    intro hlocked hbelow hrelock
    show execClkUnlock dt s₀ = _
    simp [execClkUnlock, hs, hlocked, decide_eq_false (Nat.not_le.mpr hbelow), hrelock, Option.isSome_none]
  case unlockRelocking =>
    intro q hlocked hbelow hrelock
    show execClkUnlock dt s₀ = _
    simp [execClkUnlock, hs, hlocked, decide_eq_false (Nat.not_le.mpr hbelow), hrelock, Option.isSome_some,
      Bool.and_self]
  case unlockFromSynth =>
    intro hlocked hsynth
    show execClkUnlock dt s₀ = _
    simp [execClkUnlock, hs, hlocked, decide_eq_true hsynth, Bool.and_false]
  case refloss =>
    intro hext hreset hfallback hawake
    show execClkRefloss dt s₀ = _
    simp [execClkRefloss, hs, hext, hreset, hfallback, hawake]
  case reflossWaking =>
    intro q hext hreset hfallback hsleep hwaking hlasting
    have hpresent : s.refAbsent = false := by rw [State.refAbsent, hlasting, Bool.and_false]
    show execClkRefloss dt s₀ = _
    simp only [execClkRefloss, hs, hext, hreset, hfallback, hsleep, hwaking, hpresent, Bool.not_false,
      Option.isSome_some, and_self, if_true]
    rfl
  case xtalStops =>
    intro hext hreset hfallback hpresent hawake
    show execClkXtal dt true s₀ = _
    simp [execClkXtal, hs, hext, hreset, hfallback, hpresent, hawake]
  case xtalLate =>
    intro hext hreset hfallback habsent hawake hpast
    have hon : s.radio.state ≠ 0 := by omega
    show execClkXtal dt false s₀ = _
    cases hsince : s.radio.xtalOnAt with
    | none =>
      rw [hsince, Option.getD_none] at hpast
      simp [execClkXtal, hs, hext, hreset, hfallback, habsent, hon, hsince, hpast]
    | some t =>
      rw [hsince, Option.getD_some] at hpast
      simp [execClkXtal, hs, hext, hreset, hfallback, habsent, hon, hsince, hpast]
  case restart =>
    intro t hsince hfallback hext hpast
    show execCrystalRestart dt s₀ = _
    simp [execCrystalRestart, hs, hsince, hfallback, hext, hpast]
  case crystalReturns =>
    intro t hfallback hsince hpast
    show execRootSourceReturn dt s₀ = _
    simp [execRootSourceReturn, hs, hfallback, hsince, hpast]
  case referenceReturns =>
    intro hfallback hsince hext
    show execRootSourceReturn dt s₀ = _
    simp [execRootSourceReturn, hs, hfallback, hsince, hext]
  case lateCrystal =>
    intro hfallback hext habsent hreset hlasting hawake
    have hlate : s.crystalLate = true := by
      simp only [State.crystalLate, hext, habsent, hreset, hlasting, Bool.not_false, Bool.and_self]
    show execRootSourceReturn dt s₀ = _
    simp [execRootSourceReturn, hs, hfallback, hlate, hawake]
  case wakingReturn =>
    intro q hfallback hext hwaking hlasting
    have hnotLate : s.crystalLate = false := by
      simp only [State.crystalLate, hext, Bool.not_true, Bool.false_and]
    have habsent : s.refAbsent = true := by simp only [State.refAbsent, hext, hlasting, Bool.and_self]
    show execRootSourceReturn dt s₀ = _
    simp [execRootSourceReturn, hs, hfallback, hnotLate, hext, hwaking, habsent, Option.isSome_some]

/-- Settles O24: RESET_N and the rails by what is good already, and the TAP by the instruction it leaves. -/
theorem resetEventsComplete : Obligations.ResetEventsComplete := by
  unfold Obligations.ResetEventsComplete
  intro s₀ dt
  generalize hs : s₀.advance dt = s
  refine ⟨?assertGood, ?assertDown, ?release, ?railFails, ?railsGood, ?tapStays, ?tapLeavesScan, ?tapReset⟩
  case assertGood =>
    intro hreset hrails
    show execResetNAssert dt s₀ = _
    simp [execResetNAssert, hs, hreset, hrails]
  case assertDown =>
    intro hreset hrails
    show execResetNAssert dt s₀ = _
    simp only [execResetNAssert, hs, hreset, hrails, decide_true, if_true, if_false, ne_eq, not_false_eq_true,
      Bool.false_eq_true]
  case release =>
    intro clksel hreset hrails
    show execResetNRelease dt clksel s₀ = _
    simp [execResetNRelease, hs, hreset, State.setRadio_radio, hrails]
  case railFails =>
    intro rail hrail
    show execRailFail dt rail s₀ = _
    rw [execRailFail, hs]
    exact congrArg Host.Outcome.next (if_pos hrail)
  case railsGood =>
    intro since clksel hheld hrails hlong hlast hreset
    have hout : ¬s.radio.resetN = true := by rw [hreset]; exact Bool.false_ne_true
    show execRailsGood dt ⟨since, clksel⟩ s₀ = _
    rw [execRailsGood, hs]
    exact congrArg Host.Outcome.next ((if_pos ⟨hheld, hrails, hlong, hlast⟩).trans (if_neg hout))
  case tapStays =>
    intro code cells hstays
    show execTapInstruction dt ⟨code, cells⟩ s₀ = _
    simp [execTapInstruction_eq hs, hstays]
  case tapLeavesScan =>
    intro code cells hleaves
    show execTapInstruction dt ⟨code, cells⟩ s₀ = _
    simp only [execTapInstruction_eq hs, hleaves, if_true]
    rfl
  case tapReset =>
    intro hnoScan
    show execTrstNReset dt s₀ = _
    simp [execTrstNReset, hs, State.setTap, hnoScan]

end Sys2Proof.Proofs
end

section
/-!
The commands of the canceller, the governor, the loops and the repetitive controller (R256 to R260, R294 to R297,
R329 to R348); O25 to O28.
-/

namespace Sys2Proof.Machine

/-- A packet with one bit given has the source of the packet, and so its reference. -/
@[simp] theorem State.nextRef_withBit (s : State) (r : Request) (off k : Nat) (on : Bool) :
    s.nextRef (withBit r off k on) = s.nextRef r := rfl

/-- The bit given, and a bit of the same byte that is not (R530). -/
theorem flag_withBit_same (r : Request) (off : Nat) {k : Nat} (on : Bool) (hk : k < 4) :
    flag (withBit r off k on) off k = on := by
  rw [flag_withBit r off k k on hk hk, if_pos rfl]
theorem flag_withBit_other (r : Request) (off : Nat) {k j : Nat} (on : Bool) (hj : j < 4) (hk : k < 4) (hne : j ≠ k) :
    flag (withBit r off k on) off j = flag r off j := by
  rw [flag_withBit r off k j on hj hk, if_neg hne]

/-- CTL_REP_LEARN with RELEASE, and with neither START nor RELEASE, on a loop that has a slot (R329, R348). -/
theorem applyCtlRepLearn_release {ref : CmdRef} {r : Request} {s : State} {n : Nat} (hstart : flag r 0 0 = false)
    (hrelease : flag r 0 1 = true) (hslot : (s.loopOf (instOf r)).slot = some n) :
    applyCtlRepLearn ref r s =
      ((s.modSlot n (fun _ => {})).modLoop (instOf r) (fun x => { x with slot := none })).complete ref 0 0 n := by
  simp only [applyCtlRepLearn, hstart, hrelease, hslot, stOk, if_true, if_false, Bool.false_eq_true]
theorem applyCtlRepLearn_modify {ref : CmdRef} {r : Request} {s : State} {n : Nat} (hstart : flag r 0 0 = false)
    (hrelease : flag r 0 1 = false) (hslot : (s.loopOf (instOf r)).slot = some n) :
    applyCtlRepLearn ref r s = (s.modSlot n (fun q => q.take r)).complete ref 0 0 n := by
  simp only [applyCtlRepLearn, hstart, hrelease, hslot, stOk, if_false, Bool.false_eq_true]

end Sys2Proof.Machine

namespace Sys2Proof.Proofs
open Sys2Proof Sys2Proof.Machine

/-- Settles O25: each command's effect. -/
theorem cancellerCommandsComplete : Obligations.CancellerCommandsComplete := by
  unfold Obligations.CancellerCommandsComplete
  intro s₀ dt r
  generalize hs : s₀.advance dt = s
  refine ⟨?configure, ?freeze, ?mapRead, ?mapWrite⟩
  case configure =>
    intro u htakes k
    rw [exec_of_takes hs rfl htakes, cmdCanConfigure_apply, cmdCanConfigure_op, applyCanConfigure]
    rfl
  case freeze =>
    intro u htakes
    rw [exec_of_takes hs rfl htakes, cmdCanFreeze_apply, cmdCanFreeze_op, applyCanFreeze]
    rfl
  case mapRead =>
    intro u htakes ps
    rw [exec_of_takes hs rfl htakes, cmdCanMapRead_apply, cmdCanMapRead_op, applyCanMapRead]
    rfl
  case mapWrite =>
    intro u htakes
    rw [exec_of_takes hs rfl htakes, cmdCanMapWrite_apply, cmdCanMapWrite_op, applyCanMapWrite]
    rfl

/-- Settles O26: each command's effect, CAN_PROBE by its START bit. -/
theorem governorCommandsComplete : Obligations.GovernorCommandsComplete := by
  unfold Obligations.GovernorCommandsComplete
  intro s₀ dt r
  generalize hs : s₀.advance dt = s
  refine ⟨?configure, ?restart, ?probeStart, ?probeStop⟩
  case configure =>
    intro u htakes k
    rw [exec_of_takes hs rfl htakes, cmdGovConfigure_apply, cmdGovConfigure_op, applyGovConfigure]
    rfl
  case restart =>
    intro u htakes gs ts
    rw [exec_of_takes hs rfl htakes, cmdGovRestart_apply, cmdGovRestart_op, applyGovRestart]
    rfl
  case probeStart =>
    intro q u htakes
    have hstart : flag q 0 0 = true := flag_withBit_same r 0 true (by decide)
    rw [exec_of_takes hs rfl htakes, cmdCanProbe_apply, cmdCanProbe_op, applyCanProbe, if_pos hstart,
      State.nextRef_withBit]
    rfl
  case probeStop =>
    intro q u htakes
    have hstop : ¬flag q 0 0 = true := by
      rw [show flag q 0 0 = false from flag_withBit_same r 0 false (by decide)]
      exact Bool.false_ne_true
    rw [exec_of_takes hs rfl htakes, cmdCanProbe_apply, cmdCanProbe_op, applyCanProbe, if_neg hstop,
      State.nextRef_withBit]
    rfl

/-- Settles O27: each command's effect, CTL_INJECT by its START bit. -/
theorem loopCommandsComplete : Obligations.LoopCommandsComplete := by
  unfold Obligations.LoopCommandsComplete
  intro s₀ dt r
  generalize hs : s₀.advance dt = s
  refine ⟨?setMode, ?setPoint, ?schedule, ?injectStart, ?injectStop⟩
  case setMode =>
    intro u htakes
    rw [exec_of_takes hs rfl htakes, cmdCtlSetMode_apply, cmdCtlSetMode_op, applyCtlSetMode]
    rfl
  case setPoint =>
    intro u htakes v
    rw [exec_of_takes hs rfl htakes, cmdCtlSetPoint_apply, cmdCtlSetPoint_op, applyCtlSetPoint]
    rfl
  case schedule =>
    intro u htakes ls x v
    rw [exec_of_takes hs rfl htakes, cmdCtlSetSchedule_apply, cmdCtlSetSchedule_op, applyCtlSetSchedule]
    rfl
  case injectStart =>
    intro q u htakes v
    have hstart : flag q 0 0 = true := flag_withBit_same r 0 true (by decide)
    rw [exec_of_takes hs rfl htakes, cmdCtlInject_apply, cmdCtlInject_op, applyCtlInject, if_pos hstart]
    rfl
  case injectStop =>
    intro q u htakes
    have hstop : ¬flag q 0 0 = true := by
      rw [show flag q 0 0 = false from flag_withBit_same r 0 false (by decide)]
      exact Bool.false_ne_true
    rw [exec_of_takes hs rfl htakes, cmdCtlInject_apply, cmdCtlInject_op, applyCtlInject, if_neg hstop,
      State.nextRef_withBit]
    rfl

/-- Settles O28: the three forms of CTL_REP_LEARN by START and RELEASE. -/
theorem repetitiveLearningCommandsComplete : Obligations.RepetitiveLearningCommandsComplete := by
  unfold Obligations.RepetitiveLearningCommandsComplete
  intro s₀ dt r
  generalize hs : s₀.advance dt = s
  refine ⟨?start, ?release, ?modify⟩
  case start =>
    intro q u htakes n
    have hstart : flag q 0 0 = true := flag_withBit_same r 0 true (by decide)
    rw [exec_of_takes hs rfl htakes, cmdCtlRepLearn_apply, cmdCtlRepLearn_op]
    show Host.Outcome.next (applyCtlRepLearn (s.nextRef q) q u) = _
    clear_value u
    simp only [applyCtlRepLearn, hstart, if_true, Bool.and_eq_true, decide_eq_true_eq]
    rfl
  case release =>
    intro q u htakes n hslot
    have hstart : flag q 0 0 = false :=
      (flag_withBit_other _ 0 true (by decide) (by decide) (by decide)).trans (flag_withBit_same r 0 false (by decide))
    have hrelease : flag q 0 1 = true := flag_withBit_same _ 0 true (by decide)
    rw [exec_of_takes hs rfl htakes, cmdCtlRepLearn_apply, cmdCtlRepLearn_op,
      applyCtlRepLearn_release hstart hrelease hslot, State.nextRef_withBit, State.nextRef_withBit]
    rfl
  case modify =>
    intro q u htakes n hslot
    have hstart : flag q 0 0 = false :=
      (flag_withBit_other _ 0 false (by decide) (by decide) (by decide)).trans (flag_withBit_same r 0 false (by decide))
    have hmodify : flag q 0 1 = false := flag_withBit_same _ 0 false (by decide)
    rw [exec_of_takes hs rfl htakes, cmdCtlRepLearn_apply, cmdCtlRepLearn_op,
      applyCtlRepLearn_modify hstart hmodify hslot, State.nextRef_withBit, State.nextRef_withBit]
    rfl

end Sys2Proof.Proofs
end

section
/-!
The commands of timing, protection and housekeeping (R392 to R397, R454, R474); O29, O30, O32.
-/

namespace Sys2Proof.Machine

/-- What an applied command did, then its completion, from what it did. -/
theorem complete_of_eq {w v : State} (h : w = v) (ref : CmdRef) (st sub res : Nat) :
    (.next (w.complete ref st sub res) : Host.Outcome State Fault Refusal) = .next (v.complete ref st sub res) :=
  congrArg (fun x : State => Host.Outcome.next (x.complete ref st sub res)) h

/-- A packet whose bits 2 and 3 of byte 0 are given has both (Tnone_SET_GATES: COMMIT and READBACK, R368). -/
theorem flag_commit (r : Request) (commit readback : Bool) :
    flag (withBit (withBit r 0 2 commit) 0 3 readback) 0 2 = commit :=
  (flag_withBit_other _ 0 readback (by decide) (by decide) (by decide)).trans (flag_withBit_same r 0 commit (by decide))
theorem flag_readback (r : Request) (commit readback : Bool) :
    flag (withBit (withBit r 0 2 commit) 0 3 readback) 0 3 = readback :=
  flag_withBit_same _ 0 readback (by decide)

end Sys2Proof.Machine

namespace Sys2Proof.Proofs
open Sys2Proof Sys2Proof.Machine

/-- Settles O29: Tnone_CONFIGURE by whether the group was and stays enabled, Tnone_SET_GATES by COMMIT, READBACK and
whether it waits for its moment. -/
theorem timingCommandsComplete : Obligations.TimingCommandsComplete := by
  unfold Obligations.TimingCommandsComplete
  intro s₀ dt r
  generalize hs : s₀.advance dt = s
  refine ⟨?waits, ?locks, ?off, ?acquires, ?writeNow, ?writeWaits, ?commitNow, ?commitWaits, ?readback⟩
  case waits =>
    intro u htakes old k hold hk
    rw [exec_of_takes hs rfl htakes, cmdTddConfigure_apply, cmdTddConfigure_op, applyTddConfigure]
    exact complete_of_eq (if_pos ⟨hold, hk⟩) _ _ _ _
  case locks =>
    intro u htakes old k w hold hk hsource
    have hwas : ¬(old.enable = true ∧ k.enable = true) := by simp only [hold, not_false_eq_true, Bool.false_eq_true,
      false_and]
    have hon : ¬(!k.enable) = true := by simp only [hk, Bool.not_true, not_false_eq_true, Bool.false_eq_true]
    rw [exec_of_takes hs rfl htakes, cmdTddConfigure_apply, cmdTddConfigure_op, applyTddConfigure]
    exact complete_of_eq ((if_neg hwas).trans ((if_neg hon).trans (if_pos hsource))) _ _ _ _
  case off =>
    intro u htakes old k w hk
    have hwas : ¬(old.enable = true ∧ k.enable = true) := by simp only [hk, not_false_eq_true, Bool.false_eq_true,
      and_false]
    have hoff : (!k.enable) = true := by simp only [hk, Bool.not_false]
    rw [exec_of_takes hs rfl htakes, cmdTddConfigure_apply, cmdTddConfigure_op, applyTddConfigure]
    exact complete_of_eq ((if_neg hwas).trans (if_pos hoff)) _ _ _ _
  case acquires =>
    intro u htakes old k w hold hk hsource
    have hwas : ¬(old.enable = true ∧ k.enable = true) := by simp only [hold, not_false_eq_true, Bool.false_eq_true,
      false_and]
    have hon : ¬(!k.enable) = true := by simp only [hk, Bool.not_true, not_false_eq_true, Bool.false_eq_true]
    rw [exec_of_takes hs rfl htakes, cmdTddConfigure_apply, cmdTddConfigure_op, applyTddConfigure]
    exact complete_of_eq ((if_neg hwas).trans ((if_neg hon).trans (if_neg hsource))) _ _ _ _
  case writeNow =>
    intro q u htakes w v hmoment
    have hdue : u.activation (instOf q) (flag q 0 1) (pu q 1 1) (pu q 2 2) = none := hmoment
    have hcommit : flag q 0 2 = false := flag_commit r false false
    have hreadback : flag q 0 3 = false := flag_readback r false false
    rw [exec_of_takes hs rfl htakes, cmdTddSetGates_apply, cmdTddSetGates_op]
    show Host.Outcome.next (applyTddSetGates (s.nextRef q) q u) = _
    subst v w
    clear_value u
    simp only [applyTddSetGates, hcommit, hreadback, hdue, if_false, Bool.false_eq_true]
    rfl
  case writeWaits =>
    intro q u htakes d w hmoment
    have hdue : u.activation (instOf q) (flag q 0 1) (pu q 1 1) (pu q 2 2) = some d := hmoment
    have hcommit : flag q 0 2 = false := flag_commit r false false
    have hreadback : flag q 0 3 = false := flag_readback r false false
    rw [exec_of_takes hs rfl htakes, cmdTddSetGates_apply, cmdTddSetGates_op]
    show Host.Outcome.next (applyTddSetGates (s.nextRef q) q u) = _
    subst w
    clear_value u
    simp only [applyTddSetGates, hcommit, hreadback, hdue, if_false, Bool.false_eq_true]
    cases flag q 0 0 <;> rfl
  case commitNow =>
    intro q u htakes v hmoment
    have hdue : u.activation (instOf q) (flag q 0 1) (pu q 1 1) (pu q 2 2) = none := hmoment
    have hcommit : flag q 0 2 = true := flag_commit r true false
    have hreadback : flag q 0 3 = false := flag_readback r true false
    rw [exec_of_takes hs rfl htakes, cmdTddSetGates_apply, cmdTddSetGates_op]
    show Host.Outcome.next (applyTddSetGates (s.nextRef q) q u) = _
    subst v
    clear_value u
    simp only [applyTddSetGates, hcommit, hreadback, hdue, if_true, if_false, Bool.false_eq_true]
    rfl
  case commitWaits =>
    intro q u htakes d hmoment
    have hdue : u.activation (instOf q) (flag q 0 1) (pu q 1 1) (pu q 2 2) = some d := hmoment
    have hcommit : flag q 0 2 = true := flag_commit r true false
    have hreadback : flag q 0 3 = false := flag_readback r true false
    rw [exec_of_takes hs rfl htakes, cmdTddSetGates_apply, cmdTddSetGates_op]
    show Host.Outcome.next (applyTddSetGates (s.nextRef q) q u) = _
    clear_value u
    simp only [applyTddSetGates, hcommit, hreadback, hdue, Bool.true_or, if_true, if_false, Bool.false_eq_true]
    rfl
  case readback =>
    intro q u htakes k es
    have hreadback : flag q 0 3 = true := flag_readback r false true
    rw [exec_of_takes hs rfl htakes, cmdTddSetGates_apply, cmdTddSetGates_op]
    show Host.Outcome.next (applyTddSetGates (s.nextRef q) q u) = _
    clear_value u
    simp only [applyTddSetGates, hreadback, if_true]
    rfl

/-- Settles O30: NP_SET_LIMITS by its KIND. -/
theorem limitCommandsComplete : Obligations.LimitCommandsComplete := by
  unfold Obligations.LimitCommandsComplete
  intro s₀ dt r
  generalize hs : s₀.advance dt = s
  refine ⟨?subband, ?band, ?chain⟩
  case subband =>
    intro q u htakes
    have hkind : pu q 0 1 = 0 := pu_withByte r 0 0
    rw [exec_of_takes hs rfl htakes, cmdNpSetLimits_apply, cmdNpSetLimits_op, applyNpSetLimits]
    exact complete_of_eq (if_pos hkind) _ _ _ _
  case band =>
    intro q u htakes
    have hkind : pu q 0 1 = 1 := pu_withByte r 0 1
    rw [exec_of_takes hs rfl htakes, cmdNpSetLimits_apply, cmdNpSetLimits_op, applyNpSetLimits]
    exact complete_of_eq ((if_neg (by rw [hkind]; decide)).trans (if_pos hkind)) _ _ _ _
  case chain =>
    intro q u htakes
    have hkind : pu q 0 1 = 2 := pu_withByte r 0 2
    rw [exec_of_takes hs rfl htakes, cmdNpSetLimits_apply, cmdNpSetLimits_op, applyNpSetLimits]
    exact complete_of_eq ((if_neg (by rw [hkind]; decide)).trans (if_neg (by rw [hkind]; decide))) _ _ _ _

/-- Settles O32: HK_CONFIGURE and TH_CONFIGURE by their KIND. -/
theorem housekeepingCommandsComplete : Obligations.HousekeepingCommandsComplete := by
  unfold Obligations.HousekeepingCommandsComplete
  intro s₀ dt r
  generalize hs : s₀.advance dt = s
  refine ⟨?entry, ?timer, ?dac, ?global, ?sensor, ?zone⟩
  case entry =>
    intro q u htakes
    have hkind : pu q 0 1 = 0 := pu_withByte r 0 0
    rw [exec_of_takes hs rfl htakes, cmdHkConfigure_apply, cmdHkConfigure_op, applyHkConfigure]
    exact complete_of_eq (if_pos hkind) _ _ _ _
  case timer =>
    intro q u htakes
    have hkind : pu q 0 1 = 1 := pu_withByte r 0 1
    rw [exec_of_takes hs rfl htakes, cmdHkConfigure_apply, cmdHkConfigure_op, applyHkConfigure]
    exact complete_of_eq ((if_neg (by rw [hkind]; decide)).trans (if_pos hkind)) _ _ _ _
  case dac =>
    intro q u htakes
    have hkind : pu q 0 1 = 2 := pu_withByte r 0 2
    rw [exec_of_takes hs rfl htakes, cmdHkConfigure_apply, cmdHkConfigure_op, applyHkConfigure]
    exact complete_of_eq ((if_neg (by rw [hkind]; decide)).trans (if_neg (by rw [hkind]; decide))) _ _ _ _
  case global =>
    intro q u htakes
    have hkind : pu q 0 1 = 0 := pu_withByte r 0 0
    rw [exec_of_takes hs rfl htakes, cmdThConfigure_apply, cmdThConfigure_op, applyThConfigure]
    exact complete_of_eq (if_pos hkind) _ _ _ _
  case sensor =>
    intro q u htakes
    have hkind : pu q 0 1 = 1 := pu_withByte r 0 1
    rw [exec_of_takes hs rfl htakes, cmdThConfigure_apply, cmdThConfigure_op, applyThConfigure]
    exact complete_of_eq ((if_neg (by rw [hkind]; decide)).trans (if_pos hkind)) _ _ _ _
  case zone =>
    intro q u htakes
    have hkind : pu q 0 1 = 2 := pu_withByte r 0 2
    rw [exec_of_takes hs rfl htakes, cmdThConfigure_apply, cmdThConfigure_op, applyThConfigure]
    exact complete_of_eq ((if_neg (by rw [hkind]; decide)).trans (if_neg (by rw [hkind]; decide))) _ _ _ _

end Sys2Proof.Proofs
end

section
/-!
The commands of capture, faults, the recorder, the two-wire buses and the boot (R494 to R511, R591 to R594, R600 to
R620, R650 to R652, R668 to R679); O33 to O37.
-/

namespace Sys2Proof.Machine

/-- TWB_CONFIGURE of a bus that was on and stays on stores the settings; with CLEAR the bus clear begins or is due. -/
theorem applyTwbConfigure_of_on {ref : CmdRef} {r : Request} {s : State} (hon : flag r 0 0 = true)
    (hwas : (s.twbSet (instOf r)).enable = true) (hkept : (s.twbOf (instOf r)).disabling = false) :
    applyTwbConfigure ref r s =
      (let v := s.withSet { s.set with twb := Table.set {} s.set.twb (instOf r) (twbOfRequest r) }
       if flag r 0 3 then
         if (v.twbOf (instOf r)).idle then v.beginClear (instOf r) (some ref) false
         else v.modTwb (instOf r) (fun x => { x with clearDue := some (some ref, false) })
       else v.complete ref 0 0 0) := by
  simp only [State.twbOf] at hkept
  simp only [applyTwbConfigure, twbOfRequest, State.twbOf, hon, hwas, hkept, Bool.not_true, Bool.not_false,
    Bool.true_and, if_true, if_false, Bool.false_eq_true]
  rfl

end Sys2Proof.Machine

namespace Sys2Proof.Proofs
open Sys2Proof Sys2Proof.Machine

/-- Settles O33: CAP_START by its slot, CAP_STOP by what runs on it. -/
theorem captureCommandsComplete : Obligations.CaptureCommandsComplete := by
  unfold Obligations.CaptureCommandsComplete
  intro s₀ dt r
  generalize hs : s₀.advance dt = s
  refine ⟨?configure, ?startBuffer, ?startStream, ?stopIdle, ?stopStream, ?stopBuffer, ?stopTrigger, ?read⟩
  case configure =>
    intro u htakes
    rw [exec_of_takes hs rfl htakes, cmdCapConfigure_apply, cmdCapConfigure_op, applyCapConfigure]
    rfl
  case startBuffer =>
    intro u htakes hslot
    rw [exec_of_takes hs rfl htakes, cmdCapStart_apply, cmdCapStart_op]
    show Host.Outcome.next (applyCapStart (s.nextRef r) r u) = _
    clear_value u
    simp only [applyCapStart, hslot, if_true]
  case startStream =>
    intro u htakes ep hslot
    rw [exec_of_takes hs rfl htakes, cmdCapStart_apply, cmdCapStart_op, applyCapStart]
    exact congrArg Host.Outcome.next (if_neg hslot)
  case stopIdle =>
    intro u htakes hidle
    have hstopped : (!u.slotRuns (instOf r)) = true := by simp only [hidle, Bool.not_false]
    rw [exec_of_takes hs rfl htakes, cmdCapStop_apply, cmdCapStop_op, applyCapStop]
    exact complete_of_eq (if_pos hstopped) _ _ _ _
  case stopStream =>
    intro u htakes hruns hslot
    rw [exec_of_takes hs rfl htakes, cmdCapStop_apply, cmdCapStop_op]
    show Host.Outcome.next (applyCapStop (s.nextRef r) r u) = _
    clear_value u
    simp only [applyCapStop, hruns, hslot, Bool.not_true, if_true, if_false, ne_eq, not_false_eq_true,
      Bool.false_eq_true]
    rfl
  case stopBuffer =>
    intro u htakes hruns hslot htrigger
    rw [exec_of_takes hs rfl htakes, cmdCapStop_apply, cmdCapStop_op]
    show Host.Outcome.next (applyCapStop (s.nextRef r) r u) = _
    clear_value u
    rw [hslot] at hruns
    simp only [applyCapStop, hruns, hslot, htrigger, Bool.not_true, if_false, ne_eq, not_true_eq_false,
      Bool.false_eq_true]
    rfl
  case stopTrigger =>
    intro u htakes hruns hslot htrigger
    rw [exec_of_takes hs rfl htakes, cmdCapStop_apply, cmdCapStop_op]
    show Host.Outcome.next (applyCapStop (s.nextRef r) r u) = _
    clear_value u
    rw [hslot] at hruns
    simp only [applyCapStop, hruns, hslot, htrigger, Bool.not_true, if_true, if_false, ne_eq, not_true_eq_false,
      Bool.false_eq_true]
    rfl
  case read =>
    intro u htakes bytes
    rw [exec_of_takes hs rfl htakes, cmdCapRead_apply, cmdCapRead_op, applyCapRead]
    rfl

/-- Settles O34: FLT_CONFIGURE and FLT_FORCE by their KIND, and FLT_ACK. -/
theorem faultCommandsComplete : Obligations.FaultCommandsComplete := by
  unfold Obligations.FaultCommandsComplete
  intro s₀ dt r
  generalize hs : s₀.advance dt = s
  refine ⟨?severity, ?alive, ?ack, ?pulse, ?hold, ?release⟩
  case severity =>
    intro q u htakes
    have hkind : pu q 0 1 = 0 := pu_withByte r 0 0
    rw [exec_of_takes hs rfl htakes, cmdFltConfigure_apply, cmdFltConfigure_op, applyFltConfigure]
    exact congrArg Host.Outcome.next (if_pos hkind)
  case alive =>
    intro q u htakes v
    have hkind : ¬pu q 0 1 = 0 := by rw [show pu q 0 1 = 1 from pu_withByte r 0 1]; decide
    rw [exec_of_takes hs rfl htakes, cmdFltConfigure_apply, cmdFltConfigure_op]
    show Host.Outcome.next (applyFltConfigure (s.nextRef q) q u) = _
    subst v
    clear_value u
    simp only [applyFltConfigure, if_neg hkind, Bool.not_eq_true', ← Bool.not_eq_true, ite_not]
    rfl
  case ack =>
    intro u htakes v
    rw [exec_of_takes hs rfl htakes, cmdFltAck_apply, cmdFltAck_op, applyFltAck]
    rfl
  case pulse =>
    intro q u htakes d v
    have hkind : pu q 0 1 = 0 := pu_withByte r 0 0
    rw [exec_of_takes hs rfl htakes, cmdFltForce_apply, cmdFltForce_op]
    show Host.Outcome.next (applyFltForce (s.nextRef q) q u) = _
    subst v d
    clear_value u
    simp only [applyFltForce, hkind, OfNat.zero_ne_ofNat, zero_ne_one, if_false]
    rfl
  case hold =>
    intro q u htakes d v w
    have hkind : pu q 0 1 = 1 := pu_withByte r 0 1
    rw [exec_of_takes hs rfl htakes, cmdFltForce_apply, cmdFltForce_op]
    show Host.Outcome.next (applyFltForce (s.nextRef q) q u) = _
    subst w v d
    clear_value u
    simp only [applyFltForce, hkind, OfNat.one_ne_ofNat, if_true, if_false]
    rfl
  case release =>
    intro q u htakes
    have hkind : pu q 0 1 = 2 := pu_withByte r 0 2
    rw [exec_of_takes hs rfl htakes, cmdFltForce_apply, cmdFltForce_op, applyFltForce]
    exact congrArg Host.Outcome.next (if_pos hkind)

/-- Settles O35: REC_FREEZE by its bit and the freeze in force, REC_SET_HOSTTIME by whether the time changes. -/
theorem recorderCommandsComplete : Obligations.RecorderCommandsComplete := by
  unfold Obligations.RecorderCommandsComplete
  intro s₀ dt r
  generalize hs : s₀.advance dt = s
  refine ⟨?freeze, ?release, ?releaseIdle, ?read, ?sameTime, ?newTime, ?arm, ?clear⟩
  case freeze =>
    intro q u htakes
    have hfreeze : flag q 0 0 = true := flag_withBit_same r 0 true (by decide)
    rw [exec_of_takes hs rfl htakes, cmdRecFreeze_apply, cmdRecFreeze_op, applyRecFreeze, if_pos hfreeze]
    rfl
  case release =>
    intro q u htakes hfrozen
    have hfreeze : flag q 0 0 = false := flag_withBit_same r 0 false (by decide)
    rw [exec_of_takes hs rfl htakes, cmdRecFreeze_apply, cmdRecFreeze_op, applyRecFreeze, hfreeze,
      if_neg Bool.false_ne_true]
    exact congrArg Host.Outcome.next (if_pos hfrozen)
  case releaseIdle =>
    intro q u htakes hfrozen
    have hfreeze : flag q 0 0 = false := flag_withBit_same r 0 false (by decide)
    rw [exec_of_takes hs rfl htakes, cmdRecFreeze_apply, cmdRecFreeze_op, applyRecFreeze, hfreeze,
      if_neg Bool.false_ne_true]
    exact congrArg Host.Outcome.next (if_neg (by rw [hfrozen]; exact Bool.false_ne_true))
  case read =>
    intro u htakes rs
    rw [exec_of_takes hs rfl htakes, cmdRecRead_apply, cmdRecRead_op]
    show Host.Outcome.next (applyRecRead (s.nextRef r) r u) = _
    subst rs
    simp only [applyRecRead]
    generalize u.readRecords (pu r 0 1) (pu r 1 1) (pu r 4 4) (pu r 16 4) = rs
    cases rs with
    | nil => rfl
    | cons e es => rfl
  case sameTime =>
    intro u htakes hvalid hsame
    rw [exec_of_takes hs rfl htakes, cmdHosttime_apply, cmdHosttime_op, applyHosttime]
    exact congrArg Host.Outcome.next (if_pos ⟨hvalid, hsame⟩)
  case newTime =>
    intro u htakes v hnew
    have hchange : ¬(u.store.hostValid = true ∧ v = u.store.hostOfs) := by
      rintro ⟨hvalid, hsame⟩
      cases hnew with
      | inl hinvalid => exact Bool.false_ne_true (hinvalid.symm.trans hvalid)
      | inr hother => exact hother hsame
    rw [exec_of_takes hs rfl htakes, cmdHosttime_apply, cmdHosttime_op, applyHosttime]
    exact congrArg Host.Outcome.next (if_neg hchange)
  case arm =>
    intro u htakes
    rw [exec_of_takes hs rfl htakes, cmdClearArm_apply, cmdClearArm_op, applyClearArm]
    rfl
  case clear =>
    intro u htakes
    rw [exec_of_takes hs rfl htakes, cmdClearExec_apply, cmdClearExec_op, applyClearExec]
    rfl

/-- Settles O36: TWB_CONFIGURE by whether the bus is and was on, with CLEAR by whether it is idle, and TWB_TRANSFER
by its OP. -/
theorem busCommandsComplete : Obligations.BusCommandsComplete := by
  unfold Obligations.BusCommandsComplete
  intro s₀ dt r
  generalize hs : s₀.advance dt = s
  refine ⟨?staysOff, ?off, ?staysOn, ?on, ?clear, ?clearLater, ?transfer, ?attention, ?attentionWaits⟩
  case staysOff =>
    intro u htakes k v hoff hwas
    rw [exec_of_takes hs rfl htakes, cmdTwbConfigure_apply, cmdTwbConfigure_op]
    show Host.Outcome.next (applyTwbConfigure (s.nextRef r) r u) = _
    subst k v
    clear_value u
    simp only [applyTwbConfigure, twbOfRequest, hoff, hwas, Bool.not_false, if_true, if_false, Bool.false_eq_true]
    rfl
  case off =>
    intro u htakes k v hoff hwas
    rw [exec_of_takes hs rfl htakes, cmdTwbConfigure_apply, cmdTwbConfigure_op]
    show Host.Outcome.next (applyTwbConfigure (s.nextRef r) r u) = _
    subst v k
    clear_value u
    simp only [applyTwbConfigure, twbOfRequest, hoff, hwas, Bool.not_false, if_true]
    rfl
  case staysOn =>
    intro u htakes k v hon hwas hkept hclear
    rw [exec_of_takes hs rfl htakes, cmdTwbConfigure_apply, cmdTwbConfigure_op, applyTwbConfigure_of_on hon hwas hkept]
    exact congrArg Host.Outcome.next (if_neg (Bool.eq_false_iff.mp hclear))
  case on =>
    intro u htakes k v low w hon hwas hclear
    rw [exec_of_takes hs rfl htakes, cmdTwbConfigure_apply, cmdTwbConfigure_op]
    show Host.Outcome.next (applyTwbConfigure (s.nextRef r) r u) = _
    subst w low v k
    clear_value u
    simp only [applyTwbConfigure, twbOfRequest, hon, hwas, hclear, Bool.not_true, Bool.false_and, if_false,
      Bool.false_eq_true]
    rfl
  case clear =>
    intro q u htakes k v hon hwas hkept hidle
    have hclear : flag q 0 3 = true := flag_withBit_same r 0 true (by decide)
    rw [exec_of_takes hs rfl htakes, cmdTwbConfigure_apply, cmdTwbConfigure_op, applyTwbConfigure_of_on hon hwas hkept]
    exact congrArg Host.Outcome.next ((if_pos hclear).trans (if_pos hidle))
  case clearLater =>
    intro q u htakes k v hon hwas hkept hidle
    have hclear : flag q 0 3 = true := flag_withBit_same r 0 true (by decide)
    rw [exec_of_takes hs rfl htakes, cmdTwbConfigure_apply, cmdTwbConfigure_op, applyTwbConfigure_of_on hon hwas hkept]
    exact congrArg Host.Outcome.next ((if_pos hclear).trans (if_neg (Bool.eq_false_iff.mp hidle)))
  case transfer =>
    intro u htakes hop
    rw [exec_of_takes hs rfl htakes, cmdTwbTransfer_apply, cmdTwbTransfer_op, applyTwbTransfer]
    exact congrArg Host.Outcome.next (if_neg hop)
  case attention =>
    intro q u htakes a rest hattn
    have hop : pu q 0 1 = 3 := pu_withByte r 0 3
    rw [exec_of_takes hs rfl htakes, cmdTwbTransfer_apply, cmdTwbTransfer_op]
    show Host.Outcome.next (applyTwbTransfer (s.nextRef q) q u) = _
    clear_value u
    simp only [applyTwbTransfer, hop, hattn, if_true]
    rfl
  case attentionWaits =>
    intro q u htakes hattn
    have hop : pu q 0 1 = 3 := pu_withByte r 0 3
    rw [exec_of_takes hs rfl htakes, cmdTwbTransfer_apply, cmdTwbTransfer_op]
    show Host.Outcome.next (applyTwbTransfer (s.nextRef q) q u) = _
    clear_value u
    simp only [applyTwbTransfer, hop, hattn, if_true]
    rfl

/-- Settles O37: each command's effect. -/
theorem bootCommandsComplete : Obligations.BootCommandsComplete := by
  unfold Obligations.BootCommandsComplete
  intro s₀ dt r
  generalize hs : s₀.advance dt = s
  refine ⟨?ledger, ?update⟩
  case ledger =>
    intro u htakes es
    rw [exec_of_takes hs rfl htakes, cmdLedgerRead_apply, cmdLedgerRead_op]
    show Host.Outcome.next (applyLedgerRead (s.nextRef r) r u) = _
    subst es
    clear_value u
    simp only [applyLedgerRead]
    generalize (u.store.ledger.reverse.filter (fun e => decide (pu r 0 4 ≤ e.bootNum))).take (pu r 4 2) = es
    cases es with
    | nil => rfl
    | cons e es => rfl
  case update =>
    intro u htakes
    rw [exec_of_takes hs rfl htakes, cmdFwUpdate_apply, cmdFwUpdate_op, applyFwUpdate]
    rfl

end Sys2Proof.Proofs
end

section
/-!
What happens in the converters, the attenuators, the sub-bands and the canceller (R100 to R137, R180 to R216, R233 to
R259); O38 to O41.
-/

namespace Sys2Proof.Proofs
open Sys2Proof Sys2Proof.Machine

/-- Settles O38: a swap, a fault and an episode by the state of the chain. -/
theorem converterEventsComplete : Obligations.ConverterEventsComplete := by
  unfold Obligations.ConverterEventsComplete
  intro s₀ dt
  generalize hs : s₀.advance dt = s
  refine ⟨?swap, ?swapSkipped, ?swapFails, ?fault, ?overrangeStart, ?overrangeGoesOn, ?overrangeEnd⟩
  case swap =>
    intro c m hpass hc hrun hdue hquiet
    show execSliceSwap dt c m s₀ = _
    simp only [execSliceSwap, hs, hpass, hc, hrun, hdue, hquiet, and_self, if_true, if_false, Bool.false_eq_true]
    rfl
  case swapSkipped =>
    intro c m hc hrun hdue hactive
    show execSliceSwap dt c m s₀ = _
    have hnow : (s.cnvOf c).swapDue ≤ s.now := (Nat.le_add_right _ swapPeriod).trans hdue
    simp [execSliceSwap, hs, hc, hrun, hdue, hactive, hnow]
  case swapFails =>
    intro c m t hfail hc hrun hdue hquiet
    show execSliceSwap dt c m s₀ = _
    subst t
    simp only [execSliceSwap, hs, hfail, hc, hrun, hdue, hquiet, and_self, if_true, if_false, Bool.false_eq_true]
    rfl
  case fault =>
    intro c slice kind hc hslice hstate hserves hin
    show execSliceFault dt c slice kind s₀ = _
    simp only [execSliceFault, hs, hc, hslice, hstate, hserves, hin, and_self, if_true, Bool.not_false]
    rfl
  case overrangeStart =>
    intro c slices t hc hstate hquiet
    show execOverrangeStart dt c slices s₀ = _
    subst t
    simp [execOverrangeStart, hs, hc, hstate, hquiet]
  case overrangeGoesOn =>
    intro c slices hc hactive
    show execOverrangeStart dt c slices s₀ = _
    simp [execOverrangeStart, hs, hc, hactive]
  case overrangeEnd =>
    intro c slices t hc hactive
    show execOverrangeEnd dt c slices s₀ = _
    subst t
    simp [execOverrangeEnd, hs, hc, hactive]

/-- Settles O39: a fast step by whether the chain may take one and by its peak, a clip, a hold and the store by their
times. -/
theorem attenuatorEventsComplete : Obligations.AttenuatorEventsComplete := by
  unfold Obligations.AttenuatorEventsComplete
  intro s₀ dt
  generalize hs : s₀.advance dt = s
  refine ⟨?firstStep, ?nextStep, ?noStep, ?notBelow, ?release, ?testTakes, ?clip, ?holdBegins, ?holdEnds, ?trims⟩
  case firstStep =>
    intro c magnitude hmay hthr hmax hrested
    show execFastStepTake dt c magnitude s₀ = _
    simp [execFastStepTake, hs, hmay, hthr, hmax, hrested]
  case nextStep =>
    intro c magnitude t hmay hthr hmax hstep hrested
    show execFastStepTake dt c magnitude s₀ = _
    simp [execFastStepTake, hs, hmay, hthr, hmax, hstep, hrested]
  case noStep =>
    intro c magnitude hmay hc hsteps hthr
    show execFastStepTake dt c magnitude s₀ = _
    simp [execFastStepTake, hs, hmay, hc, hsteps, hthr]
  case notBelow =>
    intro c peak st hc hlistens hnewest hhigh
    show execFastStepRelease dt c peak s₀ = _
    have hagain : (s.cnvOf c).ovrActive = true ∨ (!belowRelease peak st.thr st.stepCal (s.attOf c).hystDb) = true :=
      hhigh.imp_right (fun h => by rw [h]; rfl)
    simp only [execFastStepRelease, hs, hc, hlistens, hnewest, if_pos hagain, and_self, if_false,
      Bool.false_eq_true, Bool.not_true, decide_true]
  case release =>
    intro c peak st t hc hlistens hnewest hquiet hbelow hheld
    show execFastStepRelease dt c peak s₀ = _
    subst t
    simp only [execFastStepRelease, hs, hc, hlistens, hnewest, hquiet, hbelow, hheld, or_self, and_self, if_true,
      if_false, Bool.false_eq_true, Bool.not_true, decide_true]
    rfl
  case testTakes =>
    intro c peak u t hc hlistens htest hdue hmay hpeak hnot
    show execFastStepStartTest dt c peak s₀ = _
    subst t
    simp [execFastStepStartTest, hs, hc, hlistens, htest, hdue, hmay, hpeak, hnot]
  case clip =>
    intro c hc hbegun
    show execDacClipEpisode dt c s₀ = _
    simp [execDacClipEpisode, hs, hc, hbegun]
  case holdBegins =>
    intro c hc htransmits hquiet
    show execDacCalHold dt c s₀ = _
    simp [execDacCalHold, hs, hc, htransmits, hquiet]
  case holdEnds =>
    intro c hc hquiet
    show execCalHoldEnd dt c s₀ = _
    simp [execCalHoldEnd, hs, hc, hquiet]
  case trims =>
    intro hstate hruns hdue
    show execTrimStore dt s₀ = _
    simp [execTrimStore, hs, hstate, hruns, hdue]

/-- Settles O40: what waits, at its sample. -/
theorem subbandEventsComplete : Obligations.SubbandEventsComplete := by
  unfold Obligations.SubbandEventsComplete
  intro s₀ dt
  generalize hs : s₀.advance dt = s
  refine ⟨?retune, ?fadeEnd, ?hard, ?reset, ?ramp, ?load⟩
  case retune =>
    intro g w rest hwait hdue
    show execRetuneApply dt g s₀ = _
    simp [execRetuneApply, hs, hwait, hdue]
  case fadeEnd =>
    intro g a b hg hrx hrxOver htx htxOver
    show execCrossFadeEnd dt g s₀ = _
    simp [execCrossFadeEnd, hs, hg, hrx, hrxOver, htx, htxOver]
  case hard =>
    intro g w hwait hdue
    show execHardSwitchOutput dt g s₀ = _
    simp [execHardSwitchOutput, hs, hwait, hdue]
  case reset =>
    intro g w rest hwait hdue
    show execSyncResetSample dt g s₀ = _
    simp [execSyncResetSample, hs, hwait, hdue]
  case ramp =>
    intro g t cmd hg hramp hdue
    show execDisableRampEnd dt g s₀ = _
    simp [execDisableRampEnd, hs, hg, hramp, hdue]
  case load =>
    intro g l rest hwait
    show execCoefLoadEnd dt g s₀ = _
    simp only [execCoefLoadEnd, hs, hwait]

/-- Settles O41: the end of a block, a partition boundary, a move and a read. -/
theorem cancellerEventsComplete : Obligations.CancellerEventsComplete := by
  unfold Obligations.CancellerEventsComplete
  intro s₀ dt
  generalize hs : s₀.advance dt = s
  refine ⟨?block, ?acquired, ?partition, ?moved, ?moveLate, ?read⟩
  case block =>
    intro g m act measuring used causes spectra t hg hnb hruns hended
    show execCancellerBlockEnd dt g m s₀ = _
    subst t spectra causes used measuring act
    simp only [execCancellerBlockEnd, hs, hg, hnb, hruns, hended, and_self, if_true, ne_eq]
  case acquired =>
    intro g hmode hdue
    show execAcqMsExpiry dt g s₀ = _
    simp [execAcqMsExpiry, hs, hmode, hdue]
  case partition =>
    intro g v t hg hnb hruns hwindow hboundary
    show execPartitionBoundary dt g s₀ = _
    subst t v
    simp only [execPartitionBoundary, hs, hg, hnb, hruns, hwindow, hboundary, and_self, if_true]
    rfl
  case moved =>
    intro g b t hmoving
    show execMapMoveEnd dt g s₀ = _
    simp only [execMapMoveEnd, hs, hmoving]
  case moveLate =>
    intro g b t hmoving hdue
    show execCanMove dt g s₀ = _
    simp [execCanMove, hs, hmoving, hdue]
  case read =>
    intro g m rest hreading htaken
    show execMapReadEnd dt g s₀ = _
    have hready : ¬(m.data.isNone = true ∧ s.outputsRun g = true) := by
      rintro ⟨hwaits, hruns⟩
      cases htaken with
      | inl htaken => exact Bool.false_ne_true (htaken.symm.trans hwaits)
      | inr hrests => exact Bool.false_ne_true (hrests.symm.trans hruns)
    simp only [execMapReadEnd, hs, hreading, if_neg hready]

end Sys2Proof.Proofs
end

section
/-!
What happens in the governor, the control engine and the timing groups (R263 to R296, R301 to R347, R358 to R393);
O42 to O45.
-/

namespace Sys2Proof.Proofs
open Sys2Proof Sys2Proof.Machine

/-- Settles O42: the end of a block, a trip, a hold and a probe by their times. -/
theorem governorEventsComplete : Obligations.GovernorEventsComplete := by
  unfold Obligations.GovernorEventsComplete
  intro s₀ dt
  generalize hs : s₀.advance dt = s
  refine ⟨?block, ?trip, ?tripMutes, ?clampEnds, ?holdoffEnds, ?capEnds, ?probeStarts, ?probeEnds, ?probeResumes,
    ?probeSuspends, ?isoStored⟩
  case block =>
    intro g m t hg hruns hon hended
    show execGovernorBlockEnd dt g m s₀ = _
    subst t
    simp only [execGovernorBlockEnd, hs, hg, hruns, hon, hended, and_self, if_true, Bool.not_false]
    rfl
  case trip =>
    intro g t hg hlistens henabled hunmuted htripped hfew
    rw [show exec (.oscillationTrip dt g) s₀ = execOscillationTrip dt g s₀ from rfl, execOscillationTrip, hs]
    exact congrArg Host.Outcome.next ((if_pos ⟨hg, hlistens, henabled, by rw [hunmuted]; rfl, htripped⟩).trans
      (if_neg (Nat.not_le.mpr hfew)))
  case tripMutes =>
    intro g t hg hlistens henabled hunmuted htripped hmany
    rw [show exec (.oscillationTrip dt g) s₀ = execOscillationTrip dt g s₀ from rfl, execOscillationTrip, hs]
    exact congrArg Host.Outcome.next ((if_pos ⟨hg, hlistens, henabled, by rw [hunmuted]; rfl, htripped⟩).trans
      (if_pos hmany))
  case clampEnds =>
    intro g c t hclamp hdue
    show execClampHoldEnd dt g s₀ = _
    simp [execClampHoldEnd, hs, hclamp, hdue]
  case holdoffEnds =>
    intro g t hstate hholdoff hdue hruns
    show execHoldoffEnd dt g s₀ = _
    simp [execHoldoffEnd, hs, hstate, hholdoff, hdue, hruns]
  case capEnds =>
    intro g t hcap hcounted
    show execRestartCapRemoval dt g s₀ = _
    have hlong (n : Nat) : failWindow ≤ (s.govOf g).capRepeat + n := hcounted.trans (Nat.le_add_right _ n)
    subst t
    simp [execRestartCapRemoval, hs, hcap, hlong]
  case probeStarts =>
    intro g t hg hauto hradio henabled hon hunmuted hnone hfloor hsince hdue
    show execProbeAutoStart dt g s₀ = _
    simp [execProbeAutoStart, hs, hg, hauto, hradio, henabled, hon, hunmuted, hnone, hfloor, hsince, hdue]
  case probeEnds =>
    intro g p t hprobe hdue
    show execProbeEnd dt g s₀ = _
    subst t
    simp [execProbeEnd, hs, hprobe, hdue]
  case probeResumes =>
    intro g
    show execProbeResume dt g s₀ = _
    simp only [execProbeResume, hs]
  case probeSuspends =>
    intro g hdrowned
    show execProbeSuspend dt g s₀ = _
    simp [execProbeSuspend, hs, hdrowned]
  case isoStored =>
    intro hruns hdue
    show execIsoStore dt s₀ = _
    simp [execIsoStore, hs, hruns, hdue]

/-- Settles O43: a tick, a timer, a set point and an injection at their times. -/
theorem controlEventsComplete : Obligations.ControlEventsComplete := by
  unfold Obligations.ControlEventsComplete
  intro s₀ dt
  generalize hs : s₀.advance dt = s
  refine ⟨?tick, ?plaus, ?setPoint, ?fixedGain, ?injection⟩
  case tick =>
    intro missed hlistens hnew
    show execControlTick dt missed s₀ = _
    simp [execControlTick, hs, hlistens, hnew]
  case plaus =>
    intro c t hc htimer hdue hnew
    show execPlausTimerExpiry dt c s₀ = _
    simp [execPlausTimerExpiry, hs, hc, htimer, hdue, hnew]
  case setPoint =>
    intro loop w t hwait hloop hthere
    show execSetPointArrived dt loop 0 s₀ = _
    subst t
    simp [execSetPointArrived, hs, hwait, hloop, hthere]
  case fixedGain =>
    intro loop w t hwait hloop hthere
    show execSetPointArrived dt loop 1 s₀ = _
    subst t
    simp [execSetPointArrived, hs, hwait, hloop, hthere]
  case injection =>
    intro loop j hinj hdone
    show execInjectionEnd dt loop s₀ = _
    simp [execInjectionEnd, hs, hinj, hdone]

/-- Settles O44: a signal of the source, its silence and the end of holdover by the state of the synchronisation. -/
theorem timingEventsComplete : Obligations.TimingEventsComplete := by
  unfold Obligations.TimingEventsComplete
  intro s₀ dt
  generalize hs : s₀.advance dt = s
  refine ⟨?acquired, ?againLocked, ?againBegins, ?measured, ?measuredHoldover, ?measuredFar, ?missing, ?heard,
    ?lost, ?neverHeard, ?expires⟩
  case acquired =>
    intro grp frameTick sfn err hgrp henable hsource hpresent hwaits hready
    show execSyncAcquired dt grp frameTick sfn err s₀ = _
    simp [execSyncAcquired, hs, henable, hsource, hpresent, hwaits, hready, Nat.not_le.mpr hgrp]
  case againLocked =>
    intro grp frameTick sfn err hgrp henable hsource hpresent hsync hclose
    show execSyncAcquired dt grp frameTick sfn err s₀ = _
    simp only [execSyncAcquired, hs, henable, hsource, hpresent, hsync, hclose, Nat.not_le.mpr hgrp,
      Nat.reduceEqDiff, or_self, if_true, if_false, Bool.false_eq_true, Bool.not_true]
    rfl
  case againBegins =>
    intro grp frameTick sfn err hgrp henable hsource hpresent hsync hfar
    show execSyncAcquired dt grp frameTick sfn err s₀ = _
    simp [execSyncAcquired, hs, henable, hsource, hpresent, hsync, Nat.not_le.mpr hgrp, Nat.not_le.mpr hfar]
  case measured =>
    intro grp err hgrp henable hsource hpresent hsync hclose hnear
    show execSyncMeasurement dt grp err s₀ = _
    simp only [execSyncMeasurement, hs, henable, hsource, hpresent, hsync, hnear, Nat.not_le.mpr hgrp,
      Nat.not_lt.mpr hclose, Nat.reduceEqDiff, or_self, or_false, if_false, Bool.false_eq_true, Bool.not_true,
      decide_true]
    rfl
  case measuredHoldover =>
    intro grp err hgrp henable hsource hpresent hsync hclose hnear
    show execSyncMeasurement dt grp err s₀ = _
    simp [execSyncMeasurement, hs, henable, hsource, hpresent, hsync, hnear, Nat.not_le.mpr hgrp, Nat.not_lt.mpr hclose]
  case measuredFar =>
    intro grp err hgrp henable hsource hpresent hsync hfar hnear
    show execSyncMeasurement dt grp err s₀ = _
    simp [execSyncMeasurement, hs, henable, hsource, hpresent, hsync, hfar, hnear, Nat.not_le.mpr hgrp]
  case missing =>
    intro grp err hgrp henable hsource hpresent hsync hmissing
    show execSyncMeasurement dt grp err s₀ = _
    simp [execSyncMeasurement, hs, henable, hsource, hpresent, hsync, hmissing, Nat.not_le.mpr hgrp]
  case heard =>
    intro grp err hgrp henable hsource hpresent hnot2 hnot3
    show execSyncMeasurement dt grp err s₀ = _
    simp [execSyncMeasurement, hs, henable, hsource, hpresent, hnot2, hnot3, Nat.not_le.mpr hgrp]
  case lost =>
    intro grp q t hgrp hsync hsource hheard hsilent
    show execSyncLoss dt grp s₀ = _
    subst t
    simp [execSyncLoss, hs, hgrp, hsync, hsource, hheard, hsilent]
  case neverHeard =>
    intro grp t hgrp hsync hsource hheard
    show execSyncLoss dt grp s₀ = _
    subst t
    simp [execSyncLoss, hs, hgrp, hsync, hsource, hheard]
  case expires =>
    intro grp hgrp hsync hdue
    show execHoldoverExpiry dt grp s₀ = _
    simp [execHoldoverExpiry, hs, hgrp, hsync, hdue]

/-- Settles O45: the start of a gating frame, a gate edge and the end of learning. -/
theorem gatingEventsComplete : Obligations.GatingEventsComplete := by
  unfold Obligations.GatingEventsComplete
  intro s₀ dt
  generalize hs : s₀.advance dt = s
  refine ⟨?frame, ?edge, ?learn⟩
  case frame =>
    intro grp hgrp hsync hdue
    show execGatingFrameStart dt grp s₀ = _
    simp only [execGatingFrameStart, hs, hsync, Nat.not_le.mpr hgrp, Int.not_lt.mpr hdue, or_self, if_false,
      Bool.false_eq_true, Bool.not_true, decide_true]
    rfl
  case edge =>
    intro grp uplink opened beam hgrp henable hgating hsync
    show execGateEdge dt grp uplink opened beam s₀ = _
    simp only [execGateEdge, hs, hgrp, henable, hgating, hsync, and_self, if_true, ne_eq]
    rfl
  case learn =>
    intro grp counts hgrp hsync hlearning hdl hul hruns
    show execTddLearn dt grp counts s₀ = _
    simp [execTddLearn, hs, hgrp, hsync, hlearning, hdl, hul, hruns]

end Sys2Proof.Proofs
end

section
/-!
What happens in the protection, the PA sequences, the pulse generators and monitors, the housekeeping converter and the
thermal supervision (R382 to R477); O46 to O50.
-/

namespace Sys2Proof.Machine

/-- An evaluation of regrowth that is due and valid takes the worst ratio it measured (R387 to R389). -/
theorem execRegrowthEvaluation_valid {s₀ s : State} {dt c gathered : Nat} {meas : List AclrMeas} {aclr : CentiDb}
    (hs : s₀.advance dt = s) (hc : c < 8) (htransmits : s.transmits c = true)
    (hdue : s.due100 (s.regrowthOf c).evalAt = true) (hworst : (s.regrowthBegins c).worstAclr c meas = some aclr)
    (hgathered : hundredMicros ≤ gathered) (hon : ((s.regrowthBegins c).npChain c).regrowthEn = true)
    (hpower : -671088640 ≤ ((s.regrowthBegins c).plausOf c).pComp) :
    execRegrowthEvaluation dt c gathered meas s₀ = .next ((s.regrowthBegins c).regrow c aclr) := by
  simp [execRegrowthEvaluation, hs, htransmits, hdue, hworst, hgathered, hon, hpower, Nat.not_le.mpr hc]

/-- What a valid ratio changes: below the limit, and from the limit on by whether it is 3 dB above it and the tenth. -/
theorem State.regrow_below {s : State} {c : Nat} {aclr : CentiDb} (hlow : aclr < ((s.npChain c).aclrLim * 100 : Nat)) :
    s.regrow c aclr =
      (let x := s.regrowthOf c
       let n := if (s.npChain c).regrowthMax * 10 ≤ x.db then x.overRun + 1 else 0
       let t : State := { s with regrowth := Table.set {} s.regrowth c { x with
         db := max x.db (min (x.db + 10) ((s.npChain c).regrowthMax * 10)), clean := 0, overRun := n } }
       if n = 10 then t.raise 26 c 0 true else t) := by
  simp only [State.regrow, hlow, decide_eq_true_eq, if_true]

theorem State.regrow_above {s : State} {c : Nat} {aclr : CentiDb} (hlim : ((s.npChain c).aclrLim * 100 : Nat) ≤ aclr) :
    s.regrow c aclr =
      (let x := s.regrowthOf c
       let t := if 10 ≤ x.overRun then s.ends 26 c else s
       let y : Regrowth := if (((s.npChain c).aclrLim + 3) * 100 : Nat) ≤ aclr then
         (if x.clean + 1 = 10 then { x with db := x.db - 5, clean := 0, overRun := 0 }
           else { x with clean := x.clean + 1, overRun := 0 })
         else { x with clean := 0, overRun := 0 }
       { t with regrowth := Table.set {} t.regrowth c y }) := by
  simp only [State.regrow, Int.not_lt.mpr hlim, if_false]
  split
  · split <;> rfl
  · rfl

end Sys2Proof.Machine

namespace Sys2Proof.Proofs
open Sys2Proof Sys2Proof.Machine

/-- Settles O46: an evaluation by whether it is due, valid and within the limit, and MUTE_N by its level. -/
theorem protectionEventsComplete : Obligations.ProtectionEventsComplete := by
  unfold Obligations.ProtectionEventsComplete
  intro s₀ dt
  generalize hs : s₀.advance dt = s
  refine ⟨?evaluation, ?donorLost, ?donorBack, ?notDue, ?notValid, ?below, ?tenthAbove, ?above, ?between,
    ?muteFalls, ?muteRises⟩
  case evaluation =>
    intro levels hlistens hdue
    show execNpEvaluation dt levels s₀ = _
    simp [execNpEvaluation, hs, hlistens, hdue]
  case donorLost =>
    intro band t hband hlistens hen hunmuted hsince hdue
    show execDonorLossMute dt band s₀ = _
    simp [execDonorLossMute, hs, hband, hlistens, hen, hunmuted, hsince, hdue]
  case donorBack =>
    intro band t hband hlistens hmuted hsince hdue
    show execDonorRelease dt band s₀ = _
    simp [execDonorRelease, hs, hband, hlistens, hmuted, hsince, hdue]
  case notDue =>
    intro c gathered meas hidle
    show execRegrowthEvaluation dt c gathered meas s₀ = _
    have hskip : 8 ≤ c ∨ (!s.transmits c) = true ∨ (!s.due100 (s.regrowthOf c).evalAt) = true :=
      Or.inr (hidle.imp (fun h => by rw [h]; rfl) (fun h => by rw [h]; rfl))
    simp only [execRegrowthEvaluation, hs, if_pos hskip]
  case notValid =>
    intro c gathered meas u x hc htransmits hdue hinvalid
    show execRegrowthEvaluation dt c gathered meas s₀ = _
    subst x u
    simp only [execRegrowthEvaluation, hs, htransmits, hdue, Nat.not_le.mpr hc, or_self, if_false,
      Bool.false_eq_true, Bool.not_true]
    cases hworst : (s.regrowthBegins c).worstAclr c meas with
    | none => rfl
    | some aclr =>
      refine congrArg Host.Outcome.next (if_neg ?_)
      rintro ⟨hgathered, hon, hpower⟩
      obtain hnone | hshort | hoff | hlow := hinvalid
      · cases hnone.symm.trans hworst
      · exact Nat.not_le.mpr hshort hgathered
      · exact Bool.false_ne_true (hoff.symm.trans hon)
      · exact Int.not_le.mpr hlow hpower
  case below =>
    intro c gathered meas aclr u x n t hc htransmits hdue hworst hgathered hon hpower hlow
    show execRegrowthEvaluation dt c gathered meas s₀ = _
    rw [execRegrowthEvaluation_valid hs hc htransmits hdue hworst hgathered hon hpower, State.regrow_below hlow]
  case tenthAbove =>
    intro c gathered meas aclr u x t hc htransmits hdue hworst hgathered hon hpower hlim habove htenth
    show execRegrowthEvaluation dt c gathered meas s₀ = _
    rw [execRegrowthEvaluation_valid hs hc htransmits hdue hworst hgathered hon hpower, State.regrow_above hlim]
    subst t x u
    simp only [habove, htenth, if_true]
  case above =>
    intro c gathered meas aclr u x t hc htransmits hdue hworst hgathered hon hpower hlim habove hearly
    show execRegrowthEvaluation dt c gathered meas s₀ = _
    rw [execRegrowthEvaluation_valid hs hc htransmits hdue hworst hgathered hon hpower, State.regrow_above hlim]
    subst t x u
    simp only [habove, hearly, if_true, if_false]
  case between =>
    intro c gathered meas aclr u x t hc htransmits hdue hworst hgathered hon hpower hlim hbetween
    show execRegrowthEvaluation dt c gathered meas s₀ = _
    rw [execRegrowthEvaluation_valid hs hc htransmits hdue hworst hgathered hon hpower, State.regrow_above hlim]
    subst t x u
    simp only [Int.not_le.mpr hbetween, if_false]
  case muteFalls =>
    intro hhigh
    show execMuteNFall dt s₀ = _
    simp [execMuteNFall, hs, hhigh]
  case muteRises =>
    intro t hlow
    show execMuteNRise dt s₀ = _
    subst t
    simp only [execMuteNRise, hs, hlow, if_false, Bool.false_eq_true]
    rfl

/-- Settles O47: a sequence begins when it is due, and each of its ends. -/
theorem sequenceEventsComplete : Obligations.SequenceEventsComplete := by
  unfold Obligations.SequenceEventsComplete
  intro s₀ dt
  generalize hs : s₀.advance dt = s
  refine ⟨?upStarts, ?offset, ?upEnds, ?downStarts, ?downEnds⟩
  case upStarts =>
    intro c hc hdue hfree
    show execPaPowerUpStart dt c s₀ = _
    simp [execPaPowerUpStart, hs, hc, hdue, hfree]
  case offset =>
    intro c q hseq hc
    show execPaSequenceOffset dt c s₀ = _
    simp [execPaSequenceOffset, hs, hseq, hc]
  case upEnds =>
    intro c q hseq hc hup hended
    show execPaPowerUpEnd dt c s₀ = _
    simp [execPaPowerUpEnd, hs, hseq, hc, hup, hended]
  case downStarts =>
    intro c hc hdue
    show execPaPowerDownStart dt c s₀ = _
    simp [execPaPowerDownStart, hs, hc, hdue]
  case downEnds =>
    intro c q hseq hc hdown hended
    show execPaPowerDownEnd dt c s₀ = _
    simp [execPaPowerDownEnd, hs, hseq, hc, hdown, hended]

/-- Settles O48: a change by its source, an edge by its level, a monitor and a trip by what they are. -/
theorem pulseAndMonitorEventsComplete : Obligations.PulseAndMonitorEventsComplete := by
  unfold Obligations.PulseAndMonitorEventsComplete
  intro s₀ dt
  generalize hs : s₀.advance dt = s
  refine ⟨?changeAtPeriod, ?changeAtFrame, ?changeUntimed, ?noChange, ?rises, ?falls, ?asserts, ?releases,
    ?tripFalls, ?tripRises, ?blankingEnds, ?pinMismatch⟩
  case changeAtPeriod =>
    intro ch q c hchange hch hsrc hstart
    show execPgConfigApply dt ch s₀ = _
    simp [execPgConfigApply, hs, hchange, hch, hsrc, hstart]
  case changeAtFrame =>
    intro ch q c hchange hch hsrc hsync hstart
    show execPgConfigApply dt ch s₀ = _
    simp [execPgConfigApply, hs, hchange, hch, hsrc, hsync, hstart]
  case changeUntimed =>
    intro ch q c hchange hch hsrc huntimed
    show execPgConfigApply dt ch s₀ = _
    simp [execPgConfigApply, hs, hchange, hch, hsrc, huntimed]
  case noChange =>
    intro ch hchange
    show execPgConfigApply dt ch s₀ = _
    simp only [execPgConfigApply, hs, hchange]
  case rises =>
    intro ch hch henable hstate hasserts hlevel
    show execPgEdge dt ch true s₀ = _
    simp [execPgEdge, hs, hch, henable, hstate, hasserts, hlevel, State.pgEdge]
  case falls =>
    intro ch hch henable hstate hrests hlevel
    show execPgEdge dt ch false s₀ = _
    simp [execPgEdge, hs, hch, henable, hstate, hrests, hlevel, State.pgEdge]
  case asserts =>
    intro m input t hm henable hstate hinput
    show execMonitorAssert dt m input s₀ = _
    subst t
    simp [execMonitorAssert, hs, hm, henable, hstate, hinput]
  case releases =>
    intro m input hm henable hstate hinput
    show execMonitorRelease dt m input s₀ = _
    simp [execMonitorRelease, hs, hm, henable, hstate, hinput]
  case tripFalls =>
    intro n t hn hpin hhigh
    show execXtripFall dt n s₀ = _
    subst t
    simp [execXtripFall, hs, hn, hpin, hhigh]
  case tripRises =>
    intro n hn
    show execXtripRise dt n s₀ = _
    simp [execXtripRise, hs, hn]
  case blankingEnds =>
    intro m t hblank hdue
    show execBlankingEnd dt m s₀ = _
    simp [execBlankingEnd, hs, hblank, hdue]
  case pinMismatch =>
    intro ball hdrives hball
    show execPinCheckMismatch dt ball s₀ = _
    simp [execPinCheckMismatch, hs, hdrives, hball]

/-- Settles O49: a timer by its edges, an edge, a request and the end of a conversion. -/
theorem housekeepingEventsComplete : Obligations.HousekeepingEventsComplete := by
  unfold Obligations.HousekeepingEventsComplete
  intro s₀ dt
  generalize hs : s₀.advance dt = s
  refine ⟨?timerEdge, ?timerPhase, ?edge, ?request, ?conversion, ?fenced⟩
  case timerEdge =>
    intro n t rest hn henable hstate hedges hdue
    show execHtTimerFire dt n s₀ = _
    simp [execHtTimerFire, hs, hn, henable, hstate, hedges, hdue, List.cons_ne_nil]
  case timerPhase =>
    intro n hn henable hstate hfree hnone hphase hnew
    show execHtTimerFire dt n s₀ = _
    simp [execHtTimerFire, hs, hn, henable, hstate, hfree, hnone, hphase, hnew]
  case edge =>
    intro n hn henable hedge hpin hassigned hstate
    show execHtTriggerEdge dt n s₀ = _
    simp [execHtTriggerEdge, hs, hn, henable, hedge, hpin, hassigned, hstate]
  case request =>
    intro e q hfound
    show execHkRequest dt e s₀ = _
    simp only [execHkRequest, hs, hfound]
  case conversion =>
    intro nv q t hbusy hended hserves
    show execHkConversionEnd dt nv s₀ = _
    simp [execHkConversionEnd, hs, hbusy, hserves, Nat.not_lt.mpr hended]
  case fenced =>
    intro nv q t hbusy hended hfenced
    show execHkConversionEnd dt nv s₀ = _
    simp [execHkConversionEnd, hs, hbusy, hfenced, Nat.not_lt.mpr hended]

/-- Settles O50: a round by its place, a trip and its release, and the end of a stop. -/
theorem thermalEventsComplete : Obligations.ThermalEventsComplete := by
  unfold Obligations.ThermalEventsComplete
  intro s₀ dt
  generalize hs : s₀.advance dt = s
  refine ⟨?firstRound, ?nextRound, ?roundEnds, ?fadeEnds, ?trip, ?tripAgain, ?tripReleased, ?stopReleased⟩
  case firstRound =>
    intro u chs reqs hruns hout hfirst hdue
    show execThermalRound dt s₀ = _
    subst reqs chs u
    simp [execThermalRound, hs, hruns, hout, hfirst, hdue]
  case nextRound =>
    intro q u chs reqs hruns hout hlast hrested hdue
    show execThermalRound dt s₀ = _
    subst reqs chs u
    simp [execThermalRound, hs, hruns, hout, hlast, hrested, hdue]
  case roundEnds =>
    intro m hin hruns hdone
    show execThermalRoundEnd dt m s₀ = _
    simp [execThermalRoundEnd, hs, hin, hruns, hdone]
  case fadeEnds =>
    intro t hfade hdue hnew
    show execThermalFadeEnd dt s₀ = _
    simp [execThermalFadeEnd, hs, hfade, hdue, hnew]
  case trip =>
    intro sensor hsensor hstate hreset hnew
    show execAnalogueTrip dt sensor s₀ = _
    simp [execAnalogueTrip, hs, hsensor, hstate, hreset, hnew]
  case tripAgain =>
    intro sensor hsensor hstate hreset hstands
    show execAnalogueTrip dt sensor s₀ = _
    simp [execAnalogueTrip, hs, hsensor, hstate, hreset, hstands]
  case tripReleased =>
    show execAnalogueTripRelease dt s₀ = _
    simp only [execAnalogueTripRelease, hs]
  case stopReleased =>
    intro hstop hcool hreleased hruns
    show execThermalStopRelease dt s₀ = _
    simp only [execThermalStopRelease, hs, hstop, hcool, hreleased, hruns, and_self, if_true, Bool.not_false]

end Sys2Proof.Proofs
end

section
/-!
What happens on the link, in the captures, with faults and in the memories (R479 to R507, R548 to R598); O51 to O54.
-/

namespace Sys2Proof.Machine

/-- A mode that the start configuration does not exclude (R479, R492). -/
theorem mode_allowed {startG3 : Bool} {mode : Nat} (h : startG3 = false ∨ mode ≠ 4) :
    (!decide (startG3 = true ∧ mode = 4)) = true := by
  rw [Bool.not_eq_true', decide_eq_false_iff_not]
  rintro ⟨hg3, hmode⟩
  cases h with
  | inl hfree => exact Bool.false_ne_true (hfree.symm.trans hg3)
  | inr hother => exact hother hmode

end Sys2Proof.Machine

namespace Sys2Proof.Proofs
open Sys2Proof Sys2Proof.Machine

/-- Settles O51: the link, its functions and the writes of the host, by what is up. -/
theorem linkEventsComplete : Obligations.LinkEventsComplete := by
  unfold Obligations.LinkEventsComplete
  intro s₀ dt
  generalize hs : s₀.advance dt = s
  refine ⟨?loss, ?usb4Reset, ?pcieReset, ?returns, ?keepOver, ?lane, ?modeChange, ?usb2Reset, ?usb3Reset,
    ?usb2Configured, ?usb3Configured, ?busMaster, ?msixEntry, ?msixControl⟩
  case loss =>
    rw [← hs]
    rfl
  case usb4Reset =>
    show execHostLinkReset dt .usb4 s₀ = _
    simp only [execHostLinkReset, hs]
  case pcieReset =>
    intro kind hkind hup
    show execHostLinkReset dt kind s₀ = _
    cases kind with
    | usb4 => exact absurd rfl hkind
    | _ => simp [execHostLinkReset, hs, hup]
  case returns =>
    intro mode e t hdown hruns hfits hgen hoffered
    show execLinkReturn dt mode s₀ = _
    have hallowed := mode_allowed hgen
    subst t e
    simp only [execLinkReturn, hs, hdown, hruns, hfits, hoffered, hallowed, and_self, if_true]
  case keepOver =>
    intro hsuspended hcause hlate
    show execKeepSExpiry dt s₀ = _
    simp [execKeepSExpiry, hs, hsuspended, hcause, hlate]
  case lane =>
    intro lane errors hlane hok
    show execLaneFault dt ⟨lane, errors⟩ s₀ = _
    simp [execLaneFault, hs, hlane, hok]
  case modeChange =>
    intro mode hup hnew hfits hgen
    show execLinkModeChange dt mode s₀ = _
    have hallowed := mode_allowed hgen
    simp only [execLinkModeChange, hs, hup, hnew, hfits, hallowed, and_self, if_true, ne_eq, not_false_eq_true]
  case usb2Reset =>
    intro hup
    show execUsbBusReset dt true s₀ = _
    simp [execUsbBusReset, hs, hup]
  case usb3Reset =>
    intro hup
    show execUsbBusReset dt false s₀ = _
    simp [execUsbBusReset, hs, hup]
  case usb2Configured =>
    intro full hruns hstep hserves
    show execUsbFunctionConfigured dt (.usb2 full) s₀ = _
    simp [execUsbFunctionConfigured, hs, hruns, hstep, hserves]
  case usb3Configured =>
    intro hruns hmode
    show execUsbFunctionConfigured dt .usb3 s₀ = _
    simp [execUsbFunctionConfigured, hs, hruns, hmode]
  case busMaster =>
    intro on hup
    show execBusMasterEnableWrite dt on s₀ = _
    simp [execBusMasterEnableWrite, hs, hup]
  case msixEntry =>
    intro v addr data masked hup hv
    show execMsixVectorUnmask dt (.entry v addr data masked) s₀ = _
    simp [execMsixVectorUnmask, hs, hup, hv]
  case msixControl =>
    intro on masked hup
    show execMsixVectorUnmask dt (.control on masked) s₀ = _
    simp [execMsixVectorUnmask, hs, hup]

/-- Settles O52: an IN transfer by its endpoint, the buffer by its state, a stream by its block. -/
theorem captureEventsComplete : Obligations.CaptureEventsComplete := by
  unfold Obligations.CaptureEventsComplete
  intro s₀ dt
  generalize hs : s₀.advance dt = s
  refine ⟨?usb3, ?usb2, ?stream, ?armed, ?trigger, ?done, ?bufferStops, ?streamStops, ?notClosing, ?block⟩
  case usb3 =>
    intro q hup hq
    show execUsbInTransfer dt (.usb3 q) s₀ = _
    simp [execUsbInTransfer, hs, hup, hq]
  case usb2 =>
    intro hup
    show execUsbInTransfer dt .usb2 s₀ = _
    simp [execUsbInTransfer, hs, hup]
  case stream =>
    intro n hup hlow hhigh
    show execUsbInTransfer dt (.stream n) s₀ = _
    simp [execUsbInTransfer, hs, hup, hlow, hhigh]
  case armed =>
    intro howner hstate hfilled
    show execCaptureArmed dt s₀ = _
    simp [execCaptureArmed, hs, howner, hstate, hfilled]
  case trigger =>
    intro tick cause arg howner hstate hfits
    show execCaptureTrigger dt tick cause arg s₀ = _
    simp [execCaptureTrigger, hs, howner, hstate, hfits]
  case done =>
    intro data sat z howner hstate hended
    show execCaptureDone dt data sat s₀ = _
    subst z
    simp [execCaptureDone, hs, howner, hstate, hended]
  case bufferStops =>
    intro byHost hruns hoff
    show execCaptureSourceStop dt 0 byHost s₀ = _
    simp [execCaptureSourceStop, hs, hruns, hoff]
  case streamStops =>
    intro slot byHost hslot hruns hoff
    show execCaptureSourceStop dt slot byHost s₀ = _
    simp [execCaptureSourceStop, hs, hslot, hruns, hoff]
  case notClosing =>
    intro slot payload nsamp t0 sat accepted hclosing
    show execStreamBlock dt slot payload nsamp t0 sat accepted s₀ = _
    simp [execStreamBlock, hs, hclosing, ite_self]
  case block =>
    intro slot payload nsamp t0 sat accepted ys left e t hslot hruns hclosing
    show execStreamBlock dt slot payload nsamp t0 sat accepted s₀ = _
    rw [execStreamBlock, hs]
    refine congrArg Host.Outcome.next ((if_pos ⟨hslot, hruns⟩).trans ?_)
    generalize s.closing slot = closed at hclosing ⊢
    subst hclosing
    rfl

/-- Settles O53: a detection by whether a block had found it, the phases by their ends, ALIVE and the feed by their
times. -/
theorem faultEventsComplete : Obligations.FaultEventsComplete := by
  unfold Obligations.FaultEventsComplete
  intro s₀ dt
  generalize hs : s₀.advance dt = s
  refine ⟨?found, ?outer, ?shadowEnds, ?mergeEnds, ?testEnds, ?message, ?alive, ?fed, ?timeout, ?takeover⟩
  case found =>
    intro src addr kind hcollects hdue
    show execFaultDetection dt src addr kind s₀ = _
    simp only [execFaultDetection, hs, hcollects, hdue, if_true, if_false, Bool.false_eq_true, Bool.not_true]
  case outer =>
    intro src addr kind hcollects hnew hcan
    show execFaultDetection dt src addr kind s₀ = _
    simp only [execFaultDetection, hs, hcollects, hnew, hcan, if_true, if_false, Bool.false_eq_true, Bool.not_true]
  case shadowEnds =>
    intro t hphase hcollects
    show execShadowEnd dt s₀ = _
    subst t
    simp only [execShadowEnd, hs, hphase, hcollects, and_self, if_true]
  case mergeEnds =>
    intro hphase hcollects
    show execMergePhaseEnd dt s₀ = _
    simp [execMergePhaseEnd, hs, hphase, hcollects]
  case testEnds =>
    intro t htest hdue
    show execTestPhaseTimeout dt s₀ = _
    simp [execTestPhaseTimeout, hs, htest, hdue]
  case message =>
    intro msg level injected rest hqueue hsink hruns
    show execFault dt s₀ = _
    simp [execFault, hs, hqueue, hsink, hruns]
  case alive =>
    intro hruns hdue hok
    show execAliveToggle dt s₀ = _
    simp [execAliveToggle, hs, hruns, hdue, hok]
  case fed =>
    intro hruns
    show execKeepaliveFeed dt s₀ = _
    simp [execKeepaliveFeed, hs, hruns]
  case timeout =>
    intro t hwatch hlate hcollects
    show execKeepaliveTimeout dt s₀ = _
    simp [execKeepaliveTimeout, hs, hwatch, hlate, hcollects]
  case takeover =>
    intro htakeover hone
    show execPairTakeover dt s₀ = _
    simp only [execPairTakeover, hs, htakeover, hone, and_self, if_true, ne_eq, not_false_eq_true]

/-- Settles O54: a memory error, the scrubs and the check by their times. -/
theorem memoryEventsComplete : Obligations.MemoryEventsComplete := by
  unfold Obligations.MemoryEventsComplete
  intro s₀ dt
  generalize hs : s₀.advance dt = s
  refine ⟨?error, ?sram, ?mram, ?nco⟩
  case error =>
    intro mem word double hcollects hmem hword
    show execMemoryError dt mem word double s₀ = _
    simp only [execMemoryError, hs, hcollects, hmem, hword, and_self, if_true]
  case sram =>
    intro hcollects hdue
    show execSramScrubPass dt s₀ = _
    simp [execSramScrubPass, hs, hcollects, hdue]
  case mram =>
    intro hcollects hdue
    show execMramScrubPass dt s₀ = _
    simp [execMramScrubPass, hs, hcollects, hdue]
  case nco =>
    intro bad hcollects hlocked hdue
    show execNcoCheck dt bad s₀ = _
    simp [execNcoCheck, hs, hcollects, hlocked, hdue]

end Sys2Proof.Proofs
end

section
/-!
What happens in the recorder, on the two-wire buses and in the boot (R600 to R678); O55 to O58.
-/

namespace Sys2Proof.Proofs
open Sys2Proof Sys2Proof.Machine

/-- Settles O55: a snapshot, the times of the recorder, and the mirror by whether it is due. -/
theorem recorderEventsComplete : Obligations.RecorderEventsComplete := by
  unfold Obligations.RecorderEventsComplete
  intro s₀ dt
  generalize hs : s₀.advance dt = s
  refine ⟨?trigger, ?triggerTaken, ?written, ?repeats, ?hour, ?opsec, ?freezeEnds, ?zeroed, ?mirrorDue,
    ?mirrorBetween, ?clearExpires⟩
  case trigger =>
    rw [← hs]
    rfl
  case triggerTaken =>
    intro code source injected rest hdue
    show execSnapshotTrigger dt s₀ = _
    simp only [execSnapshotTrigger, hs, State.takeTrigger, hdue]
  case written =>
    intro verified x rest t hwaiting hfree hruns
    show execSnapshotWrite dt verified s₀ = _
    subst t
    simp [execSnapshotWrite, hs, hwaiting, hfree, hruns]
  case repeats =>
    intro hruns hfree hdue
    show execCoalesceFlush dt s₀ = _
    simp [execCoalesceFlush, hs, hruns, hfree, hdue]
  case hour =>
    intro hruns hnew
    show execHourBoundary dt s₀ = _
    simp [execHourBoundary, hs, hruns, hnew]
  case opsec =>
    intro hruns hdue
    show execOpsecStore dt s₀ = _
    simp [execOpsecStore, hs, hruns, hdue]
  case freezeEnds =>
    intro t hfrozen hdue
    show execFreezeTimeout dt s₀ = _
    simp [execFreezeTimeout, hs, hfrozen, hdue]
  case zeroed =>
    rw [← hs]
    rfl
  case mirrorDue =>
    intro hdue hrunning hreset
    show execMirrorRefresh dt s₀ = _
    simp [execMirrorRefresh, hs, hdue, hrunning, hreset]
  case mirrorBetween =>
    intro hearly hrunning hreset
    show execMirrorRefresh dt s₀ = _
    simp [execMirrorRefresh, hs, hrunning, hreset, Nat.not_le.mpr hearly]
  case clearExpires =>
    intro a b t harm hlate
    show execClearArmExpiry dt s₀ = _
    simp [execClearArmExpiry, hs, harm, hlate]

/-- Settles O56: a transfer by its end, a timeout by its line. -/
theorem busEventsComplete : Obligations.BusEventsComplete := by
  unfold Obligations.BusEventsComplete
  intro s₀ dt
  generalize hs : s₀.advance dt = s
  refine ⟨?attention, ?start, ?ends, ?ackSlot, ?arbitration, ?sclLow, ?sdaLow, ?busNotFree⟩
  case attention =>
    intro bus c t hwait hdue
    show execAttentionWaitExpiry dt bus s₀ = _
    simp [execAttentionWaitExpiry, hs, hwait, hdue]
  case start =>
    intro bus t rest hqueue hon hidle hclear hkept hfree halert
    show execBusTransferStart dt bus s₀ = _
    simp [execBusTransferStart, hs, hqueue, hon, hidle, hclear, hkept, hfree, halert]
  case ends =>
    intro bus res t htransfer hend hlasted
    show execBusTransferEnd dt bus res s₀ = _
    simp only [execBusTransferEnd, hs, htransfer, hend, hlasted, Bool.not_true]
    rfl
  case ackSlot =>
    intro bus htransfer
    show execAckSlotStart dt bus s₀ = _
    simp [execAckSlotStart, hs, htransfer]
  case arbitration =>
    intro bus n htransfer
    show execArbitrationLost dt bus n s₀ = _
    simp [execArbitrationLost, hs, htransfer]
  case sclLow =>
    intro bus sdaLow t htransfer hlate
    show execSclLowTimeout dt bus sdaLow s₀ = _
    simp [execSclLowTimeout, hs, htransfer, Nat.not_lt.mpr hlate]
  case sdaLow =>
    intro bus hon hidle hlate
    show execSdaLowTimeout dt bus s₀ = _
    simp [execSdaLowTimeout, hs, hon, hidle, hlate]
  case busNotFree =>
    intro bus t rest hqueue hon hidle hlate
    show execBusFreeTimeout dt bus s₀ = _
    simp [execBusFreeTimeout, hs, hqueue, hon, hidle, hlate]

/-- Settles O57: the end of a bus clear by its outcome, an alert, its response and a notify. -/
theorem busAttentionEventsComplete : Obligations.BusAttentionEventsComplete := by
  unfold Obligations.BusAttentionEventsComplete
  intro s₀ dt
  generalize hs : s₀.advance dt = s
  refine ⟨?clearOk, ?clearOkAlone, ?clearFails, ?clearFailsAlone, ?alert, ?response, ?suspendEnds, ?notify⟩
  case clearOk =>
    intro bus pulses c sda hbusy hlasted
    show execBusClearEnd dt bus pulses true s₀ = _
    simp [execBusClearEnd, hs, hbusy, hlasted]
  case clearOkAlone =>
    intro bus pulses sda hbusy hlasted
    show execBusClearEnd dt bus pulses true s₀ = _
    simp [execBusClearEnd, hs, hbusy, hlasted]
  case clearFails =>
    intro bus pulses c sda hbusy hlasted
    show execBusClearEnd dt bus pulses false s₀ = _
    simp [execBusClearEnd, hs, hbusy, hlasted]
  case clearFailsAlone =>
    intro bus pulses sda hbusy hlasted
    show execBusClearEnd dt bus pulses false s₀ = _
    simp [execBusClearEnd, hs, hbusy, hlasted]
  case alert =>
    intro bus hbus hstate hnew
    show execAlert dt bus s₀ = _
    simp [execAlert, hs, hbus, hstate, hnew]
  case response =>
    intro bus resp released u t w hreads hdue
    show execAlertResponseRead dt bus resp released s₀ = _
    subst w t u
    cases resp with
    | none => simp [execAlertResponseRead, hs, hreads, hdue, Option.map_none, Option.getD_none]
    | some v => simp [execAlertResponseRead, hs, hreads, hdue, Option.map_some, Option.getD_some]
  case suspendEnds =>
    intro bus hbus
    show execAlertSuspendEnd dt bus s₀ = _
    simp [execAlertSuspendEnd, hs, hbus]
  case notify =>
    intro bus bytes hon hen
    show execHostNotify dt bus bytes s₀ = _
    simp [execHostNotify, hs, hon, hen]

/-- Settles O58: a step, early service, the calibration, a restart, and an update by its check. -/
theorem bootEventsComplete : Obligations.BootEventsComplete := by
  unfold Obligations.BootEventsComplete
  intro s₀ dt
  generalize hs : s₀.advance dt = s
  refine ⟨?step, ?early, ?calibrated, ?restart, ?update⟩
  case step =>
    intro res hbooting
    show execBootStepEnd dt res s₀ = _
    simp [execBootStepEnd, hs, hbooting]
  case early =>
    intro hbooting hdue hearly
    show execEarlyFail dt s₀ = _
    simp [execEarlyFail, hs, hbooting, hdue, hearly]
  case calibrated =>
    intro failed hbooting hstep hcal
    show execFgCalEnd dt failed s₀ = _
    simp [execFgCalEnd, hs, hbooting, hstep, hcal]
  case restart =>
    intro hmgmt hreset
    show execFirmwareRestart dt s₀ = _
    simp only [execFirmwareRestart, hs, hmgmt, hreset, and_self, if_true, Bool.not_false]
  case update =>
    intro ref image activate bytes at_ t sub hserves hupdate
    show execFwUpdateEnd dt  s₀ = _
    subst sub t
    simp only [execFwUpdateEnd, hs, hserves, hupdate, if_true]
    cases (s.modBoot (fun b => { b with update := none })).requestOf ref with
    | none => rfl
    | some r => rfl

end Sys2Proof.Proofs
end
